-- ==== Sys2Proof/Word.lean ====
section
/-! DEFINITION. The widths the KC-740 manual names, as plain abbreviations (00_scope.md R14 to R16). -/

namespace Sys2Proof

/-- A 64-bit register or MMIO value (R16). -/
abbrev Word := BitVec 64

/-- The smallest addressable unit of memory (R14). -/
abbrev Byte := BitVec 8

/-- A 14-bit Volis-14 instruction word (R15). -/
abbrev IWord := BitVec 14

/-- A program-memory word address (R128). -/
abbrev PAddr := BitVec 17

end Sys2Proof
end

