-- ==== Sys2Proof/Config.lean ====
section
/-! DEFINITION. What the manual leaves to the part or leaves open, as opaque constants.
Nothing in Lean can evaluate one or prove a value of one: a statement about a free value holds
whatever it is (log 6).  Each is applied to plain data: the counter `State.free` or operands. -/

namespace Sys2Proof.Config

/-- DESIGN CHOICE (log 3, log 6): how many steps pass in one 10 ns oscillator cycle.
R267 and R268 tie step length to voltage, temperature and part, which R11 exempts. -/
opaque stepsPerCycle : Nat → Nat

/-- DESIGN CHOICE (log 6): which TSTAT flags raised since the last TSYNC wait a read shows (R133). -/
opaque tstatShown : Nat → BitVec 64

/-- DESIGN CHOICE (log 16): the category counter of an event class, 0 to 6 (R288 names the
categories and gives no map). -/
opaque scaleCategory : Nat → Fin 7

/-- DESIGN CHOICE (log 17): the victim way of a full main-TLB set (R250: "pseudo-LRU", no tree given). -/
opaque mainTlbVictim : Nat → Fin 8

/-- DESIGN CHOICE (log 18): the boot ROM's public keys, points of the curve P-384 (R325 names keys 0 to 3 and gives
none). -/
opaque bootKey : BitVec 2 → Nat × Nat

/-- DESIGN CHOICE (log 97): whether a lost reference has come back by this oscillator cycle (R283, R284: an event of the
board that no row of the table commands). -/
opaque refReturns : Nat → Bool

/-- DESIGN CHOICE (log 98): the reserve, in pJ, after a move that takes it past the 47 bits of SCL.RSV (R292 states no
result). -/
opaque reserveOver : Nat → BitVec 47

/-- DESIGN CHOICE (log 20): CAL and DRIFT of TMG.CAL_LAST after a sweep that finds no passing code
(R274 gives them no value there). -/
opaque calNoPass : Nat → BitVec 64

/-- DESIGN CHOICE (log 21): the boundary register's content after a capture (R355 gives no layout). -/
opaque boundaryCapture : Nat → Nat

/-- DESIGN CHOICE (log 21): what is shifted into the boundary register (R355). -/
opaque boundaryShift : Nat → Nat

/-- DESIGN CHOICE (log 99): the WIR value that selects the bypass register; one that R355 names another instruction for
stands for 0x3F. -/
opaque bypassWir : Nat → BitVec 6

/-- DESIGN CHOICE (log 99): whether a cold reset comes with a power cut (R305, R348). -/
opaque powerCut : Nat → Bool

/-- DESIGN CHOICE (log 110): whether the boot ROM's write of the boot record has started when stage 1 ends early (R364). -/
opaque bootStarted : Nat → Bool

/-- DESIGN CHOICE (log 34): whether a line whose write a power cut interrupts holds its new content, not its old one; how
many bits of it are wrong is `crockLeft` (R305). -/
opaque tornLine : Nat → Bool

/-- DESIGN CHOICE (log 69): whether a line that the boot ROM writes reads back right (R304: an outcome of the part, with no
operand of BOOT_VERIFY_DONE for it). -/
opaque bootVerifies : Nat → Bool

/-- DESIGN CHOICE (log 34): whether a Crock line write that a reset completes unverified holds its data (R308,
R309 do not say). -/
opaque resetWriteGood : Nat → Bool

/-- DESIGN CHOICE (log 27): the rounding of num / 2^k under a MODE.RND code that is not allowed, which
only a RETT can bring in (R131, R187 state no result). -/
opaque roundReserved : Int → Nat → Int

/-- DESIGN CHOICE (log 31): SRC of CRK.ERR_INFO for a window access of a Ladle channel (R300 and R330
give channels no code). -/
opaque crockSrcLadle : Fin 4 → BitVec 4

/-- DESIGN CHOICE (log 32): bits wrong at the normal and at the margin reference in a Crock line whose write
did not verify or was torn (R304, R305 give none). -/
opaque crockLeft : Nat → Nat × Nat

/-- DESIGN CHOICE (log 33): the reading unit in TIL.ERR_INFO of a tray row that TSAVE finds bad (R103, R378 name
none). -/
opaque tsaveUnit : Nat → BitVec 4

/-- DESIGN CHOICE (log 25): SRC in the record of a table read for which no thread, unit or channel waits any
more (R218 gives such a walk no code). -/
opaque abandonedWalkSrc : Nat → BitVec 4

/-- DESIGN CHOICE (log 92): the four check symbols of a data flit and of a header lane (R214 and R223 give the codes
their lengths and distance, and no field or generator polynomial). -/
opaque dataCheck : BitVec 512 → BitVec 64
opaque headerCheck : BitVec 160 → BitVec 64

/-- DESIGN CHOICE (log 93): the bytes of the data flits of an error response (R225 gives it flits, no rule their
content). -/
opaque errorData : Nat → BitVec 1024

end Sys2Proof.Config
end

