-- ==== Sys2Proof/Machine/Assoc.lean ====
section
/-! DEFINITION. Sparse maps by key as plain data: a list of (key, value) pairs.
Canonical form: keys strictly rising, and no entry equal to what an unlisted key reads as, so that
equal maps are equal lists. -/

namespace Sys2Proof.Machine

/-- The entry of key `k`, if one is listed. -/
def lookup {α : Type} (m : List (Nat × α)) (k : Nat) : Option α :=
  match m with
  | [] => none
  | (j, v) :: r => if j = k then some v else lookup r k

/-- Put `v` at key `k`, keeping the keys in rising order. -/
def put {α : Type} (m : List (Nat × α)) (k : Nat) (v : α) : List (Nat × α) :=
  match m with
  | [] => [(k, v)]
  | (j, w) :: r =>
    if k < j then (k, v) :: (j, w) :: r
    else if k = j then (k, v) :: r
    else (j, w) :: put r k v

/-- Remove key `k`. -/
def drop {α : Type} (m : List (Nat × α)) (k : Nat) : List (Nat × α) :=
  match m with
  | [] => []
  | (j, w) :: r => if j = k then drop r k else (j, w) :: drop r k

/-- Read key `k`; `d k` is what an unlisted key reads as. -/
def getD {α : Type} (d : Nat → α) (m : List (Nat × α)) (k : Nat) : α :=
  (lookup m k).getD (d k)

/-- Write key `k`: writing what an unlisted key reads as removes the entry. -/
def setD {α : Type} [DecidableEq α] (d : Nat → α) (m : List (Nat × α)) (k : Nat) (v : α) :
    List (Nat × α) :=
  if v = d k then drop m k else put m k v

/-- Every key of the list is above `k`. -/
def keysAbove {α : Type} (k : Nat) (m : List (Nat × α)) : Bool :=
  match m with
  | [] => true
  | (j, _) :: r => decide (k < j) && keysAbove k r

/-- Keys rise strictly. -/
def keysRise {α : Type} (m : List (Nat × α)) : Bool :=
  match m with
  | [] => true
  | (j, _) :: r => keysAbove j r && keysRise r

/-- No entry equals what an unlisted key reads as. -/
def noDefaults {α : Type} [DecidableEq α] (d : Nat → α) (m : List (Nat × α)) : Bool :=
  match m with
  | [] => true
  | (j, v) :: r => decide (v ≠ d j) && noDefaults d r

/-- The canonical form. -/
def canon {α : Type} [DecidableEq α] (d : Nat → α) (m : List (Nat × α)) : Bool :=
  keysRise m && noDefaults d m

/-- Read `n` consecutive keys from `k` on. -/
def getN {α : Type} (d : Nat → α) (m : List (Nat × α)) (k n : Nat) : List α :=
  (List.range n).map fun i => getD d m (k + i)

/-- Write consecutive keys from `k` on. -/
def setN {α : Type} [DecidableEq α] (d : Nat → α) (m : List (Nat × α)) (k : Nat) (vs : List α) :
    List (Nat × α) :=
  match vs with
  | [] => m
  | v :: r => setN d (setD d m k v) (k + 1) r

/-- Put consecutive keys where the mask is true. -/
def setMasked {α : Type} [DecidableEq α] (d : Nat → α) (m : List (Nat × α)) (k : Nat)
    (vs : List (α × Bool)) : List (Nat × α) :=
  match vs with
  | [] => m
  | (v, true) :: r => setMasked d (setD d m k v) (k + 1) r
  | (_, false) :: r => setMasked d m (k + 1) r

/-- Set a Nat as member of a sorted list without repeats. -/
def insertNat (l : List Nat) (k : Nat) : List Nat :=
  match l with
  | [] => [k]
  | j :: r => if k < j then k :: j :: r else if k = j then j :: r else j :: insertNat r k

/-- Replace entry `i` of a vector. -/
abbrev vset {α : Type} {n : Nat} (v : Vector α n) (i : Fin n) (x : α) : Vector α n :=
  v.set i.val x i.isLt

/-- Replace entry `i` of a list; beyond its end nothing happens. -/
def lset {α : Type} (l : List α) (i : Nat) (x : α) : List α :=
  match l, i with
  | [], _ => []
  | _ :: r, 0 => x :: r
  | a :: r, i + 1 => a :: lset r i x

end Sys2Proof.Machine
end

