-- ==== Sys2Proof/Machine/Bits.lean ====
section
/-! DEFINITION. Bit fields, sign extension and byte order (00_scope.md R14, R18, R19). -/

namespace Sys2Proof.Machine

/-- bits(x, hi, lo) of a natural number. -/
def bits (x hi lo : Nat) : Nat := x / 2 ^ lo % 2 ^ (hi + 1 - lo)

/-- bits(x, hi, lo) of a word. -/
def wbits {n : Nat} (x : BitVec n) (hi lo : Nat) : Nat := bits x.toNat hi lo

/-- Bit `i` of a natural number. -/
def nbit (x i : Nat) : Bool := x / 2 ^ i % 2 = 1

/-- Bit `i` of a word. -/
def wbit {n : Nat} (x : BitVec n) (i : Nat) : Bool := nbit x.toNat i

/-- 1 or 0. -/
def b2n (b : Bool) : Nat := if b then 1 else 0

/-- The word with field [hi:lo] replaced. -/
def setBits {n : Nat} (x : BitVec n) (hi lo v : Nat) : BitVec n :=
  BitVec.ofNat n (x.toNat - bits x.toNat hi lo * 2 ^ lo + v % 2 ^ (hi + 1 - lo) * 2 ^ lo)

/-- The word with bit `i` replaced. -/
def setBit {n : Nat} (x : BitVec n) (i : Nat) (b : Bool) : BitVec n := setBits x i i (b2n b)

/-- The `n`-bit field `v` as a signed integer. -/
def signed (n v : Nat) : Int := if v % 2 ^ n < 2 ^ (n - 1) then (v % 2 ^ n : Nat) else (v % 2 ^ n : Nat) - (2 ^ n : Nat)

/-- The low `n` bits of a word, sign-extended to 64. -/
def sextW (n v : Nat) : Word := BitVec.ofInt 64 (signed n v)

/-- Little-endian bytes of a number. -/
def bytesOf (n v : Nat) : List Byte :=
  match n with
  | 0 => []
  | k + 1 => BitVec.ofNat 8 v :: bytesOf k (v / 256)

/-- The number that little-endian bytes spell. -/
def ofBytes (bs : List Byte) : Nat :=
  match bs with
  | [] => 0
  | b :: r => b.toNat + 256 * ofBytes r

/-- The 64-bit value at byte offset `o` of a block. -/
def word64At (bs : List Byte) (o : Nat) : Word := BitVec.ofNat 64 (ofBytes ((bs.drop o).take 8))

/-- A list cut to `n` entries, filled with `x`. -/
def fitList {α : Type} (n : Nat) (x : α) (l : List α) : List α := l.take n ++ List.replicate (n - l.length) x

/-- Number of one bits below bit `n`. -/
def popBelow (n v : Nat) : Nat :=
  match n with
  | 0 => 0
  | k + 1 => popBelow k v + b2n (nbit v k)

/-- Positions of the one bits below bit `n`, rising. -/
def onesBelow (n v : Nat) : List Nat := (List.range n).filter fun i => nbit v i

/-- Floor of log2 for positive numbers, 0 for 0. -/
def log2 (v : Nat) : Nat := Nat.log2 v

/-- Keep `x` between two bounds. -/
def clampI (lo hi x : Int) : Int := if x < lo then lo else if hi < x then hi else x

/-- Split a list into pieces of `n` entries, at most `k` pieces. -/
def pieces {α : Type} (n : Nat) (k : Nat) (l : List α) : List (List α) :=
  match k with
  | 0 => []
  | j + 1 => l.take n :: pieces n j (l.drop n)

/-- Even or odd parity of the low `n` bits: true when the number of ones is odd. -/
def oddOnes (n v : Nat) : Bool := popBelow n v % 2 = 1

end Sys2Proof.Machine
end

