-- ==== Sys2Proof/Syntax.lean ====
section
/-! DEFINITION. The commands of the block: one constructor of `Instr` per row of spec/opcode_table.json,
with that row's operands.  Instruction commands name the thread that issues them (R152). -/

namespace Sys2Proof

/-- A hardware thread HT0 to HT3 (R128). -/
abbrev Thread := Fin 4

/-- A general register g0 to g15 (R128). -/
abbrev GReg := Fin 16

/-- A tray T0 to T15 (R77). -/
abbrev TrayNo := Fin 16

/-- Fence scopes, narrowest first (R3). -/
inductive Scope where
  | core | cluster | chip | system
  deriving DecidableEq, Repr

/-- The register pages in page order (R365). -/
inductive Page where
  | core | thr | til | stk | wsk | ldl | lst | xlt | irq | scl | tmg | crk | ras | pmc | dbg | rpr
  deriving DecidableEq, Repr

/-- The classes of writer to the MMIO window (R367). -/
inductive Writer where
  | driver | firmware | ownUS | otherCore
  deriving DecidableEq, Repr

/-- The tag of a request: table index and generation (R221). -/
structure Tag where
  idx : Nat
  gen : BitVec 3
  deriving DecidableEq, Repr

/-- The fields of a NoC header that an inbound request or message carries (R224). -/
structure Hdr where
  typ : BitVec 4
  tag : Tag
  schip : BitVec 18
  sclu : BitVec 6
  score : BitVec 4
  addr : BitVec 58
  size : BitVec 3
  op : BitVec 4
  psn : BitVec 2
  masked : Bool
  mkind : BitVec 6
  deriving DecidableEq, Repr

/-- One constructor per row of spec/opcode_table.json. -/
inductive Instr where
  /-- MOV (R141). -/
  | mov (t : Thread) (d : GReg) (s : GReg)
  /-- ADD (R141). -/
  | add (t : Thread) (d : GReg) (s : GReg)
  /-- SUB (R141). -/
  | sub (t : Thread) (d : GReg) (s : GReg)
  /-- AND (R141). -/
  | and (t : Thread) (d : GReg) (s : GReg)
  /-- OR (R141). -/
  | or (t : Thread) (d : GReg) (s : GReg)
  /-- XOR (R141). -/
  | xor (t : Thread) (d : GReg) (s : GReg)
  /-- SLL (R141). -/
  | sll (t : Thread) (d : GReg) (s : GReg)
  /-- SRL (R141). -/
  | srl (t : Thread) (d : GReg) (s : GReg)
  /-- SRA (R141). -/
  | sra (t : Thread) (d : GReg) (s : GReg)
  /-- SLT (R141). -/
  | slt (t : Thread) (d : GReg) (s : GReg)
  /-- SLTU (R141). -/
  | sltu (t : Thread) (d : GReg) (s : GReg)
  /-- MUL (R141). -/
  | mul (t : Thread) (d : GReg) (s : GReg)
  /-- MULH (R141). -/
  | mulh (t : Thread) (d : GReg) (s : GReg)
  /-- MAC0 (R141). -/
  | mac0 (t : Thread) (d : GReg) (s : GReg)
  /-- MAC1 (R141). -/
  | mac1 (t : Thread) (d : GReg) (s : GReg)
  /-- NOT (R142). -/
  | not (t : Thread) (d : GReg)
  /-- NEG (R142). -/
  | neg (t : Thread) (d : GReg)
  /-- ABS (R142). -/
  | abs (t : Thread) (d : GReg)
  /-- ZXB (R142). -/
  | zxb (t : Thread) (d : GReg)
  /-- ZXH (R142). -/
  | zxh (t : Thread) (d : GReg)
  /-- ZXW (R142). -/
  | zxw (t : Thread) (d : GReg)
  /-- SXB (R142). -/
  | sxb (t : Thread) (d : GReg)
  /-- SXH (R142). -/
  | sxh (t : Thread) (d : GReg)
  /-- SXW (R142). -/
  | sxw (t : Thread) (d : GReg)
  /-- CLZ (R142). -/
  | clz (t : Thread) (d : GReg)
  /-- POPC (R142). -/
  | popc (t : Thread) (d : GReg)
  /-- MOVI (R143). -/
  | movi (t : Thread) (d : GReg) (imm : BitVec 6)
  /-- ADDI (R143). -/
  | addi (t : Thread) (d : GReg) (imm : BitVec 6)
  /-- SLLI (R143). -/
  | slli (t : Thread) (d : GReg) (imm : BitVec 6)
  /-- SRAI (R143). -/
  | srai (t : Thread) (d : GReg) (imm : BitVec 6)
  /-- LDB (R144; `ext` is the extension word of X = 1). -/
  | ldb (t : Thread) (d : GReg) (b : GReg) (ext : Option (BitVec 14))
  /-- LDH (R144; `ext` is the extension word of X = 1). -/
  | ldh (t : Thread) (d : GReg) (b : GReg) (ext : Option (BitVec 14))
  /-- LDW (R144; `ext` is the extension word of X = 1). -/
  | ldw (t : Thread) (d : GReg) (b : GReg) (ext : Option (BitVec 14))
  /-- LDD (R144; `ext` is the extension word of X = 1). -/
  | ldd (t : Thread) (d : GReg) (b : GReg) (ext : Option (BitVec 14))
  /-- STB (R144; `ext` is the extension word of X = 1). -/
  | stb (t : Thread) (d : GReg) (b : GReg) (ext : Option (BitVec 14))
  /-- STH (R144; `ext` is the extension word of X = 1). -/
  | sth (t : Thread) (d : GReg) (b : GReg) (ext : Option (BitVec 14))
  /-- STW (R144; `ext` is the extension word of X = 1). -/
  | stw (t : Thread) (d : GReg) (b : GReg) (ext : Option (BitVec 14))
  /-- STD (R144; `ext` is the extension word of X = 1). -/
  | std (t : Thread) (d : GReg) (b : GReg) (ext : Option (BitVec 14))
  /-- JMP (R146). -/
  | jmp (t : Thread) (target : PAddr)
  /-- CALL (R146). -/
  | call (t : Thread) (target : PAddr)
  /-- JR (R146). -/
  | jr (t : Thread) (s : GReg)
  /-- CALLR (R146). -/
  | callr (t : Thread) (s : GReg)
  /-- BEQZ (R146). -/
  | beqz (t : Thread) (r : Fin 8) (target : PAddr)
  /-- BNEZ (R146). -/
  | bnez (t : Thread) (r : Fin 8) (target : PAddr)
  /-- BLTZ (R146). -/
  | bltz (t : Thread) (r : Fin 8) (target : PAddr)
  /-- BGEZ (R146). -/
  | bgez (t : Thread) (r : Fin 8) (target : PAddr)
  /-- LOOP (R159). -/
  | loop (t : Thread) (s : GReg) (lvl : Fin 2) (stop : PAddr)
  /-- LOOPI (R159). -/
  | loopi (t : Thread) (count : BitVec 15) (lvl : Fin 2) (stop : PAddr)
  /-- MOVL (R147). -/
  | movl (t : Thread) (d : GReg) (imm : BitVec 28)
  /-- SHOL (R147). -/
  | shol (t : Thread) (d : GReg) (imm : BitVec 28)
  /-- ADDL (R147). -/
  | addl (t : Thread) (d : GReg) (imm : BitVec 28)
  /-- ANDL (R147). -/
  | andl (t : Thread) (d : GReg) (imm : BitVec 28)
  /-- DIV (R148). -/
  | div (t : Thread) (d : GReg) (s : GReg)
  /-- DIVU (R148). -/
  | divu (t : Thread) (d : GReg) (s : GReg)
  /-- REM (R148). -/
  | rem (t : Thread) (d : GReg) (s : GReg)
  /-- REMU (R148). -/
  | remu (t : Thread) (d : GReg) (s : GReg)
  /-- MSU (R149). -/
  | msu (t : Thread) (a : Fin 2) (g g2 : GReg)
  /-- AZERO (R149). -/
  | azero (t : Thread) (a : Fin 2)
  /-- ALD (R149). -/
  | ald (t : Thread) (a : Fin 2) (g : GReg)
  /-- AST (R149). -/
  | ast (t : Thread) (a : Fin 2) (g : GReg)
  /-- ARDL (R149). -/
  | ardl (t : Thread) (a : Fin 2) (g : GReg)
  /-- ARDH (R149). -/
  | ardh (t : Thread) (a : Fin 2) (g : GReg)
  /-- AWR (R149). -/
  | awr (t : Thread) (a : Fin 2) (g g2 : GReg)
  /-- ASHL (R149). -/
  | ashl (t : Thread) (a : Fin 2) (g : GReg)
  /-- ASHR (R149). -/
  | ashr (t : Thread) (a : Fin 2) (g : GReg)
  /-- AADD (R149). -/
  | aadd (t : Thread) (a : Fin 2)
  /-- AMO_SWAP (R168; `wide` is the 64-bit size). -/
  | amoSwap (t : Thread) (wide : Bool) (gd ga gs : GReg)
  /-- AMO_ADD (R168; `wide` is the 64-bit size). -/
  | amoAdd (t : Thread) (wide : Bool) (gd ga gs : GReg)
  /-- AMO_AND (R168; `wide` is the 64-bit size). -/
  | amoAnd (t : Thread) (wide : Bool) (gd ga gs : GReg)
  /-- AMO_OR (R168; `wide` is the 64-bit size). -/
  | amoOr (t : Thread) (wide : Bool) (gd ga gs : GReg)
  /-- AMO_XOR (R168; `wide` is the 64-bit size). -/
  | amoXor (t : Thread) (wide : Bool) (gd ga gs : GReg)
  /-- AMO_MIN (R168; `wide` is the 64-bit size). -/
  | amoMin (t : Thread) (wide : Bool) (gd ga gs : GReg)
  /-- AMO_MAX (R168; `wide` is the 64-bit size). -/
  | amoMax (t : Thread) (wide : Bool) (gd ga gs : GReg)
  /-- AMO_MINU (R168; `wide` is the 64-bit size). -/
  | amoMinu (t : Thread) (wide : Bool) (gd ga gs : GReg)
  /-- AMO_MAXU (R168; `wide` is the 64-bit size). -/
  | amoMaxu (t : Thread) (wide : Bool) (gd ga gs : GReg)
  /-- AMO_CAS (R168; `wide` is the 64-bit size). -/
  | amoCas (t : Thread) (wide : Bool) (gd ga gs : GReg)
  /-- FENCE (R241). -/
  | fence (t : Thread) (sc : Scope)
  /-- CSRR (R150). -/
  | csrr (t : Thread) (g : GReg) (csr : BitVec 12)
  /-- CSRW (R150). -/
  | csrw (t : Thread) (g : GReg) (csr : BitVec 12)
  /-- CSRS (R150). -/
  | csrs (t : Thread) (g : GReg) (csr : BitVec 12)
  /-- CSRC (R150). -/
  | csrc (t : Thread) (g : GReg) (csr : BitVec 12)
  /-- PMW (R151). -/
  | pmw (t : Thread) (ga gs : GReg)
  /-- PMR (R151). -/
  | pmr (t : Thread) (gd ga : GReg)
  /-- TRAP (R181). -/
  | trap (t : Thread) (code : BitVec 6)
  /-- RETT (R187). -/
  | rett (t : Thread)
  /-- WAIT (R287). -/
  | wait (t : Thread)
  /-- XINV_ADDRESS (R259). -/
  | xinvAddress (t : Thread) (ga : GReg) (sc : Scope)
  /-- XINV_NONGLOBAL (R259). -/
  | xinvNonglobal (t : Thread) (ga : GReg) (sc : Scope)
  /-- XINV_ALL (R259). -/
  | xinvAll (t : Thread) (ga : GReg) (sc : Scope)
  /-- LSM_CLEAN (R211, R212). -/
  | lsmClean (t : Thread) (ga : GReg) (bySetWay : Bool)
  /-- LSM_INVALIDATE (R211, R212). -/
  | lsmInvalidate (t : Thread) (ga : GReg) (bySetWay : Bool)
  /-- LSM_CLEAN_INVALIDATE (R211, R212). -/
  | lsmCleanInvalidate (t : Thread) (ga : GReg) (bySetWay : Bool)
  /-- TCLAIM (R81). -/
  | tclaim (t : Thread) (gd : GReg)
  /-- TCLAIM_FORCE (R81). -/
  | tclaimForce (t : Thread) (gd : GReg)
  /-- TCLAIM_FORCE_DONE (R81). -/
  | tclaimForceDone (t : Thread)
  /-- TREL_TRAY (R92). -/
  | trelTray (t : Thread) (tray : TrayNo)
  /-- TREL_SLOT (R92). -/
  | trelSlot (t : Thread) (slot : BitVec 6)
  /-- TREL_UNIT (R81). -/
  | trelUnit (t : Thread)
  /-- TREL_UNIT_DONE (R81). -/
  | trelUnitDone (t : Thread)
  /-- TCFG (R91; Rt - 1 and bt/4 - 1). -/
  | tcfg (t : Thread) (tray : TrayNo) (rows len : BitVec 5)
  /-- TZERO (R62, R93). -/
  | tzero (t : Thread) (slot : BitVec 6) (gc gs : GReg)
  /-- TLD (R94). -/
  | tld (t : Thread) (tray : TrayNo) (ga gb : GReg)
  /-- TST (R94). -/
  | tst (t : Thread) (tray : TrayNo) (ga gb : GReg)
  /-- TMMA (R33, R98). -/
  | tmma (t : Thread) (slot : BitVec 6) (a b : TrayNo) (fa fb : BitVec 4) (sa sb : TrayNo)
  /-- TMMS (R39, R98). -/
  | tmms (t : Thread) (slot : BitVec 6) (a b : TrayNo) (fa fb : BitVec 4) (sa sb mt : TrayNo)
  /-- TDRAIN (R65, R67). -/
  | tdrain (t : Thread) (slot : BitVec 6) (gd : GReg)
  /-- TMOV_COPY (R101). -/
  | tmovCopy (t : Thread) (dst src : TrayNo)
  /-- TMOV_TRANSPOSE (R101; OP 0b01, 0b10 or 0b11). -/
  | tmovTranspose (t : Thread) (dst src : TrayNo) (op : BitVec 2)
  /-- TSYNC_WAIT (R102). -/
  | tsyncWait (t : Thread)
  /-- TSYNC_WAIT_DONE (R102). -/
  | tsyncWaitDone (t : Thread)
  /-- TSYNC_RESUME (R102). -/
  | tsyncResume (t : Thread)
  /-- TSYNC_DISCARD (R102). -/
  | tsyncDiscard (t : Thread)
  /-- TSAVE (R103). -/
  | tsave (t : Thread) (ga : GReg)
  /-- TSAVE_BLOCK (R105). -/
  | tsaveBlock (t : Thread)
  /-- TRSTR (R104). -/
  | trstr (t : Thread) (ga : GReg)
  /-- TRSTR_BLOCK (R104). -/
  | trstrBlock (t : Thread)
  /-- TILE_ENTRY_START (R87). -/
  | tileEntryStart
  /-- SKILLET_STEP (R44, R51). -/
  | skilletStep
  /-- TILE_MEM_PAGE (R94; the entry number of a running TLD or TST). -/
  | tileMemPage (run : Nat)
  /-- TILE_MEM_LINE_DONE (R94; the entry number and the virtual line number). -/
  | tileMemLineDone (run line : Nat)
  /-- DRAIN_STREAM_ROW (R65). -/
  | drainStreamRow
  /-- DRAIN_COMPLETE (R73). -/
  | drainComplete
  /-- WADD (R113). -/
  | wadd (t : Thread) (D A B : TrayNo) (T U : BitVec 4) (BB RND : BitVec 2) (SAT : Bool)
  /-- WADD_SUB (R113). -/
  | waddSub (t : Thread) (D A B : TrayNo) (T U : BitVec 4) (BB RND : BitVec 2) (SAT : Bool)
  /-- WMUL (R113). -/
  | wmul (t : Thread) (D A B : TrayNo) (T U : BitVec 4) (BB RND : BitVec 2) (SAT : Bool)
  /-- WFMA (R113). -/
  | wfma (t : Thread) (D A B C : TrayNo) (T U : BitVec 4) (BB BC RND : BitVec 2) (SAT : Bool)
  /-- WFMA_NEG (R113). -/
  | wfmaNeg (t : Thread) (D A B C : TrayNo) (T U : BitVec 4) (BB BC RND : BitVec 2) (SAT : Bool)
  /-- WMAX (R113). -/
  | wmax (t : Thread) (D A B : TrayNo) (T U : BitVec 4) (BB RND : BitVec 2) (SAT : Bool)
  /-- WMIN (R113). -/
  | wmin (t : Thread) (D A B : TrayNo) (T U : BitVec 4) (BB RND : BitVec 2) (SAT : Bool)
  /-- WSEL (R113). -/
  | wsel (t : Thread) (D A B C : TrayNo) (T U : BitVec 4) (BB BC RND : BitVec 2) (SAT : Bool)
  /-- WEXP (R113). -/
  | wexp (t : Thread) (D A : TrayNo) (T U : BitVec 4) (RND : BitVec 2) (SAT : Bool)
  /-- WRCP (R113). -/
  | wrcp (t : Thread) (D A : TrayNo) (T U : BitVec 4) (RND : BitVec 2) (SAT : Bool)
  /-- WRSQ (R113). -/
  | wrsq (t : Thread) (D A : TrayNo) (T U : BitVec 4) (RND : BitVec 2) (SAT : Bool)
  /-- WCVT (R121). -/
  | wcvt (t : Thread) (D A SS DS : TrayNo) (SF DF : BitVec 4) (SW DW SF4 DF4 : Bool) (RND : BitVec 2) (SAT : Bool)
  /-- WSPL (R113, R118). -/
  | wspl (t : Thread) (D : TrayNo) (gA : GReg) (T U : BitVec 4) (RND : BitVec 2) (SAT : Bool)
  /-- WRED_SUM (R122). -/
  | wredSum (t : Thread) (D A : TrayNo) (T U : BitVec 4) (RND : BitVec 2) (SAT : Bool)
  /-- WRED_MAX (R122). -/
  | wredMax (t : Thread) (D A : TrayNo) (T U : BitVec 4) (RND : BitVec 2) (SAT : Bool)
  /-- WHISK_ROW (R123). -/
  | whiskRow
  /-- WHISK_COMPLETE (R127). -/
  | whiskComplete
  /-- HANDLER_ENTRY (R183, R185). -/
  | handlerEntry (t : Thread)
  /-- QUIET_OVERRUN (R173). -/
  | quietOverrun (t : Thread)
  /-- STORE_BUFFER_LEAVE (R167). -/
  | storeBufferLeave
  /-- NOC_REQUEST_SEND (R223; the table entry that leaves). -/
  | nocRequestSend (idx : Nat)
  /-- RD_RSP (R225; `errs`: symbols in error of the lower codeword in [1:0] and of the upper in [3:2], 3 for three or
  more (R214)). -/
  | rdRsp (tag : Tag) (sts : BitVec 3) (psn : BitVec 2) (data : List Byte) (errs : BitVec 4)
  /-- WR_ACK (R225). -/
  | wrAck (tag : Tag) (sts : BitVec 3) (sc : Scope)
  /-- ATOM_RSP (R242). -/
  | atomRsp (tag : Tag) (sts : BitVec 3) (old : Word)
  /-- XINV_ACK (R259). -/
  | xinvAck (tag : Tag) (sts : BitVec 3)
  /-- HOLD (R227). -/
  | hold (tag : Tag)
  /-- HOLD_END (R227). -/
  | holdEnd (tag : Tag)
  /-- LINKFAIL (R227). -/
  | linkfail (tag : Tag)
  /-- REQUEST_TIMEOUT (R227). -/
  | requestTimeout (idx : Nat)
  /-- HOLD_EXPIRY (R227). -/
  | holdExpiry (idx : Nat)
  /-- QUARANTINE_END (R221). -/
  | quarantineEnd (idx : Nat)
  /-- NOC_RD_IN (R208, R354). -/
  | nocRdIn (h : Hdr)
  /-- NOC_WR_IN (R208, R354). -/
  | nocWrIn (h : Hdr) (data : List Byte) (mask : List Bool)
  /-- NOC_ATOM_IN (R208, R242). -/
  | nocAtomIn (h : Hdr) (gs gd : Word)
  /-- BCAST_IN (R225, R235). -/
  | bcastIn (h : Hdr) (data : List Byte) (mask : List Bool)
  /-- XINV_IN (R260). -/
  | xinvIn (h : Hdr)
  /-- XINV_ACK_SEND (R260). -/
  | xinvAckSend
  /-- DOORBELL (R226). -/
  | doorbell (h : Hdr)
  /-- BUDGET_GRANT (R291). -/
  | budgetGrant (h : Hdr) (data : List Byte)
  /-- BAD_HEADER (R225). -/
  | badHeader (h : Hdr)
  /-- CHN_HEAD_WRITE (R231). -/
  | chnHeadWrite (w : Writer) (ch : Fin 4) (v : BitVec 16)
  /-- LADLE_DESCRIPTOR_START (R231 to R236). -/
  | ladleDescriptorStart (ch : Fin 4)
  /-- LADLE_RUN (R231 to R236). -/
  | ladleRun (ch : Fin 4)
  /-- LADLE_DESCRIPTOR_COMPLETE (R231 to R236). -/
  | ladleDescriptorComplete (ch : Fin 4)
  /-- RESUME (R234). -/
  | resume (w : Writer) (ch : Fin 4)
  /-- SKIP (R234). -/
  | skip (w : Writer) (ch : Fin 4)
  /-- ABORT (R234). -/
  | abort (w : Writer) (ch : Fin 4)
  /-- BAR_ARRIVE (R238). -/
  | barArrive (w : Writer)
  /-- BAR_SEND (R238). -/
  | barSend
  /-- BAR_REL (R353). -/
  | barRel
  /-- CHIP_IRQ (R352). -/
  | chipIrq (i : Fin 16)
  /-- SCRUB_READ (R218). -/
  | scrubRead
  /-- SHELF_GROWTH_DONE (R209). -/
  | shelfGrowthDone
  /-- TABLE_WALK (R251; the number of the walk). -/
  | tableWalk (walk : Nat)
  /-- SPAN_LOAD (R256; `rsv` is SPAN_CMD [63:14]). -/
  | spanLoad (w : Writer) (i : BitVec 12) (rsv : BitVec 50)
  /-- SPAN_CLEAR (R256; `rsv` is SPAN_CMD [63:14]). -/
  | spanClear (w : Writer) (i : BitVec 12) (rsv : BitVec 50)
  /-- SPAN_READ_BACK (R256; `rsv` is SPAN_CMD [63:14]). -/
  | spanReadBack (w : Writer) (i : BitVec 12) (rsv : BitVec 50)
  /-- SPAN_SET_A_AND_D (R256; `rsv` is SPAN_CMD [63:14]). -/
  | spanSetAAndD (w : Writer) (i : BitVec 12) (rsv : BitVec 50)
  /-- CANARY_FIRE (R272). -/
  | canaryFire (g : Fin 40)
  /-- AUTO_CALIBRATION (R275). -/
  | autoCalibration
  /-- CAL_CMD_GROUP (R275). -/
  | calCmdGroup (w : Writer) (g : BitVec 6)
  /-- CAL_CMD_ALL (R275). -/
  | calCmdAll (w : Writer)
  /-- RECALIBRATION_DONE (R274; the smallest passing code, or none). -/
  | recalibrationDone (m : Option (BitVec 6))
  /-- VOLTAGE_MOVE (R277 to R294). -/
  | voltageMove
  /-- VACK (R277 to R294). -/
  | vack
  /-- VACK_FALL (R277 to R294). -/
  | vackFall
  /-- VOLTAGE_ACK_TIMEOUT (R277 to R294). -/
  | voltageAckTimeout
  /-- SCALE_POLICY_MOVE (R277 to R294). -/
  | scalePolicyMove
  /-- RETENTION_ENTRY (R277 to R294). -/
  | retentionEntry
  /-- RETENTION_WAKE (R277 to R294). -/
  | retentionWake
  /-- RETENTION_WAKE_DONE (R277 to R294). -/
  | retentionWakeDone
  /-- OSC_TRIM_WINDOW (R280). -/
  | oscTrimWindow (cnt : BitVec 16)
  /-- SYNC_MARK_LOST (R280). -/
  | syncMarkLost
  /-- TIMER_EXPIRY (R281). -/
  | timerExpiry (t : Thread)
  /-- PLL_LOCK (R283, R284). -/
  | pllLock
  /-- PLL_COAST (R283, R284). -/
  | pllCoast
  /-- PLL_RELOCK (R283, R284). -/
  | pllRelock
  /-- MUX_SWITCH_DONE (R283, R284). -/
  | muxSwitchDone
  /-- MUX_HANG (R283, R284). -/
  | muxHang
  /-- THREAD_STOP (R286). -/
  | threadStop (t : Thread)
  /-- THREAD_WAKE (R287). -/
  | threadWake (t : Thread)
  /-- TEMP_READING (R351). -/
  | tempReading (temp : BitVec 12)
  /-- FIRMWARE_LINE_READ_DONE (R157). -/
  | firmwareLineReadDone
  /-- PFAIL_ASSERT (R350). -/
  | pfailAssert
  /-- PFAIL_DEASSERT (R308). -/
  | pfailDeassert
  /-- WCMD (R302, R303). -/
  | wcmd (w : Writer) (line : BitVec 19) (mc : Bool) (rsv : BitVec 43)
  /-- WCMD_REFRESH (R302, R303). -/
  | wcmdRefresh (w : Writer) (line : BitVec 19) (mc : Bool) (rsv : BitVec 43)
  /-- DWCMD (R303). -/
  | dwcmd (w : Writer) (line : BitVec 19) (mc : Bool) (rsv : BitVec 44)
  /-- DRCMD (R307). -/
  | drcmd (w : Writer) (line : BitVec 19) (rsv : BitVec 45)
  /-- DRIVER_READ_DONE (R307). -/
  | driverReadDone
  /-- CROCK_LINE_WRITE_DONE (R304; whether the margin read-back matches). -/
  | crockLineWriteDone (good : Bool)
  /-- WQ_RESUME (R304). -/
  | wqResume (w : Writer)
  /-- WQ_DISCARD (R304). -/
  | wqDiscard (w : Writer)
  /-- MOVE_CMD (R322). -/
  | moveCmd (w : Writer) (lblk pblk : BitVec 12) (retire : Bool)
  /-- MAP_CMD (R322). -/
  | mapCmd (w : Writer)
  /-- SCAN_CMD (R324). -/
  | scanCmd (w : Writer)
  /-- CROCK_SCAN_READ (R324). -/
  | crockScanRead
  /-- VERIFY (R325). -/
  | verify (w : Writer)
  /-- VDONE (R325). -/
  | vdone
  /-- SWITCH (R328). -/
  | switch (w : Writer)
  /-- TRST (R358). -/
  | trst (w : Writer) (mask : BitVec 4)
  /-- MMIO_ACCESS (R355). -/
  | mmioAccess (dr : BitVec 82)
  /-- CTRL_EN (R332). -/
  | ctrlEn (w : Writer) (p : Page) (v : Bool)
  /-- CTRL_QUIESCE (R331). -/
  | ctrlQuiesce (w : Writer) (p : Page) (v : Bool)
  /-- CTRL_COMMIT (R333). -/
  | ctrlCommit (w : Writer) (p : Page)
  /-- CTRL_REVERT (R368). -/
  | ctrlRevert (w : Writer) (p : Page)
  /-- REGISTER_WRITE (R374; the window offset). -/
  | registerWrite (w : Writer) (off : BitVec 16) (v : Word)
  /-- REG_DATA_READ (R377). -/
  | regDataRead (w : Writer)
  /-- REG_DATA_WRITE (R377). -/
  | regDataWrite (w : Writer) (v : Word)
  /-- PEND_CLR (R190). -/
  | pendClr (w : Writer) (v : Word)
  /-- PEND_SET (R190). -/
  | pendSet (w : Writer) (v : Word)
  /-- READY_SEND (R362). -/
  | readySend (w : Writer) (status : Byte)
  /-- FATAL_RAISE (R345). -/
  | fatalRaise (w : Writer) (reason : Byte)
  /-- PM_CMD_READ (R391). -/
  | pmCmdRead (w : Writer)
  /-- PM_CMD_WRITE (R391). -/
  | pmCmdWrite (w : Writer)
  /-- BIST_ROW (R335, R336). -/
  | bistRow (w : Writer) (i : BitVec 6)
  /-- BIST_COLUMN (R335, R336). -/
  | bistColumn (w : Writer) (i : BitVec 6)
  /-- BIST_WAY (R335, R336). -/
  | bistWay (w : Writer) (i : BitVec 6)
  /-- BIST_WHOLE_ARRAY (R337). -/
  | bistWholeArray (w : Writer)
  /-- BIST_DONE (R337; failing PEs (row, column), or (set, 0) for a way). -/
  | bistDone (fails : List (Nat × Nat))
  /-- MIGRATION_DONE (R336). -/
  | migrationDone
  /-- WAY_SWEEP_DONE (R338). -/
  | waySweepDone
  /-- TMOV_COMPLETE (R101). -/
  | tmovComplete
  /-- CROCK_WINDOW_READ_DONE (R300). -/
  | crockWindowReadDone (t : Thread)
  /-- LEAKAGE_CHARGE (R289). -/
  | leakageCharge
  /-- ILLEGAL_INSTRUCTION (R140). -/
  | illegalInstruction (t : Thread) (w0 e1 e2 : IWord)
  /-- SWITCHED (R328). -/
  | switched
  /-- COLD_RESET (R356). -/
  | coldReset
  /-- COLD_RESET_RELEASE (R360; the level VCORE is at (R349)). -/
  | coldResetRelease (level : Fin 8)
  /-- BOOT_VERIFY_DONE (R326). -/
  | bootVerifyDone
  /-- WARM_RESET (R356). -/
  | warmReset
  /-- WARM_RESET_RELEASE (R361). -/
  | warmResetRelease
  /-- TIMING_DOMAIN_RESET (R356). -/
  | timingDomainReset
  /-- THREAD_RESET_EFFECT (R358). -/
  | threadResetEffect (t : Thread)
  /-- WS_BYPASS (R355). -/
  | wsBypass
  /-- WS_EXTEST (R355). -/
  | wsExtest
  /-- WS_INTEST_SCAN (R355). -/
  | wsIntestScan
  /-- WS_PRELOAD (R355). -/
  | wsPreload
  /-- WS_CLAMP (R355). -/
  | wsClamp
  /-- QUIESCE_COMPLETE (R331). -/
  | quiesceComplete (p : Page)
  /-- READY_RESEND (R362). -/
  | readyResend
  /-- FATAL_REPORT_RESEND (R345). -/
  | fatalReportResend
  deriving DecidableEq, Repr

end Sys2Proof
end

