-- ==== Sys2Proof/Machine/State.lean ====
section
/-! DEFINITION. The state of the KC-740 as plain data: everything the manual gives the core.
Every map from addresses to values is a list of (address, value) pairs in canonical form: addresses
strictly rising, no entry equal to what an unlisted address reads as (Machine/Assoc.lean). -/

namespace Sys2Proof.Machine

/-! ## Straps and phases -/

/-- The core's place, fixed for its life (R4, R5; the chip number is loaded before reset release, R376). -/
structure Pos where
  chip : BitVec 18
  cluster : BitVec 6
  core : BitVec 4
  deriving DecidableEq, Repr

/-- Where the core stands between reset and running (R355 to R363). -/
inductive Phase where
  | coldReset | testReset | warmReset | boot | bootStopped | run | noBoot
  deriving DecidableEq, Repr

/-! ## Threads -/

/-- One part of a data access, within one 64-byte block (R166); a device access has one part per
aligned unit (R201). -/
structure Part where
  va : Word
  len : Nat
  /-- The physical address and the policy code of R201, once translated. -/
  pa : Option (Nat × Nat)
  /-- The request for this part has been made. -/
  asked : Bool
  /-- The bytes, once bound, and whether their block carried poison. -/
  got : Option (List Byte × Bool)
  deriving DecidableEq, Repr

/-- A load under way (R165). -/
structure PendLoad where
  d : GReg
  size : Nat
  words : Nat
  parts : List Part
  /-- The acknowledgment of a span clear waits for its data (R265). -/
  held : Bool
  deriving DecidableEq, Repr

/-- A store that waits for a translation or for room in the store buffer (R165, R167). -/
structure PendStore where
  bytes : List Byte
  words : Nat
  parts : List Part
  deriving DecidableEq, Repr

/-- An atomic under way (R168). -/
structure PendAmo where
  op : Nat
  wide : Bool
  gd : GReg
  gsv : Word
  gdv : Word
  ea : Word
  sent : Bool
  deriving DecidableEq, Repr

/-- A TSAVE or TRSTR under way (R103, R104). -/
structure CtxRun where
  save : Bool
  base : Word
  /-- The image checks have passed and the length is fixed. -/
  checked : Bool
  /-- Pages of the image translated so far: virtual page, physical page base, policy. -/
  xl : List (Nat × Nat × Nat)
  /-- Blocks moved. -/
  done : Nat
  /-- Blocks in all. -/
  total : Nat
  /-- The image bytes received so far. -/
  image : List Byte
  /-- Blocks of 64 B of a TRSTR that came with poison. -/
  pois : List Nat
  /-- Lines of the next block written, or 64 B blocks of it asked for. -/
  asked : List Nat
  /-- Data of the block in flight: (64 B block in the image, bytes, poison). -/
  got : List (Nat × List Byte × Bool)
  deriving DecidableEq, Repr

/-- What a thread waits for (R152, R164). -/
inductive Wait where
  | none
  /-- A stall that leaves the instruction unissued (R85 row 6, full store buffer, no table entry). -/
  | stall
  | load (p : PendLoad)
  | store (p : PendStore)
  | amo (p : PendAmo)
  | fence (sc : Scope)
  | xinv (kind : BitVec 2) (ga : Word) (sc : Scope)
  /-- A maintenance operation: OP, ga, by set and way (R211). -/
  | lsm (op : BitVec 2) (ga : Word) (byWay : Bool)
  | tsync
  | tclaimForce (gd : GReg)
  | trelUnit
  | ctx (r : CtxRun)
  deriving DecidableEq, Repr

/-- An indivisible pair whose second instruction has not completed (R161). -/
structure Pair where
  first : PAddr
  ld : Option (GReg × Word)
  mode : Option Word
  lc0 : BitVec 32
  lc1 : BitVec 32
  /-- SS was 1 at the completion of the first: the pair steps as one (R174). -/
  step : Bool
  deriving DecidableEq, Repr

/-- Sleep states (R287). -/
inductive Sleep where
  | awake | asleep | deep
  deriving DecidableEq, Repr

/-- One thread (R128, R175, R281). -/
structure HThread where
  g : Vector Word 16
  a : Vector (BitVec 80) 2
  pc : PAddr
  stat : Word
  mode : Word
  lc : Vector (BitVec 32) 2
  ls : Vector PAddr 2
  le : Vector PAddr 2
  flg : Word
  tstat : Word
  /-- The flags of TSTAT raised before the last TSYNC wait completed (R133). -/
  tstatSync : Word
  seed : Word
  rcnt : BitVec 47
  tsbps : Word
  tsbpm : Word
  hdtb : Word
  qlim : BitVec 32
  mshb : Word
  mshl : Word
  tcmp : Word
  /-- The last SRES write was refused (R292). -/
  sresRefused : Bool
  /-- Steps counted under QUIET (R173). -/
  quietCnt : Nat
  /-- The overrun event of this count has been raised (R173). -/
  quietFired : Bool
  /-- A QUIET overrun is pending: PL and count at expiry (R181). -/
  quietOver : Option (BitVec 2 × Nat)
  pair : Option Pair
  /-- The single-step trap is pending (R174). -/
  stepTrap : Bool
  /-- An event has been taken at this boundary, so the handler's first instruction comes next (R185, R186). -/
  entered : Bool
  wait : Wait
  sleep : Sleep
  /-- Stopped at a boundary with RUN = 0 (R286, R377). -/
  stopped : Bool
  /-- Halted after a failed fallback entry (R184). -/
  halted : Bool
  /-- A per-thread reset is requested (R358). -/
  resetReq : Bool
  deriving DecidableEq, Repr

/-! ## Tile unit -/

/-- A tray's shape and flags (R77). -/
structure Tray where
  rows : Nat
  bytes : Nat
  inuse : Bool
  marks : BitVec 32
  deriving DecidableEq, Repr

/-- A tile-queue entry: the instruction's words, the register values read at issue (R84), the issuing
level, program address and thread, and the row at which it continues (R109). -/
structure QEntry where
  id : Nat
  w0 : IWord
  e1 : IWord
  e2 : IWord
  pc : PAddr
  v1 : Word
  v2 : Word
  lvl : BitVec 2
  thr : Thread
  prog : Nat
  started : Bool
  /-- The entry has passed its fault point (R88). -/
  safe : Bool
  /-- The store-buffer sequence number at issue (R89). -/
  sbMark : Nat
  deriving DecidableEq, Repr

/-- A slot's state but its elements (R60). -/
structure Slot where
  fp : Bool
  anchor : BitVec 10
  rnd : BitVec 2
  seed : Word
  fold : Nat
  p : BitVec 47
  d : BitVec 47
  inuse : Bool
  sat : Bool
  inx : Bool
  deriving DecidableEq, Repr

/-- A TMMA or TMMS on the array (R99). -/
structure ArrayRun where
  id : Nat
  slot : Fin 48
  fa : BitVec 4
  fb : BitVec 4
  a : TrayNo
  b : TrayNo
  sa : TrayNo
  sb : TrayNo
  mt : TrayNo
  sparse : Bool
  m : Nat
  n : Nat
  k : Nat
  fold : Nat
  /-- Array steps taken, of the steps of R30. -/
  step : Nat
  steps : Nat
  deriving DecidableEq, Repr

/-- A drain past its copy step (R65), with the slot state the fuser needs as the copy found it. -/
structure DrainRun where
  id : Nat
  cw : Word
  fp : Bool
  anchor : BitVec 10
  rnd : BitVec 2
  seed : Word
  d : BitVec 47
  rd : Nat
  nd : Nat
  /-- Relative steps completed after the copy step. -/
  rel : Nat
  /-- The fuser's output: destination row, its bytes and, for an MX format, its scale byte. -/
  latch : Option (Nat × List Byte × Byte)
  sat : Bool
  inx : Bool
  inv : Bool
  deriving DecidableEq, Repr

/-- A line of a TLD or TST (R94). -/
structure MemLine where
  /-- The virtual line number. -/
  line : Nat
  pa : BitVec 58
  pol : BitVec 2
  /-- Rows below this one take part (a faulting row and those after it do not, R97). -/
  rowEnd : Nat
  /-- Data of the line, once bound, with the poison of each 64 B block. -/
  got : Option (List Byte × BitVec 2)
  /-- Blocks of an uncached page still awaited. -/
  need : Nat
  /-- The line has been asked for, or its write accepted. -/
  asked : Bool
  /-- The line has been served. -/
  fin : Bool
  deriving DecidableEq, Repr

/-- A running TLD or TST (R94 to R97). -/
structure MemRun where
  id : Nat
  load : Bool
  tray : TrayNo
  va : Word
  st : Word
  lvl : BitVec 2
  thr : Thread
  row0 : Nat
  rt : Nat
  bt : Nat
  /-- Virtual pages still to be translated, in the order rows first touch them, with that row. -/
  pages : List (Nat × Nat)
  /-- Translated pages: virtual page, physical page base, policy. -/
  xl : List (Nat × BitVec 58 × BitVec 2)
  /-- Virtual lines issued so far. -/
  issued : List Nat
  lines : List MemLine
  /-- Rows written so far in part or whole. -/
  touched : List Nat
  /-- A fault found: cause, detail, row, fault address. -/
  flt : Option (Byte × Byte × Nat × Word)
  deriving DecidableEq, Repr

/-- A running TMOV (R101). -/
structure MovRun where
  id : Nat
  dst : TrayNo
  src : TrayNo
  op : BitVec 2
  deriving DecidableEq, Repr

/-- A running Whisk entry (R123). -/
structure WhiskRun where
  id : Nat
  w0 : IWord
  e1 : IWord
  e2 : IWord
  v1 : Word
  /-- Relative steps completed. -/
  rel : Nat
  rows : Nat
  lat : Nat
  /-- Broadcast rows latched at the start (R123). -/
  latchB : List Byte
  latchC : List Byte
  latchPois : Bool
  /-- Computed rows not yet written: row, bytes, scale bytes, poison mark (R125). -/
  pipe : List (Nat × List Byte × List Byte × Bool)
  sat : Bool
  inx : Bool
  inv : Bool
  deriving DecidableEq, Repr

/-- The tile unit and the Whisk (R77 to R109, R59 to R76, R123). -/
structure Tile where
  trays : Vector Tray 16
  /-- Tray storage: byte `o` of tray `T` at 4096 T + o. -/
  data : List Host.Cell
  /-- Rows whose parity fails at their next read, as 32 T + row (R80). -/
  badRow : List Nat
  owner : Option Thread
  queue : List QEntry
  nextId : Nat
  frozen : Bool
  tprog : Word
  faultAddr : Word
  /-- The tile-fault trap has not been delivered (R106). -/
  trap : Bool
  /-- The head entry waits for admission (R293). -/
  deferred : Bool
  array : Option ArrayRun
  /-- Drains past their copy step, the oldest first (R66). -/
  drains : List DrainRun
  mem : List MemRun
  mov : Option MovRun
  whisk : Option WhiskRun
  slots : Vector Slot 48
  /-- Slot elements: element (i, j) of slot s at 1024 s + 32 i + j (R60). -/
  elems : List (Nat × BitVec 96)
  /-- The shadow set: element (i, j) at 32 i + j (R65). -/
  shadow : List (Nat × BitVec 96)
  /-- Elements whose parity fails at their next read; the shadow set counts as slot 48 (R76). -/
  badElem : List Nat
  deriving DecidableEq, Repr

/-! ## Store buffer, L1D, local store -/

/-- A store-buffer entry (R167). -/
structure SbEntry where
  seq : Nat
  thr : Thread
  pa : Nat
  bytes : List Byte
  pol : Nat
  /-- Privilege level of the store, coded as STAT.PL. -/
  lvl : Nat
  /-- The line fill it waits for has been asked for. -/
  asked : Bool
  deriving DecidableEq, Repr

/-- An L1D line of 64 B (R197); `bad` is a parity error not yet found (R198). -/
structure L1Line where
  blk : Nat
  data : List Byte
  bad : Bool
  deriving DecidableEq, Repr

/-- A local-store line of 128 B (R199); `errs` are symbols in error in the lower and upper codeword,
`tagErr` is 1 for a correctable and 2 for an uncorrectable error of the tag or state bits. -/
structure LsLine where
  line : Nat
  dirty : Bool
  data : List Byte
  pois : BitVec 2
  errs : Nat × Nat
  tagErr : Nat
  deriving DecidableEq, Repr

/-- A side-buffer line (R210): filled with data, or in flight. -/
structure SideLine where
  line : Nat
  data : Option (List Byte × BitVec 2)
  /-- Symbols in error in the lower and upper codeword. -/
  errs : Nat × Nat
  /-- Discard the fill when it arrives. -/
  drop : Bool
  deriving DecidableEq, Repr

/-- Caches, shelf and store buffer. -/
structure LStore where
  sb : List SbEntry
  sbSeq : Nat
  /-- L1D line of set s, way w at 4 s + w. -/
  l1 : List (Nat × L1Line)
  /-- L1D ways of a set, most recently used first. -/
  l1lru : List (Nat × List Nat)
  /-- Local-store line of set s, way w at 16 s + w; spare line e of way w at 49152 + 4 w + e (R338). -/
  lines : List (Nat × LsLine)
  /-- Pseudo-LRU nodes of a set (R200). -/
  plru : List (Nat × BitVec 15)
  side : List SideLine
  /-- Shelf bytes by shelf offset. -/
  shelf : List Host.Cell
  /-- Poisoned 64 B blocks of the shelf. -/
  shelfPois : List Nat
  /-- Symbols in error in a shelf block. -/
  shelfErrs : List (Nat × Nat)
  /-- Shelf blocks whose write fails. -/
  shelfDead : List Nat
  /-- Shelf ways in force (R206). -/
  ways : Nat
  /-- A growth in progress: target ways, next way, next set (R209). -/
  growth : Option (Nat × Nat × Nat)
  /-- Way sweeps to do: way and next set (R338). -/
  sweep : List (Nat × Nat)
  /-- The scrubber's next set and way (R218). -/
  scrub : Nat × Nat
  /-- TIME of its last interval. -/
  scrubAt : Nat
  deriving DecidableEq, Repr

/-! ## NoC port -/

/-- Who made a request, coded as SRC of R218 where it has a code. -/
inductive Src where
  | thread (t : Thread)
  /-- The tile memory path, with the thread of the TLD or TST (R89). -/
  | tileMem (t : Option Thread)
  | chan (c : Fin 4) | noc | scrub | sweep
  /-- A maintenance instruction of a thread (R211). -/
  | maint (t : Thread)
  | msg
  /-- A walk, by its number, that nobody waits for any more. -/
  | walker (id : Nat)
  deriving DecidableEq, Repr

/-- Who takes the data of a read. -/
inductive Taker where
  /-- The load of a thread: every part of it that lies in the block or line. -/
  | load (t : Thread)
  /-- The store at the head of the store buffer (a write-back miss). -/
  | sb
  /-- Line `line` of tile memory run `id`. -/
  | tile (id line : Nat)
  /-- A virtual line of run `run` of a channel: a source line, or with `wr` a destination line that a
  write-back page fills first. -/
  | ladle (c : Fin 4) (run line : Nat) (wr : Bool)
  /-- 64 B block `b` of a TRSTR image. -/
  | ctx (t : Thread) (b : Nat)
  | walk (w : Nat)
  /-- The access was abandoned: nobody takes the data. -/
  | nobody
  deriving DecidableEq, Repr

/-- What a table entry is for (R220). -/
inductive ReqKind where
  /-- A line fill: the way reserved for it, or none; whether it refetches an uncorrectable line (R216). -/
  | fill (line : Nat) (way : Option Nat) (again : Bool) (takers : List Taker)
  | warm (line : Nat) (c : Fin 4)
  | uncRead (taker : Taker)
  | write
  /-- A write-back of an evicted line, or a clean that keeps the line (R203, R212), and the line's way. -/
  | writeBack (evict : Bool) (way : Nat)
  | atom (t : Thread)
  | walkAtom (w : Nat)
  | msgReady
  | msgFatal
  | xinv (t : Thread) (sc : Scope)
  | bcast (c : Fin 4) (run : Nat)
  deriving DecidableEq, Repr

/-- A request-table entry (R220, R227). -/
structure RtEntry where
  kind : ReqKind
  src : Src
  typ : Nat
  addr : Nat
  size : Nat
  op : Nat
  data : List Byte
  mask : List Bool
  masked : Bool
  psn : Nat
  /-- A device access (ordered, R201). -/
  dev : Bool
  /-- The write-back or clean that must leave first (R201, R203). -/
  after : Option Nat
  sent : Bool
  dead : Bool
  /-- Oscillator cycles (10 ns) counted, held, and in quarantine. -/
  timer : Nat
  held : Nat
  susp : Bool
  quar : Nat
  /-- Limits in oscillator cycles, as in force when sent (R228). -/
  tmo : Nat
  holdmax : Nat
  deriving DecidableEq, Repr

/-- What the port drives out: a header's fields, the data flits and their byte masks (R223, R224). -/
structure Packet where
  typ : Nat
  tag : Tag
  /-- The requester that the header names. -/
  schip : BitVec 18
  sclu : BitVec 6
  score : BitVec 4
  addr : Nat
  size : Nat
  op : Nat
  psn : Nat
  sts : Nat
  sc : Nat
  masked : Bool
  mkind : Nat
  data : List Byte
  mask : List Bool
  deriving DecidableEq, Repr

/-- A report message of the core (R345, R362). -/
structure Report where
  payload : List Byte
  /-- The table entry that carries it, while one does. -/
  entry : Option Nat
  /-- TIME of the last send. -/
  sentAt : Nat
  /-- The last send failed. -/
  failed : Bool
  deriving DecidableEq, Repr

/-- The accesses in flight at a moment, which an acknowledgment waits for until they are performed or have left
(R256, R260, R265): table entries still unsent, stores below a store-buffer sequence number, virtual lines of tile
memory runs, open Ladle runs (channel, TAIL, run), and threads with a context transfer or a Crock window load. -/
structure InFlight where
  /-- For a span clear: TLD and TST lines count once they are served, and the data of loads are awaited. -/
  clear : Bool
  waitFor : List Nat
  sb : Nat
  lines : List (Nat × Nat)
  runs : List (Fin 4 × BitVec 16 × Nat)
  thr : List Thread
  deriving DecidableEq, Repr

/-- An inbound XINV that is not yet acknowledged (R260). -/
structure XinvIn extends InFlight where
  h : Hdr
  deriving DecidableEq, Repr

/-- Whose write of a span clear waits for its acknowledgment (R256): a request of the chip's host interface, a
thread's store, or the wrapper's access. -/
inductive ClearBy where
  | host (h : Hdr)
  | thread (t : Thread)
  | tap
  deriving DecidableEq, Repr

/-- A span clear whose write is not yet acknowledged (R256). -/
structure SpanClear extends InFlight where
  who : ClearBy
  deriving DecidableEq, Repr

/-- The NoC port (R220 to R229, R238). -/
structure Noc where
  rt : List (Nat × RtEntry)
  gens : List (Nat × BitVec 3)
  queue : List Nat
  out : Option Packet
  barRel : Bool
  barDup : Bool
  barGen : BitVec 8
  /-- An arrival of this core is outstanding (R353). -/
  barArrived : Bool
  /-- A BAR waits for these entries to be acknowledged (R238). -/
  barWait : Option (List Nat)
  ready : Option Report
  fatal : Option Report
  xinvs : List XinvIn
  /-- Span clears whose writes are not yet acknowledged (R256). -/
  clears : List SpanClear
  /-- What has arrived at a core in retention or waking, and behind that; the first came first (R279). -/
  inbox : List Instr
  deriving DecidableEq, Repr

/-! ## Ladle -/

/-- A source line of a run: virtual line, physical line base, policy, and its data once bound with the
poison of each 64 B block (R233). -/
structure LRead where
  line : Nat
  /-- The 64 B half of a line of an uncached page. -/
  half : Option Nat
  pa : Nat
  pol : Nat
  asked : Bool
  /-- The data have been bound: the line's bytes, or its half's. -/
  got : Bool
  data : List Byte
  pois : BitVec 2
  deriving DecidableEq, Repr

/-- A destination line of a run still to be written (R233, R235). -/
structure LOut where
  line : Nat
  pa : Nat
  pol : Nat
  /-- Its fill has been asked for. -/
  asked : Bool
  deriving DecidableEq, Repr

/-- An open run of a channel. -/
structure LRun where
  idx : Nat
  src : Nat
  dst : Nat
  reads : List LRead
  outs : List LOut
  /-- The bytes of a tray row read as the source, and whether they are poisoned. -/
  row : List Byte
  rowPois : Bool
  /-- The tray row that the run fills has still to be written. -/
  fill : Bool
  deriving DecidableEq, Repr

/-- A Ladle channel (R230 to R236). -/
structure Chan where
  head : BitVec 16
  tail : BitVec 16
  halted : Bool
  err : Byte
  kind : BitVec 6
  pois : Bool
  wskip : Bool
  ovf : Bool
  prog : Word
  /-- The current descriptor, once read. -/
  desc : Option (List Word)
  /-- The next run to open. -/
  run : Nat
  /-- Pages of that run translated so far: virtual page, write, physical page base, policy. -/
  xl : List (Nat × Bool × Nat × Nat)
  /-- A translation fault of that run: error and kind. -/
  flt : Option (Byte × BitVec 6)
  /-- Open runs, the oldest first. -/
  runs : List LRun
  /-- Writes of the descriptor still to be acknowledged: table entry and run. -/
  writes : List (Nat × Nat)
  deriving DecidableEq, Repr

/-! ## Translation -/

/-- A TLB entry: a walked leaf of size 2^k at a virtual base, or the copy of a span (R250). -/
structure TlbEntry where
  base : Nat
  k : Nat
  leaf : Word
  span : Option Nat
  bad : Bool
  deriving DecidableEq, Repr

/-- A walk-cache entry: level, address of the table entry, the pointer read there (R250). -/
structure WcEntry where
  level : Nat
  /-- Address of the table entry. -/
  ea : Nat
  leaf : Word
  deriving DecidableEq, Repr

/-- A span (R255); `lost` keeps the place of one a parity error removed, but for the ranges (base, log2 of the size)
that later loads have covered (R257). -/
structure Span where
  k : Nat
  va : Word
  pa : Word
  attr : BitVec 13
  valid : Bool
  lost : Bool
  bad : Bool
  holes : List (Nat × Nat)
  deriving DecidableEq, Repr

/-- Who waits for a walk: a thread's access, the tile memory run of a thread's entry, a channel, or nobody any more;
the requester that has left may be a thread, whose first-level TLB takes the entry all the same (R252). -/
inductive WalkFor where
  | thread (t : Thread) | tile (id : Nat) (t : Thread) | chan (c : Fin 4) | left (t : Option Thread)
  deriving DecidableEq, Repr

/-- What a walk waits for. -/
inductive WalkPh where
  | ready
  /-- A table read is outstanding in this table entry. -/
  | reading (idx : Nat)
  /-- The table word read, or an error or poison. -/
  | value (v : Option Word)
  /-- The compare-and-swap of the A and D flags is outstanding. -/
  | swapping (idx : Nat) (old new : Word)
  /-- Its answer: the old value, or an error. -/
  | swapped (old new : Word) (res : Option Word)
  deriving DecidableEq, Repr

/-- A walk in progress (R251). -/
structure Walk where
  id : Nat
  va : Word
  pl : Nat
  wr : Bool
  rd : Bool
  who : WalkFor
  level : Nat
  table : Nat
  /-- The root in force when the walk started (R264). -/
  root : Nat
  ph : WalkPh
  /-- An XINV arrived: discard the result and start again (R260). -/
  again : Bool
  /-- For a warm request, which sets no flag (R253). -/
  warm : Bool
  deriving DecidableEq, Repr

/-- Translation state (R250). -/
structure Xlate where
  l1tlb : List TlbEntry
  ldlTlb : List TlbEntry
  /-- Main TLB: set s, way w at 8 s + w. -/
  mtlb : List (Nat × TlbEntry)
  wcache : List WcEntry
  spans : List (Nat × Span)
  walks : List Walk
  nextWalk : Nat
  deriving DecidableEq, Repr

/-! ## Interrupts, Scale, timing -/

/-- Interrupt latches (R189, R389, R182). -/
structure Irq where
  edge : Word
  mcLatch : Bool
  pfLatch : Bool
  deriving DecidableEq, Repr

/-- The Scale (R288 to R295).  Energies are in sixteenths of a pJ. -/
structure Scale where
  bal : Int
  rsv : Nat
  wSh : List (Nat × BitVec 16)
  wCo : List (Nat × BitVec 16)
  /-- E_TOTAL and the seven category counters: 48 + 4 bits. -/
  e : Vector (BitVec 52) 8
  grantSeq : BitVec 16
  seen : Bool
  lastMove : Nat
  deriving DecidableEq, Repr

/-- A delay-line group (R270 to R274). -/
structure Group where
  cal : Nat
  /-- Codes that canary firings added since the last calibration (R272). -/
  add : Nat
  can : Bool
  str : Bool
  /-- Temperature at the last calibration, in eighths of a degree. -/
  temp : BitVec 12
  deriving DecidableEq, Repr

/-- A move of the sequencer (R277). -/
structure VMove where
  fromL : Fin 8
  toL : Fin 8
  start : Nat
  deriving DecidableEq, Repr

/-- Timing, clocks and voltage (R267 to R287). -/
structure Timing where
  time : Nat
  steps : Word
  stepMon : BitVec 16
  /-- Monitor cycles of the microsecond that runs (R269). -/
  monAcc : Nat
  groups : Vector Group 40
  /-- Groups queued for calibration. -/
  calQ : List (Fin 40)
  /-- The group that calibrates and when it began. -/
  calNow : Option (Fin 40 × Nat)
  /-- CAL_GRP: the group that calibrated last (R274, R296). -/
  calGrp : Fin 40
  /-- CAL_LAST (R275). -/
  calLast : Word
  /-- TIME of the last automatic calibration (R275). -/
  autoLast : Nat
  autoGroup : Fin 40
  vlCur : Fin 8
  vlWant : Fin 8
  /-- The level whose weights are charged (R277). -/
  vlCharge : Fin 8
  /-- The level whose margins are in force (R277). -/
  vlMargin : Fin 8
  move : Option VMove
  /-- PFAIL came during a move: no further one starts (R297). -/
  moveStop : Bool
  vhold : Bool
  vreq : Fin 8
  vreqV : Bool
  vack : Bool
  loTrim : BitVec 10
  loCnt : BitVec 16
  loLock : Bool
  loFrozen : Bool
  lastMark : Nat
  pllLock : Bool
  coast : Bool
  pllAlive : Bool
  /-- STATUS.REF_ALIVE. -/
  refAlive : Bool
  /-- The reference toggles at the pin, and since when (R283, R346). -/
  refHere : Bool
  refSince : Nat
  src : Bool
  /-- A multiplexer switch in progress: target and start (R284). -/
  mux : Option (Bool × Nat)
  /-- The switch has seen its low phase of the old clock (R284). -/
  muxOld : Bool
  /-- A source that the switch needed has stopped: it never ends (R284). -/
  muxLost : Bool
  muxHung : Bool
  temp : BitVec 12
  /-- Retention: the level the core left (R279). -/
  ret : Option (Fin 8)
  /-- Enabled sources that were pending when the core entered retention (R279). -/
  retPend : Word
  /-- Waking from retention: when the oscillator restarted. -/
  waking : Option (Fin 8 × Nat)
  deriving DecidableEq, Repr

/-! ## Crock -/

/-- What a write-queue entry does (R302, R322). -/
inductive WqOp where
  | write (line : Nat) (data : BitVec 256)
  /-- A refresh, with whether a scan queued it. -/
  | refresh (line : Nat) (scan : Bool)
  | move (lblk pblk : Nat) (retire : Bool)
  | ckpt
  deriving DecidableEq, Repr

/-- A write-queue entry (R302). -/
structure WqEntry where
  ticket : BitVec 16
  op : WqOp
  mc : Bool
  drv : Bool
  deriving DecidableEq, Repr

/-- The entry in progress: line writes done (of a move or checkpoint), rewrites of this line. -/
structure WqRun where
  entry : WqEntry
  line : Nat
  rewrites : Nat
  /-- An uncorrectable move line is copied raw (R322). -/
  raw : Bool
  deriving DecidableEq, Repr

/-- Errors of a physical line: bits wrong at the normal and at the margin reference (R301, R324). -/
structure LineErr where
  normal : Nat
  margin : Nat
  deriving DecidableEq, Repr

/-- A branch-target-buffer entry: target address, and whether the line at the target is held (R157). -/
structure BtbEntry where
  target : PAddr
  filled : Bool
  deriving DecidableEq, Repr

/-- The Crock and its engine (R298 to R330, R394). -/
structure Crock where
  /-- Physical lines. -/
  media : List (Nat × BitVec 256)
  errs : List (Nat × LineErr)
  /-- Physical block of a logical block; unlisted blocks map to themselves. -/
  wmap : List (Nat × Nat)
  /-- Writes of a physical block (R321). -/
  wcount : List (Nat × BitVec 32)
  wgen : BitVec 32
  /-- The copy that holds the newer generation. -/
  wcopy : Bool
  mapBad : Bool
  queue : List WqEntry
  now : Option WqRun
  next : BitVec 16
  done : BitVec 16
  /-- Tickets completed out of order. -/
  doneOut : List (BitVec 16)
  failed : BitVec 16
  halt : Bool
  pfail : Bool
  /-- Woken from retention, and LO_LOCK has not been 1 since: no write starts (R282, R302). -/
  woken : Bool
  drRun : Option Nat
  drValid : Bool
  drUe : Bool
  drData : Vector Word 4
  drefuse : Byte
  moveFail : Bool
  scanBusy : Bool
  scanPos : Nat
  scanWeak : Nat
  scanRef : Nat
  scanUe : Nat
  active : Bool
  swpend : Bool
  vbusy : Bool
  vpass : Bool
  vres : BitVec 4
  svn : BitVec 32
  /-- TRIAL of the boot record in force (R362). -/
  trial : Bool
  /-- What the boot ROM has settled since the last cold reset: nothing yet, a start, or none (R360, R363). -/
  start : Option Bool
  /-- Line buffers of the threads with FS = 1, the newest first (R157). -/
  fwLines : List (Thread × Nat)
  /-- Most recently used first, at most 64. -/
  btb : List BtbEntry
  /-- Window loads in flight: thread, logical line (R300). -/
  winReads : List (Thread × Nat)
  deriving DecidableEq, Repr

/-! ## Pages, repair, wrapper -/

/-- The common frame of a page (R365 to R372). -/
structure Frame where
  en : Bool
  quiesce : Bool
  quiesced : Bool
  checkFail : Bool
  refuse : Byte
  event : Word
  mask : Word
  errAddr : Word
  errInfo : Word
  errFatal : Bool
  /-- A record has been captured since EVENT last read zero after a write (R372). -/
  held : Bool
  deriving DecidableEq, Repr

/-- Repair and test (R335 to R338). -/
structure Repair where
  lrepSh : List (Nat × BitVec 16)
  lrepCo : List (Nat × BitVec 16)
  /-- A running test: target and index (R335). -/
  bist : Option (BitVec 2 × Nat)
  pass : Bool
  nfail : Nat
  first : Nat
  fails : List (Nat × Nat)
  /-- Masks that a migration in progress changes. -/
  migrating : Nat
  deriving DecidableEq, Repr

/-- RAS state (R345, R388). -/
structure Ras where
  fatal : Bool
  reason : Byte
  page : BitVec 4
  mcPages : BitVec 16
  deriving DecidableEq, Repr

/-- The IEEE 1500 wrapper (R355). -/
structure Wrapper where
  wir : BitVec 6
  bypass : Bool
  boundary : Nat
  /-- The boundary register's update stage: the values that it preloads for the outputs. -/
  preload : Nat
  dr : BitVec 82
  deriving DecidableEq, Repr

/-! ## The machine -/

/-- The whole core. -/
structure State where
  pos : Pos
  phase : Phase
  /-- CRST_N is held low (R355, R356). -/
  crst : Bool
  /-- TIME before which no thread issues (R361). -/
  startAt : Nat
  thr : Vector HThread 4
  /-- Program memory: bits [13:0] the word, [14] P0, [15] P1 (R158). -/
  pm : List (Nat × BitVec 16)
  tile : Tile
  ls : LStore
  noc : Noc
  ldl : Vector Chan 4
  xl : Xlate
  irq : Irq
  scl : Scale
  tmg : Timing
  crk : Crock
  frames : Vector Frame 16
  /-- Shadow values of shadowed registers and values of plain ones, by window offset (R374). -/
  shadow : List (Nat × Word)
  /-- Committed values of shadowed registers. -/
  committed : List (Nat × Word)
  /-- Page counters: counter `slot` of page p at 32 p + slot (R373). -/
  counters : List (Nat × BitVec 48)
  rpr : Repair
  ras : Ras
  wrap : Wrapper
  /-- The model's own: index of the next free value (log 6). -/
  free : Nat
  /-- Commands waiting, first in first out. -/
  pending : List Instr
  deriving DecidableEq, Repr

/-- Why the machine stops with a fault. -/
inductive Fault where
  /-- Raised by COLD_RESET_RELEASE with VCORE below VL1: R349 calls the behaviour undefined until a
  further cold reset.  Safe: the model stops. -/
  | undefinedVcore
  deriving DecidableEq, Repr

/-- Why a command has no outcome. -/
inductive Refusal where
  /-- The command has no meaning in the model yet.  Safe. -/
  | notModelled (mnemonic : String)
  /-- Raised by an instruction command whose thread cannot issue (R152).  Safe. -/
  | threadNotReady
  /-- Raised by a command whose operands no encoding or header can carry (WellFormed).  Safe. -/
  | illFormed
  deriving DecidableEq, Repr

/-! ## Reset -/

/-- A thread after a cold reset (R128, R171, R175, R359, R377). -/
def HThread.reset : HThread where
  g := Vector.replicate 16 0
  a := Vector.replicate 2 0
  pc := 0
  stat := 0xF
  mode := 0x8
  lc := Vector.replicate 2 0
  ls := Vector.replicate 2 0
  le := Vector.replicate 2 0
  flg := 0
  tstat := 0
  tstatSync := 0
  seed := 0
  rcnt := 0
  tsbps := 0
  tsbpm := 0
  hdtb := 0
  qlim := 4096
  mshb := 0
  mshl := 0
  tcmp := 0
  sresRefused := false
  quietCnt := 0
  quietFired := false
  quietOver := none
  pair := none
  stepTrap := false
  entered := false
  wait := .none
  sleep := .awake
  stopped := true
  halted := false
  resetReq := false

/-- A tray after a cold reset (R77). -/
def Tray.reset : Tray := { rows := 32, bytes := 128, inuse := false, marks := 0 }

/-- A slot after a cold reset: the flags by R379, the rest DESIGN CHOICE zero (log 9). -/
def Slot.reset : Slot where
  fp := false
  anchor := 0
  rnd := 0
  seed := 0
  fold := 0
  p := 0
  d := 0
  inuse := false
  sat := false
  inx := false

/-- The tile unit after a cold or warm reset (R77, R81, R357). -/
def Tile.reset : Tile where
  trays := Vector.replicate 16 Tray.reset
  data := []
  badRow := []
  owner := none
  queue := []
  nextId := 0
  frozen := false
  tprog := 0
  faultAddr := 0
  trap := false
  deferred := false
  array := none
  drains := []
  mem := []
  mov := none
  whisk := none
  slots := Vector.replicate 48 Slot.reset
  elems := []
  shadow := []
  badElem := []

/-- Caches and shelf after a cold reset (R213, R382). -/
def LStore.reset : LStore where
  sb := []
  sbSeq := 0
  l1 := []
  l1lru := []
  lines := []
  plru := []
  side := []
  shelf := []
  shelfPois := []
  shelfErrs := []
  shelfDead := []
  ways := 1
  growth := none
  sweep := []
  scrub := (0, 0)
  scrubAt := 0

/-- The port after a reset (R357, R381). -/
def Noc.reset : Noc where
  rt := []
  gens := []
  queue := []
  out := none
  barRel := false
  barDup := false
  barGen := 0
  barArrived := false
  barWait := none
  ready := none
  fatal := none
  xinvs := []
  clears := []
  inbox := []

/-- A channel after a reset (R230, R234). -/
def Chan.reset : Chan where
  head := 0
  tail := 0
  halted := false
  err := 0
  kind := 0
  pois := false
  wskip := false
  ovf := false
  prog := 0
  desc := none
  run := 0
  xl := []
  flt := none
  runs := []
  writes := []

/-- Translation caches after a reset: empty (R250, R257). -/
def Xlate.reset : Xlate where
  l1tlb := []
  ldlTlb := []
  mtlb := []
  wcache := []
  spans := []
  walks := []
  nextWalk := 0

/-- The Scale after a cold reset (R292, R385). -/
def Scale.reset : Scale where
  bal := 0
  rsv := 0
  wSh := []
  wCo := []
  e := Vector.replicate 8 0
  grantSeq := 0
  seen := false
  lastMove := 0

/-- Timing after a cold reset (R281, R296, R348, R349, R386; CAL DESIGN CHOICE 63, log 13). -/
def Timing.reset : Timing where
  time := 0
  steps := 0
  stepMon := 0
  monAcc := 0
  groups := Vector.replicate 40 { cal := 63, add := 0, can := false, str := false, temp := 0 }
  calQ := []
  calNow := none
  calGrp := 0
  calLast := 0
  autoLast := 0
  autoGroup := 0
  vlCur := 5
  vlWant := 5
  vlCharge := 5
  vlMargin := 5
  move := none
  moveStop := false
  vhold := false
  vreq := 5
  vreqV := false
  vack := false
  loTrim := 0x200
  loCnt := 0
  loLock := false
  loFrozen := false
  lastMark := 0
  pllLock := false
  coast := false
  pllAlive := false
  refAlive := false
  refHere := true
  refSince := 0
  src := true
  mux := none
  muxOld := false
  muxLost := false
  muxHung := false
  temp := 0
  ret := none
  retPend := 0
  waking := none

/-- The Crock at power-up (R306, R309; media and map DESIGN CHOICE, log 14). -/
def Crock.reset : Crock where
  media := []
  errs := []
  wmap := []
  wcount := []
  wgen := 0
  wcopy := false
  mapBad := false
  queue := []
  now := none
  next := 0
  done := 0xFFFF
  doneOut := []
  failed := 0
  halt := false
  pfail := false
  woken := false
  drRun := none
  drValid := false
  drUe := false
  drData := Vector.replicate 4 0
  drefuse := 0
  moveFail := false
  scanBusy := false
  scanPos := 0
  scanWeak := 0
  scanRef := 0
  scanUe := 0
  active := false
  swpend := false
  vbusy := false
  vpass := false
  vres := 0
  svn := 0
  trial := false
  start := none
  fwLines := []
  btb := []
  winReads := []

/-- A page frame after a reset: EN as R357 and R368 give it (R369 for QUIESCED). -/
def Frame.reset (en : Bool) : Frame where
  en := en
  quiesce := !en
  quiesced := !en
  checkFail := false
  refuse := 0
  event := 0
  mask := 0xFFFF_FFFF_FFFF_FFFF
  errAddr := 0
  errInfo := 0
  errFatal := false
  held := false

/-- Pages in order; CORE, THR, LST, IRQ, TMG, CRK and RAS reset with EN = 1 (R357). -/
def framesReset : Vector Frame 16 :=
  #v[Frame.reset true, Frame.reset true, Frame.reset false, Frame.reset false,
     Frame.reset false, Frame.reset false, Frame.reset true, Frame.reset false,
     Frame.reset true, Frame.reset false, Frame.reset true, Frame.reset true,
     Frame.reset true, Frame.reset false, Frame.reset false, Frame.reset false]

/-- Repair state after a cold reset (R335, R392). -/
def Repair.reset : Repair where
  lrepSh := []
  lrepCo := []
  bist := none
  pass := false
  nfail := 0
  first := 0
  fails := []
  migrating := 0

/-- The wrapper after WRSTN: WS_BYPASS selected (R355, R391). -/
def Wrapper.reset : Wrapper := { wir := 0x3F, bypass := false, boundary := 0, preload := 0, dr := 0 }

/-- The machine right after reset: CRST_N held low, every field at its reset value (R18, R357; log 2).
HT0 is the thread that RUN_CTL lets run (R286, R377). -/
def State.reset : State where
  pos := { chip := 0, cluster := 0, core := 0 }
  phase := .coldReset
  crst := true
  startAt := 0
  thr := #v[{ HThread.reset with stopped := false }, HThread.reset, HThread.reset, HThread.reset]
  pm := []
  tile := Tile.reset
  ls := LStore.reset
  noc := Noc.reset
  ldl := Vector.replicate 4 Chan.reset
  xl := Xlate.reset
  irq := { edge := 0, mcLatch := false, pfLatch := false }
  scl := Scale.reset
  tmg := Timing.reset
  crk := Crock.reset
  frames := framesReset
  shadow := []
  committed := []
  counters := []
  rpr := Repair.reset
  ras := { fatal := false, reason := 0, page := 0, mcPages := 0 }
  wrap := Wrapper.reset
  free := 0
  pending := []

end Sys2Proof.Machine
end

