-- ==== Sys2Proof/Machine/Regs.lean ====
section
/-! DEFINITION. The MMIO window's registers that hold a value written to them: reset, writable bits,
who may write, whether shadowed (14_register_pages.md R365 to R392, R17).
Registers computed from other state and registers that are commands are in Mmio.lean. -/

namespace Sys2Proof.Machine

open Sys2Proof

/-- Page number (R365). -/
def pageNo (p : Page) : Fin 16 :=
  match p with
  | .core => 0 | .thr => 1 | .til => 2 | .stk => 3 | .wsk => 4 | .ldl => 5 | .lst => 6 | .xlt => 7
  | .irq => 8 | .scl => 9 | .tmg => 10 | .crk => 11 | .ras => 12 | .pmc => 13 | .dbg => 14 | .rpr => 15

/-- The page of a number. -/
def pageOf (n : Nat) : Page :=
  match n with
  | 0 => .core | 1 => .thr | 2 => .til | 3 => .stk | 4 => .wsk | 5 => .ldl | 6 => .lst | 7 => .xlt
  | 8 => .irq | 9 => .scl | 10 => .tmg | 11 => .crk | 12 => .ras | 13 => .pmc | 14 => .dbg | _ => .rpr

/-- The window offset of offset `o` of page `p` (R365). -/
def poff (p : Page) (o : Nat) : Nat := (pageNo p).val * 0x1000 + o

/-- The tags of R367. -/
inductive WTag where
  | any | m | d | md
  deriving DecidableEq, Repr

/-- May this writer write a register of this tag? (R367; another core never writes.) -/
def WTag.allows (g : WTag) (w : Writer) : Bool :=
  match w with
  | .otherCore => false
  | .driver => match g with | .any => true | .m => false | .d => true | .md => true
  | .firmware => match g with | .any => true | .m => true | .d => false | .md => true
  | .ownUS => match g with | .any => true | .m => false | .d => false | .md => false

/-- A register that holds a written value. -/
structure RegInfo where
  reset : Nat
  mask : Nat
  tag : WTag
  sh : Bool
  /-- Kept on warm reset. -/
  keep : Bool
  deriving DecidableEq, Repr

/-- A plain register: acts when written. -/
def plain (reset mask : Nat) (tag : WTag) : RegInfo := { reset, mask, tag, sh := false, keep := false }

/-- A shadowed register (R374). -/
def shadowed (reset mask : Nat) (tag : WTag) : RegInfo := { reset, mask, tag, sh := true, keep := false }

/-- The registers of R377 to R381: REG_SEL; channel configuration and ring, NOC_CFG. -/
def regThrLdl (p : Page) (o : Nat) : Option RegInfo :=
  match p with
  | .thr => if o = 0x50 then some (plain 0 0x3F03 .any) else none
  | .ldl =>
    if o = 0x140 then some (shadowed 0x1_9040 0xF_FFFF .md)
    else if 0x40 ≤ o ∧ o < 0x140 then
      (if o % 0x40 = 0 then some (shadowed 0x400_0000 0x7FF_003F .any)
       else if o % 0x40 = 8 then some (shadowed 0 0xFFFF_FFFF_FFFF_FFC0 .any) else none)
    else none
  | _ => none

/-- The registers of R382 to R385. -/
def regLstScl (p : Page) (o : Nat) : Option RegInfo :=
  match p with
  | .lst => if o = 0x40 then some { shadowed 0x03E8_0801 0xFFFF_0F0F .md with keep := true } else none
  | .xlt =>
    if o = 0x40 ∨ o = 0x48 then some (shadowed 0 0x3_FFFF_0001_FFFF .md)
    else if o = 0x50 then some (shadowed 5 7 .md)
    else if o = 0x58 then some (shadowed 0 0x3FF_FFFF_FFFF_C000 .any)
    else if o = 0x60 then some (plain 0 0x1FF_FFFF_FC00_003F .any)
    else if o = 0x68 then some (plain 0 0x3FF_FFFF_FC00_0000 .any)
    else if o = 0x70 then some (plain 0 0x1FFF .any)
    else if 0x100 ≤ o ∧ o < 0x200 then
      (if o % 0x10 = 0 then some (shadowed 0 0x3FF_FFFF_FFFF_C001 .md)
       else if o % 0x10 = 8 then some (shadowed 0 0x3FF_FFFF_FFFF_C000 .md) else none)
    else none
  | .irq =>
    if o = 0x58 then some (shadowed 0 3 .md)
    else if 0x200 ≤ o ∧ o < 0x400 ∧ o % 8 = 0 then some (shadowed 0 0x7F .any) else none
  | .scl =>
    if o = 0x40 then some (plain 0 0x73F .md)
    else if o = 0x60 then some (shadowed 0 0x7FFF_FFFF_FFFF .md)
    else if o = 0x68 then some (shadowed 0x7FFF_FFFF_FFFF 0xFFFF_FFFF_FFFF_FFFF .md)
    else if o = 0x70 then some (shadowed 0 0xFFFF_FFFF_FFFF_FFFF .md)
    else if o = 0x78 then some (shadowed 0x3200 0xFF03 .md)
    else none
  | _ => none

/-- The registers of R386 to R388. -/
def regTmgRas (p : Page) (o : Nat) : Option RegInfo :=
  match p with
  | .tmg =>
    if o = 0x48 then some (shadowed 0x10A_3A98 0x1FF_FFFF .md)
    else if o = 0x88 then some (shadowed 0xC41_0518_8280 0xFFFF_FFFF_FFFF .md)
    else if o = 0x90 then some (shadowed 0x715 0x1777 .md)
    else if o = 0x98 then some (shadowed 0x64 0xFF .md)
    else if o = 0xA0 then some (shadowed 0 0xFF .md)
    else if o = 0xB0 then some (shadowed 2 3 .md)
    else if o = 0xB8 then some (shadowed 0x3_2223 0x7_7777 .md)
    else if o = 0xC8 then some (shadowed 0x320 0xFFF .any)
    else none
  | .crk =>
    if 0x40 ≤ o ∧ o < 0x60 ∧ o % 8 = 0 then some (plain 0 0xFFFF_FFFF_FFFF_FFFF .m)
    else if o = 0x78 then some (plain 0 0xFFFF .m)
    else if 0x80 ≤ o ∧ o < 0xA0 ∧ o % 8 = 0 then some (plain 0 0xFFFF_FFFF_FFFF_FFFF .d)
    else if o = 0x100 then some (plain 2 7 .m)
    else none
  | .ras =>
    if 0x80 ≤ o ∧ o < 0x100 ∧ o % 8 = 0 then
      some { plain 0 0xFFFF_FFFF_FFFF_FFFF .m with keep := true } else none
  | _ => none

/-- The registers of R390 to R392. -/
def regPmcRpr (p : Page) (o : Nat) : Option RegInfo :=
  match p with
  | .pmc => if 0x40 ≤ o ∧ o < 0xC0 ∧ o % 8 = 0 then some (shadowed 0 0x1FFF .any) else none
  | .dbg =>
    if o = 0x40 then some (plain 0 0x1_FFFF .md)
    else if o = 0x48 then some (plain 0 0x1_3FFF .md)
    else if 0x80 ≤ o ∧ o < 0xC0 ∧ o % 8 = 0 then
      some { plain 0 0xFFFF_FFFF_FFFF_FFFF .any with keep := true }
    else none
  | .rpr =>
    if o = 0x40 ∨ o = 0x48 then some { shadowed 0xFFFF_FFFF 0x3_FFFF_FFFF .md with keep := true }
    else if o = 0x50 then some { shadowed 0xFFFF 0xFFFF .md with keep := true }
    else if o = 0x58 then some (plain 0 0x3F .md)
    else none
  | _ => none

/-- The register at offset `o` of page `p`, where it holds a written value. -/
def regInfo (p : Page) (o : Nat) : Option RegInfo :=
  match p with
  | .thr | .ldl => regThrLdl p o
  | .lst | .xlt | .irq | .scl => regLstScl p o
  | .tmg | .crk | .ras => regTmgRas p o
  | .pmc | .dbg | .rpr => regPmcRpr p o
  | .core | .til | .stk | .wsk => none

/-- Reset value by window offset: what an unlisted offset of `shadow` or `committed` reads as. -/
def regReset (off : Nat) : Word :=
  match regInfo (pageOf (off / 0x1000)) (off % 0x1000) with
  | some r => BitVec.ofNat 64 r.reset
  | none => 0

/-- The value a read shows: the shadow of a shadowed register (R374). -/
def State.reg (s : State) (p : Page) (o : Nat) : Word := getD regReset s.shadow (poff p o)

/-- The committed value: what a block acts on (R374). -/
def State.com (s : State) (p : Page) (o : Nat) : Word := getD regReset s.committed (poff p o)

/-- The committed value as a number. -/
def State.comN (s : State) (p : Page) (o : Nat) : Nat := (s.com p o).toNat

/-- Set the value of a register that holds a written value (the shadow, if shadowed). -/
def State.setReg (s : State) (p : Page) (o : Nat) (v : Word) : State :=
  { s with shadow := setD regReset s.shadow (poff p o) v }

/-- Set the committed value of a register (R291 writes OVD so). -/
def State.setCom (s : State) (p : Page) (o : Nat) (v : Word) : State :=
  { s with committed := setD regReset s.committed (poff p o) v }

/-- Is this window offset a shadowed register of page `p`? -/
def isShOf (p : Page) (off : Nat) : Bool :=
  off / 0x1000 = (pageNo p).val &&
    (match regInfo p (off % 0x1000) with | some r => r.sh | none => false)

/-- Entries of `src` that are shadowed registers of page `p`, with `base`'s others (R374). -/
def takeSh (p : Page) (src base : List (Nat × Word)) : List (Nat × Word) :=
  (src.filter fun e => isShOf p e.1).foldl (fun m e => put m e.1 e.2)
    (base.filter fun e => !isShOf p e.1)

/-- The committed set of a page takes the shadow set (R374). -/
def State.commitRegs (s : State) (p : Page) : State :=
  { s with committed := takeSh p s.shadow s.committed }

/-- The shadow set of a page takes the committed set (R368). -/
def State.revertRegs (s : State) (p : Page) : State :=
  { s with shadow := takeSh p s.committed s.shadow }

/-! ## Page frames -/

/-- The frame of a page. -/
def State.frame (s : State) (p : Page) : Frame := s.frames[pageNo p]

/-- Replace the frame of a page. -/
def State.setFrame (s : State) (p : Page) (f : Frame) : State :=
  { s with frames := vset s.frames (pageNo p) f }

/-- CTRL.EN of a page. -/
def State.en (s : State) (p : Page) : Bool := (s.frame p).en

/-- STATUS.QUIESCED of a page. -/
def State.quiesced (s : State) (p : Page) : Bool := (s.frame p).quiesced

/-- CTRL.QUIESCE of a page: the block takes no new work (R331). -/
def State.quiescing (s : State) (p : Page) : Bool := (s.frame p).quiesce

/-- Set an EVENT bit (R371). -/
def State.event (s : State) (p : Page) (i : Nat) : State :=
  s.setFrame p { s.frame p with event := setBit (s.frame p).event i true }

/-- Write REFUSE (R370). -/
def State.refuse (s : State) (p : Page) (code : Nat) : State :=
  s.setFrame p { s.frame p with refuse := BitVec.ofNat 8 code }

/-! ## Counters (R373, R390) -/

/-- What an unlisted counter reads as. -/
def zero48 (_ : Nat) : BitVec 48 := 0

/-- Counter at offset 0xF00 + 8 slot of page p. -/
def State.counter (s : State) (p : Page) (slot : Nat) : BitVec 48 :=
  getD zero48 s.counters (32 * (pageNo p).val + slot)

/-- Set a counter. -/
def State.setCounter (s : State) (p : Page) (slot : Nat) (v : BitVec 48) : State :=
  { s with counters := setD zero48 s.counters (32 * (pageNo p).val + slot) v }

/-- Does CNTn follow this slot of this page, for an increment caused by `by?` (R390)? -/
def pmcFollows (s : State) (p : Page) (slot : Nat) (who : Option Thread) (n : Nat) : Bool :=
  let sel := s.comN .pmc (0x40 + 8 * n)
  bits sel 3 0 = (pageNo p).val && bits sel 8 4 = slot && nbit sel 9 &&
    (!nbit sel 10 || (match who with | some t => bits sel 12 11 = t.val | none => false))

/-- Add to CNTn; EVENT bit n is set when it wraps (R390). -/
def pmcAdd (s : State) (n k : Nat) : State :=
  let v := (s.counter .pmc (1 + n)).toNat + k
  let s' := s.setCounter .pmc (1 + n) (BitVec.ofNat 48 v)
  if 2 ^ 48 ≤ v then s'.event .pmc n else s'

/-- PMC counters that follow an increment of `k` of a fixed counter (R390).
An increment of a PMC CNT slot counts as zero. -/
def State.pmc (s : State) (p : Page) (slot k : Nat) (who : Option Thread) : State :=
  if s.en .pmc && !(p = .pmc && 1 ≤ slot && slot ≤ 16) then
    (List.range 16).foldl (fun s n => if pmcFollows s p slot who n then pmcAdd s n k else s) s
  else s

/-- Add `k` to a fixed counter (R373), attributed to a thread where one caused it. -/
def State.bump (s : State) (p : Page) (slot k : Nat) (who : Option Thread := none) : State :=
  (s.setCounter p slot (BitVec.ofNat 48 ((s.counter p slot).toNat + k))).pmc p slot k who

end Sys2Proof.Machine
end

