-- ==== Sys2Proof/Machine/Charge.lean ====
section
/-! DEFINITION. The Scale's accounts: weights, charges and reservations
(10_timing_energy.md R288 to R293).  Energies are in sixteenths of a pJ. -/

namespace Sys2Proof.Machine

open Sys2Proof

/-- What an unlisted weight reads as (R290). -/
def zero16 (_ : Nat) : BitVec 16 := 0

/-- The committed weight of a class at the level that is charged, in 1/16 pJ (R277, R290). -/
def State.weight (s : State) (cls : Nat) : Nat :=
  (getD zero16 s.scl.wCo (8 * cls + s.tmg.vlCharge.val)).toNat

/-- The overdraft limit in force (R292). -/
def State.ovd (s : State) : Int := (16 * (bits (s.comN .scl 0x60) 46 0) : Nat)

/-- The low-water and high-water marks in force (R292): 48-bit signed. -/
def State.lowat (s : State) : Int := 16 * signed 48 (s.comN .scl 0x70)
def State.hiwat (s : State) : Int := 16 * signed 48 (s.comN .scl 0x68)

/-- The least balance (R292). -/
def balMin : Int := -(16 * 2 ^ 47)

/-- The greatest balance after a grant (R291). -/
def balMax : Int := 16 * (2 ^ 47 - 1)

/-- Move the balance to `b`; EVENT.LOW and EVENT.OVR when it falls below a limit (R292, R295). -/
def State.setBal (s : State) (b : Int) : State :=
  let b' := if b < balMin then balMin else b
  let s1 := { s with scl := { s.scl with bal := b' } }
  let s2 := if s.lowat ≤ s.scl.bal ∧ b' < s.lowat then s1.event .scl 0 else s1
  if b < balMin ∨ (-s.ovd ≤ s.scl.bal ∧ b' < -s.ovd) then s2.event .scl 1 else s2

/-- Add to energy counter `i` of R385 (0 is E_TOTAL). -/
def State.addEnergy (s : State) (i : Fin 8) (amt : Nat) (who : Option Thread) : State :=
  let old := s.scl.e[i]
  let new := old + BitVec.ofNat 52 amt
  let s1 := { s with scl := { s.scl with e := vset s.scl.e i new } }
  s1.pmc .scl (1 + i.val) ((old.toNat + amt) / 16 - old.toNat / 16) who

/-- The category counter of a class: E_ARRAY to E_LEAK (R288; which is the model's free value, log 16). -/
def category (cls : Nat) : Fin 8 := (Config.scaleCategory cls).succ

/-- Count a charge in E_TOTAL and its category (R288). -/
def State.countEnergy (s : State) (cls amt : Nat) (who : Option Thread) : State :=
  (s.addEnergy 0 amt who).addEnergy (category cls) amt who

/-- Charge `n` units of a class against the balance (R288, R292).  Retention charges nothing (R279). -/
def State.charge (s : State) (cls n : Nat) (who : Option Thread := none) : State :=
  if s.tmg.ret.isSome then s
  else
    let amt := n * s.weight cls
    (s.setBal (s.scl.bal - amt)).countEnergy cls amt who

end Sys2Proof.Machine
end

