-- ==== Sys2Proof/Machine/Port.lean ====
section
/-! DEFINITION. Addresses of the core's own windows, and the request table
(07_local_store_caches.md R207; 08_ladle_noc_port.md R220, R221; 13_boundary_bringup.md R354). -/

namespace Sys2Proof.Machine

open Sys2Proof

/-- Window index n = 16 x cluster + core (R207). -/
def State.winIdx (s : State) : Nat := 16 * s.pos.cluster.toNat + s.pos.core.toNat

/-- Chip number of a global physical address (R4). -/
def chipOf (pa : Nat) : Nat := pa / 2 ^ 40

/-- Chip-local part of a global physical address (R4). -/
def localOf (pa : Nat) : Nat := pa % 2 ^ 40

/-- Own chip number as an address part. -/
def State.chipBase (s : State) : Nat := s.pos.chip.toNat * 2 ^ 40

/-- Base of the core's own shelf window (R207). -/
def State.shelfBase (s : State) : Nat := s.chipBase + 0xFE_0000_0000 + 0x80_0000 * s.winIdx

/-- Base of the core's own MMIO window (R354). -/
def State.mmioBase (s : State) : Nat := s.chipBase + 0xFA_0000_0000 + 0x1_0000 * s.winIdx

/-- Offset in the own shelf window, if the address lies there. -/
def State.shelfOff (s : State) (pa : Nat) : Option Nat :=
  if s.shelfBase ≤ pa ∧ pa < s.shelfBase + 0x80_0000 then some (pa - s.shelfBase) else none

/-- Offset in the own MMIO window, if the address lies there. -/
def State.mmioOff (s : State) (pa : Nat) : Option Nat :=
  if s.mmioBase ≤ pa ∧ pa < s.mmioBase + 0x1_0000 then some (pa - s.mmioBase) else none

/-- LST.SHELF_SIZE (R206). -/
def State.shelfSize (s : State) : Nat := 393216 * s.ls.ways

/-- Base of the own Crock window (R300). -/
def State.crockBase (s : State) : Nat := s.chipBase + 0xFB_0000_0000 + 0x100_0000 * s.winIdx

/-- Does an address lie in the own Crock window (R300)? -/
def State.inCrock (s : State) (pa : Nat) : Bool := s.crockBase ≤ pa && pa < s.crockBase + 0x100_0000

/-- The narrowest scope of the home of an address: 1 cluster, 2 chip, 3 system (R224, R239). -/
def State.homeScope (s : State) (pa : Nat) : Nat :=
  if chipOf pa ≠ s.pos.chip.toNat then 3
  else if 0xFE_0000_0000 ≤ localOf pa ∧ localOf pa < 0xFE_0000_0000 + 0x80_0000 * 768
    ∧ (localOf pa - 0xFE_0000_0000) / 0x80_0000 / 16 = s.pos.cluster.toNat then 1
  else 2

/-- Scopes by rank (R3). -/
def scopeRank (sc : Scope) : Nat :=
  match sc with
  | .core => 0 | .cluster => 1 | .chip => 2 | .system => 3

/-- The scope of a rank. -/
def scopeOf (n : Nat) : Scope :=
  match n with
  | 0 => .core | 1 => .cluster | 2 => .chip | _ => .system

/-- The lowest index from `i` on that no entry uses, within `fuel` indices (R220). -/
def freeFrom (rt : List (Nat × RtEntry)) (fuel i : Nat) : Option Nat :=
  match fuel with
  | 0 => none
  | f + 1 => if (lookup rt i).isNone then some i else freeFrom rt f (i + 1)

/-- The entry a request takes: a reserved kind searches from 0, others from 64 (R220). -/
def State.freeIdx (s : State) (reserved : Bool) : Option Nat :=
  if reserved then freeFrom s.noc.rt 2048 0 else freeFrom s.noc.rt 1984 64

/-- A request before it has left the port. -/
def newReq (kind : ReqKind) (src : Src) (typ addr size : Nat) : RtEntry where
  kind := kind
  src := src
  typ := typ
  addr := addr
  size := size
  op := 0
  data := []
  mask := []
  masked := false
  psn := 0
  dev := false
  after := none
  sent := false
  dead := false
  timer := 0
  held := 0
  susp := false
  quar := 0
  tmo := 0
  holdmax := 0

/-- Put a request into the table and the port's queue; none when no entry is free.  The reserved kinds of
R220 are scalar and tile demand fills, write-backs and cleans, uncached and device accesses, far atomics. -/
def State.request (s : State) (reserved : Bool) (e : RtEntry) : Option (State × Nat) :=
  match s.freeIdx reserved with
  | none => none
  | some i =>
    some ({ s with noc := { s.noc with rt := put s.noc.rt i e, queue := s.noc.queue ++ [i] } }, i)

/-- Is a request an access that a translation led to: no walk's read or update, no write-back of an evicted line, no
message; a warm request for a span clear alone (R256, R260)? -/
def ReqKind.translated (k : ReqKind) (clear : Bool) : Bool :=
  match k with
  | .fill _ _ _ _ => true
  | .warm _ _ => clear
  | .uncRead (.walk _) => false
  | .uncRead _ => true
  | .write => true
  | .writeBack evict _ => !evict
  | .atom _ => true
  | .walkAtom _ => false
  | .msgReady => false
  | .msgFatal => false
  | .xinv _ _ => false
  | .bcast _ _ => false

/-- The accesses of `x` include one that has just made requests: those in the queue of `s` that `old` had not join the ones
that the acknowledgment waits for until they leave the port (R256, R260). -/
def InFlight.join (x : InFlight) (old s : State) : InFlight :=
  { x with waitFor := x.waitFor ++ s.noc.queue.filter fun i =>
      !old.noc.queue.contains i && (lookup s.noc.rt i).any fun e => e.kind.translated x.clear }

/-- An access that was in flight for the acknowledgments of `hit` has led from `old` to `s`: what it has sent to the port's
queue is waited for too (R239, R256, R260). -/
def State.joined (s old : State) (hit : InFlight → Bool) : State :=
  { s with noc := { s.noc with
      xinvs := s.noc.xinvs.map fun x => if hit x.toInFlight then { x with toInFlight := x.toInFlight.join old s } else x
      clears := s.noc.clears.map fun x => if hit x.toInFlight then { x with toInFlight := x.toInFlight.join old s } else x } }

/-- What an unlisted generation reads as. -/
def zero3 (_ : Nat) : BitVec 3 := 0

/-- Generation of an entry (R221). -/
def State.genOf (s : State) (i : Nat) : BitVec 3 := getD zero3 s.noc.gens i

/-- Free an entry: its generation advances (R221). -/
def State.freeReq (s : State) (i : Nat) : State :=
  { s with noc := { s.noc with
      rt := drop s.noc.rt i
      gens := setD zero3 s.noc.gens i (s.genOf i + 1)
      queue := s.noc.queue.filter (· ≠ i) } }

/-- Replace an entry. -/
def State.setReq (s : State) (i : Nat) (e : RtEntry) : State :=
  { s with noc := { s.noc with rt := put s.noc.rt i e } }

/-- Is an entry one that a channel's MAXREQ counts: not a clean or write-back that its access causes (R220)? -/
def ReqKind.chanHeld (k : ReqKind) : Bool :=
  match k with
  | .writeBack _ _ => false
  | _ => true

/-! ## What the port drives (R223, R224) -/

/-- The 160 bits of a header (R224). -/
def Packet.header (p : Packet) : BitVec 160 :=
  BitVec.ofNat 160 (p.typ % 2 ^ 4 + p.tag.idx % 2 ^ 11 * 2 ^ 4 + p.tag.gen.toNat * 2 ^ 15 + p.schip.toNat * 2 ^ 18
    + p.sclu.toNat * 2 ^ 36 + p.score.toNat * 2 ^ 42 + p.addr % 2 ^ 58 * 2 ^ 46 + p.size % 2 ^ 3 * 2 ^ 104
    + p.op % 2 ^ 4 * 2 ^ 107 + p.psn % 2 ^ 2 * 2 ^ 111 + p.sts % 2 ^ 3 * 2 ^ 113 + p.sc % 2 ^ 2 * 2 ^ 116
    + b2n p.masked * 2 ^ 118 + p.mkind % 2 ^ 6 * 2 ^ 119)

/-- One clock of the port: what its two lanes carry, each with its check symbols above it. -/
structure PortClock where
  header : Option (BitVec 224)
  data : Option (BitVec 576)
  deriving DecidableEq, Repr

/-- A header lane with its check symbols. -/
def headerLane (h : BitVec 160) : BitVec 224 := Config.headerCheck h ++ h

/-- A data flit with its check symbols. -/
def dataLane (d : List Byte) : BitVec 576 :=
  let x : BitVec 512 := BitVec.ofNat 512 (ofBytes d)
  Config.dataCheck x ++ x

/-- The byte mask of a flit in a header lane: bit i for byte i, bits [159:64] zero. -/
def maskLane (m : List Bool) : BitVec 160 := BitVec.ofNat 160 (m.foldr (fun b a => b2n b + 2 * a) 0)

/-- The 64 B flits of a packet. -/
def Packet.flits (p : Packet) : List (List Byte) := pieces 64 (p.data.length / 64) p.data

/-- The clocks in which a packet leaves: a whole write's header goes with flit 0, a masked write's alone, and each of
its flits with that flit's mask (R223). -/
def Packet.clocks (p : Packet) : List PortClock :=
  if p.masked then
    { header := some (headerLane p.header), data := none }
      :: (p.flits.zip (pieces 64 (p.data.length / 64) p.mask)).map fun x =>
        { header := some (headerLane (maskLane x.2)), data := some (dataLane x.1) }
  else
    match p.flits with
    | [] => [{ header := some (headerLane p.header), data := none }]
    | d :: r => { header := some (headerLane p.header), data := some (dataLane d) }
        :: r.map fun x => { header := none, data := some (dataLane x) }

/-- Entries a channel holds (R220). -/
def State.chanReqs (s : State) (c : Fin 4) : Nat :=
  (s.noc.rt.filter fun e => e.2.src = .chan c && e.2.kind.chanHeld).length

end Sys2Proof.Machine
end

