-- ==== Sys2Proof/Machine/Ras.lean ====
section
/-! DEFINITION. Error records, machine checks and fatal conditions
(12_live_service_modes.md R345; 14_register_pages.md R372, R389; 07_local_store_caches.md R218). -/

namespace Sys2Proof.Machine

open Sys2Proof

/-- Make an error record on a page (R372): the first one while EVENT reads zero is captured, a fatal one
overwrites one that is not; counted either way, for the thread that caused it where one did (R390).  A write that leaves
EVENT zero opens the capture again. -/
def State.record (s : State) (p : Page) (addr info : Nat) (fatal : Bool) (who : Option Thread := none) : State :=
  let f := s.frame p
  let f' := if (f.event = 0 ∧ !f.held) ∨ (fatal ∧ !f.errFatal) then
      { f with errAddr := BitVec.ofNat 64 addr, errInfo := BitVec.ofNat 64 info, errFatal := fatal, held := true }
    else f
  (s.setFrame p f').bump p 0 1 who

/-- Raise an asynchronous machine check of a page (R389). -/
def State.mcheck (s : State) (p : Page) (who : Option Thread := none) : State :=
  let s1 := { s with
    ras := { s.ras with mcPages := setBit s.ras.mcPages (pageNo p).val true }
    irq := { s.irq with mcLatch := true } }
  s1.bump .ras 2 1 who

/-- The position packed at the bit positions of a header (R224, R345). -/
def State.posPacked (s : State) : Nat :=
  s.pos.chip.toNat * 2 ^ 18 + s.pos.cluster.toNat * 2 ^ 36 + s.pos.core.toNat * 2 ^ 42

/-- Address of the chip's error controller and of its host interface (R226). -/
def State.errCtl (s : State) : Nat := s.chipBase + 0xFF_F000_1000
def State.hostIf (s : State) : Nat := s.chipBase + 0xFF_F000_0000

/-- Message kinds (R225). -/
def kindFatal : Nat := 3
def kindReady : Nat := 4

/-- A MSG request (R225): the message kind stands in `op` until the header is made. -/
def msgReq (kind : ReqKind) (addr mkind : Nat) (payload : List Byte) : RtEntry :=
  { newReq kind .msg 3 addr 4 with data := fitList 64 0 payload, op := mkind }

/-- Put the fatal report into the table, when it is not there (R345). -/
def State.queueFatal (s : State) : State :=
  match s.noc.fatal with
  | none => s
  | some r =>
    match r.entry with
    | some _ => s
    | none =>
      match s.request false (msgReq .msgFatal s.errCtl kindFatal r.payload) with
      | none => s
      | some (s', i) => { s' with noc := { s'.noc with fatal := some { r with entry := some i, failed := false } } }

/-- Put the ready report into the table, when it is not there (R362). -/
def State.queueReady (s : State) : State :=
  match s.noc.ready with
  | none => s
  | some r =>
    match r.entry with
    | some _ => s
    | none =>
      match s.request false (msgReq .msgReady s.hostIf kindReady r.payload) with
      | none => s
      | some (s', i) => { s' with noc := { s'.noc with ready := some { r with entry := some i, failed := false } } }

/-- The fatal report's payload (R345). -/
def State.fatalPayload (s : State) (reason : Nat) (p : Page) : List Byte :=
  bytesOf 8 s.posPacked ++ bytesOf 8 (reason + 256 * (pageNo p).val)
    ++ bytesOf 8 (s.frame p).errAddr.toNat ++ bytesOf 8 (s.frame p).errInfo.toNat
    ++ bytesOf 8 s.tmg.time

/-- A fatal condition escalates (R345); a later one only counts. -/
def State.fatalCond (s : State) (reason : Nat) (p : Page) (who : Option Thread := none) : State :=
  let s0 := s.bump .ras 1 1 who
  if s.ras.fatal then s0
  else
    let s1 := { s0 with ras := { s0.ras with
      fatal := true, reason := BitVec.ofNat 8 reason, page := BitVec.ofNat 4 (pageNo p).val } }
    let s2 := s1.mcheck p who
    let r : Report := { payload := s2.fatalPayload reason p, entry := none, sentAt := s2.tmg.time, failed := false }
    ({ s2 with noc := { s2.noc with fatal := some r } }).queueFatal

/-- SRC of R218. -/
def Src.code (x : Src) : Nat :=
  match x with
  | .thread t => t.val
  | .tileMem _ => 4
  | .chan c => 5 + c.val
  | .noc => 9
  | .scrub => 10
  | .sweep => 11
  | .maint _ => 12
  | .msg => 13
  | .walker id => (Config.abandonedWalkSrc id).toNat

/-- The thread a requester is, for counter attribution (R390). -/
def Src.thread? (x : Src) : Option Thread :=
  match x with
  | .thread t => some t
  | .tileMem t => t
  | .maint t => some t
  | _ => none

/-- ERR_INFO of the LST page (R218). -/
def lstInfo (kind way half nsym : Nat) (fatal : Bool) (src : Nat) : Nat :=
  kind + way * 2 ^ 8 + half * 2 ^ 12 + nsym * 2 ^ 13 + b2n fatal * 2 ^ 15 + src * 2 ^ 16

/-- The counter slot of a kind of R218 (R382): CE, L1P, UEC, UES, REF. -/
def lstSlot (kind : Nat) : Option Nat :=
  match kind with
  | 1 => some 2 | 2 => some 1 | 3 => some 3 | 4 => some 4 | 6 => some 4 | 10 => some 5 | _ => none

/-- The EVENT bit a kind sets (R219); CE is set by its counter. -/
def lstEvent (kind : Nat) : Option Nat :=
  match kind with
  | 1 => some 3 | 3 => some 1 | 4 => some 2 | 6 => some 2 | 10 => some 5 | _ => none

/-- The fatal reason of a kind (R345). -/
def lstFatal (kind : Nat) : Option Nat :=
  match kind with
  | 5 => some 1 | 7 => some 2 | 8 => some 3 | _ => none

/-- EVENT.CE each time the corrected-error counter reaches a multiple of 2^CE_THR (R219). -/
def State.ceEvent (s : State) : State :=
  if (s.counter .lst 1).toNat % 2 ^ bits (s.comN .lst 0x40) 11 8 = 0 then s.event .lst 0 else s

/-- Record a data-path error of R216 with everything that its kind brings: counter, event, machine
check (kinds 4, 6, 0x0A with `mc`) or fatal escalation (kinds 5, 7, 8). -/
def State.lstError (s : State) (kind addr way half nsym : Nat) (src : Src) (mc : Bool) : State :=
  let fatal := (lstFatal kind).isSome
  let s1 := s.record .lst addr (lstInfo kind way half nsym fatal src.code) fatal src.thread?
  let s2 := match lstSlot kind with
    | some k => s1.bump .lst k 1 src.thread?
    | none => s1
  let s3 := if kind = 2 then s2.ceEvent else s2
  let s4 := match lstEvent kind with
    | some b => s3.event .lst b
    | none => s3
  let s5 := if mc then s4.mcheck .lst src.thread? else s4
  match lstFatal kind with
  | some r => s5.fatalCond r .lst src.thread?
  | none => s5

/-- Record an error of the LDL page (R229): KIND and SRC; it raises a machine check. -/
def State.ldlError (s : State) (kind addr : Nat) (src : Src) : State :=
  (s.record .ldl addr (kind + 256 * src.code) false src.thread?).mcheck .ldl src.thread?

end Sys2Proof.Machine
end

