-- ==== Sys2Proof/Machine/LStore.lean ====
section
/-! DEFINITION. L1D, local store, side buffer and shelf (07_local_store_caches.md R195 to R216). -/

namespace Sys2Proof.Machine

open Sys2Proof

/-- Charge a local-store access: the estimate of a TLD or TST holds its own (R293). -/
def State.lsCharge (s : State) (cls : Nat) (src : Src) : State :=
  match src with
  | .tileMem _ => s
  | _ => s.charge cls 1 src.thread?

/-! ## L1D (R196 to R198) -/

/-- The L1D set of a 64 B block: bits [12:6] of the address (R197). -/
def l1Set (blk : Nat) : Nat := blk % 128

/-- The way of an L1D set that holds a block. -/
def State.l1Way (s : State) (blk : Nat) : Option Nat :=
  (List.range 4).find? fun w =>
    match lookup s.ls.l1 (4 * l1Set blk + w) with
    | some l => l.blk = blk
    | none => false

/-- Recency order of a set, most recent first. -/
def State.l1Order (s : State) (set : Nat) : List Nat := (lookup s.ls.l1lru set).getD []

/-- Mark a way most recently used. -/
def State.l1Touch (s : State) (set w : Nat) : State :=
  { s with ls := { s.ls with l1lru := put s.ls.l1lru set (w :: (s.l1Order set).filter (· ≠ w)) } }

/-- Invalidate one L1D block. -/
def State.l1Drop (s : State) (blk : Nat) : State :=
  match s.l1Way blk with
  | none => s
  | some w => { s with ls := { s.ls with l1 := drop s.ls.l1 (4 * l1Set blk + w) } }

/-- Invalidate both L1D blocks of a 128 B line (R196). -/
def State.l1DropLine (s : State) (line : Nat) : State := (s.l1Drop (2 * line)).l1Drop (2 * line + 1)

/-- Look up a block for a load: its data, or none on a miss or a parity error (R197, R198). -/
def State.l1Read (s : State) (blk : Nat) (src : Src) : State × Option (List Byte) :=
  let s0 := s.charge 0x11 1 src.thread?
  match s0.l1Way blk with
  | none => (s0, none)
  | some w =>
    match lookup s0.ls.l1 (4 * l1Set blk + w) with
    | none => (s0, none)
    | some l =>
      if l.bad then ((s0.l1Drop blk).lstError 1 (64 * blk) w (blk % 2) 0 src false, none)
      else (s0.l1Touch (l1Set blk) w, some l.data)

/-- The way that takes a block: its own where it is there already, else the lowest invalid way, else the least recently
used (R197). -/
def State.l1Place (s : State) (blk : Nat) : Nat :=
  match s.l1Way blk with
  | some w => w
  | none =>
    match (List.range 4).find? fun w => (lookup s.ls.l1 (4 * l1Set blk + w)).isNone with
    | some w => w
    | none => (s.l1Order (l1Set blk)).getLast?.getD 0

/-- Allocate a block (R197). -/
def State.l1Fill (s : State) (blk : Nat) (data : List Byte) : State :=
  let set := l1Set blk
  let w := s.l1Place blk
  ({ s with ls := { s.ls with
      l1 := put s.ls.l1 (4 * set + w) { blk := blk, data := data, bad := false } } }).l1Touch set w

/-- A leaving store updates a present line and allocates nothing (R167); it is no use for the line's recency (log 117). -/
def State.l1Update (s : State) (pa : Nat) (bytes : List Byte) : State :=
  match s.l1Way (pa / 64) with
  | none => s
  | some w =>
    match lookup s.ls.l1 (4 * l1Set (pa / 64) + w) with
    | none => s
    | some l =>
      let l' := { l with data := l.data.take (pa % 64) ++ bytes ++ l.data.drop (pa % 64 + bytes.length) }
      { s with ls := { s.ls with l1 := put s.ls.l1 (4 * l1Set (pa / 64) + w) l' } }

/-! ## Shelf (R206 to R209, R214 to R216) -/

/-- What an unlisted shelf byte reads as: the shelf is zeroed by a cold reset (R213). -/
def zero8 (_ : Nat) : Byte := 0

/-- Way of a shelf offset (R206). -/
def shelfWay (o : Nat) : Nat := 15 - o / 393216

/-- Read check of one shelf block: up to 2 symbols corrected in place, else poisoned in place (R216). -/
def State.shelfCheck (s : State) (src : Src) (b : Nat) : State :=
  match lookup s.ls.shelfErrs b with
  | none => s
  | some k =>
    let s1 := { s with ls := { s.ls with shelfErrs := drop s.ls.shelfErrs b } }
    if k ≤ 2 then s1.lstError 2 (s.shelfBase + 64 * b) (shelfWay (64 * b)) (b % 2) k src false
    else ({ s1 with ls := { s1.ls with shelfPois := insertNat s1.ls.shelfPois b } }).lstError 6
      (s.shelfBase + 64 * b) (shelfWay (64 * b)) (b % 2) 0 src true

/-- The 64 B blocks that `n` bytes at `o` touch. -/
def blocksOf (o n : Nat) : List Nat :=
  if n = 0 then [] else (List.range ((o + n - 1) / 64 - o / 64 + 1)).map (o / 64 + ·)

/-- Is a shelf block poisoned? -/
def State.shelfBad (s : State) (b : Nat) : Bool := s.ls.shelfPois.contains b

/-- Shelf bytes as they stand. -/
def State.shelfBytes (s : State) (o n : Nat) : List Byte := getN zero8 s.ls.shelf o n

/-- Read shelf bytes with the check of every block: state, bytes, and whether one is poisoned. -/
def State.shelfRead (s : State) (src : Src) (o n : Nat) : State × List Byte × Bool :=
  let s1 := (blocksOf o n).foldl (fun s b => s.shelfCheck src b) s
  (s1, s1.shelfBytes o n, (blocksOf o n).any s1.shelfBad)

/-- Prepare a block for a write: a whole write clears mark and errors, a partial one decodes first (R214, R215). -/
def State.shelfPrep (s : State) (src : Src) (o : Nat) (ms : List (Byte × Bool)) (b : Nat) : State :=
  if o ≤ 64 * b ∧ 64 * b + 64 ≤ o + ms.length ∧ ((ms.drop (64 * b - o)).take 64).all (·.2) then
    { s with ls := { s.ls with
        shelfErrs := drop s.ls.shelfErrs b
        shelfPois := s.ls.shelfPois.filter (· ≠ b) } }
  else s.shelfCheck src b

/-- Merge masked bytes into the shelf. -/
def State.shelfMerge (s : State) (src : Src) (o : Nat) (ms : List (Byte × Bool)) : State :=
  let s1 := (blocksOf o ms.length).foldl (fun s b => s.shelfPrep src o ms b) s
  { s1 with ls := { s1.ls with shelf := setMasked zero8 s1.ls.shelf o ms } }

/-- Invalidate the L1D copies of the shelf blocks that a range touches (R196). -/
def State.shelfL1Drop (s : State) (o n : Nat) : State :=
  (blocksOf o n).foldl (fun s b => s.l1Drop (s.shelfBase / 64 + b)) s

/-- Write masked bytes into the shelf; L1D copies of the blocks are invalidated (R196). -/
def State.shelfWriteM (s : State) (src : Src) (o : Nat) (ms : List (Byte × Bool)) : State :=
  (s.shelfMerge src o ms).shelfL1Drop o ms.length

/-- Write bytes into the shelf. -/
def State.shelfWrite (s : State) (src : Src) (o : Nat) (bytes : List Byte) : State :=
  s.shelfWriteM src o (bytes.map fun b => (b, true))

/-- Poison the shelf blocks that a range touches. -/
def State.shelfPoison (s : State) (o n : Nat) : State :=
  { s with ls := { s.ls with shelfPois := (blocksOf o n).foldl insertNat s.ls.shelfPois } }

/-- Record an access outside the configured shelf (kind 0x0A of R207, R208), with WAY 0 (log 101), at the offset that the
access gives (log 121). -/
def State.shelfRefused (s : State) (o : Nat) (src : Src) (mc : Bool) : State :=
  s.lstError 10 (s.shelfBase + o) 0 (o / 64 % 2) 0 src mc

/-! ## The store buffer before a thread's own later accesses (R167, R240, log 83) -/

/-- The store-buffer byte at a physical address, from the youngest entry that holds it (R167). -/
def State.sbByte (s : State) (a : Nat) : Option Byte :=
  s.ls.sb.reverse.findSome? fun e => if e.pa ≤ a then e.bytes[a - e.pa]? else none

/-- Does the store buffer hold an entry of the thread? -/
def State.sbHas (s : State) (t : Thread) : Bool := s.ls.sb.any fun e => e.thr = t

/-- Does a store-buffer entry of the thread hold a byte of [a, a + n)? -/
def State.sbHolds (s : State) (t : Thread) (a n : Nat) : Bool :=
  s.ls.sb.any fun e => e.thr = t && e.pa < a + n && a < e.pa + e.bytes.length

/-- Shelf bytes `bs` at offset `o`, each as the youngest store-buffer entry that holds it has it. -/
def State.sbSeen (s : State) (o : Nat) (bs : List Byte) : List Byte :=
  (List.range bs.length).zipWith (fun i b => (s.sbByte (s.shelfBase + o + i)).getD b) bs

/-- The bytes of a store-buffer entry where a later write of `bs` at `pa` has replaced them. -/
def SbEntry.patch (e : SbEntry) (pa : Nat) (bs : List Byte) : SbEntry :=
  { e with bytes := (List.range e.bytes.length).zipWith (fun i b =>
      if pa ≤ e.pa + i then (bs[e.pa + i - pa]?).getD b else b) e.bytes }

/-- A thread's write of shelf bytes follows its own stores that have not left the store buffer. -/
def State.sbWritten (s : State) (t : Thread) (o : Nat) (bs : List Byte) : State :=
  { s with ls := { s.ls with
      sb := s.ls.sb.map fun e => if e.thr = t then e.patch (s.shelfBase + o) bs else e } }

/-- A write of the shelf that belongs to a thread (R240). -/
def State.shelfWriteBy (s : State) (t : Thread) (o : Nat) (bs : List Byte) : State :=
  (s.shelfWrite (.thread t) o bs).sbWritten t o bs

/-! ## Local store (R199 to R203) -/

/-- Line number of an address (R199). -/
def lineOf (pa : Nat) : Nat := pa / 128

/-- The line-replacement entry of way `w`, 0 to 3, that sends a set to the spare line of its number: a committed entry with
V = 1 and that SET (R335, R338). -/
def State.spareFor (s : State) (set w : Nat) : Option Nat :=
  (List.range 4).find? fun e =>
    let x := getD zero16 s.rpr.lrepCo (4 * w + e)
    wbit x 15 && wbits x 11 0 = set

/-- Where the line of a set and way lies: in the way's array, or in one of the way's four spare lines (R338). -/
def State.cell (s : State) (set w : Nat) : Nat :=
  match s.spareFor set w with
  | some e => 49152 + 4 * w + e
  | none => 16 * set + w

/-- The way that a place belongs to. -/
def cellWay (k : Nat) : Nat := if k < 49152 then k % 16 else (k - 49152) / 4

/-- Place of a line in a way. -/
def State.lsKey (s : State) (line w : Nat) : Nat := s.cell (line % 3072) w

/-- The way that holds a line. -/
def State.lsWay (s : State) (line : Nat) : Option Nat :=
  (List.range 16).find? fun w =>
    match lookup s.ls.lines (s.lsKey line w) with
    | some l => l.line = line
    | none => false

/-- Pseudo-LRU nodes of a set: reset 0 (R200). -/
def zero15 (_ : Nat) : BitVec 15 := 0

/-- Point every node on the path to way `w` away from it (R200). -/
def plruTouch (fuel node lo size w : Nat) (n : BitVec 15) : BitVec 15 :=
  match fuel with
  | 0 => n
  | f + 1 =>
    let half := size / 2
    if w < lo + half then plruTouch f (2 * node + 1) lo half w (setBit n node true)
    else plruTouch f (2 * node + 2) (lo + half) half w (setBit n node false)

/-- The victim search of R200 over eligible ways. -/
def plruVictim (fuel node lo size : Nat) (ok : Nat → Bool) (n : BitVec 15) : Nat :=
  match fuel with
  | 0 => lo
  | f + 1 =>
    let half := size / 2
    let left := (List.range half).any fun i => ok (lo + i)
    let right := (List.range half).any fun i => ok (lo + half + i)
    if (wbit n node && right) || !left then plruVictim f (2 * node + 2) (lo + half) half ok n
    else plruVictim f (2 * node + 1) lo half ok n

/-- Mark a way of a line's set used. -/
def State.lsTouch (s : State) (line w : Nat) : State :=
  let set := line % 3072
  { s with ls := { s.ls with
      plru := setD zero15 s.ls.plru set (plruTouch 4 0 0 16 w (getD zero15 s.ls.plru set)) } }

/-- Is a way enabled by the repair map in force (R335)? -/
def State.wayEnabled (s : State) (w : Nat) : Bool := wbit (s.com .rpr 0x50) w

/-- Is a way a shelf way (R206)? -/
def State.shelfWayQ (s : State) (w : Nat) : Bool := 16 ≤ w + s.ls.ways

/-- Does a growth sweep keep this way from taking allocations: one of the new shelf ways, swept or in turn (R209)? -/
def State.growing (s : State) (w : Nat) : Bool :=
  match s.ls.growth with
  | none => false
  | some (n, next, _) => next ≤ w && 16 ≤ w + n && w + s.ls.ways < 16

/-- Is a way of a line's set reserved for a fill in flight (R203)? -/
def State.wayReserved (s : State) (line w : Nat) : Bool :=
  s.noc.rt.any fun e =>
    match e.2.kind with
    | .fill l (some v) _ _ => !e.2.dead && v = w && l % 3072 = line % 3072
    | _ => false

/-- May this way take the line (R200)? -/
def State.wayOk (s : State) (line w : Nat) : Bool :=
  s.wayEnabled w && !s.shelfWayQ w && !s.growing w && !s.wayReserved line w

/-- Remove a line and its L1D copies (R196). -/
def State.lsDrop (s : State) (line w : Nat) : State :=
  ({ s with ls := { s.ls with lines := drop s.ls.lines (s.lsKey line w) } }).l1DropLine line

/-- Replace a line's entry. -/
def State.lsPut (s : State) (line w : Nat) (l : LsLine) : State :=
  { s with ls := { s.ls with lines := put s.ls.lines (s.lsKey line w) l } }

/-- The check of one codeword of a line on a read (R216); `h` is the half.  The Bool answers whether
the line was clean and uncorrectable, and so is gone. -/
def State.lsHalf (s : State) (line w : Nat) (src : Src) (h : Nat) : State × Bool :=
  match lookup s.ls.lines (s.lsKey line w) with
  | none => (s, false)
  | some l =>
    let k := if h = 0 then l.errs.1 else l.errs.2
    let clear := if h = 0 then (0, l.errs.2) else (l.errs.1, 0)
    let addr := 128 * line + 64 * h
    if k = 0 then (s, false)
    else if k ≤ 2 then ((s.lsPut line w { l with errs := clear }).lstError 2 addr w h k src false, false)
    else if l.dirty then
      ((s.lsPut line w { l with errs := clear, pois := setBit l.pois h true }).lstError 5 addr w h 0 src false, false)
    else ((s.lsDrop line w).lstError 3 addr w h 0 src false, true)

/-- The check of a line's tag and state bits (R216); where they are uncorrectable the line is taken as gone (log 8).  The
record of a whole line names its lower codeword (log 122). -/
def State.lsTag (s : State) (line w : Nat) (src : Src) : State :=
  match lookup s.ls.lines (s.lsKey line w) with
  | none => s
  | some l =>
    if l.tagErr = 2 then (s.lsDrop line w).lstError 7 (128 * line) w 0 0 src false
    else if l.tagErr = 1 then (s.lsPut line w { l with tagErr := 0 }).lstError 2 (128 * line) w 0 0 src false
    else s

/-- The checks on a read of a line: tag and state bits, then both codewords (R216). -/
def State.lsCheck (s : State) (line w : Nat) (src : Src) : State × Bool :=
  let (s1, g) := (s.lsTag line w src).lsHalf line w src 0
  if g then (s1, true) else s1.lsHalf line w src 1

/-- Is the write of an evicted line still to leave (R203, R213)? -/
def State.evicting (s : State) (line : Nat) : Bool :=
  s.noc.rt.any fun e => (match e.2.kind with | .writeBack _ _ => true | _ => false) && e.2.addr = 128 * line && !e.2.sent

/-- A write of a whole line to memory (R203, R223). -/
def lineWrite (line w : Nat) (l : LsLine) (src : Src) (evict : Bool) : RtEntry :=
  { newReq (.writeBack evict w) src 1 (128 * line) 5 with
    data := l.data, mask := List.replicate 128 true, psn := l.pois.toNat }

/-- Send a dirty line to memory and mark it clean; none when no table entry is free (R201, R212).  The data of a clean
line are not read, so only its tag is checked. -/
def State.lsClean (s : State) (line w : Nat) (src : Src) (evict : Bool := false) : Option (State × Option Nat) :=
  let s0 := s.lsTag line w src
  if (lookup s0.ls.lines (s0.lsKey line w)).any (·.dirty) then
    let s1 := (s0.lsCheck line w src).1
    match lookup s1.ls.lines (s1.lsKey line w) with
    | none => some (s1, none)
    | some l =>
      match s1.request true (lineWrite line w l src evict) with
      | none => none
      | some (s2, i) =>
        some (((s2.lsPut line w { l with dirty := false }).bump .lst 7 1 src.thread?).charge 0x12 1 src.thread?, some i)
  else some (s0, none)

/-- Make room for a line: a way, and the write-back that must leave first (R200, R203).
None when every way is reserved or no table entry is free. -/
def State.lsRoom (s : State) (line : Nat) (src : Src) : Option (State × Nat × Option Nat) :=
  let ok := s.wayOk line
  match (List.range 16).find? fun w => ok w && (lookup s.ls.lines (s.lsKey line w)).isNone with
  | some w => some (s, w, none)
  | none =>
    if !(List.range 16).any ok then none
    else
      let w := plruVictim 4 0 0 16 ok (getD zero15 s.ls.plru (line % 3072))
      match lookup s.ls.lines (s.lsKey line w) with
      | none => some (s, w, none)
      | some v =>
        match s.lsClean v.line w src true with
        | none => none
        | some (s1, i) => some (s1.lsDrop v.line w, w, i)

/-- Put a line into a way (R199), used by fills; `src` demanded it. -/
def State.lsInstall (s : State) (line w : Nat) (data : List Byte) (pois : BitVec 2) (errs : Nat × Nat) (src : Src) : State :=
  ((s.lsPut line w { line := line, dirty := false, data := data, pois := pois, errs := errs, tagErr := 0 }).lsTouch
    line w).charge 0x13 1 src.thread?

/-! ## Side buffer (R210) -/

/-- The side-buffer entry of a line that is not to be discarded. -/
def State.sideOf (s : State) (line : Nat) : Option SideLine :=
  s.ls.side.find? fun e => e.line = line && !e.drop

/-- Remove side-buffer entries of a line. -/
def State.sideRemove (s : State) (line : Nat) : State :=
  { s with ls := { s.ls with side := s.ls.side.filter fun e => !(e.line = line && !e.drop) } }

/-- A write to a line, or maintenance by address: the entry is invalidated, a fill in flight is
discarded when it arrives; counted as evicted unused (R210). -/
def State.sideKill (s : State) (line : Nat) (src : Src) : State :=
  match s.sideOf line with
  | none => s
  | some e =>
    let side := match e.data with
      | some _ => s.ls.side.filter fun x => !(x.line = line && !x.drop)
      | none => s.ls.side.map fun x => if x.line = line then { x with drop := true } else x
    ({ s with ls := { s.ls with side := side } }).bump .ldl 5 1 src.thread?

/-! ## Demand reads -/

/-- How a demand for a line ends. -/
inductive Fetch where
  | data (d : List Byte) (pois : BitVec 2)
  /-- The line is being filled; the taker gets it. -/
  | asked
  /-- No way, no table entry, or the old line's write still leaves: try again. -/
  | full
  deriving DecidableEq, Repr

/-- The table entry that fills a line, if one is in flight. -/
def State.fillOf (s : State) (line : Nat) : Option (Nat × RtEntry) :=
  s.noc.rt.find? fun e =>
    match e.2.kind with
    | .fill l _ _ _ => l = line && !e.2.dead
    | _ => false

/-- The table entry of a warm request for a line. -/
def State.warmOf (s : State) (line : Nat) : Option (Nat × RtEntry) :=
  s.noc.rt.find? fun e =>
    match e.2.kind with
    | .warm l _ => l = line && !e.2.dead
    | _ => false

/-- Add a taker to a fill. -/
def addTaker (e : RtEntry) (k : Taker) : RtEntry :=
  match e.kind with
  | .fill l w a ks => { e with kind := .fill l w a (if ks.contains k then ks else ks ++ [k]) }
  | _ => e

/-- Is the requester one of the reserved kinds of R220 for fills: scalar and tile demand? -/
def Src.demand (x : Src) : Bool :=
  match x with
  | .chan _ => false
  | _ => true

/-- A new fill request for a line (R200, R203, R220). -/
def State.newFill (s : State) (line : Nat) (src : Src) (k : Taker) (again : Bool) : State × Fetch :=
  match s.lsRoom line src with
  | none => (s, .full)
  | some (s1, w, after) =>
    match s1.request src.demand { newReq (.fill line (some w) again [k]) src 0 (128 * line) 5 with after := after } with
    | none => (s1, .full)
    | some (s2, _) => (s2, .asked)

/-- Record the codewords of a block's or line's halves that were corrected in flight (R216). -/
def State.corrected (s : State) (addr way : Nat) (errs : Nat × Nat) (src : Src) : State :=
  let fixed := fun (k : Nat) => 1 ≤ k && k ≤ 2
  let s1 := if fixed errs.1 then s.lstError 2 addr way (addr / 64 % 2) errs.1 src false else s
  if fixed errs.2 then s1.lstError 2 (addr + 64) way 1 errs.2 src false else s1

/-- A demand that misses the local store (R195, R210). -/
def State.lsMiss (s : State) (line : Nat) (src : Src) (k : Taker) (again : Bool) : State × Fetch :=
  match s.fillOf line with
  | some (i, e) => (s.setReq i (addTaker e k), .asked)
  | none =>
    match s.sideOf line with
    | some e =>
      match e.data with
      | some (d, p) =>
        if 3 ≤ e.errs.1 ∨ 3 ≤ e.errs.2 then
          let h := if 3 ≤ e.errs.1 then 0 else 1
          (((s.sideRemove line).bump .ldl 5 1 src.thread?).lstError 9 (128 * line + 64 * h) 0 h 0 src false).newFill line
            src k again
        else
          match s.lsRoom line src with
          | none => (s, .full)
          | some (s1, w, _) =>
            ((((s1.sideRemove line).corrected (128 * line) w e.errs src).lsInstall line w d p (0, 0) src).bump .ldl 4 1
              src.thread?, .data d p)
      | none =>
        match s.warmOf line with
        | some (i, r) =>
          (((s.sideRemove line).setReq i { r with kind := .fill line none again [k], src := src }).bump .ldl 6 1
            src.thread?, .asked)
        | none => s.newFill line src k again
    | none => s.newFill line src k again

/-- A demand that misses, with the local-store miss counted once it is served (R382). -/
def State.lsMissed (s : State) (line : Nat) (src : Src) (k : Taker) (again : Bool) : State × Fetch :=
  let r := s.lsMiss line src k again
  if r.2 = .full then r else (r.1.bump .lst 8 1 src.thread?, r.2)

/-- Demand a 128 B line of a cacheable page; `rd` charges the read of a line that is present (R195, R200, R216, R289). -/
def State.lsDemand (s : State) (line : Nat) (src : Src) (k : Taker) (rd : Bool := false) : State × Fetch :=
  if s.evicting line ∧ (s.lsWay line).isNone then (s, .full)
  else
    match s.lsWay line with
    | none => s.lsMissed line src k false
    | some w =>
      let (s1, gone) := s.lsCheck line w src
      match lookup s1.ls.lines (s1.lsKey line w) with
      | some l =>
        let s2 := s1.lsTouch line w
        (if rd then s2.lsCharge 0x12 src else s2, .data l.data l.pois)
      | none => s1.lsMissed line src k gone

/-- A demand read of a line. -/
def State.lsRead (s : State) (line : Nat) (src : Src) (k : Taker) : State × Fetch := s.lsDemand line src k true

end Sys2Proof.Machine
end

