-- ==== Sys2Proof/Machine/Flags.lean ====
section
/-! DEFINITION. Scalar rounding, fitting and overflow (05_threads_volis14.md R134, R136, R137) and the
draw function (02_stockpot_drain.md R72). -/

namespace Sys2Proof.Machine

open Sys2Proof

/-- draw(seed, row, col, pos) of R72: 24 bits. -/
def draw (seed : Word) (row col pos : Nat) : Nat :=
  let x0 : Word := seed + BitVec.ofNat 64 pos * 0x9E3779B97F4A7C15
    + BitVec.ofNat 64 (row * 32 + col) * 0xD1B54A32D192ED03
  let x1 : Word := (x0 ^^^ (x0 >>> 30)) * 0xBF58476D1CE4E5B9
  let x2 : Word := (x1 ^^^ (x1 >>> 27)) * 0x94D049BB133111EB
  let x3 : Word := x2 ^^^ (x2 >>> 31)
  wbits x3 63 40

/-- The five rounding modes of MODE.RND, in code order (R131); a TSB may restore a code that is not allowed. -/
inductive Rnd where
  | rne | rtz | up | odd | stoch | reserved
  deriving DecidableEq, Repr

/-- RND code to mode. -/
def Rnd.ofCode (c : Nat) : Rnd :=
  match c with
  | 0 => .rne | 1 => .rtz | 2 => .up | 3 => .odd | 4 => .stoch | _ => .reserved

/-- num / 2^k rounded to an integer (R136); `u` is the draw. -/
def rndPow2 (m : Rnd) (u : Nat) (num : Int) (k : Nat) : Int :=
  let d : Int := (2 : Int) ^ k
  let f := num / d
  let r := num % d
  if r = 0 then f else
  match m with
  | .rne => if 2 * r < d then f else if d < 2 * r then f + 1 else if f % 2 = 0 then f else f + 1
  | .rtz => if num < 0 then f + 1 else f
  | .up => f + 1
  | .odd =>
    let z := if num < 0 then f + 1 else f
    if z % 2 = 0 then (if num < 0 then z - 1 else z + 1) else z
  | .stoch => (num * 2 ^ 24 / d + u) / 2 ^ 24
  | .reserved => Config.roundReserved num k

/-- Does rounding num / 2^k change the value? -/
def rndInexact (num : Int) (k : Nat) : Bool := num % (2 : Int) ^ k ≠ 0

/-- fit to the signed range of `n` bits: the value and whether it had to be substituted (R136). -/
def fitS (n : Nat) (sat : Bool) (t : Int) : Int × Bool :=
  if t < -(2 : Int) ^ (n - 1) then
    (if sat then -(2 : Int) ^ (n - 1) else (BitVec.ofInt n t).toInt, true)
  else if (2 : Int) ^ (n - 1) - 1 < t then
    (if sat then (2 : Int) ^ (n - 1) - 1 else (BitVec.ofInt n t).toInt, true)
  else (t, false)

/-- Signed overflow of an exact result (R137). -/
def overflows (t : Int) : Bool := t < -(2 : Int) ^ 63 || (2 : Int) ^ 63 - 1 < t

/-- Bit numbers of FLG (R132). -/
def flgDZ : Nat := 0
def flgOV : Nat := 1
def flgAOV : Nat := 2
def flgQSAT : Nat := 3
def flgAINX : Nat := 4

end Sys2Proof.Machine
end

