-- ==== Sys2Proof/Machine/Numfmt.lean ====
section
/-! DEFINITION. Exact numeric values, the operand formats, rounding to a format and the draw of the
fuser (01_skillet_arithmetic.md R23 to R26, R45, R51, R52; 02_stockpot_drain.md R69 to R71). -/

namespace Sys2Proof.Machine

open Sys2Proof

/-- An exact value: NaN, an infinity, or (-1)^neg m 2^e; a zero keeps its sign (R25, R69). -/
inductive Val where
  | nan
  | inf (neg : Bool)
  | fin (neg : Bool) (m : Nat) (e : Int)
  deriving DecidableEq, Repr

/-- How a format uses its top exponent field (R25). -/
inductive Special where
  | ieee | e4m3 | plain
  deriving DecidableEq, Repr

/-- An element format: a float with exponent and fraction widths and bias, or an 8-bit integer (R23). -/
inductive Fmt where
  | flt (eb mb bias : Nat) (k : Special)
  | int8
  deriving DecidableEq, Repr

/-- Is a code an MX code (R23)? -/
def isMx (code : Nat) : Bool := 9 ≤ code && code ≤ 14

/-- The element format of a code, MX or not (R23). -/
def fmtOf (code : Nat) : Fmt :=
  match (if isMx code then code - 9 else code) with
  | 0 => .flt 4 3 7 .e4m3
  | 1 => .flt 5 2 15 .ieee
  | 2 => .flt 3 2 3 .plain
  | 3 => .flt 2 3 1 .plain
  | 4 => .flt 2 1 1 .plain
  | 5 => .int8
  | 6 => .flt 8 7 127 .ieee
  | 7 => .flt 5 10 15 .ieee
  | _ => .flt 8 23 127 .ieee

/-- Bits of an element. -/
def Fmt.width (f : Fmt) : Nat :=
  match f with
  | .flt eb mb _ _ => 1 + eb + mb
  | .int8 => 8

/-- Element bits of a code (R23). -/
def elemBits (code : Nat) : Nat := (fmtOf code).width

/-- Is a format 6 bits wide (R24)? -/
def isSix (code : Nat) : Bool := elemBits code = 6

/-- Binary32. -/
def f32 : Fmt := .flt 8 23 127 .ieee

/-- Element `k` of `n` bits of a row given as a little-endian number (R24). -/
def elemAt (n row k : Nat) : Nat := row / 2 ^ (n * k) % 2 ^ n

/-- Bytes of a row of `b` bytes with elements of `n` bits from byte 0 upward (R24). -/
def packRow (n b : Nat) (es : List Nat) : List Byte :=
  bytesOf b ((es.foldr (fun e a => e % 2 ^ n + a * 2 ^ n) 0) % 2 ^ (8 * b))

/-! ## Values -/

/-- The value of a finite float's fields. -/
def floatVal (mb bias : Nat) (neg : Bool) (ef m : Nat) : Val :=
  if ef = 0 then .fin neg m (1 - (bias : Int) - mb)
  else .fin neg (m + 2 ^ mb) ((ef : Int) - bias - mb)

/-- The value of an element's bits (R25). -/
def Fmt.decode (f : Fmt) (x : Nat) : Val :=
  match f with
  | .int8 => .fin (signed 8 x < 0) (signed 8 x).natAbs 0
  | .flt eb mb bias k =>
    let neg := nbit x (eb + mb)
    let ef := bits x (eb + mb - 1) mb
    let m := x % 2 ^ mb
    match k with
    | .ieee => if ef = 2 ^ eb - 1 then (if m = 0 then .inf neg else .nan) else floatVal mb bias neg ef m
    | .e4m3 => if ef = 2 ^ eb - 1 ∧ m = 2 ^ mb - 1 then .nan else floatVal mb bias neg ef m
    | .plain => floatVal mb bias neg ef m

/-- The value times 2^k. -/
def Val.scale (v : Val) (k : Int) : Val :=
  match v with
  | .fin n m e => .fin n m (e + k)
  | w => w

/-- The negated value. -/
def Val.negate (v : Val) : Val :=
  match v with
  | .nan => .nan
  | .inf n => .inf !n
  | .fin n m e => .fin (!n) m e

/-- The value of an element of an MX block: the scale code 0xFF is NaN (R26); `code` gives MXINT8 its 2^-6. -/
def mxVal (code scale x : Nat) : Val :=
  if scale = 0xFF then .nan
  else ((fmtOf code).decode x).scale ((scale : Int) - 127 - (if code = 14 then 6 else 0))

/-- Is the value a zero? -/
def Val.isZero (v : Val) : Bool :=
  match v with
  | .fin _ m _ => m = 0
  | _ => false

/-- Exact product; infinity times zero is NaN (R52, R69).  A zero product takes the exclusive OR of its factors' signs,
which R69 states for the fuser and the model takes for R52 as well, an INT8 zero counting as +0 (log 87). -/
def Val.mul (a b : Val) : Val :=
  match a, b with
  | .nan, _ => .nan
  | _, .nan => .nan
  | .inf n, .inf k => .inf (n != k)
  | .inf n, .fin k m _ => if m = 0 then .nan else .inf (n != k)
  | .fin k m _, .inf n => if m = 0 then .nan else .inf (n != k)
  | .fin n m e, .fin k l d => .fin (n != k) (m * l) (e + d)

/-- Is the value NaN, or an infinity of a sign? -/
def Val.isNan (v : Val) : Bool := v = .nan
def Val.isInf (neg : Bool) (v : Val) : Bool := v = .inf neg

/-- The value as an integer in units of 2^g, where it is one. -/
def Val.units (g : Int) (v : Val) : Int :=
  match v with
  | .fin n m e => (if n then -1 else 1) * ((m : Int) * 2 ^ (e - g).toNat)
  | _ => 0

/-- The exponent of a finite value, no higher than `g`. -/
def Val.lowExp (g : Int) (v : Val) : Int :=
  match v with
  | .fin _ _ e => min g e
  | _ => g

/-- The exact sum of a step (R52). -/
def sumVals (vs : List Val) : Val :=
  if vs.any Val.isNan || (vs.any (Val.isInf false) && vs.any (Val.isInf true)) then .nan
  else if vs.any (Val.isInf false) then .inf false
  else if vs.any (Val.isInf true) then .inf true
  else
    let g := vs.foldl Val.lowExp 0
    let t := vs.foldl (fun a v => a + v.units g) 0
    if t = 0 then .fin (vs.all fun v => match v with | .fin n _ _ => n | _ => false) 0 0
    else .fin (t < 0) t.natAbs g

/-- Compare finite values: a below b. -/
def Val.finLt (a b : Val) : Bool :=
  let g := b.lowExp (a.lowExp 0)
  a.units g < b.units g

/-! ## Rounding -/

/-- The value in units of 2^g, rounded to an integer, and whether rounding changed it (R45, R70). -/
def roundUnits (m : Rnd) (u : Nat) (neg : Bool) (mag : Nat) (e g : Int) : Int × Bool :=
  let x : Int := if neg then -(mag : Int) else mag
  if g ≤ e then (x * 2 ^ (e - g).toNat, false)
  else (rndPow2 m u x (g - e).toNat, rndInexact x (g - e).toNat)

/-- What a conversion gives: the bits and the flags of R73 and R127. -/
structure Conv where
  bits : Nat
  sat : Bool := false
  inx : Bool := false
  /-- A NaN before conversion. -/
  nan : Bool := false
  /-- A NaN or an infinity in a format that holds neither. -/
  forced : Bool := false
  deriving DecidableEq, Repr

/-- Encodings that a format gives infinity, NaN and its largest finite magnitude (R70). -/
def Fmt.infBits (f : Fmt) : Nat :=
  match f with
  | .flt eb mb _ _ => (2 ^ eb - 1) * 2 ^ mb
  | .int8 => 0

/-- R70 step 4. -/
def Fmt.nanBits (f : Fmt) : Nat :=
  match f with
  | .flt 4 3 _ .e4m3 => 0x7F
  | .flt eb mb _ .ieee => if eb = 5 ∧ mb = 2 then 0x7E else (2 ^ eb - 1) * 2 ^ mb + 2 ^ (mb - 1)
  | _ => 0

/-- Bits of the largest finite magnitude. -/
def Fmt.maxBits (f : Fmt) : Nat :=
  match f with
  | .flt eb mb _ .ieee => (2 ^ eb - 1) * 2 ^ mb - 1
  | .flt eb mb _ .e4m3 => 2 ^ (eb + mb) - 2
  | .flt eb mb _ .plain => 2 ^ (eb + mb) - 1
  | .int8 => 127

/-- The sign bit of a format. -/
def Fmt.signBit (f : Fmt) (neg : Bool) : Nat :=
  match f with
  | .flt eb mb _ _ => if neg then 2 ^ (eb + mb) else 0
  | .int8 => 0

/-- The magnitude bits of n 2^g, on the format's grid; they may lie beyond the largest finite ones. -/
def magBits (mb bias n : Nat) (g : Int) : Nat :=
  let l := Nat.log2 n
  if n < 2 ^ mb then n
  else ((l : Int) + g + bias).toNat * 2 ^ mb + (n * 2 ^ mb / 2 ^ l - 2 ^ mb)

/-- A result beyond the largest finite magnitude, or an infinite one (R70 steps 2 and 3). -/
def Fmt.overflow (f : Fmt) (neg sat : Bool) : Nat :=
  match f with
  | .int8 => if neg then 0x80 else 0x7F
  | .flt _ _ _ .ieee => if sat then f.signBit neg + f.maxBits else f.signBit neg + f.infBits
  | .flt _ _ _ .e4m3 => if sat then f.signBit neg + f.maxBits else (if neg then 0xFF else 0x7F)
  | .flt _ _ _ .plain => f.signBit neg + f.maxBits

/-- Has the format neither infinity nor NaN? -/
def Fmt.holdsNeither (f : Fmt) : Bool :=
  match f with
  | .flt _ _ _ .plain => true
  | .int8 => true
  | _ => false

/-- convert of a finite value into a float format (R70); a value beyond the largest finite one is not representable, so
it counts as rounded (R73, log 89), downward and, of a negative value, under round-up too (R116, log 114). -/
def convFinite (f : Fmt) (eb mb bias : Nat) (k : Special) (neg : Bool) (m : Nat) (e : Int) (r : Rnd) (sat : Bool)
    (u : Nat) : Conv :=
  if m = 0 then { bits := f.signBit neg }
  else
    let g : Int := max ((Nat.log2 m : Int) + e) (1 - bias) - mb
    let (q, inx) := roundUnits r u neg m e g
    let mag := magBits mb bias q.natAbs g
    if q = 0 then { bits := f.signBit neg, inx := inx }
    else if (Fmt.flt eb mb bias k).maxBits < mag then { bits := f.overflow neg sat, sat := true, inx := true }
    else { bits := f.signBit neg + mag, inx := inx }

/-- convert(v, format, rounding mode, SAT, u) of R70; an infinite v is an overflow of steps 2 and 3 in every format. -/
def Fmt.convert (f : Fmt) (v : Val) (r : Rnd) (sat : Bool) (u : Nat) : Conv :=
  match v with
  | .nan => { bits := f.nanBits, nan := true, forced := f.holdsNeither }
  | .inf n =>
    { bits := f.overflow n sat, sat := true, forced := f.holdsNeither }
  | .fin n m e =>
    match f with
    | .flt eb mb bias k => convFinite f eb mb bias k n m e r sat u
    | .int8 =>
      let (q, inx) := roundUnits r u n m e 0
      if q < -128 ∨ 127 < q then { bits := f.overflow (q < 0) sat, sat := true, inx := true }
      else { bits := (BitVec.ofInt 8 q).toNat, inx := inx }

/-- rne32 with its outcome: a rounding that overflows to infinity, and whether it changed the value (R51, R53). -/
def rne32 (v : Val) : Conv :=
  let c := f32.convert v .rne false 0
  { c with sat := c.inx && c.sat }

/-! ## MX blocks (R71) -/

/-- emax of R71 by MX code. -/
def mxEmax (code : Nat) : Int :=
  match code with
  | 9 => 8 | 10 => 15 | 11 => 4 | 12 => 2 | 13 => 2 | _ => 0

/-- The magnitude that counts for the block scale: infinities count as binary32's largest (R71). -/
def mxMag (v : Val) : Val :=
  match v with
  | .inf _ => .fin false (2 ^ 24 - 1) 104
  | .fin _ m e => .fin false m e
  | .nan => .nan

/-- floor(log2 m) of a finite non-zero value. -/
def Val.floorLog2 (v : Val) : Int :=
  match v with
  | .fin _ m e => (Nat.log2 m : Int) + e
  | _ => 0

/-- The block scale X of R71 step 3: the largest floor(log2 |v|), less emax, clamped. -/
def mxScale (code : Nat) (vs : List Val) : Int :=
  let top := ((vs.map mxMag).filter fun v => !v.isZero).foldl
    (fun a v => match a with | none => some v.floorLog2 | some x => some (max x v.floorLog2)) none
  clampI (-127) 127 (top.getD 0 - mxEmax code)

/-- A block's scale code and elements (R71); `us` holds each element's draw. -/
def mxBlock (code : Nat) (vs : List Val) (r : Rnd) (sat : Bool) (us : List Nat) : Nat × List Conv :=
  if vs.any Val.isNan then (0xFF, vs.map fun v => { bits := 0, nan := v.isNan })
  else if vs.all Val.isZero then (0, vs.map fun _ => { bits := 0 })
  else
    let x := mxScale code vs
    let pre := -x + (if code = 14 then 6 else 0)
    ((x + 127).toNat, (vs.zip us).map fun p => (fmtOf code).convert (p.1.scale pre) r sat p.2)

end Sys2Proof.Machine
end

