-- ==== Sys2Proof/Machine/Trays.lean ====
section
/-! DEFINITION. Trays and Stockpot slots: storage, marks, parity, and the fields of a tile-queue entry
(03_trays_tile_instructions.md R77 to R83; 02_stockpot_drain.md R60, R76; 04_whisk_rows.md R112). -/

namespace Sys2Proof.Machine

open Sys2Proof

/-! ## Trays -/

/-- A tray's shape and flags. -/
def State.tray (s : State) (T : TrayNo) : Tray := s.tile.trays[T]

/-- Replace a tray's shape and flags. -/
def State.setTray (s : State) (T : TrayNo) (x : Tray) : State :=
  { s with tile := { s.tile with trays := vset s.tile.trays T x } }

/-- Storage index of byte `o` of a tray. -/
def trayAt (T : TrayNo) (o : Nat) : Nat := 4096 * T.val + o

/-- A row's bytes as stored. -/
def State.rowBytes (s : State) (T : TrayNo) (r : Nat) : List Byte :=
  getN zero8 s.tile.data (trayAt T (r * (s.tray T).bytes)) (s.tray T).bytes

/-- A row's poison mark (R79). -/
def State.mark (s : State) (T : TrayNo) (r : Nat) : Bool := wbit (s.tray T).marks r

/-- Set or clear a row's poison mark. -/
def State.setMark (s : State) (T : TrayNo) (r : Nat) (b : Bool) : State :=
  s.setTray T { s.tray T with marks := setBit (s.tray T).marks r b }

/-- A parity error of a tray row is found: mark, record, event, machine check (R80, R378).
`u` is the reading unit: 0 Skillet, 1 drain path, 2 memory path, 3 tray path, a Ladle run's too (log 102), 4 Whisk; `who` is the
thread whose entry or instruction reads, where one does (R390). -/
def State.rowParity (s : State) (T : TrayNo) (r u : Nat) (who : Option Thread := none) : State :=
  let s1 := { s with tile := { s.tile with badRow := s.tile.badRow.filter (· ≠ 32 * T.val + r) } }
  (((s1.setMark T r true).record .til (T.val + 16 * r) (1 + 256 * u) false who).event .til 1).mcheck .til who

/-- The check on a read of a row. -/
def State.checkRow (s : State) (T : TrayNo) (u r : Nat) (who : Option Thread := none) : State :=
  if s.tile.badRow.contains (32 * T.val + r) then s.rowParity T r u who else s

/-- The check on a read of rows `r` to `r + n - 1`. -/
def State.checkRows (s : State) (T : TrayNo) (u r n : Nat) (who : Option Thread := none) : State :=
  (List.range n).foldl (fun s i => s.checkRow T u (r + i) who) s

/-- Write a row: bytes, fresh parity, mark, and the tray's in-use flag (R78, R79). -/
def State.putRow (s : State) (T : TrayNo) (r : Nat) (bs : List Byte) (mark : Bool) : State :=
  let s1 := { s with tile := { s.tile with
    data := setN zero8 s.tile.data (trayAt T (r * (s.tray T).bytes)) (fitList (s.tray T).bytes 0 bs)
    badRow := s.tile.badRow.filter (· ≠ 32 * T.val + r) } }
  s1.setTray T { s.tray T with inuse := true, marks := setBit (s.tray T).marks r mark }

/-- Zero a tray's storage with fresh parity. -/
def State.zeroData (s : State) (T : TrayNo) : State :=
  { s with tile := { s.tile with
      data := s.tile.data.filter fun c => c.1 / 4096 ≠ T.val
      badRow := s.tile.badRow.filter fun k => k / 32 ≠ T.val } }

/-- Zero a tray, clear its marks and its in-use flag, and give it a shape (R78, R91). -/
def State.zeroTray (s : State) (T : TrayNo) (rows bytes : Nat) : State :=
  (s.zeroData T).setTray T { rows := rows, bytes := bytes, inuse := false, marks := 0 }

/-- The lowest marked row of a tray below `n`. -/
def State.lowMark (s : State) (T : TrayNo) (n : Nat) : Option Nat := (List.range n).find? fun r => s.mark T r

/-- Elements of a type code in one row of a tray. -/
def State.rowElems (s : State) (T : TrayNo) (bits : Nat) : Nat := 8 * (s.tray T).bytes / bits

/-! ## Slots -/

/-- What an unlisted element reads as. -/
def zero96 (_ : Nat) : BitVec 96 := 0

/-- A slot's state but its elements. -/
def State.slot (s : State) (i : Fin 48) : Slot := s.tile.slots[i]

/-- Replace a slot's state but its elements. -/
def State.setSlot (s : State) (i : Fin 48) (x : Slot) : State :=
  { s with tile := { s.tile with slots := vset s.tile.slots i x } }

/-- Key of element (i, j) of slot `s`. -/
def elemKey (sl i j : Nat) : Nat := 1024 * sl + 32 * i + j

/-- An element of a slot. -/
def State.elem (s : State) (k : Nat) : BitVec 96 := getD zero96 s.tile.elems k

/-- Write an element, with fresh parity (R76). -/
def State.setElem (s : State) (k : Nat) (v : BitVec 96) : State :=
  { s with tile := { s.tile with
      elems := setD zero96 s.tile.elems k v
      badElem := s.tile.badElem.filter (· ≠ k) } }

/-- The NaN marker of an exact slot (R43), and binary32's canonical NaN. -/
def nanMark (fp : Bool) : BitVec 96 := if fp then 0x7FC0_0000 else BitVec.ofNat 96 (2 ^ 95)

/-- Record a parity error of an element of slot `sl`, or of the shadow set as 0x3F (R76, R379). -/
def State.elemRecord (s : State) (sl i j : Nat) (who : Option Thread := none) : State :=
  ((s.record .stk (sl + 64 * i + 2048 * j) 1 false who).event .stk 0).mcheck .stk who

/-- The check on a read of an element of a slot: the element takes the NaN (R76). -/
def State.checkElem (s : State) (fp : Bool) (k : Nat) (who : Option Thread := none) : State :=
  if s.tile.badElem.contains k then
    (s.setElem k (nanMark fp)).elemRecord (k / 1024) (k / 32 % 32) (k % 32) who
  else s

/-! ## Queue entries (R83, R112) -/

/-- A tile-queue instruction's fields. -/
def QEntry.xop (q : QEntry) : Nat := wbits q.w0 11 6
def QEntry.opf (q : QEntry) : Nat := wbits q.w0 5 0
def QEntry.x (q : QEntry) : Nat := q.e1.toNat + q.e2.toNat * 2 ^ 14

/-- A tray field at bits [lo+3:lo]. -/
def trayF (x lo : Nat) : TrayNo := Fin.ofNat 16 (bits x (lo + 3) lo)

/-- Word 0 of an X-class instruction. -/
def w0Of (xop opfield : Nat) : IWord := BitVec.ofNat 14 (0x3000 + xop * 0x40 + opfield)

/-- A tile fault: cause, detail, ARG, PROG, fault address (R107, R108). -/
structure TFault where
  cause : Nat
  detail : Nat
  arg : Nat
  prog : Nat := 0
  addr : Word := 0
  deriving DecidableEq, Repr

/-- The first check that fails. -/
def firstFault (cs : List (Bool × TFault)) : Option TFault :=
  match cs with
  | [] => none
  | (ok, f) :: r => if ok then firstFault r else some f

/-- TPROG of a fault (R107). -/
def tprogOf (q : QEntry) (f : TFault) : Word :=
  BitVec.ofNat 64 (q.pc.toNat + q.xop % 16 * 2 ^ 20 + f.prog % 4096 * 2 ^ 24 + f.cause * 2 ^ 36
    + f.detail * 2 ^ 44 + f.arg % 64 * 2 ^ 52 + 2 ^ 63)

/-- Replace a queue entry. -/
def State.setEntry (s : State) (q : QEntry) : State :=
  { s with tile := { s.tile with queue := s.tile.queue.map fun x => if x.id = q.id then q else x } }

/-- A tile fault freezes the queue (R106); a TLD or TST keeps its row (R109). -/
def State.freeze (s : State) (q : QEntry) (f : TFault) : State :=
  let mem := q.xop = 0x24 ∨ q.xop = 0x25
  let s1 := s.setEntry { q with started := false, safe := false, prog := if mem then f.prog else 0 }
  let s2 := { s1 with tile := { s1.tile with
    frozen := true, trap := true, tprog := tprogOf q f, faultAddr := f.addr, deferred := false } }
  (s2.event .til 0).bump .til 4 1 (some q.thr)

/-- An entry leaves the queue. -/
def State.retire (s : State) (id : Nat) : State :=
  { s with tile := { s.tile with queue := s.tile.queue.filter fun x => x.id ≠ id } }

/-- OR outcome flags into TSTAT of the owner of this moment (R133). -/
def State.ownerFlags (s : State) (v : Nat) : State :=
  match s.tile.owner with
  | none => s
  | some t => { s with thr := vset s.thr t { s.thr[t] with tstat := s.thr[t].tstat ||| BitVec.ofNat 64 v } }

/-- The thread whose queue entry `id` is, for counter attribution (R390). -/
def State.entryWho (s : State) (id : Nat) : Option Thread := (s.tile.queue.find? (·.id = id)).map (·.thr)

end Sys2Proof.Machine
end

