-- ==== Sys2Proof/Machine/Skillet.lean ====
section
/-! DEFINITION. TMMA and TMMS: checks, chunks and the array step; the fold combine
(01_skillet_arithmetic.md R27 to R55; 03_trays_tile_instructions.md R98, R99). -/

namespace Sys2Proof.Machine

open Sys2Proof

/-! ## Pairs (R27) -/

/-- A format of the narrow non-MX set. -/
def isNarrow (f : Nat) : Bool := f ≤ 5

/-- Products of one PE in one step, for an allowed pair; binary32 gives 1 (R27, R29). -/
def pairW (fa fb : Nat) : Option Nat :=
  if isNarrow fa && isNarrow fb then some (if fa = 4 ∧ fb = 4 then 8 else 4)
  else if isMx fa && isMx fb then some (if fa = 13 ∧ fb = 13 then 8 else 4)
  else if fa = fb ∧ (fa = 6 ∨ fa = 7) then some 2
  else if fa = 8 ∧ fb = 8 then some 1
  else none

/-- Is a pair refused in exact mode (R27)? -/
def exactRefused (fa : Nat) : Bool := 6 ≤ fa && fa ≤ 8

/-- The formats that a TMMS takes for A (R38). -/
def sparseA (fa : Nat) : Bool := fa = 0 || fa = 1 || fa = 4 || fa = 9 || fa = 10 || fa = 13

/-- The Scale's class of a pair (R289). -/
def pairClass (fa fb : Nat) : Nat :=
  if fa = 4 ∧ fb = 4 then 0 else if isNarrow fa then 1
  else if fa = 13 ∧ fb = 13 then 2 else if isMx fa then 3 else if fa = 8 then 5 else 4

/-- Fold factor of M rows (R34). -/
def foldOf (m : Nat) : Nat := if m ≤ 8 then 4 else if m ≤ 16 then 2 else 1

/-- ceil(a / b). -/
def ceilDiv (a b : Nat) : Nat := (a + b - 1) / b

/-- Row length of a scale tray (R26). -/
def scaleBytes (k : Nat) : Nat := ceilDiv (ceilDiv k 32) 4 * 4

/-- A TMMA or TMMS read from its entry, with what the trays give it. -/
structure Mma where
  slot : Nat
  a : TrayNo
  b : TrayNo
  fa : Nat
  fb : Nat
  sa : TrayNo
  sb : TrayNo
  mt : TrayNo
  sparse : Bool
  m : Nat
  n : Nat
  k : Nat
  kw : Nat
  deriving DecidableEq, Repr

/-- The fields of a TMMA or TMMS entry. -/
def State.mmaOf (s : State) (q : QEntry) : Mma :=
  let x := q.x
  let b := trayF x 4
  let fa := bits x 11 8
  let fb := bits x 15 12
  let sparse : Bool := q.xop = 0x27
  let w := (pairW fa fb).getD 1
  { slot := q.opf, a := trayF x 0, b := b, fa := fa, fb := fb, sa := trayF x 16, sb := trayF x 20, mt := trayF x 24,
    sparse := sparse, m := (s.tray (trayF x 0)).rows, n := (s.tray b).rows,
    k := s.rowElems b (elemBits fb), kw := if sparse then 2 * w else w }

/-- Chunks of the instruction (R29). -/
def Mma.chunks (i : Mma) : Nat := i.k / i.kw

/-- Array steps (R30). -/
def Mma.steps (i : Mma) : Nat := (if i.fa = 8 then 2 else 1) * ceilDiv i.chunks (foldOf i.m)

/-- The trays an instruction reads in the order of R98 row 15, with their row counts. -/
def Mma.reads (i : Mma) : List (TrayNo × Nat) :=
  [(i.a, i.m), (i.b, i.n)] ++ (if isMx i.fa then [(i.sa, i.m)] else []) ++ (if isMx i.fb then [(i.sb, i.n)] else [])
    ++ (if i.sparse then [(i.mt, i.m)] else [])

/-- A scale tray fails R98 row 12. -/
def State.scaleBad (s : State) (T : TrayNo) (rows k : Nat) : Bool :=
  (s.tray T).rows ≠ rows || (s.tray T).bytes ≠ scaleBytes k

/-- The first marked row of the trays read: tray and row (R98 row 15, R393). -/
def State.firstMark (s : State) (l : List (TrayNo × Nat)) : Option (TrayNo × Nat) :=
  l.findSome? fun x => (s.lowMark x.1 x.2).map fun r => (x.1, r)

/-- The checks of R98, with ARG and PROG of R393. -/
def State.mmaFault (s : State) (i : Mma) : Option TFault :=
  let sl := s.slot (Fin.ofNat 48 i.slot)
  let A := s.tray i.a
  let B := s.tray i.b
  let na := s.rowElems i.a (elemBits i.fa)
  let aBad := isMx i.fa && s.scaleBad i.sa A.rows i.k
  let bBad := isMx i.fb && s.scaleBad i.sb B.rows i.k
  let six := fun (f : Nat) (t : Tray) => isSix f && t.bytes % 12 ≠ 0
  let poison := s.firstMark i.reads
  firstFault
    [(i.slot < 48, { cause := 1, detail := 1, arg := i.slot }),
     (sl.inuse, { cause := 1, detail := 2, arg := i.slot }),
     (i.fa ≠ 15 && i.fb ≠ 15, { cause := 3, detail := 1, arg := i.a.val }),
     (isMx i.fa = isMx i.fb, { cause := 3, detail := 3, arg := i.a.val }),
     ((pairW i.fa i.fb).isSome, { cause := 3, detail := 2, arg := i.a.val }),
     (sl.fp || !exactRefused i.fa, { cause := 3, detail := 4, arg := i.a.val }),
     (!i.sparse || sparseA i.fa, { cause := 3, detail := 5, arg := i.a.val }),
     ((if i.sparse then 2 * na else na) = i.k, { cause := 4, detail := 1, arg := i.a.val }),
     (i.k % i.kw = 0, { cause := 4, detail := 2, arg := i.b.val }),
     (!(six i.fa A || six i.fb B), { cause := 4, detail := 3, arg := if isSix i.fa then i.a.val else i.b.val }),
     (!isMx i.fa || i.k % 32 = 0, { cause := 4, detail := 4, arg := i.a.val }),
     (!(aBad || bBad), { cause := 4, detail := 5, arg := if aBad then i.sa.val else i.sb.val }),
     (!i.sparse || (i.k % 32 = 0 && (s.tray i.mt).rows = A.rows && (s.tray i.mt).bytes = i.k / 8),
       { cause := 4, detail := 6, arg := i.mt.val }),
     (sl.fold = 0 || sl.fold = foldOf i.m, { cause := 4, detail := 7, arg := i.slot }),
     (poison.isNone, { cause := 5, detail := 1, arg := ((poison.map fun p => p.1.val).getD 0),
                       prog := (poison.map fun p => p.2).getD 0 })]

/-- The estimate of R293: classes and units. -/
def Mma.items (i : Mma) : List (Nat × Nat) :=
  if (pairW i.fa i.fb).isNone then []
  else [(pairClass i.fa i.fb, i.m * i.chunks)] ++ (if i.sparse then [(6, i.m * i.chunks)] else [])

/-! ## One array step -/

/-- A row's elements as a number; NaN for every element of a row found bad (R80). -/
structure OpRow where
  row : Nat
  bad : Bool
  /-- Scale row, for an MX operand. -/
  scales : Nat
  deriving DecidableEq, Repr

/-- The value of element `e` of a row; `pos` is the position that selects its scale (R26, R40). -/
def OpRow.val (x : OpRow) (code e pos : Nat) : Val :=
  if x.bad then .nan
  else if isMx code then mxVal code (elemAt 8 x.scales (pos / 32)) (elemAt (elemBits code) x.row e)
  else (fmtOf code).decode (elemAt (elemBits code) x.row e)

/-- Rows of an operand; a row that carries a mark now was found bad after the start (R80). -/
def State.opRow (s : State) (T : TrayNo) (sc : TrayNo) (code r : Nat) : OpRow :=
  { row := ofBytes (s.rowBytes T r)
    bad := s.mark T r || (isMx code && s.mark sc r)
    scales := if isMx code then ofBytes (s.rowBytes sc r) else 0 }

/-- The products of chunk `c` of A row `r` and B row `j`, with their reduction positions (R29, R40). -/
def chunkProds (sparse : Bool) (fa fb kw c : Nat) (a b : OpRow) (meta_ : Nat) (metaBad : Bool) : List (Nat × Val) :=
  if sparse then
    (List.range (kw / 4)).flatMap fun i =>
      let q := c * kw / 4 + i
      let nib := elemAt 4 meta_ q
      [0, 1].map fun v =>
        let pos := 4 * q + elemAt 2 nib v
        let av := if metaBad then .nan else a.val fa (2 * q + v) (4 * q)
        (pos, av.mul (b.val fb pos pos))
  else
    (List.range kw).map fun i =>
      let p := c * kw + i
      (p, (a.val fa p p).mul (b.val fb p p))

/-- An element after a step, and the slot flags that the step sets. -/
structure StepOut where
  n : BitVec 96
  sat : Bool := false
  inx : Bool := false
  deriving DecidableEq, Repr

/-- The greatest magnitude of an exact element (R43). -/
def maxN : Int := 2 ^ 95 - 1

/-- Slot rounding modes (R61): RNE, RTZ, round-to-odd, stochastic. -/
def slotRnd (c : BitVec 2) : Rnd :=
  match c.toNat with
  | 0 => .rne | 1 => .rtz | 2 => .odd | _ => .stoch

/-- Clamp an exact sum (R43, R46). -/
def clampN (t : Int) (inx : Bool) : StepOut :=
  if maxN < t then { n := BitVec.ofInt 96 maxN, sat := true, inx := inx }
  else if t < -maxN then { n := BitVec.ofInt 96 (-maxN), sat := true, inx := inx }
  else { n := BitVec.ofInt 96 t, inx := inx }

/-- A product in window units, rounded (R44, R45). -/
def windowUnits (sl : Slot) (row col : Nat) (p : Nat × Val) : Int × Bool :=
  match p.2 with
  | .fin neg m e =>
    roundUnits (slotRnd sl.rnd) (draw sl.seed row col ((sl.p.toNat + p.1) % 2 ^ 47)) neg m e (sl.anchor.toInt - 64)
  | _ => (0, false)

/-- One step of one partial element of an exact-mode slot (R44). -/
def exactStep (sl : Slot) (row col : Nat) (n : BitVec 96) (ps : List (Nat × Val)) : StepOut :=
  let vs := ps.map (·.2)
  let pos := vs.any (Val.isInf false)
  let neg := vs.any (Val.isInf true)
  if n = nanMark false then { n := n }
  else if vs.any Val.isNan || (pos && neg) then { n := nanMark false, sat := true }
  else if pos then { n := BitVec.ofInt 96 maxN, sat := true }
  else if neg then { n := BitVec.ofInt 96 (-maxN), sat := true }
  else
    let us := ps.map (windowUnits sl row col)
    clampN (n.toInt + us.foldl (fun a x => a + x.1) 0) (us.any (·.2))

/-- The binary32 value of an FP-mode element (R51, R60). -/
def fpElem (n : BitVec 96) : Val := f32.decode (n.toNat % 2 ^ 32)

/-- Is a value NaN or infinite, which sets the saturation flag of an FP-mode slot (R53)? -/
def Val.special (v : Val) : Bool := v.isNan || v.isInf false || v.isInf true

/-- rne32 of an exact sum as a slot element with its flags (R51 to R53). -/
def fpResult (v : Val) : StepOut :=
  let c := rne32 v
  { n := BitVec.ofNat 96 c.bits, sat := c.sat || (f32.decode c.bits).special, inx := c.inx }

/-- One step of one partial element of an FP-mode slot (R51). -/
def fpStep (n : BitVec 96) (ps : List (Nat × Val)) : StepOut :=
  fpResult (sumVals (fpElem n :: ps.map (·.2)))

/-- One step of one partial element. -/
def slotStep (sl : Slot) (row col : Nat) (n : BitVec 96) (ps : List (Nat × Val)) : StepOut :=
  if sl.fp then fpStep n ps else exactStep sl row col n ps

/-- The work of an array step: PE row, output row, column, chunk of each busy PE (R33, R35), in the order in which their
elements' parity is checked (log 103). -/
def busyPes (f h m n st chunks : Nat) : List (Nat × Nat × Nat × Nat) :=
  (List.range f).flatMap fun g =>
    if st * f + g < chunks then
      (List.range m).flatMap fun r => (List.range n).map fun j => (g * h + r, r, j, st * f + g)
    else []

/-- Add the products of one chunk into one element (R33). -/
def State.peStep (s : State) (r : ArrayRun) (kw : Nat) (pe : Nat × Nat × Nat × Nat) : State :=
  let (i, row, col, c) := pe
  let sl := s.slot r.slot
  let k := elemKey r.slot.val i col
  let s1 := s.checkElem sl.fp k (s.entryWho r.id)
  let ps := chunkProds r.sparse r.fa.toNat r.fb.toNat kw c (s1.opRow r.a r.sa r.fa.toNat row)
    (s1.opRow r.b r.sb r.fb.toNat col) (ofBytes (s1.rowBytes r.mt row)) (r.sparse && s1.mark r.mt row)
  let o := slotStep sl row col (s1.elem k) ps
  (s1.setElem k o.n).setSlot r.slot { sl with sat := sl.sat || o.sat, inx := sl.inx || o.inx }

/-- The parity checks of the operand rows that a step reads (R80). -/
def State.checkOperands (s : State) (r : ArrayRun) : State :=
  let who := s.entryWho r.id
  let s1 := (s.checkRows r.a 0 0 r.m who).checkRows r.b 0 0 r.n who
  let s2 := if isMx r.fa.toNat then (s1.checkRows r.sa 0 0 r.m who).checkRows r.sb 0 0 r.n who else s1
  if r.sparse then s2.checkRows r.mt 0 0 r.m who else s2

/-- Chunk width of a run (R29). -/
def ArrayRun.kw (r : ArrayRun) : Nat :=
  (if r.sparse then 2 else 1) * (pairW r.fa.toNat r.fb.toNat).getD 1

/-- One array step: a chunk per group; binary32 adds its product in the second of two steps (R30, R35). -/
def State.arrayStep (s : State) (r : ArrayRun) : State :=
  let two : Bool := r.fa = 8
  let st := if two then r.step / 2 else r.step
  let s0 := s.checkOperands r
  let s1 := if two && r.step % 2 = 0 then s0
    else (busyPes r.fold (32 / r.fold) r.m r.n st (r.k / r.kw)).foldl (fun s pe => s.peStep r r.kw pe) s0
  let s2 := (s1.bump .til 2 1 (s.entryWho r.id)).bump .til 3 1 (s.entryWho r.id)
  if r.step + 1 < r.steps then { s2 with tile := { s2.tile with array := some { r with step := r.step + 1 } } }
  else
    let sl := s2.slot r.slot
    let s3 := s2.setSlot r.slot { sl with p := sl.p + BitVec.ofNat 47 r.k }
    { s3 with tile := { s3.tile with array := none } }.retire r.id

/-- Start a TMMA or TMMS that passed its checks (R36, R99). -/
def State.mmaStart (s : State) (q : QEntry) (i : Mma) : State :=
  let n := Fin.ofNat 48 i.slot
  let f := foldOf i.m
  let s1 := s.setSlot n { s.slot n with fold := f }
  let r : ArrayRun :=
    { id := q.id, slot := n, fa := BitVec.ofNat 4 i.fa, fb := BitVec.ofNat 4 i.fb, a := i.a, b := i.b, sa := i.sa,
      sb := i.sb, mt := i.mt, sparse := i.sparse, m := i.m, n := i.n, k := i.k, fold := f, step := 0, steps := i.steps }
  { s1 with tile := { s1.tile with array := some r } }

/-! ## The fold combine (R54, R55, R65) -/

/-- The combine of an element's partials; with one partial it is the element itself, and a NaN, an infinity or the NaN
marker sets the saturation flag there too (R53, R55, R65). -/
def combine (fp : Bool) (ps : List (BitVec 96)) : StepOut :=
  let add := fun (a b : StepOut) =>
    let r := fpResult (sumVals [fpElem a.n, fpElem b.n])
    { r with sat := r.sat || a.sat || b.sat, inx := r.inx || a.inx || b.inx }
  match ps with
  | [a] => { n := a, sat := if fp then (fpElem a).special else a = nanMark false }
  | [a, b] =>
    if fp then add { n := a } { n := b }
    else if a = nanMark false ∨ b = nanMark false then { n := nanMark false, sat := true }
    else clampN (a.toInt + b.toInt) false
  | [a, b, c, d] =>
    if fp then add (add { n := a } { n := b }) (add { n := c } { n := d })
    else if ps.any (· = nanMark false) then { n := nanMark false, sat := true }
    else clampN (a.toInt + b.toInt + c.toInt + d.toInt) false
  | _ => { n := 0 }

/-- The copy of one shadow element (R65). -/
def State.copyElem (s : State) (n : Fin 48) (f h : Nat) (who : Option Thread) (rj : Nat × Nat) : State :=
  let (r, j) := rj
  let sl := s.slot n
  let keys := (List.range f).map fun g => elemKey n.val (g * h + r) j
  let s1 := keys.foldl (fun s k => s.checkElem sl.fp k who) s
  let o := combine sl.fp (keys.map s1.elem)
  let s2 := { s1 with tile := { s1.tile with
    shadow := setD zero96 s1.tile.shadow (32 * r + j) o.n } }
  s2.setSlot n { sl with sat := sl.sat || o.sat, inx := sl.inx || o.inx }

/-- The copy step of a drain: shadow rows below H take the combined values, the others zero; every shadow
element has fresh parity (R65, R76).  Elements are checked row by row, column by column, partials in group order (log 103). -/
def State.copyStep (s : State) (n : Fin 48) (who : Option Thread) : State :=
  let f := if (s.slot n).fold = 0 then 1 else (s.slot n).fold
  let h := 32 / f
  let s0 := { s with tile := { s.tile with
    shadow := [], badElem := s.tile.badElem.filter fun k => k / 1024 ≠ 48 } }
  let s1 := ((List.range h).flatMap fun r => (List.range 32).map fun j => (r, j)).foldl
    (fun s rj => s.copyElem n f h who rj) s0
  s1.setSlot n { s1.slot n with d := (s1.slot n).d + 1 }

end Sys2Proof.Machine
end

