-- ==== Sys2Proof/Machine/Drain.lean ====
section
/-! DEFINITION. TDRAIN: control word, checks, copy, fuser and stream; TZERO, TCFG, TREL and TMOV
(02_stockpot_drain.md R61 to R73; 03_trays_tile_instructions.md R91 to R93, R100, R101). -/

namespace Sys2Proof.Machine

open Sys2Proof

/-! ## The drain control word (R67) -/

/-- Fields of a drain control word. -/
structure DrainCw where
  ofmt : Nat
  dst : TrayNo
  fop : Nat
  ttr : TrayNo
  tfmt : Nat
  cse : Bool
  ctr : TrayNo
  mtr : TrayNo
  sat : Bool
  rel : Bool
  rsv : Nat
  deriving DecidableEq, Repr

/-- Read a drain control word. -/
def drainCw (w : Word) : DrainCw :=
  let x := w.toNat
  { ofmt := bits x 3 0, dst := trayF x 4, fop := bits x 9 8, ttr := trayF x 10, tfmt := bits x 17 14, cse := nbit x 18,
    ctr := trayF x 19, mtr := trayF x 23, sat := nbit x 27, rel := nbit x 28, rsv := bits x 63 29 }

/-- Trays that a drain reads and writes (R67, R74). -/
def DrainCw.reads (c : DrainCw) : List TrayNo :=
  (if c.fop = 0 then [] else [c.ttr]) ++ (if c.cse then [c.ctr] else [])
def DrainCw.writes (c : DrainCw) : List TrayNo := [c.dst] ++ (if isMx c.ofmt then [c.mtr] else [])

/-- The later tray of the first pair found equal in the order DST, TTR, CTR, MTR (R68 row 4, R393). -/
def DrainCw.samePair (c : DrainCw) : Option TrayNo :=
  let t : Bool := c.fop ≠ 0
  let m := isMx c.ofmt
  if c.cse ∧ c.ctr = c.dst then some c.ctr
  else if m ∧ c.mtr = c.dst then some c.mtr
  else if t ∧ c.cse ∧ c.ctr = c.ttr then some c.ctr
  else if t ∧ m ∧ c.mtr = c.ttr then some c.mtr
  else if c.cse ∧ m ∧ c.mtr = c.ctr then some c.mtr
  else none

/-- Output columns (R68). -/
def State.drainCols (s : State) (c : DrainCw) : Nat := min 32 (s.rowElems c.dst (elemBits c.ofmt))

/-- The checks of R68 in order, with the details of R100 and ARG and PROG of R393. -/
def State.drainFault (s : State) (slot : Nat) (c : DrainCw) : Option TFault :=
  let sl := s.slot (Fin.ofNat 48 slot)
  let rd := (s.tray c.dst).rows
  let h := 32 / (if sl.fold = 0 then 1 else sl.fold)
  let nd := s.drainCols c
  let t : Bool := c.fop ≠ 0
  let tmark := s.lowMark c.ttr rd
  firstFault
    [(slot < 48, { cause := 1, detail := 1, arg := slot }),
     (sl.inuse, { cause := 1, detail := 2, arg := slot }),
     (c.rsv = 0, { cause := 2, detail := 1, arg := slot }),
     (c.ofmt ≠ 15 && c.fop ≠ 3 && (!t || c.tfmt ≤ 8), { cause := 2, detail := 2, arg := slot }),
     (c.samePair.isNone, { cause := 2, detail := 3, arg := (c.samePair.map (·.val)).getD 0 }),
     (rd ≤ h, { cause := 4, detail := 8, arg := c.dst.val }),
     ((!isSix c.ofmt || (s.tray c.dst).bytes % 12 = 0) && (!isMx c.ofmt || nd = 32),
       { cause := 4, detail := 9, arg := c.dst.val }),
     (!t || ((s.tray c.ttr).rows = rd && nd ≤ s.rowElems c.ttr (elemBits c.tfmt)),
       { cause := 4, detail := 10, arg := c.ttr.val }),
     (!c.cse || (s.tray c.ctr).bytes = 128, { cause := 4, detail := 11, arg := c.ctr.val }),
     (!isMx c.ofmt || (s.tray c.mtr).rows = rd, { cause := 4, detail := 12, arg := c.mtr.val }),
     (!(c.cse && s.mark c.ctr 0), { cause := 5, detail := 2, arg := c.ctr.val }),
     (!(t && tmark.isSome), { cause := 5, detail := 2, arg := c.ttr.val, prog := tmark.getD 0 })]

/-- The estimate of R293. -/
def State.drainItems (s : State) (c : DrainCw) : List (Nat × Nat) :=
  let rd := (s.tray c.dst).rows
  [(8, 1), (9, rd), (10, rd * (b2n c.cse + (if c.fop = 0 then 0 else 1)))]

/-- The copy step of a drain that passed its checks (R65). -/
def State.drainStart (s : State) (q : QEntry) (n : Fin 48) (c : DrainCw) : State :=
  let s1 := s.copyStep n (some q.thr)
  let sl := s1.slot n
  let s2 := if c.rel then s1.setSlot n { sl with inuse := false } else s1
  let r : DrainRun :=
    { id := q.id, cw := q.v1, fp := sl.fp, anchor := sl.anchor, rnd := sl.rnd, seed := sl.seed, d := sl.d,
      rd := (s.tray c.dst).rows, nd := s.drainCols c, rel := 0, latch := none, sat := false, inx := false, inv := false }
  (({ s2 with tile := { s2.tile with drains := s2.tile.drains ++ [r] } }).bump .stk 1 1 (some q.thr)).bump .til 2 1
    (some q.thr)

/-! ## The fuser (R69) -/

/-- The value that a shadow element enters with. -/
def shadowVal (fp : Bool) (anchor : BitVec 10) (x : BitVec 96) : Val :=
  if fp then f32.decode (x.toNat % 2 ^ 32)
  else if x = nanMark false then .nan
  else .fin (x.toInt < 0) x.toInt.natAbs (anchor.toInt - 64)

/-- One element's value before conversion: scale, then add or multiply (R69). -/
def fuse (c : DrainCw) (v cj tj : Val) : Val :=
  let v1 := if c.cse then v.mul cj else v
  if c.fop = 1 then sumVals [v1, tj] else if c.fop = 2 then v1.mul tj else v1

/-- An operand row's elements; NaN for a row found bad (R80). -/
def State.fuserRow (s : State) (T : TrayNo) (code r : Nat) (j : Nat) : Val :=
  if s.mark T r then .nan else (fmtOf code).decode (elemAt (elemBits code) (ofBytes (s.rowBytes T r)) j)

/-- The values of destination row `r` (R69). -/
def State.fuseRow (s : State) (d : DrainRun) (c : DrainCw) (r : Nat) : List Val :=
  (List.range d.nd).map fun j =>
    fuse c (shadowVal d.fp d.anchor (getD zero96 s.tile.shadow (32 * r + j)))
      (if c.cse then s.fuserRow c.ctr 8 0 j else .nan) (if c.fop = 0 then .nan else s.fuserRow c.ttr c.tfmt r j)

/-- The draws of a row (R69, R72). -/
def DrainRun.draws (d : DrainRun) (r : Nat) : List Nat :=
  (List.range d.nd).map fun j => draw d.seed r j (2 ^ 47 + (d.d - 1).toNat)

/-- The converted row: its bytes, scale byte and flags (R70, R71). -/
def State.convertRow (s : State) (d : DrainRun) (c : DrainCw) (r : Nat) : List Byte × Byte × List Conv :=
  let vs := s.fuseRow d c r
  let w := elemBits c.ofmt
  let b := (s.tray c.dst).bytes
  if isMx c.ofmt then
    let (sc, cs) := mxBlock c.ofmt vs (slotRnd d.rnd) c.sat (d.draws r)
    (packRow w b (cs.map (·.bits)), BitVec.ofNat 8 sc, cs)
  else
    let cs := (vs.zip (d.draws r)).map fun p => (fmtOf c.ofmt).convert p.1 (slotRnd d.rnd) c.sat p.2
    (packRow w b (cs.map (·.bits)), 0, cs)

/-- Replace a drain. -/
def State.setDrain (s : State) (d : DrainRun) : State :=
  { s with tile := { s.tile with drains := s.tile.drains.map fun x => if x.id = d.id then d else x } }

/-- Write the row in the fuser's latch (R65, R100). -/
def State.writeLatch (s : State) (d : DrainRun) (c : DrainCw) : State :=
  match d.latch with
  | none => s
  | some (r, bs, sc) =>
    let s1 := s.putRow c.dst r bs false
    if isMx c.ofmt then s1.putRow c.mtr r [sc] false else s1

/-- Parity of shadow row `r` as the stream reads it, its columns in order (R76, log 103). -/
def State.checkShadow (s : State) (fp : Bool) (r : Nat) (who : Option Thread := none) : State :=
  (List.range 32).foldl (fun s j =>
    let k := elemKey 48 r j
    if s.tile.badElem.contains k then
      ({ s with tile := { s.tile with
          shadow := setD zero96 s.tile.shadow (32 * r + j) (nanMark fp)
          badElem := s.tile.badElem.filter (· ≠ k) } }).elemRecord 0x3F r j who
    else s) s

/-- Relative step rel + 1 of a drain, 1 to 32: the latched row is written, the next row is fused (R65). -/
def State.streamStep (s : State) (d : DrainRun) : State :=
  let c := drainCw d.cw
  let r := d.rel
  let who := s.entryWho d.id
  let s1 := (s.writeLatch d c).checkShadow d.fp r who
  if r < d.rd then
    let s2 := if c.cse ∧ r = 0 then s1.checkRow c.ctr 1 0 who else s1
    let s3 := if c.fop ≠ 0 then s2.checkRow c.ttr 1 r who else s2
    let (bs, sc, cs) := s3.convertRow d c r
    let d1 := { d with
      rel := d.rel + 1, latch := some (r, bs, sc), sat := d.sat || cs.any (·.sat), inx := d.inx || cs.any (·.inx),
      inv := d.inv || cs.any (·.nan) }
    { s3 with tile := { s3.tile with shadow := s3.tile.shadow.filter fun e => e.1 / 32 ≠ r } }.setDrain d1
  else
    { s1 with tile := { s1.tile with shadow := s1.tile.shadow.filter fun e => e.1 / 32 ≠ r } }.setDrain
      { d with rel := d.rel + 1, latch := none }

/-- Relative step 33: the last row is written; flags go to DRAIN_FLAGS and the owner's TSTAT (R65, R73, R133). -/
def State.drainEnd (s : State) (d : DrainRun) : State :=
  let s1 := s.writeLatch d (drainCw d.cw)
  let f := b2n d.sat + 2 * b2n d.inx + 4 * b2n d.inv
  let s2 := (s1.setReg .stk 0x58 (s1.reg .stk 0x58 ||| BitVec.ofNat 64 f)).ownerFlags f
  ({ s2 with tile := { s2.tile with drains := s2.tile.drains.filter fun x => x.id ≠ d.id } }).retire d.id

/-! ## TZERO, TREL, TCFG -/

/-- The checks of TZERO (R61, R62). -/
def tzeroFault (slot : Nat) (w : Word) : Option TFault :=
  firstFault [(slot < 48, { cause := 1, detail := 1, arg := slot }),
    (wbits w 63 13 = 0, { cause := 2, detail := 1, arg := slot })]

/-- TZERO of a slot (R62). -/
def State.tzeroGo (s : State) (q : QEntry) (n : Fin 48) : State :=
  let w := q.v1
  let s1 := s.setSlot n
    { fp := wbit w 10, anchor := w.setWidth 10, rnd := (w >>> 11).setWidth 2, seed := q.v2, fold := 0, p := 0, d := 0,
      inuse := true, sat := false, inx := false }
  ((({ s1 with tile := { s1.tile with
      elems := s1.tile.elems.filter fun e => e.1 / 1024 ≠ n.val
      badElem := s1.tile.badElem.filter fun k => k / 1024 ≠ n.val } }).bump .stk 2 1 (some q.thr)).bump .til 2 1
    (some q.thr)).retire q.id

/-- TREL of a slot (R63, R92). -/
def State.trelSlotGo (s : State) (q : QEntry) (n : Fin 48) : State :=
  ((s.setSlot n { s.slot n with inuse := false }).bump .til 2 1 (some q.thr)).retire q.id

/-- TREL of a tray (R92). -/
def State.trelTrayGo (s : State) (q : QEntry) (T : TrayNo) : State :=
  (if (s.tray T).inuse then s.zeroTray T (s.tray T).rows (s.tray T).bytes else s).retire q.id

/-- TCFG (R91). -/
def State.tcfgGo (s : State) (q : QEntry) (T : TrayNo) : State :=
  (s.zeroTray T (bits q.x 4 0 + 1) (4 * (bits q.x 9 5 + 1))).retire q.id

/-! ## TMOV (R101) -/

/-- Element size of a transpose in bytes. -/
def movSize (op : Nat) : Nat := if op = 1 then 1 else if op = 2 then 2 else 4

/-- The checks of TMOV. -/
def State.tmovFault (s : State) (dst src : TrayNo) (op : Nat) : Option TFault :=
  let D := s.tray dst
  let S := s.tray src
  let e := movSize op
  if op = 0 then
    firstFault [(D.rows = S.rows && D.bytes = S.bytes, { cause := 4, detail := 13, arg := dst.val })]
  else
    let m := s.lowMark src S.rows
    firstFault
      [(dst ≠ src, { cause := 2, detail := 3, arg := dst.val }),
       (D.rows * e = S.bytes, { cause := 4, detail := 13, arg := dst.val }),
       (D.bytes = S.rows * e, { cause := 4, detail := 13, arg := dst.val }),
       (m.isNone, { cause := 5, detail := 3, arg := src.val, prog := m.getD 0 })]

/-- The copy of R101: bytes, in-use flag and marks. -/
def State.tmovCopy (s : State) (dst src : TrayNo) (who : Option Thread) : State :=
  if dst = src then s
  else
    let n := (s.tray src).rows
    let s1 := s.checkRows src 3 0 n who
    let s2 := (List.range n).foldl (fun s r => s.putRow dst r (s.rowBytes src r) (s.mark src r)) s1
    s2.setTray dst { s2.tray dst with inuse := (s2.tray src).inuse }

/-- The transpose of R101; a row found bad marks every destination row (R80). -/
def State.tmovTurn (s : State) (dst src : TrayNo) (e : Nat) (who : Option Thread) : State :=
  let n := (s.tray src).rows
  let s1 := s.checkRows src 3 0 n who
  let bad := (s1.lowMark src n).isSome
  (List.range (s1.tray dst).rows).foldl (fun s c =>
    s.putRow dst c ((List.range n).flatMap fun r => ((s.rowBytes src r).drop (c * e)).take e) bad) s1

/-- The whole effect of a TMOV. -/
def State.tmovEnd (s : State) (m : MovRun) : State :=
  let who := s.entryWho m.id
  let s1 := if m.op = 0 then s.tmovCopy m.dst m.src who else s.tmovTurn m.dst m.src (movSize m.op.toNat) who
  { s1 with tile := { s1.tile with mov := none } }.retire m.id

end Sys2Proof.Machine
end

