-- ==== Sys2Proof/Machine/Legal.lean ====
section
/-! DEFINITION. Which instruction words are legal: row 1 of R85 and R140 (05_threads_volis14.md R139 to R149;
03_trays_tile_instructions.md R83; 04_whisk_rows.md R112, R113, R121; 09_translation.md R259;
07_local_store_caches.md R211). -/

namespace Sys2Proof.Machine

open Sys2Proof

/-- Words of an X-class instruction, none for a reserved xop (R83, R112, R145). -/
def xopWords (xop : Nat) : Option Nat :=
  if 0x08 ≤ xop ∧ xop ≤ 0x0D then some 3
  else if xop ≤ 0x19 then some 2
  else if xop = 0x26 ∨ xop = 0x27 then some 3
  else if 0x20 ≤ xop ∧ xop ≤ 0x2C then some 2
  else if 0x30 ≤ xop ∧ xop ≤ 0x3B then some 3
  else none

/-- Words of the instruction that word 0 begins; a reserved xop counts as one word. -/
def instrWords (w0 : IWord) : Nat :=
  match wbits w0 13 12 with
  | 1 => if wbit w0 11 then 2 else 1
  | 3 => (xopWords (wbits w0 11 6)).getD 1
  | _ => 1

/-- Accumulator operations: reserved codes and unlisted register fields (R149). -/
def accLegal (g g2 op : Nat) : Bool :=
  match op with
  | 1 => true
  | 7 => true
  | 2 => g = 0 && g2 = 0
  | 10 => g = 0 && g2 = 0
  | 3 => g2 = 0
  | 4 => g2 = 0
  | 5 => g2 = 0
  | 6 => g2 = 0
  | 8 => g2 = 0
  | 9 => g2 = 0
  | _ => false

/-- Scalar X-class words below xop 0x20 (R145 to R151, R211, R259). -/
def scalarLegal (xop opf e1 e2 : Nat) : Bool :=
  match xop with
  | 0x00 => bits opf 5 3 = 0
  | 0x01 => bits opf 5 3 = 0
  | 0x02 => bits opf 5 4 = 0 && e1 = 0
  | 0x03 => bits opf 5 4 = 0 && e1 = 0
  | 0x08 => bits opf 5 5 = 0 && bits e2 13 3 = 0
  | 0x09 => bits opf 5 5 = 0
  | 0x0A => bits opf 5 4 = 0
  | 0x0B => bits opf 5 4 = 0
  | 0x0C => bits opf 5 4 = 0
  | 0x0D => bits opf 5 4 = 0
  | 0x0E => bits opf 5 4 = 0 && bits e1 13 6 = 0
  | 0x0F => bits opf 5 5 = 0 && bits e1 13 8 = 0 && accLegal (bits opf 3 0) (bits e1 3 0) (bits e1 7 4)
  | 0x10 => bits opf 5 5 = 0 && bits e1 13 12 = 0 && bits e1 11 8 ≤ 9
  | 0x11 => bits opf 5 2 = 0 && e1 = 0
  | 0x12 => bits e1 13 12 = 0
  | 0x13 => bits opf 5 4 = 0 && bits e1 13 4 = 0
  | 0x14 => bits opf 5 4 = 0 && bits e1 13 4 = 0
  | 0x15 => e1 = 0
  | 0x16 => opf = 0 && e1 = 0
  | 0x17 => opf = 0 && e1 = 0
  | 0x18 => bits e1 13 2 = 0 && bits e1 1 0 ≠ 3
  | 0x19 => bits opf 5 4 = 0 && bits e1 13 3 = 0 && bits e1 1 0 ≠ 3
  | n => 4 ≤ n && n ≤ 7

/-- Tile instruction words (R83, row 1 of R85). -/
def tileLegal (xop opf e1 x : Nat) : Bool :=
  match xop with
  | 0x20 => bits opf 5 5 = 0 && e1 = 0
  | 0x21 =>
    bits opf 3 0 = 0 &&
      (match bits opf 5 4 with
       | 0 => bits e1 13 4 = 0
       | 1 => bits e1 13 6 = 0
       | 2 => e1 = 0
       | _ => false)
  | 0x22 => bits opf 5 4 = 0 && bits e1 13 10 = 0
  | 0x23 => bits e1 13 8 = 0
  | 0x24 => bits opf 5 4 = 0 && bits e1 13 8 = 0
  | 0x25 => bits opf 5 4 = 0 && bits e1 13 8 = 0
  | 0x26 => bits x 27 24 = 0
  | 0x27 => true
  | 0x28 => bits e1 13 4 = 0
  | 0x29 => bits opf 5 4 = 0 && bits e1 13 6 = 0
  | 0x2A => bits opf 5 2 = 0 && bits opf 1 0 ≠ 3 && e1 = 0
  | 0x2B => bits opf 5 4 = 0 && e1 = 0
  | 0x2C => bits opf 5 4 = 0 && e1 = 0
  | _ => false

/-- Fields that a Whisk instruction does not list are zero (R113). -/
def whiskLegal (xop opf x : Nat) : Bool :=
  let b := bits x 7 4 = 0 && bits x 21 20 = 0
  let c := bits x 11 8 = 0 && bits x 23 22 = 0
  let v := !nbit x 27
  bits opf 5 4 = 0 &&
    (match xop with
     | 0x30 => c
     | 0x31 => c && v
     | 0x32 => true
     | 0x33 => c && v
     | 0x34 => c && v
     | 0x35 => v
     | 0x36 => b && c && v
     | 0x37 => b && c && v
     | 0x38 => b && c && v
     | 0x39 => v
     | 0x3A => b && c && v
     | 0x3B => b && c
     | _ => false)

/-- Would an instruction of these words pass the checks for reserved codes and bits (R85 row 1, R140)? -/
def legalWords (w0 e1 e2 : IWord) : Bool :=
  let xop := wbits w0 11 6
  let opf := wbits w0 5 0
  let x := e1.toNat + e2.toNat * 2 ^ 14
  match wbits w0 13 12 with
  | 0 => wbits w0 11 8 ≠ 15 || wbits w0 3 0 ≤ 10
  | 3 =>
    if xop < 0x20 then scalarLegal xop opf e1.toNat e2.toNat
    else if xop < 0x30 then tileLegal xop opf e1.toNat x
    else whiskLegal xop opf x
  | _ => true

/-- May these words stand in a frozen record of a context image (R194 reason 0x05)? -/
def frozenWords (w0 e1 e2 : IWord) : Bool :=
  let xop := wbits w0 11 6
  wbits w0 13 12 = 3 && legalWords w0 e1 e2 &&
    ((0x22 ≤ xop && xop ≤ 0x29) || (xop = 0x21 && wbits w0 5 4 ≠ 2) || 0x30 ≤ xop) &&
    (instrWords w0 = 3 || e2 = 0)

end Sys2Proof.Machine
end

