-- ==== Sys2Proof/Machine/Operands.lean ====
section
/-! DEFINITION. Operand forms and the value functions of the scalar instructions
(05_threads_volis14.md R141 to R149, R166, R168). -/

namespace Sys2Proof.Machine

open Sys2Proof

/-- The extension word's signed 14-bit byte offset; no word gives offset 0 (R144). -/
def extOffset (e : Option IWord) : Word :=
  match e with
  | none => 0
  | some x => sextW 14 x.toNat

/-- Words of an M-class instruction (R139). -/
def memWords (e : Option IWord) : Nat :=
  match e with
  | none => 1
  | some _ => 2

/-- sext(imm6) (R143). -/
def sext6 (i : BitVec 6) : Word := sextW 6 i.toNat

/-- sext28 (R147). -/
def sext28 (i : BitVec 28) : Word := sextW 28 i.toNat

/-- The number of one bits. -/
def popcount (x : Word) : Word := BitVec.ofNat 64 (popBelow 64 x.toNat)

/-- The number of leading zero bits; 64 for zero. -/
def leadingZeros (x : Word) : Word :=
  BitVec.ofNat 64 (if x.toNat = 0 then 64 else 63 - Nat.log2 x.toNat)

/-- The shift count of SLL, SRL and SRA. -/
def shCount (x : Word) : Nat := x.toNat % 64

/-- Results of the R class that raise no exception (R141). -/
def sllV (a b : Word) : Word := a <<< shCount b
def srlV (a b : Word) : Word := a >>> shCount b
def sraV (a b : Word) : Word := a.sshiftRight (shCount b)
def sltV (a b : Word) : Word := if a.toInt < b.toInt then 1 else 0
def sltuV (a b : Word) : Word := if a.toNat < b.toNat then 1 else 0
def mulhV (a b : Word) : Word := BitVec.ofInt 64 (a.toInt * b.toInt / 2 ^ 64)

/-- Truncated quotient (R148). -/
def quotT (a b : Int) : Int := a.tdiv b

/-- Remainder with the sign of the dividend (R148). -/
def remT (a b : Int) : Int := a.tmod b

/-- SHOL (R147). -/
def sholV (a : Word) (i : BitVec 28) : Word := BitVec.ofNat 64 (a.toNat * 2 ^ 28 + i.toNat)

/-- The low `n` bits of a value, as AMO operands of 32 or 64 bits. -/
def amoBits (wide : Bool) : Nat := if wide then 64 else 32

/-- An AMO operand in the access size. -/
def amoVal (wide : Bool) (x : Word) : Nat := x.toNat % 2 ^ amoBits wide

/-- new(op, old, gs, gd) in the access size (R168). -/
def amoNew (op : Nat) (wide : Bool) (old gs gd : Word) : Nat :=
  let n := amoBits wide
  let o := amoVal wide old
  let s := amoVal wide gs
  match op with
  | 0 => s
  | 1 => (o + s) % 2 ^ n
  | 2 => (BitVec.ofNat n o &&& BitVec.ofNat n s).toNat
  | 3 => (BitVec.ofNat n o ||| BitVec.ofNat n s).toNat
  | 4 => (BitVec.ofNat n o ^^^ BitVec.ofNat n s).toNat
  | 5 => if signed n o ≤ signed n s then o else s
  | 6 => if signed n o ≤ signed n s then s else o
  | 7 => min o s
  | 8 => max o s
  | 9 => if o = amoVal wide gd then s else o
  | _ => o

/-- gd after an AMO: the old value, sign-extended for 32 bits (R168). -/
def amoOld (wide : Bool) (old : Word) : Word := sextW (amoBits wide) old.toNat

/-- The two parts of an access of `n` bytes at `a`: address and length within one 64-byte block (R166). -/
def splitParts (a : Word) (n : Nat) : List (Word × Nat) :=
  let room := 64 - a.toNat % 64
  if n ≤ room then [(a, n)] else [(a, room), (a + BitVec.ofNat 64 room, n - room)]

/-- The naturally aligned units of 1, 2, 4 or 8 bytes that a byte range splits into (R201):
at each point the largest unit that is aligned there and fits. -/
def alignedUnits (fuel a n : Nat) : List (Nat × Nat) :=
  match fuel with
  | 0 => []
  | f + 1 =>
    if n = 0 then []
    else
      let k := if a % 8 = 0 ∧ 8 ≤ n then 8 else if a % 4 = 0 ∧ 4 ≤ n then 4
        else if a % 2 = 0 ∧ 2 ≤ n then 2 else 1
      (a, k) :: alignedUnits f (a + k) (n - k)

/-- Word 0 of an X-class instruction: 0x3000 + xop x 0x40 + operand field (R139). -/
def xWord (xop opfield : Nat) : Word := BitVec.ofNat 64 (0x3000 + xop * 0x40 + opfield)

end Sys2Proof.Machine
end

