-- ==== Sys2Proof/Machine/Xlate.lean ====
section
/-! DEFINITION. Translation: untranslated accesses, TLBs, walks, spans and invalidation
(09_translation.md R245 to R261). -/

namespace Sys2Proof.Machine

open Sys2Proof

/-- How a translation ends. -/
inductive Xl where
  | ok (pa pol : Nat)
  /-- A fault of R254: kind, walk level, span. -/
  | fault (kind level : Nat) (span : Option Nat)
  /-- A walk has been started, or one runs already. -/
  | walking
  /-- No walk can start now (R251: eight at once; R331: quiesced). -/
  | busy
  deriving DecidableEq, Repr

/-- Does an address lie in an active device region (R258)? -/
def State.deviceRegion (s : State) (pa : Nat) : Bool :=
  (List.range 16).any fun r =>
    let lo := s.comN .xlt (0x100 + 0x10 * r)
    let hi := s.comN .xlt (0x108 + 0x10 * r)
    nbit lo 0 && (lo - lo % 2 ^ 14 ≤ pa) && pa < hi

/-- The policy in force at a physical address: device in an active region (R251, R258), elsewhere in the own Crock window
uncached whatever the page's policy (R300). -/
def State.policyAt (s : State) (pa cp : Nat) : Nat :=
  if s.deviceRegion pa then 3 else if s.inCrock pa then 2 else cp

/-- Is a data access of this level untranslated (R246)? -/
def State.untranslated (s : State) (pl : Nat) : Bool :=
  !s.en .xlt || (pl = 3 && nbit (s.comN .xlt 0x50) 0)

/-- Fields of a table entry (R248). -/
def leafOA (v : Word) : Nat := wbits v 57 14
def leafV (v : Word) : Bool := wbit v 0
def leafPtr (v : Word) : Bool := wbit v 1
def leafR (v : Word) : Bool := wbit v 2
def leafW (v : Word) : Bool := wbit v 3
def leafU (v : Word) : Bool := wbit v 5
def leafCP (v : Word) : Nat := wbits v 7 6
def leafA (v : Word) : Bool := wbit v 8
def leafD (v : Word) : Bool := wbit v 9
def leafG (v : Word) : Bool := wbit v 10
def leafScope (v : Word) : Nat := wbits v 12 11

/-- The permission checks of R253 on an entry or span; the fault kind, or none. -/
def permFault (attr : Word) (span : Bool) (pl : Nat) (rd wr : Bool) : Option Nat :=
  if pl = 0 ∧ !leafU attr then some 4
  else if rd ∧ !leafR attr then some 5
  else if wr ∧ !leafW attr then some 6
  else if span ∧ !leafA attr then some 7
  else if span ∧ wr ∧ !leafD attr then some 8
  else none

/-- log2 of the size that a leaf of a level maps (R248). -/
def leafSize (level : Nat) : Nat := if level = 4 then 14 else if level = 3 then 25 else 36

/-- Does a range of size 2^k at `base` cover `va`? -/
def covers (base k va : Nat) : Bool := va / 2 ^ k = base / 2 ^ k

/-- Is a requester a thread (L1 data TLB) or not (Ladle TLB), also after it has left (R250, R252)? -/
def WalkFor.isThread (w : WalkFor) : Bool :=
  match w with
  | .thread _ => true
  | .left t => t.isSome
  | _ => false

/-- The thread behind a requester: of a tile memory run that of its entry (R390). -/
def WalkFor.thread? (w : WalkFor) : Option Thread :=
  match w with
  | .thread t => some t
  | .tile _ t => some t
  | .left t => t
  | .chan _ => none

/-- The first-level TLB of a requester. -/
def State.tlb1 (s : State) (who : WalkFor) : List TlbEntry :=
  if who.isThread then s.xl.l1tlb else s.xl.ldlTlb

/-- Put an entry at the most recent place of a requester's first-level TLB (R250). -/
def State.tlb1Put (s : State) (who : WalkFor) (e : TlbEntry) : State :=
  let same := fun x : TlbEntry => x.base = e.base && x.k = e.k && x.span.isSome = e.span.isSome
  if who.isThread then
    { s with xl := { s.xl with l1tlb := (e :: s.xl.l1tlb.filter fun x => !same x).take 64 } }
  else
    { s with xl := { s.xl with ldlTlb := (e :: s.xl.ldlTlb.filter fun x => !same x).take 32 } }

/-- The valid span that covers an address (R255). -/
def State.spanOf (s : State) (va : Nat) : Option (Nat × Span) :=
  s.xl.spans.find? fun e => e.2.valid && covers e.2.va.toNat e.2.k va

/-- A lost span that would have covered an address, which no later load has covered (R257). -/
def State.lostSpan (s : State) (va : Nat) : Option (Nat × Span) :=
  s.xl.spans.find? fun e => e.2.lost && !e.2.valid && covers e.2.va.toNat e.2.k va
    && !(e.2.holes.any fun h => covers h.1 h.2 va)

/-- Take the next free value of the model (log 6). -/
def State.fresh (s : State) : State := { s with free := s.free + 1 }

/-- The main-TLB way of set `set` whose entry has this base and size. -/
def State.mtlbWay (s : State) (set base k : Nat) : Option Nat :=
  (List.range 8).find? fun w =>
    match lookup s.xl.mtlb (8 * set + w) with
    | some e => e.k = k && covers e.base k base
    | none => false

/-- Does a set hold a span, which takes way 7 (R250)? -/
def State.setHasSpan (s : State) (set : Nat) : Bool :=
  match lookup s.xl.spans set with
  | some x => x.valid
  | none => false

/-- Install a walked entry in the main TLB (R250, R265); a full set's victim is a free value (log 17). -/
def State.mtlbPut (s : State) (e : TlbEntry) : State :=
  let set := e.base / 2 ^ e.k % 4096
  let n := if s.setHasSpan set then 7 else 8
  match s.mtlbWay set e.base e.k with
  | some w => { s with xl := { s.xl with mtlb := put s.xl.mtlb (8 * set + w) e } }
  | none =>
    match (List.range n).find? fun w => (lookup s.xl.mtlb (8 * set + w)).isNone with
    | some w => { s with xl := { s.xl with mtlb := put s.xl.mtlb (8 * set + w) e } }
    | none =>
      let w := (Config.mainTlbVictim s.free).val % n
      { s with xl := { s.xl with mtlb := put s.xl.mtlb (8 * set + w) e }, free := s.free + 1 }

/-- A main-TLB lookup over the three leaf sizes; a parity error drops the entry (R250). -/
def State.mtlbGet (s : State) (va : Nat) : State × Option TlbEntry :=
  let key := fun k => (s.mtlbWay (va / 2 ^ k % 4096) va k).map fun w => 8 * (va / 2 ^ k % 4096) + w
  match (key 14).orElse fun _ => (key 25).orElse fun _ => key 36 with
  | none => (s, none)
  | some i =>
    match lookup s.xl.mtlb i with
    | none => (s, none)
    | some e =>
      if e.bad then ({ s with xl := { s.xl with mtlb := drop s.xl.mtlb i } }, none) else (s, some e)

/-- Is a requester a channel whose descriptor warms (R237, R253)? -/
def State.warmFor (s : State) (who : WalkFor) : Bool :=
  match who with
  | .chan c =>
    match s.ldl[c].desc with
    | some d => wbit ((d[7]?).getD 0) 28
    | none => false
  | _ => false

/-- Start a walk (R251, R252). -/
def State.startWalk (s : State) (va : Word) (pl : Nat) (rd wr : Bool) (who : WalkFor) : State × Xl :=
  if s.xl.walks.any fun w => w.who = who && w.va = va && w.wr = wr then (s, .walking)
  else if 8 ≤ s.xl.walks.length ∨ s.quiescing .xlt then (s, .busy)
  else
    let w : Walk := { id := s.xl.nextWalk, va := va, pl := pl, wr := wr, rd := rd, who := who,
                      level := 1, table := bits (s.comN .xlt 0x58) 57 14, root := bits (s.comN .xlt 0x58) 57 14,
                      ph := .ready, again := false, warm := s.warmFor who }
    (({ s with xl := { s.xl with walks := s.xl.walks ++ [w], nextWalk := s.xl.nextWalk + 1 } }).bump .xlt 1 1
      who.thread?, .walking)

/-- The result of an entry or span that covers the access. -/
def State.useEntry (s : State) (va : Nat) (k oa : Nat) (attr : Word) (span : Option Nat) (pl : Nat)
    (rd wr : Bool) : Xl :=
  match permFault attr span.isSome pl rd wr with
  | some kind => .fault kind 0 span
  | none =>
    let pa := oa / 2 ^ k * 2 ^ k + va % 2 ^ k
    .ok pa (s.policyAt pa (leafCP attr))

/-- Remove every copy of a span from the first-level TLBs (R256, R257). -/
def State.dropCopies (s : State) (i : Nat) : State :=
  { s with xl := { s.xl with
      l1tlb := s.xl.l1tlb.filter fun e => e.span ≠ some i
      ldlTlb := s.xl.ldlTlb.filter fun e => e.span ≠ some i } }

/-- A span's parity error is found by a main-TLB read: no copy of it translates any more (R257). -/
def State.loseSpan (s : State) (i : Nat) (x : Span) (who : Option Thread) : State :=
  let s0 := s.dropCopies i
  let s1 := { s0 with xl := { s0.xl with
    spans := put s0.xl.spans i { x with valid := false, lost := true, bad := false, holes := [] } } }
  ((s1.record .xlt 0 (i * 64) false who).event .xlt 0).mcheck .xlt who

/-- Translate a data access (R245, R246, R251, R253). -/
def State.translate (s : State) (va : Word) (pl : Nat) (rd wr : Bool) (who : WalkFor) : State × Xl :=
  let a := va.toNat
  if 2 ^ 57 ≤ a then (s, .fault 1 0 none)
  else if s.untranslated pl then
    if 2 ^ 40 ≤ a then (s, .fault 1 0 none)
    else (s, .ok (s.chipBase + a) (s.policyAt (s.chipBase + a) (bits (s.comN .xlt 0x50) 2 1)))
  else
    let hit1 := (s.tlb1 who).find? fun e => e.span.isNone && covers e.base e.k a
    let missed := (s.bump .xlt 3 1 who.thread?).charge 0x15 1 who.thread?
    match s.spanOf a with
    | some (i, x) =>
      let copy := (s.tlb1 who).any fun e => e.span = some i
      if !copy && x.bad then (missed.loseSpan i x who.thread?, .fault 12 0 (some i))
      else
        let s1 := if copy then s else missed
        let attr : Word := x.attr.zeroExtend 64
        let s2 := s1.tlb1Put who { base := x.va.toNat, k := x.k, leaf := attr, span := some i, bad := false }
        let r := s.useEntry a x.k x.pa.toNat attr (some i) pl rd wr
        (match r with | .ok _ _ => s2 | _ => s1, r)
    | none =>
      match s.lostSpan a with
      | some (i, _) => (if hit1.isSome then s else missed, .fault 12 0 (some i))
      | none =>
        let fromWalked := fun (s' : State) (e : TlbEntry) =>
          if wr ∧ !leafD e.leaf then s'.startWalk va pl rd wr who
          else
            let r := s'.useEntry a e.k (leafOA e.leaf * 2 ^ 14) e.leaf none pl rd wr
            (match r with | .ok _ _ => s'.tlb1Put who e | _ => s', r)
        match hit1 with
        | some e => fromWalked s e
        | none =>
          let (s1, m) := missed.mtlbGet a
          match m with
          | some e => fromWalked s1 e
          | none => (s1.bump .xlt 2 1 who.thread?).startWalk va pl rd wr who

/-! ## Walks (R247 to R252) -/

/-- Index of a level in a virtual address (R245). -/
def levelIndex (level : Nat) (va : Nat) : Nat :=
  match level with
  | 1 => bits va 56 47
  | 2 => bits va 46 36
  | 3 => bits va 35 25
  | _ => bits va 24 14

/-- Is a valid entry invalid at its level (R249)? -/
def entryInvalid (v : Word) (level : Nat) : Bool :=
  wbit v 13 || (!leafPtr v && level = 1) || (leafPtr v && level = 4)
    || (!leafPtr v && leafW v && !leafR v)
    || (!leafPtr v && level = 3 && wbits v 24 14 ≠ 0)
    || (!leafPtr v && level = 2 && wbits v 35 14 ≠ 0)

/-- How a walk's step ends: it waits, it has installed its entry, or it faults. -/
inductive WalkEnd where
  | waits
  | done
  | fault (kind level : Nat)
  deriving DecidableEq, Repr

/-- Replace a walk. -/
def State.setWalk (s : State) (w : Walk) : State :=
  { s with xl := { s.xl with walks := s.xl.walks.map fun x => if x.id = w.id then w else x } }

/-- Remove a walk. -/
def State.dropWalk (s : State) (id : Nat) : State :=
  { s with xl := { s.xl with walks := s.xl.walks.filter fun x => x.id ≠ id } }

/-- Record a fault of kinds 0x09 to 0x0B (R254). -/
def State.walkRecord (s : State) (kind ea : Nat) (who : Option Thread) : State :=
  if 9 ≤ kind ∧ kind ≤ 11 then (s.record .xlt ea kind false who).event .xlt 1 else s

/-- The requester code of a walk for error records (log 25). -/
def Walk.src (w : Walk) : Src :=
  match w.who with
  | .thread t => .thread t
  | .tile _ t => .tileMem (some t)
  | .chan c => .chan c
  | .left _ => .walker w.id

/-- CHn_CFG in force (R230). -/
def State.chCfg (s : State) (c : Fin 4) : Nat := s.comN .ldl (0x40 + 0x40 * c.val)
def State.chMax (s : State) (c : Fin 4) : Nat := bits (s.chCfg c) 26 16

/-- May a channel hold one more table entry (R220)? -/
def State.chRoom (s : State) (c : Fin 4) : Bool := s.chanReqs c < s.chMax c

/-- May a walk send a request: a channel's counts among those that MAXREQ limits (R220)? -/
def State.walkRoom (s : State) (w : Walk) : Bool :=
  match w.who with
  | .chan c => s.chRoom c
  | _ => true

/-- Install the entry that a walk read (R251). -/
def State.installLeaf (s : State) (w : Walk) (n : Word) : State :=
  let k := leafSize w.level
  let e : TlbEntry := { base := w.va.toNat / 2 ^ k * 2 ^ k, k := k, leaf := n, span := none, bad := false }
  (s.mtlbPut e).tlb1Put w.who e

/-- Put a pointer into the walk cache, most recent first (R250). -/
def State.wcPut (s : State) (level ea : Nat) (v : Word) : State :=
  { s with xl := { s.xl with wcache :=
      ((⟨level, ea, v⟩ : WcEntry) :: s.xl.wcache.filter fun e => !(e.level = level && e.ea = ea)).take 64 } }

/-- A 64-bit compare-and-swap request of a table entry (R251). -/
def casReq (w : Walk) (ea : Nat) (old new : Word) : RtEntry :=
  { newReq (.walkAtom w.id) w.src 2 ea 3 with
    op := 9, data := fitList 64 0 (bytesOf 8 new.toNat ++ bytesOf 8 old.toNat) }

/-- Advance a walk as far as it can go without an answer from outside (R251).  A warm request's walk that would have to
set a flag ends as a failed one, and sets none (R253). -/
def State.walkGo (s : State) (fuel : Nat) (w : Walk) : State × WalkEnd :=
  match fuel with
  | 0 => (s.setWalk w, .waits)
  | f + 1 =>
    let ea := w.table * 2 ^ 14 + 8 * levelIndex w.level w.va.toNat
    let restart : Walk := { w with level := 1, table := w.root, ph := .ready, again := false }
    let bad := fun (k : Nat) => ((s.dropWalk w.id).walkRecord k ea w.who.thread?, WalkEnd.fault k w.level)
    match w.ph with
    | .reading _ => (s, .waits)
    | .swapping _ _ _ => (s, .waits)
    | .ready =>
      if s.deviceRegion ea then bad 10
      else
        let s0 := s.charge 0x15 1 w.who.thread?
        match s.xl.wcache.find? fun e => e.level = w.level && e.ea = ea with
        | some e => (s0.wcPut w.level ea e.leaf).walkGo f { w with level := w.level + 1, table := leafOA e.leaf }
        | none =>
          match s.shelfOff ea with
          | some o =>
            if s.shelfSize < o + 8 then
              (s0.shelfRefused o w.src false).walkGo f { w with ph := .value none }
            else
              let (s1, bs, p) := (s0.charge 0x12 1 w.who.thread?).shelfRead w.src o 8
              s1.walkGo f { w with ph := .value (if p then none else some (word64At bs 0)) }
          | none =>
            match if s.walkRoom w then s0.request true (newReq (.uncRead (.walk w.id)) w.src 0 ea 3) else none with
            | none => (s, .waits)
            | some (s1, i) => (s1.setWalk { w with ph := .reading i }, .waits)
    | .value none => if w.again then s.walkGo f restart else bad 9
    | .value (some v) =>
      if w.again then s.walkGo f restart
      else if !leafV v then bad 2
      else if entryInvalid v w.level then bad 3
      else if leafPtr v then
        (s.wcPut w.level ea v).walkGo f { w with level := w.level + 1, table := leafOA v, ph := .ready }
      else
        match permFault v false w.pl w.rd w.wr with
        | some k => (s.dropWalk w.id, .fault k 0)
        | none =>
          let n : Word := v ||| 0x100 ||| (if w.wr && leafW v then 0x200 else 0)
          if n = v then ((s.dropWalk w.id).installLeaf w n, .done)
          else if w.warm then (s.dropWalk w.id, .fault 0 0)
          else
            match s.shelfOff ea with
            | some o =>
              let (s1, bs, p) := (s.charge 0x12 1 w.who.thread?).shelfRead w.src o 8
              if p then bad 11
              else if word64At bs 0 = v then
                ((((s1.charge 0x13 1 w.who.thread?).shelfWrite w.src o (bytesOf 8 n.toNat)).dropWalk w.id).installLeaf w n,
                  .done)
              else (s1.bump .xlt 4 1 w.who.thread?).walkGo f restart
            | none =>
              match if s.walkRoom w then s.request true (casReq w ea v n) else none with
              | none => (s.setWalk w, .waits)
              | some (s1, i) => (s1.setWalk { w with ph := .swapping i v n }, .waits)
    | .swapped _ _ none => if w.again then s.walkGo f restart else bad 11
    | .swapped old new (some r) =>
      if w.again then s.walkGo f restart
      else if r = old then ((s.dropWalk w.id).installLeaf w new, .done)
      else (s.bump .xlt 4 1 w.who.thread?).walkGo f restart

/-- Steps a walk can take without an answer: four levels, each read and checked, and one restart. -/
def walkFuel : Nat := 24

/-- Can a walk advance now (R251)? -/
def walkDue (w : Walk) : Bool :=
  match w.ph with
  | .reading _ => false
  | .swapping _ _ _ => false
  | _ => true

/-- An abandoned access no longer waits for its walk, which goes on and installs its entry for that requester (R252). -/
def State.orphanWalks (s : State) (who : WalkFor) : State :=
  { s with xl := { s.xl with
      walks := s.xl.walks.map fun w => if w.who = who then { w with who := .left who.thread? } else w } }

/-! ## Invalidation (R259, R260) -/

/-- Does an XINV of a kind remove a walked entry? `least` is the least SCOPE it removes. -/
def xinvHits (kind va least : Nat) (e : TlbEntry) : Bool :=
  e.span.isNone && least ≤ leafScope e.leaf &&
    (if kind = 0 then covers e.base e.k va else if kind = 1 then !leafG e.leaf else true)

/-- Remove walked entries and empty the walk cache; walks in flight start again (R259, R260). -/
def State.xinvApply (s : State) (kind va least : Nat) : State :=
  { s with xl := { s.xl with
      l1tlb := s.xl.l1tlb.filter fun e => !xinvHits kind va least e
      ldlTlb := s.xl.ldlTlb.filter fun e => !xinvHits kind va least e
      mtlb := s.xl.mtlb.filter fun e => !xinvHits kind va least e.2
      wcache := []
      walks := s.xl.walks.map fun w => { w with again := true } } }

/-- Empty the translation caches (R250); spans survive. -/
def State.tlbFlush (s : State) : State :=
  { s with xl := { s.xl with l1tlb := [], ldlTlb := [], mtlb := [], wcache := [] } }

/-! ## Spans (R255, R256) -/

/-- Do two aligned ranges overlap? -/
def spansOverlap (va1 k1 va2 k2 : Nat) : Bool := covers va1 (max k1 k2) va2

/-- Is a span index valid? -/
def State.spanValid (s : State) (i : Nat) : Bool := s.setHasSpan i

/-- Number of valid spans (R256). -/
def State.spanCount (s : State) : Nat := (s.xl.spans.filter fun e => e.2.valid).length

/-- The first failing check of a load (R256). -/
def State.spanLoadCode (s : State) (i rsv : Nat) : Nat :=
  let va := (s.reg .xlt 0x60).toNat
  let pa := (s.reg .xlt 0x68).toNat
  let at_ := (s.reg .xlt 0x70)
  let k := va % 64
  let base := va / 2 ^ 26 * 2 ^ 26
  if rsv ≠ 0 ∨ k < 26 ∨ 48 < k then 1
  else if base % 2 ^ k ≠ 0 ∨ pa % 2 ^ k ≠ 0 ∨ !leafV at_ ∨ leafPtr at_ ∨ (leafW at_ ∧ !leafR at_) then 2
  else if s.xl.spans.any fun e => e.2.valid && spansOverlap e.2.va.toNat e.2.k base k then 0x40
  else if s.spanValid i then 0x41
  else 0

/-- Span load (R256). -/
def State.spanLoad (s : State) (i rsv : Nat) : State :=
  let c := s.spanLoadCode i rsv
  if c ≠ 0 then s.refuse .xlt c
  else
    let va := (s.reg .xlt 0x60).toNat
    let x : Span := { k := va % 64, va := BitVec.ofNat 64 (va / 2 ^ 26 * 2 ^ 26), pa := s.reg .xlt 0x68,
                      attr := (s.reg .xlt 0x70).setWidth 13, valid := true, lost := false, bad := false,
                      holes := [] }
    let covered := fun (e : Nat × Span) =>
      if e.2.lost ∧ spansOverlap e.2.va.toNat e.2.k x.va.toNat x.k then
        (e.1, { e.2 with holes := (x.va.toNat, x.k) :: e.2.holes })
      else e
    ({ s with xl := { s.xl with
        spans := put (s.xl.spans.map covered) i x
        mtlb := drop s.xl.mtlb (8 * i + 7) } }).refuse .xlt 0

/-- Span read back (R256); an invalid span reads back with V = 0. -/
def State.spanReadBack (s : State) (i rsv : Nat) : State :=
  if rsv ≠ 0 then s.refuse .xlt 1
  else
    let r := match lookup s.xl.spans i with
      | some x => (x.va.toNat + x.k, x.pa, x.attr.toNat - b2n (wbit x.attr 0) + b2n x.valid)
      | none => (0, 0, 0)
    ((((s.setReg .xlt 0x60 (BitVec.ofNat 64 r.1)).setReg .xlt 0x68 r.2.1).setReg .xlt 0x70
      (BitVec.ofNat 64 r.2.2))).refuse .xlt 0

/-- Set A and D of a span (R256). -/
def State.spanSetAD (s : State) (i rsv : Nat) : State :=
  if rsv ≠ 0 then s.refuse .xlt 1
  else
    match lookup s.xl.spans i with
    | some x =>
      if x.valid then
        let f : BitVec 13 := ((s.reg .xlt 0x70) &&& 0x300).setWidth 13
        ({ s with xl := { s.xl with spans := put s.xl.spans i { x with attr := x.attr ||| f } } }).refuse .xlt 0
      else s.refuse .xlt 0x42
    | none => s.refuse .xlt 0x42

end Sys2Proof.Machine
end

