-- ==== Sys2Proof/Machine/Ops.lean ====
section
/-! DEFINITION. Named operations over threads: registers, issue and completion, hardware loops,
indivisible pairs, handler entry and fallback (05_threads_volis14.md R152 to R164;
06_privilege_traps.md R171 to R185). -/

namespace Sys2Proof.Machine

open Sys2Proof

/-- The result of a command. -/
abbrev Res := Host.Outcome State Fault Refusal

/-- Position and queue are outside every command's reach (R5; the queue is the sender's). -/
def State.sealed (s t : State) : State := { t with pos := s.pos, pending := s.pending }

/-- Run a command's effect with position and queue kept. -/
def keep (s : State) (r : Res) : Res :=
  match r with
  | .next t => .next (s.sealed t)
  | .fault f => .fault f
  | .refused f => .refused f

/-- An event whose condition holds takes effect; otherwise it does not take place, and nothing changes (log 1). -/
def due (s : State) (c : Bool) (t : State) : Res := if c then .next (s.sealed t) else .next s

/-- A command that always takes effect. -/
def always (s t : State) : Res := .next (s.sealed t)

/-! ## Threads -/

/-- A thread's state. -/
def State.th (s : State) (t : Thread) : HThread := s.thr[t]

/-- Replace a thread's state. -/
def State.setTh (s : State) (t : Thread) (h : HThread) : State := { s with thr := vset s.thr t h }

/-- A general register. -/
def State.g (s : State) (t : Thread) (r : GReg) : Word := (s.th t).g[r]

/-- Write a general register. -/
def State.setG (s : State) (t : Thread) (r : GReg) (v : Word) : State :=
  s.setTh t { s.th t with g := vset (s.th t).g r v }

/-- An accumulator as its integer N (R130). -/
def State.acc (s : State) (t : Thread) (a : Fin 2) : Int := ((s.th t).a[a]).toInt

/-- Write an accumulator. -/
def State.setAcc (s : State) (t : Thread) (a : Fin 2) (v : Int) : State :=
  s.setTh t { s.th t with a := vset (s.th t).a a (BitVec.ofInt 80 v) }

/-- Set a flag of FLG (R132). -/
def State.setFlg (s : State) (t : Thread) (i : Nat) : State :=
  s.setTh t { s.th t with flg := setBit (s.th t).flg i true }

/-- Set a flag when a condition holds. -/
def State.flgIf (s : State) (t : Thread) (i : Nat) (c : Bool) : State := if c then s.setFlg t i else s

/-- Fields of STAT (R171). -/
def HThread.pl (h : HThread) : Nat := wbits h.stat 1 0
def HThread.quiet (h : HThread) : Bool := wbit h.stat 2
def HThread.fs (h : HThread) : Bool := wbit h.stat 3
def HThread.ipl (h : HThread) : Nat := wbits h.stat 8 4
def HThread.adv (h : HThread) : Bool := wbit h.stat 9
def HThread.ss (h : HThread) : Bool := wbit h.stat 10

/-- Is a STAT value one that STAT may hold (R171)? -/
def statOk (v : Word) : Bool := wbits v 1 0 ≠ 2 && wbits v 8 4 ≤ 16 && wbits v 63 11 = 0

/-- Is a MODE value allowed (R131)? -/
def modeOk (v : Word) : Bool := wbits v 2 0 ≤ 4 && wbits v 63 6 = 0

/-- RUN, SLE and DSE of a thread (R286). -/
def State.runBit (s : State) (t : Thread) : Bool := wbit (s.com .tmg 0xB8) (4 * t.val)
def State.sleBit (s : State) (t : Thread) : Bool := wbit (s.com .tmg 0xB8) (4 * t.val + 1)
def State.dseBit (s : State) (t : Thread) : Bool := wbit (s.com .tmg 0xB8) (4 * t.val + 2)

/-- The thread named by IRQ.MC_THREAD (R182). -/
def State.mcThread (s : State) : Nat := bits (s.comN .irq 0x58) 1 0

/-! ## Interrupt sources (R189, R190) -/

/-- Is source `n` level-sensitive? -/
def levelSource (n : Nat) : Bool := n < 16 || n = 28

/-- Is source `n` pending (R189)? -/
def State.srcPending (s : State) (n : Nat) : Bool :=
  if n < 16 then
    ((s.frame (pageOf n)).event &&& ~~~ (s.frame (pageOf n)).mask) ≠ 0
  else if n = 28 then s.noc.barRel
  else if n = 29 ∨ n = 30 ∨ n = 31 then false
  else wbit s.irq.edge n

/-- IRQ.PEND (R190). -/
def State.pend (s : State) : Word :=
  BitVec.ofNat 64 ((List.range 64).foldl (fun a n => a + b2n (s.srcPending n) * 2 ^ n) 0)

/-- Raise an edge (R189). -/
def State.edge (s : State) (n : Nat) : State :=
  { s with irq := { s.irq with edge := setBit s.irq.edge n true } }

/-- No thread has STAT.FS = 1 (R285, R328). -/
def State.noFs (s : State) : Bool := (List.finRange 4).all fun t => !(s.th t).fs

/-- Configuration of a source in force (R190). -/
def State.srcPri (s : State) (n : Nat) : Nat := bits (s.comN .irq (0x200 + 8 * n)) 3 0
def State.srcThr (s : State) (n : Nat) : Nat := bits (s.comN .irq (0x200 + 8 * n)) 5 4
def State.srcEn (s : State) (n : Nat) : Bool := nbit (s.comN .irq (0x200 + 8 * n)) 6

/-- The enabled sources that are pending (R279). -/
def State.enPend (s : State) : Word :=
  BitVec.ofNat 64 ((List.range 64).foldl (fun a n => a + b2n (s.srcPending n && s.srcEn n) * 2 ^ n) 0)

/-- A wake from retention begins: the oscillator restarts (R279, R282, R302). -/
def State.rouse (s : State) : State :=
  match s.tmg.ret with
  | none => s
  | some l =>
    { s with
      tmg := { s.tmg with ret := none, waking := some (l, s.tmg.time) }
      crk := { s.crk with woken := true } }

/-- Does what arrives wait in the port: the core is in retention or waking, or something waits there already (R279)? -/
def State.portHolds (s : State) : Bool := s.tmg.ret.isSome || s.tmg.waking.isSome || !s.noc.inbox.isEmpty

/-- A command arrives at a port that holds it; it wakes the core (R279). -/
def State.arrives (s : State) (c : Instr) : State :=
  { s with noc := { s.noc with inbox := s.noc.inbox ++ [c] } }.rouse

/-- Sources that are pending, enabled and name the thread (R175, R287). -/
def State.sourcesFor (s : State) (t : Thread) : List Nat :=
  (List.range 64).filter fun n => s.srcPending n && s.srcEn n && s.srcThr n = t.val

/-- The pending source of highest priority of at least `ipl`; the lowest number wins (R185). -/
def State.bestSource (s : State) (t : Thread) (ipl : Nat) : Option (Nat × Nat) :=
  (s.sourcesFor t).foldl (fun b n =>
    if s.srcPri n < ipl then b else
    match b with
    | none => some (n, s.srcPri n)
    | some (_, q) => if q < s.srcPri n then some (n, s.srcPri n) else b) none

/-- An event that a thread takes: cause, priority of an interrupt, fault address, fault information. -/
structure Event where
  cause : Nat
  pri : Option Nat
  addr : Word
  info : Word
  deriving DecidableEq, Repr

/-- A synchronous event. -/
def syncEv (cause : Nat) (addr info : Word) : Event := { cause, pri := none, addr, info }

/-- The asynchronous event that a QUIET = 0 thread takes first (R185). -/
def State.asyncEv (s : State) (t : Thread) (quiet : Bool) (ipl : Nat) : Option Event :=
  if quiet then none
  else if s.irq.mcLatch ∧ s.mcThread = t.val then some (syncEv 0xC1 0 0)
  else if s.irq.pfLatch ∧ s.mcThread = t.val then some (syncEv 0xC2 0 0)
  else if s.en .irq then
    match s.bestSource t ipl with
    | some (n, p) => some { cause := 0x40 + n, pri := some p, addr := 0, info := 0 }
    | none => none
  else none

/-- Is the tile-fault trap pending for this thread as owner (R106)? -/
def State.tileTrap (s : State) (t : Thread) : Bool := s.tile.trap && s.tile.owner = some t

/-- Does the thread wait in a TSAVE, which saves a queue that freezes meanwhile (R103, R192)? -/
def HThread.saves (h : HThread) : Bool :=
  match h.wait with
  | .ctx r => r.save
  | _ => false

/-- The event that a thread takes at an allowed boundary (R185); a TSAVE that waits takes no tile-fault trap, since it
saves the frozen queue (R192). -/
def State.boundaryEv (s : State) (t : Thread) : Option Event :=
  let h := s.th t
  if s.tileTrap t && !h.saves then some (syncEv 0x0C s.tile.faultAddr 0)
  else if h.stepTrap then some (syncEv 0x0F 0 0)
  else
    match h.quietOver with
    | some (p, n) => some (syncEv 0xC3 0 (BitVec.ofNat 64 (p.toNat + n * 2 ^ 32)))
    | none => s.asyncEv t h.quiet h.ipl

/-! ## Pairs and waits (R161 to R164) -/

/-- Deliver what the first instruction of a pair left pending (R154, R162). -/
def HThread.deliver (h : HThread) : HThread :=
  match h.pair with
  | none => h
  | some p =>
    { h with
      g := match p.ld with | some (d, v) => vset h.g d v | none => h.g
      mode := p.mode.getD h.mode
      pair := none }

/-- May an event interrupt this wait (R164)?  That of an XINV for earlier stores counts as a FENCE's (log 115). -/
def Wait.interruptible (w : Wait) : Bool :=
  match w with
  | .none => true
  | .stall => true
  | .load p => p.parts.all fun x => match x.pa with | Option.some (_, pol) => pol ≠ 3 | Option.none => true
  | .store _ => true
  | .amo p => !p.sent
  | .fence _ => true
  | .xinv _ _ _ => true
  | .lsm _ _ _ => true
  | .tsync => true
  | .tclaimForce _ => true
  | .trelUnit => true
  | .ctx _ => true

/-- Does the thread wait? -/
def Wait.idle (w : Wait) : Bool :=
  match w with
  | .none => true
  | .stall => true
  | _ => false

/-- Is this a boundary at which the thread may take an event or stop: outside a pair, or in an
interruptible wait (R161, R164)? -/
def HThread.boundary (h : HThread) : Bool :=
  match h.wait with
  | .none => h.pair.isNone
  | .stall => true
  | w => w.interruptible

/-- Is the taker a load or a context transfer of this thread? -/
def Taker.ofThread (k : Taker) (t : Thread) : Bool :=
  match k with
  | .load u => u = t
  | .ctx u _ => u = t
  | _ => false

/-- A request with this thread taken off those who wait for its data. -/
def ReqKind.orphan (k : ReqKind) (t : Thread) : ReqKind :=
  match k with
  | .fill l w a ks => .fill l w a (ks.filter fun x => !x.ofThread t)
  | .uncRead x => .uncRead (if x.ofThread t then .nobody else x)
  | _ => k

/-- The reads of an abandoned access go on; their data reach nobody (R161, R164). -/
def State.orphanReads (s : State) (t : Thread) : State :=
  { s with
    noc := { s.noc with rt := s.noc.rt.map fun e => (e.1, { e.2 with kind := e.2.kind.orphan t }) }
    crk := { s.crk with winReads := s.crk.winReads.filter fun r => r.1 ≠ t } }

/-- Rows of all sixteen trays. -/
def State.allRows (s : State) : Nat := (s.tile.trays.toList.map (·.rows)).sum

/-- A TRSTR of thread `t` that stops after its header check leaves every in-use flag 0, every tray zeroed, each row charged,
and the queue empty (R105, R289). -/
def State.wipeTile (s0 : State) (t : Thread) : State :=
  let s := s0.charge 0x0C s0.allRows (some t)
  { s with tile := { s.tile with
      trays := s.tile.trays.map fun x => { x with inuse := false, marks := 0 }
      data := []
      badRow := []
      slots := s.tile.slots.map fun x => { x with inuse := false }
      queue := []
      frozen := false
      trap := false
      deferred := false
      tprog := setBit s.tile.tprog 63 false } }

/-- Has a thread's context transfer passed the point from which stopping it wipes the tile state (R105)? -/
def HThread.wipes (h : HThread) : Bool :=
  match h.wait with
  | .ctx r => !r.save && r.checked
  | _ => false

/-- What a thread has asked for is given up (R105, R164). -/
def State.orphan (s : State) (t : Thread) : State :=
  (((if (s.th t).wipes then s.wipeTile t else s).orphanReads t).orphanWalks (.thread t))

/-- Abandon an interruptible wait: a pair's first instruction has then completed (R161, R164). -/
def State.abandon (s : State) (t : Thread) : State :=
  let s1 := s.orphan t
  s1.setTh t { (s1.th t).deliver with wait := .none }

/-! ## Handler entry (R177 to R184) -/

/-- A handler descriptor (R177). -/
structure Desc where
  hpc : PAddr
  fs : Bool
  lvl : Nat
  adv : Bool
  mask : Nat
  spm : Nat
  ssh : Nat
  spbase : Word
  deriving DecidableEq, Repr

/-- A descriptor's fields, or none where it is invalid (R177, R178). -/
def decodeDesc (w0 w1 : Word) : Option Desc :=
  let lvl := wbits w0 19 18
  let fs := wbit w0 17
  if wbit w0 30 && wbits w0 63 31 = 0 && (lvl = 1 || lvl = 3) && wbits w0 23 21 ≤ 3
      && wbits w0 25 24 ≠ 3 && (!fs || lvl = 3) then
    some { hpc := w0.setWidth 17, fs := fs, lvl := lvl, adv := wbit w0 20, mask := wbits w0 23 21,
           spm := wbits w0 25 24, ssh := wbits w0 29 26, spbase := w1 }
  else none

/-- A shelf offset CSR value as a number: bits [22:n] (R175). -/
def offBits (v : Word) : Nat := wbits v 22 0

/-- The protected shelf range of a thread (R176). -/
def HThread.protLo (h : HThread) : Nat := offBits h.mshb
def HThread.protHi (h : HThread) : Nat := offBits h.mshl

/-- Does [a, a+n) overlap a thread's protected range (R176)? -/
def HThread.protects (h : HThread) (a n : Nat) : Bool :=
  h.protLo < h.protHi && a < h.protHi && h.protLo < a + n && 0 < n

/-- Does [a, a+n) overlap the protected range of any thread (R208)? -/
def State.anyProtects (s : State) (a n : Nat) : Bool :=
  (List.range 4).any fun i => (s.th (Fin.ofNat 4 i)).protects a n

/-- Read descriptor `c` of a thread: the descriptor, or the fallback reason (R177, R178, R184, R240). -/
def State.readDesc (s : State) (t : Thread) (c : Nat) : State × (Nat ⊕ Desc) :=
  let h := s.th t
  let b := offBits h.hdtb
  if !(h.protLo ≤ b && b + 4096 ≤ h.protHi) || s.shelfSize < b + 4096 then (s, .inl 2)
  else
    let (s1, bs0, p) := s.shelfRead (.thread t) (b + 16 * c) 16
    let bs := s1.sbSeen (b + 16 * c) bs0
    if p then (s1, .inl 2)
    else
      match decodeDesc (word64At bs 0) (word64At bs 8) with
      | none => (s1, .inl 1)
      | some d => (s1, .inr d)

/-- The cause word (R179). -/
def causeWord (e : Event) (fallback : Nat) : Nat := e.cause + e.pri.getD 0 * 2 ^ 8 + fallback * 2 ^ 16

/-- The 256 bytes of a TSB (R179). -/
def tsbBytes (h : HThread) (e : Event) (fallback : Nat) (tprog : Word) : List Byte :=
  h.g.toList.flatMap (fun v => bytesOf 8 v.toNat)
    ++ bytesOf 8 (h.a[0].toNat % 2 ^ 64) ++ bytesOf 8 (BitVec.ofInt 64 (signed 16 (h.a[0].toNat / 2 ^ 64))).toNat
    ++ bytesOf 8 (h.a[1].toNat % 2 ^ 64) ++ bytesOf 8 (BitVec.ofInt 64 (signed 16 (h.a[1].toNat / 2 ^ 64))).toNat
    ++ bytesOf 8 h.pc.toNat ++ bytesOf 8 h.stat.toNat ++ bytesOf 8 h.mode.toNat
    ++ bytesOf 8 (h.lc[0].toNat + h.lc[1].toNat * 2 ^ 32)
    ++ bytesOf 8 (h.ls[0].toNat + h.le[0].toNat * 2 ^ 32)
    ++ bytesOf 8 (h.ls[1].toNat + h.le[1].toNat * 2 ^ 32)
    ++ bytesOf 8 (causeWord e fallback) ++ bytesOf 8 e.addr.toNat ++ bytesOf 8 e.info.toNat
    ++ bytesOf 8 tprog.toNat ++ List.replicate 16 0

/-- Can a TSB be written at a shelf offset: it lies in the configured shelf (R183, R184)? -/
def State.tsbInShelf (s : State) (b : Nat) : Bool := b + 256 ≤ s.shelfSize

/-- Does the write of a TSB fail: one of its blocks cannot be written (R183, R184, log 8)? -/
def State.tsbFails (s : State) (b : Nat) : Bool :=
  (blocksOf b 256).any fun k => s.ls.shelfDead.contains k

/-- Write a thread's TSB (R179, R183, R240). -/
def State.writeTsb (s : State) (t : Thread) (b : Nat) (e : Event) (fallback : Nat) : State :=
  s.shelfWriteBy t b (tsbBytes (s.th t) e fallback s.tile.tprog)

/-- Clear the latch of the event that is entered (R183, R189, R389). -/
def State.clearLatch (s : State) (t : Thread) (e : Event) : State :=
  if 0x40 ≤ e.cause ∧ e.cause < 0x80 then
    (if levelSource (e.cause - 0x40) then s
     else { s with irq := { s.irq with edge := setBit s.irq.edge (e.cause - 0x40) false } })
  else if e.cause = 0xC1 then { s with irq := { s.irq with mcLatch := false } }
  else if e.cause = 0xC2 then { s with irq := { s.irq with pfLatch := false } }
  else if e.cause = 0xC3 then s.setTh t { s.th t with quietOver := none }
  else if e.cause = 0x0C then { s with tile := { s.tile with trap := false } }
  else if e.cause = 0x0F then s.setTh t { s.th t with stepTrap := false }
  else s

/-- STAT of a handler (R183). -/
def handlerStat (st : Word) (d : Desc) (nl : Nat) (forced : Bool) (e : Event) : Word :=
  let s1 := setBit (setBit (setBit (setBits st 1 0 nl) 3 d.fs) 9 d.adv) 10 false
  let s2 := match e.pri with
    | some p => if d.mask = 1 then setBits s1 8 4 (p + 1) else s1
    | none => s1
  let s3 := if d.mask = 2 ∨ forced then setBit s2 2 true else s2
  if d.mask = 3 then setBits s3 8 4 16 else s3

/-- The QUIET count restarts at 0 whenever QUIET is set from 0 (R173). -/
def HThread.withStat (h : HThread) (st : Word) : HThread :=
  let fresh := wbit st 2 && !h.quiet
  { h with
    stat := st
    quietCnt := if fresh then 0 else h.quietCnt
    quietFired := !fresh && h.quietFired }

/-- g14 of a handler (R177, R183). -/
def handlerSp (h : HThread) (t : Thread) (d : Desc) : Word :=
  if d.spm = 1 then d.spbase
  else if d.spm = 2 then d.spbase - BitVec.ofNat 64 (t.val * 2 ^ (12 + d.ssh))
  else h.g[14]

/-- The thread's registers on the first instruction of a handler, the TSB pointer apart (R183). -/
def HThread.enter (h : HThread) (t : Thread) (d : Desc) (nl : Nat) (forced : Bool) (e : Event) (st : Word) : HThread :=
  { h.withStat (handlerStat st d nl forced e) with
    g := vset h.g 14 (handlerSp h t d)
    lc := Vector.replicate 2 0
    pc := d.hpc
    entered := true }

/-- Set the TSB pointer of a level. -/
def HThread.setTsbp (h : HThread) (nl : Nat) (b : Nat) : HThread :=
  if nl = 1 then { h with tsbps := BitVec.ofNat 64 (b % 2 ^ 23) } else { h with tsbpm := BitVec.ofNat 64 (b % 2 ^ 23) }

/-- The TSB pointer of a level (R180). -/
def HThread.tsbp (h : HThread) (nl : Nat) : Nat := if nl = 1 then offBits h.tsbps else offBits h.tsbpm

/-- The causes that always enter M (R181, R183). -/
def forcedCause (c : Nat) : Bool := 0xC0 ≤ c && c ≤ 0xC4

/-- The fallback entry, and the halt where its own TSB cannot be written (R184); it clears the latch of the event that it
delivers as a handler entry does (log 105). -/
def State.fallback (s : State) (t : Thread) (e : Event) (reason : Nat) : State :=
  let b := (s.th t).tsbp 3
  if !s.tsbInShelf b || s.tsbFails b then
    (((s.setTh t { s.th t with halted := true }).record .ras 0
      (e.cause + t.val * 2 ^ 8 + reason * 2 ^ 10) true (some t)).fatalCond 4 .ras (some t))
  else
    let s1 := s.writeTsb t b e reason
    let h := s1.th t
    let st := setBit (setBit (setBit (setBit (setBits h.stat 1 0 3) 3 true) 2 true) 9 true) 10 false
    let h1 := ({ h.withStat st with lc := Vector.replicate 2 0, pc := 0x10, entered := true }).setTsbp 3 (b + 256)
    (((s1.setTh t h1).clearLatch t e).bump .irq 3 1 (some t)).charge 0x1E 1 (some t)

/-- Handler entry (R183). -/
def State.enter (s : State) (t : Thread) (e : Event) : State :=
  let pl := (s.th t).pl
  let forced := forcedCause e.cause
  let (s1, r) := s.readDesc t e.cause
  match r with
  | .inl reason => s1.fallback t e reason
  | .inr d =>
    let nl := if forced then 3 else d.lvl
    let b := (s1.th t).tsbp nl
    if nl < pl then s1.fallback t e 3
    else if !s1.tsbInShelf b || (nl = 1 && (s1.th t).protects b 256) then s1.fallback t e 4
    else if s1.tsbFails b then s1.fallback t e 5
    else
      let s2 := s1.writeTsb t b e 0
      let h := s2.th t
      let h1 := h.enter t d nl forced e h.stat
      let h2 := if d.adv then h1.setTsbp nl (b + 256) else h1
      (((s2.setTh t h2).clearLatch t e).bump .irq 1 1 (some t)).charge 0x1E 1 (some t)

/-- A synchronous trap of the instruction in progress: a pair's first instruction has completed (R162), and its single
step is not taken by itself (log 82). -/
def State.trap (s : State) (t : Thread) (cause : Nat) (addr info : Word) : State :=
  let h := (s.th t).deliver
  ((s.setTh t { h with wait := .none }).orphan t).enter t (syncEv cause addr info)

/-- A synchronous trap whose TSB names the next instruction in sequence; no loop decision is made (R181: TRAP; log 86). -/
def State.trapNext (s : State) (t : Thread) (n cause : Nat) : State :=
  let h := (s.th t).deliver
  ((s.setTh t { h with wait := .none, pc := h.pc + BitVec.ofNat 17 n }).orphan t).enter t
    (syncEv cause 0 0)

/-! ## Completion (R154, R160 to R163, R174) -/

/-- What an instruction opens, as the first of a pair, or delivers at its own completion as the second (R163). -/
inductive Opens where
  | nothing
  | load (d : GReg) (v : Word)
  | mode (v : Word)
  deriving DecidableEq, Repr

/-- The loop-end decision of R160: loop counts and the next pc. -/
def loopEnd (lc : Vector (BitVec 32) 2) (ls le : Vector PAddr 2) (nxt : PAddr) (jump : Option PAddr) :
    Vector (BitVec 32) 2 × PAddr :=
  let go := jump.getD nxt
  if lc[1] ≠ 0 ∧ nxt = le[1] then
    (if jump.isSome then (lc, go)
     else if 1 < lc[1].toNat then (lc.set 1 (lc[1] - 1), ls[1])
     else
       let lc' := lc.set 1 0
       if lc[0] ≠ 0 ∧ nxt = le[0] then
         (if 1 < lc[0].toNat then (lc'.set 0 (lc[0] - 1), ls[0]) else (lc'.set 0 0, go))
       else (lc', go))
  else if lc[0] ≠ 0 ∧ nxt = le[0] then
    (if jump.isSome then (lc, go)
     else if 1 < lc[0].toNat then (lc.set 0 (lc[0] - 1), ls[0])
     else (lc.set 0 0, go))
  else (lc, go)

/-- Registers after an instruction as the second of a pair (R154, R163). -/
def HThread.closePair (h : HThread) (p : Pair) (o : Opens) : HThread :=
  let own := match o with | .load d v => vset h.g d v | _ => h.g
  let g := match p.ld with | some (d, v) => vset own d v | none => own
  let mode := match o with | .mode v => v | _ => p.mode.getD h.mode
  { h with g := g, mode := mode, pair := none }

/-- Registers after an instruction that is no second of a pair: it may open one. -/
def HThread.openPair (h : HThread) (o : Opens) (lc0 lc1 : BitVec 32) : HThread :=
  match o with
  | .nothing => h
  | .load d v =>
    { h with pair := some { first := h.pc, ld := some (d, v), mode := none, lc0 := lc0, lc1 := lc1, step := h.ss } }
  | .mode v =>
    { h with pair := some { first := h.pc, ld := none, mode := some v, lc0 := lc0, lc1 := lc1, step := h.ss } }

/-- Is the single-step trap due after an instruction: SS = 1 at its completion, or at that of the pair's first; the
first of a pair leaves it to the second (R174)? -/
def HThread.steps (h : HThread) (o : Opens) : Bool :=
  match h.pair with
  | some p => p.step || h.ss
  | none => o = .nothing && h.ss

/-- The thread after the completion of an instruction of `n` words; addresses past the top of program memory go on at
its bottom (log 86).  `lc` holds the loop counts that the
decision uses and `h` already has the instruction's own writes. -/
def HThread.complete (h : HThread) (n : Nat) (jump : Option PAddr) (o : Opens) : HThread :=
  let nxt := h.pc + BitVec.ofNat 17 n
  let r := loopEnd h.lc h.ls h.le nxt jump
  let h1 := match h.pair with
    | some p => h.closePair p o
    | none => h.openPair o h.lc[0] h.lc[1]
  { h1 with lc := r.1, pc := r.2, wait := .none, entered := false, stepTrap := h.stepTrap || h.steps o }

/-- The Crock line of the active slot that holds firmware word `w` (R157). -/
def State.fwLine (s : State) (w : Nat) : Nat := b2n s.crk.active * 0x1_0000 + w / 18

/-- A taken branch or loop-back of a thread with FS = 1 goes to the front of the branch-target buffer;
the line at its target is held when the thread's line buffer has it (R157). -/
def State.btbPush (s : State) (t : Thread) (nxt : PAddr) : State :=
  let h := s.th t
  if h.fs && h.pc ≠ nxt then
    let held := (s.crk.btb.any fun e => e.target = h.pc && e.filled) || s.crk.fwLines.contains (t, s.fwLine h.pc.toNat)
    { s with crk := { s.crk with
        btb := (({ target := h.pc, filled := held } : BtbEntry) :: s.crk.btb.filter fun e => e.target ≠ h.pc).take 64 } }
  else s

/-- Completion of an instruction of thread `t`. -/
def State.complete (s : State) (t : Thread) (n : Nat) (jump : Option PAddr := none) (o : Opens := .nothing) : State :=
  (s.setTh t ((s.th t).complete n jump o)).btbPush t ((s.th t).pc + BitVec.ofNat 17 n)

/-! ## Issue (R152, R158, R162, R185, R243) -/

/-- Bounds of program memory for a level: [BASE, LIMIT) (R243, R244). -/
def State.pmbLo (s : State) (pl : Nat) : Nat := bits (s.comN .xlt (if pl = 0 then 0x40 else 0x48)) 16 0
def State.pmbHi (s : State) (pl : Nat) : Nat := bits (s.comN .xlt (if pl = 0 then 0x40 else 0x48)) 49 32

/-- May a level reach a word of program memory (R243)? -/
def State.pmAllowed (s : State) (pl w : Nat) : Bool := pl = 3 || (s.pmbLo pl ≤ w && w < s.pmbHi pl)

/-- Stored parity bits of a 14-bit word: P0 over [6:0], P1 over [13:7], odd (R158). -/
def pmEncode (w : IWord) : BitVec 16 :=
  BitVec.ofNat 16 (w.toNat + b2n (!oddOnes 7 (wbits w 6 0)) * 2 ^ 14 + b2n (!oddOnes 7 (wbits w 13 7)) * 2 ^ 15)

/-- What an unlisted program-memory word reads as (log 4). -/
def pmEmpty (_ : Nat) : BitVec 16 := 0xC000

/-- A stored program-memory word. -/
def State.pmWord (s : State) (w : Nat) : BitVec 16 := getD pmEmpty s.pm w

/-- Does a stored word pass its parity check (R158)? -/
def pmGood (x : BitVec 16) : Bool := pmEncode (x.setWidth 14) = x

/-- The physical line of a logical Crock line (R299, R321). -/
def State.crockPhys (s : State) (line : Nat) : Nat :=
  if line / 128 < 3456 then ((lookup s.crk.wmap (line / 128)).getD (line / 128)) * 128 + line % 128 else line

/-- Errors of the physical line that a logical line maps to. -/
def State.lineErr (s : State) (line : Nat) : LineErr :=
  (lookup s.crk.errs (s.crockPhys line)).getD { normal := 0, margin := 0 }

/-- A word out of the thread's program-memory bounds: cause and fault information (R181, R243). -/
def State.fetchBound (s : State) (h : HThread) (w : Nat) : Option (Nat × Nat) :=
  if !h.fs && !s.pmAllowed h.pl w then some (0x08, w) else none

/-- A word that fails its integrity check: cause and fault information (R158, R181). -/
def State.fetchBad (s : State) (h : HThread) (w : Nat) : Option (Nat × Nat) :=
  if h.fs then
    (if 5 ≤ (s.lineErr (s.fwLine w)).normal then some (0xC0, w + 2 ^ 17) else none)
  else if !pmGood (s.pmWord w) then some (0xC0, w)
  else none

/-- The fetch fault of an instruction of `n` words at the thread's pc: a word out of bounds comes before one that fails
its check (R185); words past the top of program memory lie at its bottom (log 86). -/
def State.fetchFault (s : State) (t : Thread) (n : Nat) : Option (Nat × Nat) :=
  let h := s.th t
  let ws := (List.range n).map fun i => (h.pc.toNat + i) % 2 ^ 17
  match ws.findSome? (s.fetchBound h) with
  | some f => some f
  | none => ws.findSome? (s.fetchBad h)

/-- A fetch fault: in a second slot it is reported at the first instruction, whose pending write is
discarded (R162); its loop counts are restored so that it runs again as before (log 26). -/
def State.fetchTrap (s : State) (t : Thread) (cause info : Nat) : State :=
  let h := s.th t
  let h1 := match h.pair with
    | none => h
    | some p => { h with pc := p.first, lc := #v[p.lc0, p.lc1], pair := none }
  (s.setTh t { h1 with wait := .none }).enter t (syncEv cause 0 (BitVec.ofNat 64 info))

/-- Are the firmware words that an instruction of `n` words needs in the thread's line buffer, or in the
branch-target buffer (R152, R157)? -/
def State.fetched (s : State) (t : Thread) (n : Nat) : Bool :=
  let h := s.th t
  !h.fs || (List.range n).all fun i =>
    let l := s.fwLine ((h.pc.toNat + i) % 2 ^ 17)
    s.crk.fwLines.contains (t, l) || s.crk.btb.any fun e => e.filled && s.fwLine e.target.toNat = l

/-- Does the core run: out of reset, started, not in retention (R279, R361)? -/
def State.running (s : State) : Bool :=
  s.phase = .run && s.startAt ≤ s.tmg.time && s.tmg.ret.isNone && s.tmg.waking.isNone

/-- Does something wait for the thread's next boundary: an event of R185, where none has been taken yet (log 22), a stop or
a per-thread reset (R286, R358)? -/
def State.boundaryDue (s : State) (t : Thread) : Bool :=
  let h := s.th t
  (!h.entered && (s.boundaryEv t).isSome) || !s.runBit t || h.resetReq

/-- Must the thread take an event or an action before it issues, outside a pair (R162)? -/
def State.mustStop (s : State) (t : Thread) : Bool := (s.th t).pair.isNone && s.boundaryDue t

/-- Is the thread ready to issue (R152)? -/
def State.ready (s : State) (t : Thread) : Bool :=
  let h := s.th t
  s.running && !h.stopped && !h.halted && h.sleep = .awake && h.wait.idle && !s.mustStop t

/-- How an instruction's execution ends. -/
inductive Ends where
  /-- It completes in sequence, opening what it opens. -/
  | done (s : State) (o : Opens)
  /-- It completes with a transfer of control. -/
  | jump (s : State) (pc : PAddr)
  /-- It raises a synchronous trap: cause, fault address, fault information. -/
  | trap (s : State) (cause : Nat) (addr info : Word)
  /-- It waits, with its wait set, or has entered a handler by itself. -/
  | waits (s : State)
  /-- It completes in sequence, and these registers change after the loop-end decision (R150). -/
  | late (s : State) (f : HThread → HThread)
  /-- It does not issue and may be presented again (R85 row 6). -/
  | stall

/-- Finish an instruction of `n` words; `s0` is the state before it issued. -/
def Ends.finish (r : Ends) (s0 : State) (t : Thread) (n : Nat) : State :=
  match r with
  | .done s o => s.complete t n none o
  | .jump s pc => s.complete t n (some pc)
  | .trap s c a i => s.trap t c a i
  | .waits s => s
  | .late s f => (s.complete t n).setTh t (f ((s.complete t n).th t))
  | .stall => s0.setTh t { s0.th t with wait := .stall, entered := false }

/-- Count and charge the issue of an instruction (R289, R377). -/
def State.issued (s : State) (t : Thread) : State :=
  ((s.setTh t { s.th t with wait := .none, entered := false }).bump .thr 1 1 (some t)).charge 0x10 1 (some t)

/-- An instruction of `n` words issues on thread `t` (R152, R185). -/
def issue (s : State) (t : Thread) (n : Nat) (body : State → Ends) : Res :=
  if s.ready t && s.fetched t n then
    keep s (.next
      (match s.fetchFault t n with
       | some (c, i) => s.fetchTrap t c i
       | none => (body (s.issued t)).finish s t n))
  else .refused .threadNotReady

end Sys2Proof.Machine
end

