-- ==== Sys2Proof/Machine/Scale.lean ====
section
/-! DEFINITION. The Scale's grants, admission and policy (10_timing_energy.md R291, R293, R294). -/

namespace Sys2Proof.Machine

open Sys2Proof

/-- Does a grant's payload have a reserved bit or byte set (R291)? -/
def grantBad (data : List Byte) : Bool :=
  wbits (word64At data 8) 63 49 ≠ 0 || (data.drop 16).any (· ≠ 0)

/-- Apply an accepted grant (R291). -/
def State.applyGrant (s : State) (data : List Byte) : State :=
  let w0 := word64At data 0
  let w1 := word64At data 8
  let amount : Int := 16 * (wbits w0 47 0 : Nat)
  let b := if wbit w1 48 then amount else s.scl.bal + amount
  let s1 := if wbit w1 47 then
      (s.setReg .scl 0x60 (BitVec.ofNat 64 (wbits w1 46 0))).setCom .scl 0x60 (BitVec.ofNat 64 (wbits w1 46 0))
    else s
  let s2 := s1.setBal (if balMax < b then balMax else b)
  let s3 := { s2 with scl := { s2.scl with grantSeq := BitVec.ofNat 16 (wbits w0 63 48), seen := true } }
  (s3.event .scl 2).bump .scl 9 1

/-- The Scale's handling of a grant (R291). -/
def State.grant (s : State) (data : List Byte) : State :=
  if grantBad data then s.bump .scl 10 1
  else if s.scl.seen ∧ BitVec.ofNat 16 (wbits (word64At data 0) 63 48) = s.scl.grantSeq then s.event .scl 3
  else s.applyGrant data

/-- The estimate of an entry: the sum of its classes' units at the weights in force (R293). -/
def State.estimate (s : State) (items : List (Nat × Nat)) : Nat :=
  items.foldl (fun a x => a + x.2 * s.weight x.1) 0

/-- Count an admitted entry's charges in the energy counters (R288). -/
def State.countItems (s : State) (items : List (Nat × Nat)) (who : Option Thread) : State :=
  items.foldl (fun s x => s.countEnergy x.1 (x.2 * s.weight x.1) who) s

/-- Admission of an entry: none where it is deferred (R293). -/
def State.admission (s : State) (items : List (Nat × Nat)) (who : Option Thread) : Option State :=
  let c := s.estimate items
  if !s.en .scl then some ((s.setBal (s.scl.bal - c)).countItems items who)
  else if c ≤ s.scl.rsv then
    some (({ s with scl := { s.scl with rsv := s.scl.rsv - c } }).countItems items who)
  else if -s.ovd ≤ s.scl.bal - c then some ((s.setBal (s.scl.bal - c)).countItems items who)
  else none

/-- Defer the head entry (R293, R295). -/
def State.deferHead (s : State) : State :=
  ({ s with tile := { s.tile with deferred := true } }).event .scl 4

/-- VL_CTRL fields in force (R276). -/
def State.vlTarget (s : State) : Nat := bits (s.comN .tmg 0x90) 2 0
def State.vlFloor (s : State) : Nat := bits (s.comN .tmg 0x90) 6 4
def State.vlCeil (s : State) : Nat := bits (s.comN .tmg 0x90) 10 8

/-- The level a policy move would ask for, if one is due (R294). -/
def State.policyWant (s : State) : Option Nat :=
  let pol := s.comN .scl 0x78
  let down := min s.vlCeil (max s.vlFloor (s.tmg.vlCur.val - 1))
  if s.tile.deferred ∧ nbit pol 0 ∧ down ≠ s.tmg.vlWant.val then some down
  else if nbit pol 1 ∧ s.hiwat ≤ s.scl.bal ∧ s.tmg.vlWant.val < s.vlCeil then some (s.tmg.vlWant.val + 1)
  else none

/-- May the policy move now: once per DWELL µs, SCL not quiesced, TMG enabled, and not in retention, where every register
keeps its value (R279, R294, R331)? -/
def State.policyFree (s : State) : Bool :=
  s.tmg.ret.isNone && s.en .scl && !s.quiescing .scl && s.en .tmg &&
    s.scl.lastMove + 100 * bits (s.comN .scl 0x78) 15 8 ≤ s.tmg.time

/-- SCALE_POLICY_MOVE (R294). -/
def execScalePolicyMove (s : State) : Res :=
  match s.policyWant with
  | none => .next s
  | some l =>
    due s s.policyFree
      { s with
        tmg := { s.tmg with vlWant := Fin.ofNat 8 l }
        scl := { s.scl with lastMove := s.tmg.time } }

/-- LEAKAGE_CHARGE: one oscillator cycle of leakage (R289). -/
def execLeakageCharge (s : State) : Res :=
  due s s.tmg.ret.isNone (s.charge 0x1C 1)

end Sys2Proof.Machine
end

