-- ==== Sys2Proof/Machine/MemPath.lean ====
section
/-! DEFINITION. Reads and writes of one 128 B line or 64 B block under a page's policy, shared by the store
buffer, the tile memory path, the Ladle and the context engine
(07_local_store_caches.md R195, R196, R201 to R203, R207, R215; 08_ladle_noc_port.md R223;
11_crock_persistence.md R300). -/

namespace Sys2Proof.Machine

open Sys2Proof

/-! ## Windows of the own core -/

/-- Where a physical address leads (R207, R300, R354). -/
inductive Win where
  | mem
  | shelf (o : Nat)
  | mmio (o : Nat)
  | crock (o : Nat)
  deriving DecidableEq, Repr

/-- The window that an address lies in. -/
def State.window (s : State) (pa : Nat) : Win :=
  match s.shelfOff pa with
  | some o => .shelf o
  | none =>
    match s.mmioOff pa with
    | some o => .mmio o
    | none => if s.inCrock pa then .crock (pa - s.crockBase) else .mem

/-- SRC of CRK.ERR_INFO (R330); a TLD or TST is an access of its thread. -/
def Src.crockCode (x : Src) : Nat :=
  match x with
  | .thread t => t.val
  | .tileMem (some t) => t.val
  | .chan c => (Config.crockSrcLadle c).toNat
  | _ => 8

/-- ERR_ADDR of the CRK page: logical line and physical block (R330). -/
def State.crockAddr (s : State) (line : Nat) : Nat := line % 2 ^ 19 + s.crockPhys line / 128 % 4096 * 2 ^ 20

/-- A refused access to the Crock window (R300). -/
def State.crockRefused (s : State) (o : Nat) (src : Src) : State :=
  (s.record .crk (s.crockAddr (o / 32)) (4 + 256 * src.crockCode) false src.thread?).event .crk 10

/-! ## Line bytes -/

/-- A piece of bytes at an offset within a line of 128, as masked bytes. -/
def spread (o : Nat) (bs : List Byte) : List (Byte × Bool) :=
  fitList 128 (0, false) (List.replicate o (0, false) ++ bs.map (fun b => (b, true)))

/-- Lay masked bytes over others: the later ones win. -/
def overlay (a b : List (Byte × Bool)) : List (Byte × Bool) :=
  (a.zip b).map fun p => if p.2.2 then p.2 else p.1

/-- Is a half of the masked line all written, or touched at all? -/
def halfOf (ms : List (Byte × Bool)) (h : Nat) : List (Byte × Bool) := (ms.drop (64 * h)).take 64
def halfFull (ms : List (Byte × Bool)) (h : Nat) : Bool := (halfOf ms h).all (·.2)
def halfUsed (ms : List (Byte × Bool)) (h : Nat) : Bool := (halfOf ms h).any (·.2)

/-- The poison mark of a half after a write: whole writes replace it, partial ones keep or set it (R215). -/
def newPois (ms : List (Byte × Bool)) (h : Nat) (old new : Bool) : Bool :=
  if halfFull ms h then new else old || (new && halfUsed ms h)

/-- Merge masked bytes into a line that is present. -/
def LsLine.merge (l : LsLine) (ms : List (Byte × Bool)) (pois : BitVec 2) (dirty : Bool) : LsLine :=
  { l with
    data := (l.data.zip ms).map fun p => if p.2.2 then p.2.1 else p.1
    dirty := l.dirty || dirty
    errs := (if halfFull ms 0 then 0 else l.errs.1, if halfFull ms 1 then 0 else l.errs.2)
    pois := BitVec.ofNat 2 (b2n (newPois ms 0 (wbit l.pois 0) (wbit pois 0))
      + 2 * b2n (newPois ms 1 (wbit l.pois 1) (wbit pois 1))) }

/-- Drop the L1D copies of the halves that a write touches (R196). -/
def State.l1DropUsed (s : State) (line : Nat) (ms : List (Byte × Bool)) : State :=
  let s1 := if halfUsed ms 0 then s.l1Drop (2 * line) else s
  if halfUsed ms 1 then s1.l1Drop (2 * line + 1) else s1

/-! ## Writes to memory (R223) -/

/-- A write of a line's masked bytes to memory: 64 B when one half is touched, else 128 B; whole when every
byte of every flit is written. -/
def memWrite (kind : ReqKind) (src : Src) (line : Nat) (ms : List (Byte × Bool)) (pois : BitVec 2) : RtEntry :=
  let lo := halfUsed ms 0
  let hi := halfUsed ms 1
  let both := lo && hi
  let part := if both then ms else if hi then halfOf ms 1 else halfOf ms 0
  let addr := 128 * line + (if hi && !lo then 64 else 0)
  { newReq kind src 1 addr (if both then 5 else 4) with
    data := part.map (·.1)
    mask := part.map (·.2)
    masked := !(part.all (·.2))
    psn := if both then pois.toNat else b2n (wbit pois (if hi then 1 else 0)) }

/-- How a write under a policy ends: taken, with the table entries it made; waiting for a line; or no room. -/
inductive WEnd where
  | done (idx : List Nat)
  | asked
  | full
  deriving DecidableEq, Repr

/-- A write to memory, after the clean of a dirty line where one is needed. -/
def State.sendWrite (s : State) (reserved : Bool) (e : RtEntry) (after : Option Nat) : State × WEnd :=
  match s.request reserved { e with after := after } with
  | none => (s, .full)
  | some (s1, i) => (s1, .done ([i] ++ after.toList))

/-- The clean that an access past the local store waits for, where the line is held dirty (R201); none while the line's old
data still leave, or where no table entry is free. -/
def State.cleaned (s : State) (line : Nat) (src : Src) : Option (State × Option Nat) :=
  if s.evicting line then none
  else
    match s.lsWay line with
    | none => some (s, none)
    | some w => s.lsClean line w src

/-- A write of part of a codeword decodes it first (R214): the checks of the halves that a write covers in part. -/
def State.lsPart (s : State) (line w : Nat) (ms : List (Byte × Bool)) (src : Src) : State :=
  let part := fun (h : Nat) => halfUsed ms h && !halfFull ms h
  let s1 := if part 0 then (s.lsHalf line w src 0).1 else s
  if part 1 then (s1.lsHalf line w src 1).1 else s1

/-- A write-through write that misses: its bytes go to memory, and the miss is counted (R201, R382). -/
def State.throughMiss (s : State) (e : RtEntry) (src : Src) : State × WEnd :=
  match s.sendWrite false e none with
  | (s1, .done l) => (s1.bump .lst 8 1 src.thread?, .done l)
  | r => r

/-- A line whose codeword a partial write found uncorrectable is fetched again, and the write waits for it (R214, R216). -/
def State.refetch (s : State) (line : Nat) (src : Src) (k : Taker) : State × WEnd :=
  match s.lsMissed line src k true with
  | (s1, .asked) => (s1, .asked)
  | _ => (s, .full)

/-- A write-through write (R201): a dirty line is cleaned first, a present line is updated, the bytes go to memory.  A line
that is gone by then, its tag uncorrectable, takes no update. -/
def State.writeThrough (s : State) (line : Nat) (ms : List (Byte × Bool)) (pois : BitVec 2) (src : Src) (k : Taker) :
    State × WEnd :=
  let e := memWrite .write src line ms pois
  match s.lsWay line with
  | none => s.throughMiss e src
  | some w =>
    match s.lsClean line w src with
    | none => (s, .full)
    | some (s1, after) =>
      let s2 := s1.lsPart line w ms src
      let here := (lookup s1.ls.lines (s1.lsKey line w)).isSome
      match lookup s2.ls.lines (s2.lsKey line w) with
      | none =>
        match if here then s2.refetch line src k else s2.sendWrite false e after with
        | (_, .full) => (s, .full)
        | r => r
      | some l =>
        match s2.sendWrite false e after with
        | (_, .full) => (s, .full)
        | (s3, r) => (((s3.lsPut line w (l.merge ms pois false)).lsTouch line w).lsCharge 0x13 src, r)

/-- A write-back write (R201): merged into the line and marked dirty; a miss fills the line first.  A line that is present
is checked before a write of whole codewords too (log 120). -/
def State.writeBack (s : State) (line : Nat) (ms : List (Byte × Bool)) (pois : BitVec 2) (src : Src) (k : Taker) :
    State × WEnd :=
  match s.lsDemand line src k with
  | (s1, .asked) => (s1, .asked)
  | (_, .full) => (s, .full)
  | (s1, .data _ _) =>
    match s1.lsWay line with
    | none => (s1, .full)
    | some w =>
      match lookup s1.ls.lines (s1.lsKey line w) with
      | none => (s1, .full)
      | some l => ((s1.lsPut line w (l.merge ms pois true)).lsCharge 0x13 src, .done [])

/-- An uncached write (R201): a dirty line is cleaned first. -/
def State.writeUncached (s : State) (line : Nat) (ms : List (Byte × Bool)) (pois : BitVec 2) (src : Src) : State × WEnd :=
  match s.cleaned line src with
  | none => (s, .full)
  | some (s1, after) =>
    match s1.sendWrite true (memWrite .write src line ms pois) after with
    | (_, .full) => (s, .full)
    | r => r

/-- A write into the own shelf: beyond its size it is dropped with a machine check (R207).  `keepL1` is the
scalar store path, which updates the L1D instead of invalidating. -/
def State.writeShelf (s : State) (o : Nat) (ms : List (Byte × Bool)) (pois : BitVec 2) (src : Src) (keepL1 : Bool) :
    State :=
  if s.shelfSize < o + 128 then s.shelfRefused o src true
  else
    let s1 := (s.shelfMerge src o ms).lsCharge 0x13 src
    let s2 := if keepL1 then s1 else (if halfUsed ms 0 then s1.shelfL1Drop o 64 else s1)
    let s3 := if keepL1 then s2 else (if halfUsed ms 1 then s2.shelfL1Drop (o + 64) 64 else s2)
    let s4 := if wbit pois 0 && halfUsed ms 0 then s3.shelfPoison o 64 else s3
    if wbit pois 1 && halfUsed ms 1 then s4.shelfPoison (o + 64) 64 else s4

/-- Write the masked bytes of one line under a policy.  `scalar` is the scalar store path.
A line whose fill is in flight is waited for, and so is one whose old data still leaves (R203, R213, R240).  A scalar store
of an uncached page leaves the side buffer alone (R195, log 118). -/
def State.storeLine (s : State) (line : Nat) (ms : List (Byte × Bool)) (pol : Nat) (pois : BitVec 2) (src : Src)
    (k : Taker) (scalar : Bool) : State × WEnd :=
  match s.window (128 * line) with
  | .shelf o => (s.writeShelf o ms pois src scalar, .done [])
  | .mmio _ => (s.ldlError 0x10 (128 * line) src, .done [])
  | .crock o =>
    let s1 := s.crockRefused o src
    (match src with | .chan _ => s1.ldlError 0x10 (128 * line) src | _ => s1.mcheck .crk src.thread?, .done [])
  | .mem =>
    if s.evicting line then (s, .full)
    else
      let s0 := if scalar then s else s.l1DropUsed line ms
      if pol = 2 then (if scalar then s0 else s0.sideKill line src).writeUncached line ms pois src
      else if pol = 1 then
        (if (s0.fillOf line).isSome then s0 else s0.sideKill line src).writeBack line ms pois src k
      else if (s0.fillOf line).isSome then (s, .full)
      else (s0.sideKill line src).writeThrough line ms pois src k

/-- The masked write of a store whose line could not be had, with the poison of its blocks (R215, R216, R229). -/
def State.writeAround (s : State) (line : Nat) (ms : List (Byte × Bool)) (pois : BitVec 2) (src : Src) : Option State :=
  (s.request false (memWrite .write src line ms pois)).map (·.1)

/-! ## Reads -/

/-- How a read of a 64 B block ends. -/
inductive BRead where
  | data (d : List Byte) (pois : Bool)
  | asked
  | full
  deriving DecidableEq, Repr

/-- A block of the own shelf; beyond its size the reader receives poison (R207). -/
def State.readShelfBlock (s : State) (o : Nat) (src : Src) : State × BRead :=
  if s.shelfSize < o + 64 then (s.shelfRefused o src false, .data (List.replicate 64 0) true)
  else
    let (s1, bs, p) := (s.lsCharge 0x12 src).shelfRead src o 64
    (s1, .data bs p)

/-- Half `h` of a line's data. -/
def lineHalf (d : List Byte) (h : Nat) : List Byte := (d.drop (64 * h)).take 64

/-- A block through the local store (R195). -/
def State.readCached (s : State) (blk : Nat) (src : Src) (k : Taker) : State × BRead :=
  match s.lsRead (blk / 2) src k with
  | (s1, .data d p) => (s1, .data (lineHalf d (blk % 2)) (wbit p (blk % 2)))
  | (s1, .asked) => (s1, .asked)
  | (_, .full) => (s, .full)

/-- Read requests past the local store, each an address, a SIZE code and a taker: all of them or none (R201). -/
def State.askUncached (s : State) (dev : Bool) (src : Src) (after : Option Nat) (rs : List (Nat × Nat × Taker)) :
    Option State :=
  match rs with
  | [] => some s
  | (a, z, k) :: r =>
    match s.request true { newReq (.uncRead k) src 0 a z with dev := dev, after := after } with
    | none => none
    | some (s1, _) => s1.askUncached dev src after r

/-- The read requests of an uncached or device access to one line, after the one clean of a dirty line (R201). -/
def State.readPast (s : State) (line : Nat) (dev : Bool) (src : Src) (rs : List (Nat × Nat × Taker)) : Option State :=
  match s.cleaned line src with
  | none => none
  | some (s1, after) => s1.askUncached dev src after rs

/-- One such request. -/
def State.readUncached (s : State) (addr size : Nat) (dev : Bool) (src : Src) (k : Taker) : State × BRead :=
  match s.readPast (addr / 128) dev src [(addr, size, k)] with
  | some s1 => (s1, .asked)
  | none => (s, .full)

/-- Read one 64 B block of memory or of the own shelf past the L1D, under a policy.  Other windows of the core
refuse it: the reader receives poison (R300, R354). -/
def State.readBlock (s : State) (blk pol : Nat) (src : Src) (k : Taker) : State × BRead :=
  match s.window (64 * blk) with
  | .shelf o => s.readShelfBlock o src
  | .crock o => (s.crockRefused o src, .data (List.replicate 64 0) true)
  | .mmio _ =>
    (s.record .ldl (64 * blk) (0x10 + 256 * src.code) false src.thread?, .data (List.replicate 64 0) true)
  | .mem => if 2 ≤ pol then s.readUncached (64 * blk) 4 false src k else s.readCached blk src k

/-- How a read of a 128 B line ends: the data with the poison of each half, or so many blocks awaited. -/
inductive LRes where
  | data (d : List Byte) (pois : BitVec 2)
  | asked (blocks : Nat)
  | full
  deriving DecidableEq, Repr

/-- Ask for the 64 B halves of an uncached line that are needed; all or none. -/
def State.readHalves (s : State) (line : Nat) (halves : List Nat) (src : Src) (k : Taker) : Option State :=
  s.readPast line false src (halves.map fun h => (128 * line + 64 * h, 4, k))

/-- Read a line past the L1D under a policy; an uncached page is read by the halves needed (R195, R201). -/
def State.readLine (s : State) (line pol : Nat) (halves : List Nat) (src : Src) (k : Taker) : State × LRes :=
  match s.window (128 * line) with
  | .shelf o =>
    if s.shelfSize < o + 128 then (s.shelfRefused o src false, .data (List.replicate 128 0) 3)
    else
      let (s1, bs, _) := (s.lsCharge 0x12 src).shelfRead src o 128
      (s1, .data bs (BitVec.ofNat 2 (b2n (s1.shelfBad (o / 64)) + 2 * b2n (s1.shelfBad (o / 64 + 1)))))
  | .crock o => (s.crockRefused o src, .data (List.replicate 128 0) 3)
  | .mmio _ => (s.record .ldl (128 * line) (0x10 + 256 * src.code) false src.thread?, .data (List.replicate 128 0) 3)
  | .mem =>
    if 2 ≤ pol then
      match s.readHalves line halves src k with
      | some s1 => (s1, .asked halves.length)
      | none => (s, .full)
    else
      match s.lsRead line src k with
      | (s1, .data d p) => (s1, .data d p)
      | (s1, .asked) => (s1, .asked 1)
      | (_, .full) => (s, .full)

/-! ## Translation faults as seen by a requester (R254) -/

/-- Fault information of a translation fault: kind, level, write, span (R254). -/
def xlInfo (kind level : Nat) (wr : Bool) (span : Option Nat) : Word :=
  BitVec.ofNat 64 (kind + level * 64 + b2n wr * 512 + b2n span.isSome * 1024 + span.getD 0 * 4096)

end Sys2Proof.Machine
end

