-- ==== Sys2Proof/Machine/TileMem.lean ====
section
/-! DEFINITION. TLD and TST on the memory path: pages, lines, rows and faults
(03_trays_tile_instructions.md R94 to R97, R109; 07_local_store_caches.md R215). -/

namespace Sys2Proof.Machine

open Sys2Proof

/-- log2 of the page size (R245). -/
def pageShift : Nat := 14

/-! ## Rows, pages and lines -/

/-- Address of row `r` (R94). -/
def MemRun.rowVa (m : MemRun) (r : Nat) : Nat := (m.va + BitVec.ofNat 64 r * m.st).toNat

/-- Address of byte `i` of row `r`, modulo 2^64. -/
def MemRun.byteVa (m : MemRun) (r i : Nat) : Nat := (m.rowVa r + i) % 2 ^ 64

/-- Pages of row `r` in address order. -/
def MemRun.rowPages (m : MemRun) (r : Nat) : List Nat :=
  let p := m.rowVa r / 2 ^ pageShift
  let q := m.byteVa r (m.bt - 1) / 2 ^ pageShift
  if p = q then [p] else [p, q]

/-- Virtual lines of row `r` in address order. -/
def MemRun.rowLines (m : MemRun) (r : Nat) : List Nat :=
  let p := m.rowVa r / 128
  let q := m.byteVa r (m.bt - 1) / 128
  if p = q then [p] else [p, q]

/-- The rows still to do. -/
def MemRun.rows (m : MemRun) : List Nat := (List.range (m.rt - m.row0)).map (m.row0 + ·)

/-- Pages in the order in which rows first touch them, with that row. -/
def MemRun.pageOrder (m : MemRun) : List (Nat × Nat) :=
  (m.rows.flatMap fun r => (m.rowPages r).map fun p => (p, r)).foldl
    (fun l x => if l.any fun y => y.1 = x.1 then l else l ++ [x]) []

/-- Has a page translated? -/
def MemRun.pageDone (m : MemRun) (p : Nat) : Bool := m.xl.any fun x => x.1 = p

/-- Rows below this one, in order from row0, have translated in full (R94, R97). -/
def MemRun.fullRows (m : MemRun) : Nat :=
  match m.rows.find? fun r => !(m.rowPages r).all m.pageDone with
  | some r => r
  | none => m.rt

/-- The rows, from row0 up to `stop`, that have bytes in a virtual line. -/
def MemRun.sharers (m : MemRun) (line stop : Nat) : List Nat :=
  m.rows.filter fun r => r < stop && (m.rowLines r).contains line

/-- Virtual lines of the rows below `stop`, in the order rows first touch them. -/
def MemRun.linesBelow (m : MemRun) (stop : Nat) : List Nat :=
  ((m.rows.filter (· < stop)).flatMap m.rowLines).foldl (fun l x => if l.contains x then l else l ++ [x]) []

/-- The lines of translated pages that an acknowledgment waits for: not issued, or for a span clear not served (R265). -/
def MemRun.flying (m : MemRun) (clear : Bool) : List Nat :=
  (m.linesBelow m.rt).filter fun l => m.pageDone (l * 128 / 2 ^ pageShift) &&
    !(if clear then m.lines.any fun x => x.line = l && x.fin else m.issued.contains l)

/-- Lines that can be issued now: not issued, every sharing row translated in full.  A row whose pages have translated
above one whose pages have not is held back with it, so that a fault of the lower row leaves it unchanged (R97, log 91). -/
def MemRun.ready (m : MemRun) : List Nat :=
  let full := m.fullRows
  (m.linesBelow full).filter fun l => !m.issued.contains l && (m.sharers l m.rt).all fun r => r < full

/-- The physical base and policy of a virtual line. -/
def MemRun.linePa (m : MemRun) (line : Nat) : Option (BitVec 58 × BitVec 2) :=
  (m.xl.find? fun x => x.1 = line * 128 / 2 ^ pageShift).map fun x =>
    (x.2.1 + BitVec.ofNat 58 (line * 128 % 2 ^ pageShift), x.2.2)

/-- A record of a line to serve, for the rows below `stop`. -/
def MemRun.newLine (m : MemRun) (line stop : Nat) : Option MemLine :=
  (m.linePa line).map fun x =>
    { line := line, pa := x.1, pol := x.2, rowEnd := stop, got := none, need := 0, asked := false, fin := false }

/-- Replace a run. -/
def State.setRun (s : State) (m : MemRun) : State :=
  { s with tile := { s.tile with mem := s.tile.mem.map fun x => if x.id = m.id then m else x } }

/-- The run of an entry. -/
def State.memRun (s : State) (id : Nat) : Option MemRun := s.tile.mem.find? fun m => m.id = id

/-- Replace a line of a run. -/
def MemRun.setLine (m : MemRun) (l : MemLine) : MemRun :=
  { m with lines := m.lines.map fun x => if x.line = l.line ∧ x.rowEnd = l.rowEnd then l else x }

/-! ## Serving lines -/

/-- Bytes of row `r` that lie in a line: offset in the line, offset in the row, count. -/
def MemRun.overlap (m : MemRun) (r line : Nat) : Nat × Nat × Nat :=
  let a := m.rowVa r
  if a / 128 = line then (a % 128, 0, min m.bt (128 - a % 128))
  else (0, 128 - a % 128, m.bt - (128 - a % 128))

/-- The 64 B halves of a line that its rows touch. -/
def MemRun.halves (m : MemRun) (l : MemLine) : List Nat :=
  [0, 1].filter fun h => (m.sharers l.line l.rowEnd).any fun r =>
    let (o, _, n) := m.overlap r l.line
    o / 64 ≤ h && h ≤ (o + n - 1) / 64

/-- The masked bytes that a TST writes to a line: a higher row's bytes win, and a block is poisoned when it
receives a byte of a marked row (R79, R94). -/
def State.tstBytes (s : State) (m : MemRun) (l : MemLine) : List (Byte × Bool) × BitVec 2 :=
  (m.sharers l.line l.rowEnd).foldl (fun x r =>
    let (o, i, n) := m.overlap r l.line
    let ms := spread o (((s.rowBytes m.tray r).drop i).take n)
    let pois := if s.mark m.tray r then BitVec.ofNat 2 (b2n (halfUsed ms 0) + 2 * b2n (halfUsed ms 1)) else 0
    (overlay x.1 ms, x.2 ||| pois)) (List.replicate 128 (0, false), 0)

/-- Ask for the data of a TLD line. -/
def State.tldAsk (s : State) (m : MemRun) (l : MemLine) : State :=
  match s.readLine (l.pa.toNat / 128) l.pol.toNat (m.halves l) (.tileMem (some m.thr)) (.tile m.id l.line) with
  | (s1, .data d p) => s1.setRun (m.setLine { l with asked := true, got := some (d, p) })
  | (s1, .asked n) =>
    s1.setRun (m.setLine { l with asked := true, got := some (List.replicate 128 0, 0), need := n })
  | (_, .full) => s

/-- Write a TST line: the rows are read, with their parity checks, when the line is written (R80). -/
def State.tstAsk (s : State) (m : MemRun) (l : MemLine) : State :=
  let s0 := (m.sharers l.line l.rowEnd).foldl (fun s r => s.checkRow m.tray 2 r (some m.thr)) s
  let (ms, pois) := s0.tstBytes m l
  match s0.storeLine (l.pa.toNat / 128) ms l.pol.toNat pois (.tileMem (some m.thr)) (.tile m.id l.line) false with
  | (s1, .done _) => s1.setRun (m.setLine { l with asked := true })
  | (s1, .asked) => s1
  | (_, .full) => s

/-- Serve a line of a run, if it has not been asked for. -/
def State.memAsk (s : State) (id line rowEnd : Nat) : State :=
  match s.memRun id with
  | none => s
  | some m =>
    match m.lines.find? fun l => l.line = line && l.rowEnd = rowEnd with
    | none => s
    | some l =>
      if l.asked then s
      else (if m.load then s.tldAsk m l else s.tstAsk m l).joined s fun x => x.lines.contains (id, line)

/-- Serve every line of a run that has not been asked for. -/
def State.memAskAll (s : State) (id : Nat) : State :=
  match s.memRun id with
  | none => s
  | some m => m.lines.foldl (fun s l => if l.asked then s else s.memAsk id l.line l.rowEnd) s

/-- Issue the lines of `ls` for the rows below `stop` (R94). -/
def State.memIssue (s : State) (m : MemRun) (ls : List Nat) (stop : Nat) : State :=
  let m1 := { m with
    issued := m.issued ++ ls
    lines := m.lines ++ (ls.filterMap fun l => m.newLine l stop) }
  (s.setRun m1).memAskAll m.id

/-! ## Faults (R95 to R97, R107) -/

/-- First byte of row `r` that lies on page `p`. -/
def MemRun.faultVa (m : MemRun) (r p : Nat) : Nat :=
  if m.rowVa r / 2 ^ pageShift = p then m.rowVa r else p * 2 ^ pageShift

/-- Note a fault at row `r`: the lines held back go out for the rows below it (R94, R97). -/
def State.memFault (s : State) (m : MemRun) (p r cause detail : Nat) : State :=
  let m1 := { m with
    pages := []
    flt := some (BitVec.ofNat 8 cause, BitVec.ofNat 8 detail, r, BitVec.ofNat 64 (m.faultVa r p)) }
  s.memIssue m1 ((m1.linesBelow r).filter fun l => !m.issued.contains l) r

/-- Does a TST write a byte of a page that lies in its thread's protected shelf range (R96)? `base` is the
page's physical base. -/
def State.tstProtected (s : State) (m : MemRun) (p base : Nat) : Bool :=
  if m.load ∨ m.lvl.toNat = 3 then false
  else
    match s.shelfOff base with
    | none => false
    | some o =>
      m.rows.any fun r =>
        (m.rowPages r).contains p &&
          (let a := m.faultVa r p
           let n := if m.rowVa r / 2 ^ pageShift = p then min m.bt (2 ^ pageShift - a % 2 ^ pageShift)
             else m.bt - (2 ^ pageShift - m.rowVa r % 2 ^ pageShift)
           s.thr[m.thr].mshb.toNat % 2 ^ 23 < s.thr[m.thr].mshl.toNat % 2 ^ 23 &&
             (o + a % 2 ^ pageShift < s.thr[m.thr].mshl.toNat % 2 ^ 23) &&
             (s.thr[m.thr].mshb.toNat % 2 ^ 23 < o + a % 2 ^ pageShift + n))

/-- The first row that touches a page. -/
def MemRun.firstRow (m : MemRun) (p : Nat) : Nat :=
  (m.rows.find? fun r => (m.rowPages r).contains p).getD m.row0

/-- An entry has passed its fault point (R88). -/
def State.markSafe (s : State) (id : Nat) : State :=
  { s with tile := { s.tile with
      queue := s.tile.queue.map fun q => if q.id = id then { q with safe := true } else q } }

/-- A page has translated: the checks of R95 and R96, in this order (log 104), then the lines that are ready. -/
def State.memPage (s : State) (m : MemRun) (p r pa pol : Nat) : State :=
  let base := pa / 2 ^ pageShift * 2 ^ pageShift
  if pol = 3 then s.memFault m p r 7 1
  else if s.tstProtected m p base then s.memFault m p r 0x10 1
  else
    let m1 := { m with
      pages := m.pages.drop 1
      xl := m.xl ++ [(p, BitVec.ofNat 58 base, BitVec.ofNat 2 pol)] }
    let s1 := s.memIssue m1 m1.ready m1.rt
    if m1.pages.isEmpty then
      s1.markSafe m.id
    else s1

/-- Translate the next page of a run; a walk that starts is waited for (R94, R252). -/
def State.memXlate (s : State) (m : MemRun) : State :=
  match m.pages with
  | [] => s
  | (p, r) :: _ =>
    match s.translate (BitVec.ofNat 64 (m.faultVa r p)) m.lvl.toNat m.load (!m.load) (.tile m.id m.thr) with
    | (s1, .ok pa pol) => s1.memPage m p r pa pol
    | (s1, .fault kind _ _) => s1.memFault m p r 6 kind
    | (s1, .walking) => s1
    | (_, .busy) => s

/-- Is a walk for this run under way? -/
def State.runWalks (s : State) (id : Nat) : Bool := s.xl.walks.any fun w => match w.who with | .tile i _ => i = id | _ => false

/-! ## Completion of lines and rows -/

/-- The data of a line are all there. -/
def MemLine.ready (l : MemLine) : Bool := l.asked && l.need = 0

/-- Is every line of row `r` served? -/
def MemRun.rowServed (m : MemRun) (r : Nat) : Bool :=
  (m.rowLines r).all fun v => m.lines.any fun l => l.line = v && r < l.rowEnd && l.fin

/-- The bytes of row `r` from its lines, and whether any of them comes from a poisoned block (R79). -/
def MemRun.gather (m : MemRun) (r : Nat) : List Byte × Bool :=
  (m.rowLines r).foldl (fun x v =>
    match m.lines.find? fun l => l.line = v && r < l.rowEnd with
    | some l =>
      match l.got with
      | some (d, p) =>
        let (o, _, n) := m.overlap r v
        let bad := (List.range 2).any fun h => o / 64 ≤ h && h ≤ (o + n - 1) / 64 && wbit p h
        (x.1 ++ ((d.drop o).take n), x.2 || bad)
      | none => x
    | none => x) ([], false)

/-- Write the rows of a TLD that have just become complete. -/
def State.tldRows (s : State) (m : MemRun) : State :=
  let done := m.rows.filter fun r => !m.touched.contains r && m.rowServed r
  let s1 := done.foldl (fun s r => s.putRow m.tray r (m.gather r).1 (m.gather r).2) s
  s1.setRun { m with touched := m.touched ++ done }

/-- The end of a run: it leaves the queue, or its fault freezes it (R97, R106). -/
def State.memFinish (s : State) (id : Nat) : State :=
  match s.memRun id with
  | none => s
  | some m =>
    if m.pages.isEmpty && m.lines.all (·.fin) then
      let s1 := { s with tile := { s.tile with mem := s.tile.mem.filter fun x => x.id ≠ id } }
      match m.flt with
      | none => s1.retire id
      | some (c, d, r, a) =>
        match s.tile.queue.find? fun q => q.id = id with
        | none => s1
        | some q => s1.freeze q { cause := c.toNat, detail := d.toNat, arg := m.tray.val, prog := r, addr := a }
    else s

/-- A line's data has been written to the tray, or accepted by the local store (R94). -/
def State.memLineDone (s : State) (m : MemRun) (l : MemLine) : State :=
  let m1 := m.setLine { l with fin := true }
  let s1 := if m.load then s.tldRows m1 else s.setRun m1
  s1.memFinish m.id

/-! ## Start -/

/-- The run of an entry that passed its alignment checks. -/
def State.newRun (s : State) (q : QEntry) : MemRun :=
  let T := trayF q.opf 0
  let m : MemRun :=
    { id := q.id, load := q.xop = 0x24, tray := T, va := q.v1, st := q.v2, lvl := q.lvl, thr := q.thr, row0 := q.prog,
      rt := (s.tray T).rows, bt := (s.tray T).bytes, pages := [], xl := [], issued := [], lines := [], touched := [],
      flt := none }
  { m with pages := m.pageOrder }

/-- The alignment checks of R94. -/
def memFault0 (q : QEntry) : Option TFault :=
  firstFault
    [(wbits q.v1 1 0 = 0, { cause := 2, detail := 4, arg := q.opf % 16 }),
     (wbits q.v2 1 0 = 0, { cause := 2, detail := 5, arg := q.opf % 16 })]

/-- The estimate of R293 for a TLD or TST: its lines and rows, wherever it continues. -/
def State.memItems (s : State) (q : QEntry) : List (Nat × Nat) :=
  let m := s.newRun { q with prog := 0 }
  let n := (m.linesBelow m.rt).length
  if m.load then [(0x12, n), (0x0C, m.rt)] else [(0x13, n), (0x0B, m.rt)]

/-- A TLD or TST starts. -/
def State.memStart (s : State) (q : QEntry) : State :=
  let m := s.newRun q
  let s1 := { s with tile := { s.tile with mem := s.tile.mem ++ [m] } }
  if m.pages.isEmpty then
    (s1.markSafe q.id).memFinish q.id
  else s1

/-- Data for a line of a run: a whole line, or the half `h` of an uncached one. -/
def State.tileData (s : State) (id line : Nat) (h : Option Nat) (d : List Byte) (pois : BitVec 2) : State :=
  match s.memRun id with
  | none => s
  | some m =>
    m.lines.foldl (fun s l =>
      match s.memRun id with
      | none => s
      | some m =>
        if l.line = line ∧ l.asked ∧ 0 < l.need then
          match l.got with
          | none => s
          | some (old, p) =>
            match h with
            | none => s.setRun (m.setLine { l with got := some (d, pois), need := 0 })
            | some k =>
              s.setRun (m.setLine { l with
                got := some (old.take (64 * k) ++ d.take 64 ++ old.drop (64 * k + 64),
                  setBit p k (wbit pois 0))
                need := l.need - 1 })
        else s) s

/-- The fill that a TST line waited for ended in an error: its bytes go to memory as a masked write (R229). -/
def State.tstAround (s : State) (id line : Nat) : State :=
  match s.memRun id with
  | none => s
  | some m =>
    m.lines.foldl (fun s l =>
      if l.line = line ∧ !l.asked then
        let (ms, pois) := s.tstBytes m l
        match s.writeAround (l.pa.toNat / 128) ms pois (.tileMem (some m.thr)) with
        | some s1 =>
          let s2 := s1.joined s fun x => x.lines.contains (id, line)
          match s2.memRun id with
          | some m1 => s2.setRun (m1.setLine { l with asked := true })
          | none => s2
        | none => s
      else s) s

end Sys2Proof.Machine
end

