-- ==== Sys2Proof/Machine/Whisk.lean ====
section
/-! DEFINITION. The Whisk: types, operations, approximations, conversions, reductions, checks and rows
(04_whisk_rows.md R110 to R127). -/

namespace Sys2Proof.Machine

open Sys2Proof

/-! ## Fields (R112, R121) -/

/-- Whisk fields of an entry. -/
structure WFields where
  xop : Nat
  d : TrayNo
  a : TrayNo
  b : TrayNo
  c : TrayNo
  ty : Nat
  u : Nat
  bb : Nat
  bc : Nat
  rnd : Rnd
  sat : Bool
  var : Bool
  /-- The whole field X, for WCVT. -/
  x : Nat
  deriving DecidableEq, Repr

/-- The rounding modes of R112: 0b11 is round-up. -/
def whiskRnd (c : Nat) : Rnd :=
  match c with
  | 0 => .rne | 1 => .rtz | 2 => .odd | _ => .up

/-- Read the fields of a Whisk instruction. -/
def wFields (w0 e1 e2 : IWord) : WFields :=
  let x := e1.toNat + e2.toNat * 2 ^ 14
  { xop := wbits w0 11 6, d := trayF w0.toNat 0, a := trayF x 0, b := trayF x 4, c := trayF x 8, ty := bits x 15 12,
    u := bits x 19 16, bb := bits x 21 20, bc := bits x 23 22, rnd := whiskRnd (bits x 25 24), sat := nbit x 26,
    var := nbit x 27, x := x }

/-- WCVT fields (R121). -/
def WFields.sf (w : WFields) : Nat := bits w.x 15 12
def WFields.df (w : WFields) : Nat := bits w.x 19 16
def WFields.ss (w : WFields) : TrayNo := trayF w.x 4
def WFields.ds (w : WFields) : TrayNo := trayF w.x 8
/-- Width and fraction bits of a Q source or destination of WCVT. -/
def WFields.sw (w : WFields) : Nat := if nbit w.x 20 then 16 else 32
def WFields.dw (w : WFields) : Nat := if nbit w.x 21 then 16 else 32
def WFields.sfrac (w : WFields) : Nat := bits w.x 7 4 + 16 * b2n (nbit w.x 22)
def WFields.dfrac (w : WFields) : Nat := bits w.x 11 8 + 16 * b2n (nbit w.x 23)
/-- Element bits of WCVT's source and destination. -/
def WFields.sbits (w : WFields) : Nat := if w.sf = 15 then w.sw else elemBits w.sf
def WFields.dbits (w : WFields) : Nat := if w.df = 15 then w.dw else elemBits w.df

/-- Is a type a floating one (R111)? -/
def isFloatT (ty : Nat) : Bool := ty ≤ 2

/-- Element width of a type. -/
def tyBits (ty : Nat) : Nat := if ty = 0 ∨ ty = 3 ∨ ty = 4 then 32 else 16

/-- Fraction bits of a Q type. -/
def tyFrac (ty u : Nat) : Nat := if ty = 4 then u + 16 else u

/-- The format of a floating type. -/
def tyFmt (ty : Nat) : Fmt := if ty = 0 then fmtOf 8 else if ty = 1 then fmtOf 6 else fmtOf 7

/-- Does the operation use B and C (R113)? -/
def usesB (xop : Nat) : Bool := 0x30 ≤ xop && xop ≤ 0x35
def usesC (xop : Nat) : Bool := xop = 0x32 || xop = 0x35

/-- WCVT, WSPL, WRED. -/
def WFields.isCvt (w : WFields) : Bool := w.xop = 0x39
def WFields.isSpl (w : WFields) : Bool := w.xop = 0x3A
def WFields.isRed (w : WFields) : Bool := w.xop = 0x3B

/-- Sources with how they are broadcast: A is read element for element (R114). -/
def WFields.sources (w : WFields) : List (TrayNo × Nat) :=
  if w.isSpl then []
  else if w.isCvt then [(w.a, 0)] ++ (if isMx w.sf then [(w.ss, 0)] else [])
  else [(w.a, 0)] ++ (if usesB w.xop then [(w.b, w.bb)] else []) ++ (if usesC w.xop then [(w.c, w.bc)] else [])

/-- Trays read and written. -/
def WFields.reads (w : WFields) : List TrayNo := w.sources.map (·.1)
def WFields.writes (w : WFields) : List TrayNo := [w.d] ++ (if w.isCvt && isMx w.df then [w.ds] else [])

/-- L of R113. -/
def WFields.lat (w : WFields) : Nat :=
  if w.isCvt then (if isMx w.df then 3 else 2)
  else if w.isRed then 7
  else if 0x36 ≤ w.xop ∧ w.xop ≤ 0x38 then 5
  else 2

/-- The Scale's class of a Whisk row (R289). -/
def WFields.cls (w : WFields) : Nat :=
  if w.isRed then 15 else if 0x36 ≤ w.xop ∧ w.xop ≤ 0x38 then 14 else 13

/-! ## Checks (R124) -/

/-- Destination row length that a WCVT needs (R121). -/
def cvtBytes (w : WFields) (n : Nat) : Nat :=
  if isSix w.df ∧ w.df ≠ 15 then ceilDiv (n * 6) 96 * 12 else ceilDiv (n * w.dbits) 32 * 4

/-- Shape that a broadcast code needs of a source, the destination being D (R114). -/
def bcastOk (D S : Tray) (code : Nat) : Bool :=
  if code = 1 then S.bytes = D.bytes else if code = 2 then S.rows = D.rows else true

/-- Rows of a source that the instruction reads. -/
def bcastRows (S : Tray) (code : Nat) : Nat := if code = 1 ∨ code = 3 then 1 else S.rows

/-- The first source that fails a test, as ARG. -/
def firstArg (l : List (TrayNo × Nat)) (bad : TrayNo × Nat → Bool) : Option TrayNo := (l.find? bad).map (·.1)

/-- Checks 4, 8 and 9 of R124, for WCVT: the tray that fails each. -/
def State.cvtBad4 (w : WFields) : Option TrayNo :=
  let s := isMx w.sf
  let d := isMx w.df
  if s ∧ (w.ss = w.a ∨ w.ss = w.d ∨ (d ∧ w.ss = w.ds)) then some w.ss
  else if d ∧ (w.ds = w.a ∨ w.ds = w.d) then some w.ds
  else none

def State.cvtBad9 (s : State) (w : WFields) (n : Nat) : Option TrayNo :=
  let A := s.tray w.a
  if (isMx w.sf ∨ isMx w.df) ∧ n % 32 ≠ 0 then some w.a
  else if isMx w.sf ∧ s.scaleBad w.ss A.rows n then some w.ss
  else if isMx w.df ∧ s.scaleBad w.ds A.rows n then some w.ds
  else if w.sf ≠ 15 ∧ isSix w.sf ∧ A.bytes % 12 ≠ 0 then some w.a
  else none

/-- The marked row that a poison fault names: of the sources in the order A, B, C (A, SS for WCVT) the first that
carries a mark in a row read, and its lowest such row (R124, log 90). -/
def State.whiskMark (s : State) (w : WFields) : Option (TrayNo × Nat) :=
  s.firstMark (w.sources.map fun x => (x.1, bcastRows (s.tray x.1) x.2))

/-- A failing check as a fault: the tray concerned is ARG, or D where no other is named (R124). -/
def wFault (cause detail : Nat) (T : TrayNo) (prog : Nat := 0) : TFault :=
  { cause := cause, detail := detail, arg := T.val, prog := prog }

/-- Type checks 1 to 3 of R124. -/
def typeChecks (w : WFields) : List (Bool × TFault) :=
  if w.isCvt then
    [(true, wFault 8 1 w.d), (true, wFault 8 2 w.d),
     (!(w.sf = 15 && w.sw = 16 && 15 < w.sfrac) && !(w.df = 15 && w.dw = 16 && 15 < w.dfrac), wFault 8 3 w.d)]
  else
    [(w.ty ≤ 5, wFault 8 1 w.d),
     (!(0x36 ≤ w.xop && w.xop ≤ 0x38) || w.ty ≤ 2, wFault 8 2 w.d),
     (!isFloatT w.ty || w.u = 0, wFault 8 3 w.d)]

/-- Shape checks 4 to 10 of R124. -/
def State.shapeChecks (s : State) (w : WFields) : List (Bool × TFault) :=
  let D := s.tray w.d
  let same := fun (x : TrayNo × Nat) =>
    x.2 = 0 && !((s.tray x.1).rows = D.rows && (s.tray x.1).bytes = D.bytes)
  let bc := fun (x : TrayNo × Nat) => !bcastOk D (s.tray x.1) x.2
  let elem := if w.isCvt || w.isRed then [] else w.sources
  let n := s.rowElems w.a w.sbits
  let m := s.whiskMark w
  [(!(w.isCvt && (State.cvtBad4 w).isSome), wFault 8 4 ((State.cvtBad4 w).getD 0)),
   ((firstArg elem same).isNone, wFault 9 1 ((firstArg elem same).getD 0)),
   ((firstArg elem bc).isNone, wFault 9 2 ((firstArg elem bc).getD 0)),
   (!w.isRed || (D.rows = (s.tray w.a).rows && tyBits w.ty / 8 ≤ D.bytes), wFault 9 3 w.d),
   (!w.isCvt || (D.rows = (s.tray w.a).rows && D.bytes = cvtBytes w n), wFault 9 4 w.d),
   (!(w.isCvt && (s.cvtBad9 w n).isSome), wFault 9 5 ((s.cvtBad9 w n).getD 0)),
   (m.isNone, wFault 10 1 ((m.map (·.1)).getD 0) ((m.map (·.2)).getD 0))]

/-- The checks of R124. -/
def State.whiskFault (s : State) (w : WFields) : Option TFault :=
  firstFault (typeChecks w ++ (if w.isSpl then [] else s.shapeChecks w))

/-! ## Arithmetic (R116 to R118) -/

/-- An element's result with the flags of R127. -/
structure WOut where
  bits : Nat
  sat : Bool := false
  inx : Bool := false
  inv : Bool := false
  deriving DecidableEq, Repr

/-- round(v, T, RND, SAT) of R116; `nans` tells that an operand was NaN.  An infinite v that stays infinite has not
overflowed (R127, log 89). -/
def wRound (ty : Nat) (rnd : Rnd) (sat : Bool) (nans : Bool) (v : Val) : WOut :=
  let c := (tyFmt ty).convert v rnd sat 0
  { bits := c.bits, sat := c.sat && (sat || c.inx), inx := c.inx, inv := c.nan && !nans }

/-- Fit an integer to `w` bits (R117). -/
def fitQ (w : Nat) (sat : Bool) (t : Int) (inx : Bool) : WOut :=
  let r := fitS w sat t
  { bits := (BitVec.ofInt w r.1).toNat, sat := r.2, inx := inx }

/-- num 2^-f rounded by RND, fitted (R117). -/
def roundQ (w : Nat) (rnd : Rnd) (sat : Bool) (num : Int) (f : Nat) : WOut :=
  fitQ w sat (rndPow2 rnd 0 num f) (rndInexact num f)

/-- The stored integer of a Q element. -/
def qInt (w x : Nat) : Int := signed w x

/-- Is a below b, with -0 below +0 (R118)? -/
def Val.below (a b : Val) : Bool :=
  match a, b with
  | .inf true, .inf true => false
  | .inf true, _ => true
  | _, .inf true => false
  | .inf false, _ => false
  | _, .inf false => true
  | .fin n 0 _, .fin k 0 _ => n && !k
  | a, b => a.finLt b

/-- The wider of two elements by value: `big` for max (R118). -/
def pickVal (big : Bool) (a b : Val) (x y : Nat) : Nat :=
  if big then (if a.below b then y else x) else (if b.below a then y else x)

/-- max or min of two elements (R118). -/
def wMinMax (ty : Nat) (big : Bool) (x y : Nat) : WOut :=
  if isFloatT ty then
    let f := tyFmt ty
    if (f.decode x).isNan || (f.decode y).isNan then { bits := f.nanBits }
    else { bits := pickVal big (f.decode x) (f.decode y) x y }
  else
    let w := tyBits ty
    { bits := if big then (if qInt w x < qInt w y then y else x) else (if qInt w y < qInt w x then y else x) }

/-- The exact result of WADD, WMUL and WFMA for a floating type. -/
def wExact (xop : Nat) (var : Bool) (a b c : Val) : Val :=
  match xop with
  | 0x30 => sumVals [a, if var then b.negate else b]
  | 0x31 => a.mul b
  | _ => sumVals [if var then (a.mul b).negate else a.mul b, c]

/-- WADD, WMUL and WFMA for a Q type (R117): numerator and fraction bits of the exact result. -/
def qExact (xop : Nat) (var : Bool) (f : Nat) (a b c : Int) : Int × Nat :=
  match xop with
  | 0x30 => (if var then a - b else a + b, 0)
  | 0x31 => (a * b, f)
  | _ => ((if var then -(a * b) else a * b) + c * 2 ^ f, f)

/-- WSEL: a where c is not zero (R118). -/
def wSel (ty x y z : Nat) : Nat :=
  let zero : Bool := if isFloatT ty then ((tyFmt ty).decode z).isZero else z = 0
  if zero then y else x

/-! ## Approximations (R119) -/

/-- rne(v, 2^-k) of num 2^e, as an integer in units of 2^-k. -/
def rneAt (num : Int) (e : Int) (k : Nat) : Int :=
  if 0 ≤ e + k then num * 2 ^ (e + k).toNat else rndPow2 .rne 0 num (-(e + k)).toNat

/-- log2 e in units of 2^-256; the error lies far below what rounding at 2^-32 can see (log 29). -/
def log2eUnits : Int := 167052672916848388242985626561247531987276682633131050150846402744536260568208

/-- rne(ln 2, 2^-30), rne((ln 2)^2 / 2, 2^-30), rne((ln 2)^3 / 6, 2^-30) in units of 2^-30. -/
def expC1 : Int := 744261118
def expC2 : Int := 257941248
def expC3 : Int := 59597083

/-- rne(2^(i/64), 2^-30) in units of 2^-30, i from 0 to 31. -/
def expTabLo : List Int :=
  [1073741824, 1085434106, 1097253708, 1109202018, 1121280436, 1133490379, 1145833280, 1158310587,
   1170923762, 1183674286, 1196563654, 1209593378, 1222764986, 1236080024, 1249540052, 1263146652,
   1276901417, 1290805962, 1304861917, 1319070932, 1333434672, 1347954824, 1362633090, 1377471191,
   1392470869, 1407633882, 1422962010, 1438457051, 1454120821, 1469955159, 1485961921, 1502142985]

/-- The same, i from 32 to 63. -/
def expTabHi : List Int :=
  [1518500250, 1535035634, 1551751076, 1568648537, 1585730000, 1602997467, 1620452965, 1638098541,
   1655936265, 1673968228, 1692196547, 1710623359, 1729250827, 1748081133, 1767116489, 1786359126,
   1805811301, 1825475297, 1845353420, 1865448001, 1885761398, 1906295993, 1927054196, 1948038440,
   1969251188, 1990694927, 2012372174, 2034285470, 2056437387, 2078830522, 2101467502, 2124350982]

/-- rne(2^(i/64), 2^-30) in units of 2^-30. -/
def expTab (i : Nat) : Int := (expTabLo ++ expTabHi).getD i 0

/-- min(max(x, -160), 128) as numerator and exponent. -/
def clampExp (neg : Bool) (m : Nat) (e : Int) : Int × Int :=
  let x := Val.fin neg m e
  if x.finLt (.fin true 160 0) then (-160, 0)
  else if (Val.fin false 128 0).finLt x then (128, 0)
  else (if neg then -(m : Int) else m, e)

/-- y of WEXP in units of 2^-32: rne(x log2 e, 2^-32). -/
def expY (neg : Bool) (m : Nat) (e : Int) : Int :=
  let (num, ex) := clampExp neg m e
  rneAt (num * log2eUnits) (ex - 256) 32

/-- WEXP of a finite x, before the final rounding (R119). -/
def wexpVal (neg : Bool) (m : Nat) (e : Int) : Val :=
  let y := expY neg m e
  let n := y / 2 ^ 32
  let frac := (y % 2 ^ 32).toNat
  let i := frac / 2 ^ 26
  let u : Int := (frac % 2 ^ 26 : Nat)
  let p := rneAt (2 ^ 126 + u * expC1 * 2 ^ 64 + u ^ 2 * expC2 * 2 ^ 32 + u ^ 3 * expC3) (-126) 30
  let mm := rneAt (expTab i * p) (-60) 30
  .fin false mm.natAbs (n - 30)

/-- m normalised to 1 <= m < 2: its bits and fraction length. -/
def normFrac (m : Nat) : Nat := Nat.log2 m

/-- The largest n with n * n <= v, bit by bit from bit k - 1 down. -/
def isqrtGo (v k r : Nat) : Nat :=
  match k with
  | 0 => r
  | j + 1 => isqrtGo v j (if (r + 2 ^ j) * (r + 2 ^ j) ≤ v then r + 2 ^ j else r)

/-- rne of num / den to an integer. -/
def rneDiv (num den : Nat) : Nat :=
  let q := num / den
  let r := 2 * (num % den)
  if r < den then q else if den < r then q + 1 else if q % 2 = 0 then q else q + 1

/-- y := rne(y (2 - m y), 2^-30) with m in units of 2^-fr and y in units of 2^-k. -/
def rcpStep (m fr : Nat) (y k : Nat) : Nat :=
  (rneAt ((y : Int) * (2 * 2 ^ (fr + k) - (m : Int) * y)) (-(fr + 2 * k : Nat)) 30).toNat

/-- WRCP of a finite non-zero x, before the final rounding (R119). -/
def wrcpVal (neg : Bool) (m : Nat) (e : Int) : Val :=
  let fr := normFrac m
  let i := (m - 2 ^ fr) * 128 / 2 ^ fr
  let y0 := rneDiv (2 ^ 10 * 256) (256 + 2 * i + 1)
  let y1 := rcpStep m fr y0 10
  let y2 := rcpStep m fr y1 30
  .fin neg y2 (-30 - (e + fr))

/-- rne(2^10 / sqrt((128 + 2i + 1) / 128)) : the nearest n to sqrt(2^27 / (129 + 2i)). -/
def rsqSeed (i : Nat) : Nat :=
  let den := 129 + 2 * i
  let n := isqrtGo (2 ^ 27 / den) 14 0
  if (2 * n + 1) * (2 * n + 1) * den < 4 * 2 ^ 27 then n + 1 else n

/-- y := rne(y (3 - m y y) / 2, 2^-30) with m in units of 2^-fr and y in units of 2^-k. -/
def rsqStep (m fr : Nat) (y k : Nat) : Nat :=
  (rneAt ((y : Int) * (3 * 2 ^ (fr + 2 * k) - (m : Int) * y * y)) (-(fr + 3 * k + 1 : Nat)) 30).toNat

/-- WRSQ of a finite positive x, before the final rounding: x = m' 2^e', e' even, 1 <= m' < 4 (R119). -/
def wrsqVal (m : Nat) (e : Int) : Val :=
  let fr0 := normFrac m
  let odd := (e + fr0) % 2 ≠ 0
  let (m', fr) := if odd then (2 * m, fr0) else (m, fr0)
  let ex := if odd then e + fr0 - 1 else e + fr0
  let i := (m' - 2 ^ fr) * 64 / 2 ^ fr
  let y1 := rsqStep m' fr (rsqSeed i) 10
  let y2 := rsqStep m' fr y1 30
  .fin false y2 (-30 - ex / 2)

/-- WEXP, WRCP and WRSQ with their special inputs (R119).  For a finite input other than zero the first rounding of the
procedure always changes its value (x log2 e and the seeds of 1/m and 1/sqrt m are never multiples of the step), so the
result is inexact (R127, log 89). -/
def wApprox (xop ty : Nat) (rnd : Rnd) (sat : Bool) (v : Val) : WOut :=
  let f := tyFmt ty
  let out := fun (x : Val) =>
    let o := wRound ty rnd sat v.isNan x
    { o with inx := o.inx || (!v.isZero && !v.special) }
  match xop, v with
  | _, .nan => { bits := f.nanBits }
  | 0x36, .inf n => if n then { bits := 0 } else out (.inf false)
  | 0x36, .fin n m e => out (wexpVal n m e)
  | 0x37, .inf n => { bits := f.signBit n }
  | 0x37, .fin n m e => if m = 0 then { bits := f.signBit n + f.infBits } else out (wrcpVal n m e)
  | _, .inf n => if n then { bits := f.nanBits, inv := true } else { bits := 0 }
  | _, .fin n m e =>
    if m = 0 then { bits := f.signBit n + f.infBits }
    else if n then { bits := f.nanBits, inv := true }
    else out (wrsqVal m e)

/-! ## Element operation (R113) -/

/-- One element of an element-wise instruction. -/
def wElem (w : WFields) (x y z : Nat) : WOut :=
  let f := tyFmt w.ty
  let wd := tyBits w.ty
  if w.xop = 0x33 then wMinMax w.ty true x y
  else if w.xop = 0x34 then wMinMax w.ty false x y
  else if w.xop = 0x35 then { bits := wSel w.ty x y z }
  else if 0x36 ≤ w.xop ∧ w.xop ≤ 0x38 then wApprox w.xop w.ty w.rnd w.sat (f.decode x)
  else if isFloatT w.ty then
    let nans := (f.decode x).isNan || (f.decode y).isNan || (usesC w.xop && (f.decode z).isNan)
    wRound w.ty w.rnd w.sat nans (wExact w.xop w.var (f.decode x) (f.decode y) (f.decode z))
  else
    let r := qExact w.xop w.var (tyFrac w.ty w.u) (qInt wd x) (qInt wd y) (qInt wd z)
    roundQ wd w.rnd w.sat r.1 r.2

/-! ## WCVT (R121) -/

/-- The value of a source element. -/
def cvtVal (w : WFields) (row scales j : Nat) : Val :=
  let x := elemAt w.sbits row j
  if w.sf = 15 then .fin (signed w.sw x < 0) (signed w.sw x).natAbs (-(w.sfrac : Int))
  else if isMx w.sf then mxVal w.sf (elemAt 8 scales (j / 32)) x
  else (fmtOf w.sf).decode x

/-- A conversion to a Q type. -/
def cvtToQ (w : WFields) (v : Val) : WOut :=
  match v with
  | .nan => { bits := 0, inv := true }
  | .inf n =>
    if w.sat then { bits := if n then 2 ^ (w.dw - 1) else 2 ^ (w.dw - 1) - 1, sat := true, inv := true }
    else { bits := 0, inv := true }
  | .fin n m e =>
    let r := roundUnits w.rnd 0 n m e (-(w.dfrac : Int))
    fitQ w.dw w.sat r.1 r.2

/-- A conversion to a format that is no MX format; an overflow that becomes a NaN is invalid, and an infinity that stays one
counts as an overflow (R127, log 89). -/
def cvtToF (w : WFields) (v : Val) : WOut :=
  let f := fmtOf w.df
  let c := f.convert v w.rnd w.sat 0
  { bits := c.bits, sat := c.sat, inx := c.inx,
    inv := c.forced || (!v.isNan && (f.decode c.bits).isNan) }

/-- A block converted to an MX format: scale and elements (R71, R121).  A block with a NaN makes every
element NaN: invalid where an element was not NaN (R127, log 30). -/
def cvtBlock (w : WFields) (vs : List Val) : Nat × List WOut :=
  let (sc, cs) := mxBlock w.df vs w.rnd w.sat (vs.map fun _ => 0)
  let nanBlock := vs.any Val.isNan
  (sc, (vs.zip cs).map fun p =>
    { bits := p.2.bits, sat := p.2.sat, inx := p.2.inx,
      inv := (nanBlock && !p.1.isNan) || p.2.forced
        || (!nanBlock && ((fmtOf w.df).decode p.2.bits).isNan) })

/-- A converted row: elements and scale bytes. -/
def cvtRow (w : WFields) (n row scales : Nat) : List WOut × List Nat :=
  let vs := (List.range n).map (cvtVal w row scales)
  if isMx w.df then
    let bs := (pieces 32 (n / 32) vs).map (cvtBlock w)
    (bs.flatMap (·.2), bs.map (·.1))
  else if w.df = 15 then (vs.map (cvtToQ w), [])
  else (vs.map (cvtToF w), [])

/-! ## WRED (R122) -/

/-- One level of the pairwise tree. -/
def redLevel {α : Type} (comb : α → α → α) (v : List α) : List α :=
  match v with
  | a :: b :: r => comb a b :: redLevel comb r
  | l => l

/-- The tree: 7 levels reduce up to 128 entries to one. -/
def redTree {α : Type} (comb : α → α → α) (fuel : Nat) (v : List α) : List α :=
  match fuel with
  | 0 => v
  | k + 1 => redTree comb k (if v.length ≤ 1 then v else redLevel comb v)

/-- A tree node of a floating sum: its value and the flags so far. -/
structure RedNode where
  v : Val
  out : WOut
  deriving DecidableEq, Repr

/-- comb of a floating sum: rne32 of the exact sum (R122). -/
def redAdd (a b : RedNode) : RedNode :=
  let s := sumVals [a.v, b.v]
  let c := rne32 s
  { v := f32.decode c.bits
    out := { bits := 0, sat := a.out.sat || b.out.sat || c.sat, inx := a.out.inx || b.out.inx || c.inx,
             inv := a.out.inv || b.out.inv || (s.isNan && !a.v.isNan && !b.v.isNan) } }

/-- A row sum of a floating type. -/
def redSumF (w : WFields) (vs : List Val) : WOut :=
  match redTree redAdd 7 (vs.map fun v => { v := v, out := { bits := 0 } }) with
  | [r] =>
    let o := wRound w.ty w.rnd w.sat r.v.isNan r.v
    { o with sat := o.sat || r.out.sat, inx := o.inx || r.out.inx, inv := o.inv || r.out.inv }
  | _ => { bits := 0 }

/-- The reduction of one row (R122). -/
def redRow (w : WFields) (n row : Nat) : WOut :=
  let wd := tyBits w.ty
  let xs := (List.range n).map (elemAt wd row)
  if w.var then
    match redTree (fun a b => (wMinMax w.ty true a b).bits) 7 xs with
    | [r] =>
      if isFloatT w.ty then wRound w.ty w.rnd w.sat ((tyFmt w.ty).decode r).isNan ((tyFmt w.ty).decode r)
      else { bits := r }
    | _ => { bits := 0 }
  else if isFloatT w.ty then redSumF w (xs.map (tyFmt w.ty).decode)
  else fitQ wd w.sat (xs.foldl (fun a x => a + qInt wd x) 0) false

/-! ## Rows in time (R123, R125) -/

/-- Read a source row for destination row `r`: a broadcast row was latched at the start. -/
def srcRow (code r : Nat) : Nat := if code = 1 ∨ code = 3 then 0 else r

/-- Element index of a source for destination column `j` (R114). -/
def srcCol (code j : Nat) : Nat := if code = 2 ∨ code = 3 then 0 else j

/-- The row of B or C as a number: latched or as it stands. -/
def State.operand (s : State) (T : TrayNo) (code r : Nat) (latch : List Byte) : Nat :=
  if code = 1 ∨ code = 3 then ofBytes latch else ofBytes (s.rowBytes T r)

/-- The computed row `r` of an element-wise instruction. -/
def State.elemRow (s : State) (w : WFields) (run : WhiskRun) (r : Nat) : List WOut :=
  let wd := tyBits w.ty
  let a := ofBytes (s.rowBytes w.a r)
  let b := if usesB w.xop then s.operand w.b w.bb r run.latchB else 0
  let c := if usesC w.xop then s.operand w.c w.bc r run.latchC else 0
  (List.range (s.rowElems w.d wd)).map fun j =>
    wElem w (elemAt wd a j) (elemAt wd b (srcCol w.bb j)) (elemAt wd c (srcCol w.bc j))

/-- The computed row of any Whisk instruction: element bits, elements, scale bytes. -/
def State.whiskRow (s : State) (w : WFields) (run : WhiskRun) (r : Nat) : Nat × List WOut × List Nat :=
  if w.isSpl then
    (tyBits w.ty, List.replicate (s.rowElems w.d (tyBits w.ty)) { bits := run.v1.toNat % 2 ^ tyBits w.ty }, [])
  else if w.isRed then
    (tyBits w.ty, [redRow w (s.rowElems w.a (tyBits w.ty)) (ofBytes (s.rowBytes w.a r))], [])
  else if w.isCvt then
    let sc := if isMx w.sf then ofBytes (s.rowBytes w.ss r) else 0
    let o := cvtRow w (s.rowElems w.a w.sbits) (ofBytes (s.rowBytes w.a r)) sc
    (w.dbits, o.1, o.2)
  else (tyBits w.ty, s.elemRow w run r, [])

/-- Sources that are read element by element in each row. -/
def WFields.rowSources (w : WFields) : List TrayNo :=
  (w.sources.filter fun x => !(x.2 = 1 || x.2 = 3)).map (·.1)

/-- The parity checks of the rows that destination row `r` needs (R125). -/
def State.checkSources (s : State) (w : WFields) (r : Nat) (who : Option Thread) : State :=
  w.rowSources.foldl (fun s T => s.checkRow T 4 r who) s

/-- Write a computed row (R123, R125). -/
def State.whiskPut (s : State) (w : WFields) (id : Nat) (x : Nat × List Byte × List Byte × Bool) : State :=
  let s1 := s.putRow w.d x.1 x.2.1 x.2.2.2
  let s2 := if w.isCvt && isMx w.df then s1.putRow w.ds x.1 x.2.2.1 x.2.2.2 else s1
  s2.bump .wsk 2 1 (s.entryWho id)

/-- Write the row that leaves the pipeline in this step, if one does. -/
def State.whiskOut (s : State) (w : WFields) (run : WhiskRun) : State × WhiskRun :=
  match run.pipe with
  | [] => (s, run)
  | x :: rest =>
    if run.rel = x.1 + run.lat then (s.whiskPut w run.id x, { run with pipe := rest }) else (s, run)

/-- Read the sources of row `rel` and compute it, while rows are left. -/
def State.whiskIn (s : State) (w : WFields) (run : WhiskRun) : State × WhiskRun :=
  if run.rel < run.rows then
    let s1 := s.checkSources w run.rel (s.entryWho run.id)
    let (n, os, sc) := s1.whiskRow w run run.rel
    let bad := run.latchPois || w.rowSources.any fun T => s1.mark T run.rel
    let x := (run.rel, packRow n (s1.tray w.d).bytes (os.map (·.bits)), sc.map (BitVec.ofNat 8), bad)
    (s1, { run with
      pipe := run.pipe ++ [x], sat := run.sat || os.any (·.sat), inx := run.inx || os.any (·.inx),
      inv := run.inv || os.any (·.inv) })
  else (s, run)

/-- Relative step rel of a Whisk entry.  A row is read before a row is written (R115). -/
def State.whiskStep (s : State) (run : WhiskRun) : State :=
  let w := wFields run.w0 run.e1 run.e2
  let (s1, r1) := s.whiskIn w run
  let (s2, r2) := s1.whiskOut w r1
  { s2 with tile := { s2.tile with whisk := some { r2 with rel := run.rel + 1 } } }

/-- Latch the broadcast rows at the start, with their parity checks (R123, R125). -/
def State.whiskStart (s : State) (q : QEntry) (w : WFields) : State :=
  let b : Bool := usesB w.xop && (w.bb = 1 || w.bb = 3)
  let c : Bool := usesC w.xop && (w.bc = 1 || w.bc = 3)
  let s1 := if b then s.checkRow w.b 4 0 (some q.thr) else s
  let s2 := if c then s1.checkRow w.c 4 0 (some q.thr) else s1
  let run : WhiskRun :=
    { id := q.id, w0 := q.w0, e1 := q.e1, e2 := q.e2, v1 := q.v1, rel := 0, rows := (s.tray w.d).rows, lat := w.lat,
      latchB := if b then s.rowBytes w.b 0 else [], latchC := if c then s.rowBytes w.c 0 else [],
      latchPois := (b && s2.mark w.b 0) || (c && s2.mark w.c 0), pipe := [], sat := false, inx := false, inv := false }
  { s2 with tile := { s2.tile with whisk := some run } }.bump .wsk 1 1 (some q.thr)

/-- Completion: flags to WSK.FLAGS and the owner's TSTAT (R127, R133). -/
def State.whiskEnd (s : State) (run : WhiskRun) : State :=
  let f := b2n run.sat + 2 * b2n run.inx + 4 * b2n run.inv
  let s1 := (s.setReg .wsk 0x40 (s.reg .wsk 0x40 ||| BitVec.ofNat 64 f)).ownerFlags (8 * f)
  ({ s1 with tile := { s1.tile with whisk := none } }).retire run.id

end Sys2Proof.Machine
end

