-- ==== Sys2Proof/Machine/TileQueue.lean ====
section
/-! DEFINITION. Issue of tile and Whisk instructions, the start of queue entries, and the steps of running ones
(03_trays_tile_instructions.md R81 to R89, R91 to R102, R106; 02_stockpot_drain.md R74;
04_whisk_rows.md R112, R123; 10_timing_energy.md R293; 12_live_service_modes.md R331, R336). -/

namespace Sys2Proof.Machine

open Sys2Proof

/-! ## Issue (R85) -/

/-- Which instructions pass the rows of R85 that name exceptions. -/
structure TileRule where
  /-- The instruction occupies an entry. -/
  queued : Bool := true
  /-- It issues on a frozen queue (row 5). -/
  frozenOk : Bool := false
  deriving DecidableEq, Repr

/-- Rows 3 to 6 of R85, then the body. -/
def tileChecks (t : Thread) (r : TileRule) (body : State → Ends) (s : State) : Ends :=
  if s.tile.owner ≠ some t then .trap s 0x09 0 0
  else if !s.en .til then .trap s 0x0A 0 0
  else if s.tile.frozen && !r.frozenOk then .trap s 0x0B 0 0
  else if s.quiescing .til || (r.queued && 32 ≤ s.tile.queue.length) then .stall
  else body s

/-- The entry that an instruction makes: words, register values, level, pc and thread (R84). -/
def State.newEntry (s : State) (t : Thread) (w0 e1 e2 : IWord) (v1 v2 : Word) : QEntry :=
  { id := s.tile.nextId, w0 := w0, e1 := e1, e2 := e2, pc := (s.th t).pc, v1 := v1, v2 := v2,
    lvl := BitVec.ofNat 2 (s.th t).pl, thr := t, prog := 0, started := false, safe := false, sbMark := s.ls.sbSeq }

/-- Put an entry at the end of the queue. -/
def State.enqueue (s : State) (q : QEntry) : State :=
  { s with tile := { s.tile with queue := s.tile.queue ++ [q], nextId := s.tile.nextId + 1 } }

/-- Issue an instruction that occupies an entry; `v1` and `v2` are its register operands. -/
def tileIssue (t : Thread) (w0 e1 e2 : IWord) (v1 v2 : State → Word) (s : State) : Res :=
  issue s t (instrWords w0) (tileChecks t {} fun s =>
    .done (s.enqueue (s.newEntry t w0 e1 e2 (v1 s) (v2 s))) .nothing)

/-- No register operand. -/
def noReg (_ : State) : Word := 0

/-- An extension word from its fields. -/
def ext14 (v : Nat) : IWord := BitVec.ofNat 14 v

/-- The two extension words of a 28-bit field X (R83). -/
def extLo (x : Nat) : IWord := BitVec.ofNat 14 x
def extHi (x : Nat) : IWord := BitVec.ofNat 14 (x / 2 ^ 14)

/-- TREL of a tray (R92). -/
def execTrelTray (t : Thread) (tray : TrayNo) (s : State) : Res :=
  tileIssue t (w0Of 0x21 0) (ext14 tray.val) 0 noReg noReg s

/-- TREL of a slot (R92). -/
def execTrelSlot (t : Thread) (slot : BitVec 6) (s : State) : Res :=
  tileIssue t (w0Of 0x21 0x10) (ext14 slot.toNat) 0 noReg noReg s

/-- TCFG (R91). -/
def execTcfg (t : Thread) (tray : TrayNo) (rows len : BitVec 5) (s : State) : Res :=
  tileIssue t (w0Of 0x22 tray.val) (ext14 (rows.toNat + 32 * len.toNat)) 0 noReg noReg s

/-- TZERO (R93). -/
def execTzero (t : Thread) (slot : BitVec 6) (gc gs : GReg) (s : State) : Res :=
  tileIssue t (w0Of 0x23 slot.toNat) (ext14 (gc.val + 16 * gs.val)) 0 (fun s => s.g t gc) (fun s => s.g t gs) s

/-- TLD (R94). -/
def execTld (t : Thread) (tray : TrayNo) (ga gb : GReg) (s : State) : Res :=
  tileIssue t (w0Of 0x24 tray.val) (ext14 (ga.val + 16 * gb.val)) 0 (fun s => s.g t ga) (fun s => s.g t gb) s

/-- TST (R94). -/
def execTst (t : Thread) (tray : TrayNo) (ga gb : GReg) (s : State) : Res :=
  tileIssue t (w0Of 0x25 tray.val) (ext14 (ga.val + 16 * gb.val)) 0 (fun s => s.g t ga) (fun s => s.g t gb) s

/-- The field X of a TMMA or TMMS (R83). -/
def mmaX (a b : TrayNo) (fa fb : BitVec 4) (sa sb mt : TrayNo) : Nat :=
  a.val + b.val * 2 ^ 4 + fa.toNat * 2 ^ 8 + fb.toNat * 2 ^ 12 + sa.val * 2 ^ 16 + sb.val * 2 ^ 20 + mt.val * 2 ^ 24

/-- TMMA (R98). -/
def execTmma (t : Thread) (slot : BitVec 6) (a b : TrayNo) (fa fb : BitVec 4) (sa sb : TrayNo) (s : State) : Res :=
  let x := mmaX a b fa fb sa sb 0
  tileIssue t (w0Of 0x26 slot.toNat) (extLo x) (extHi x) noReg noReg s

/-- TMMS (R98). -/
def execTmms (t : Thread) (slot : BitVec 6) (a b : TrayNo) (fa fb : BitVec 4) (sa sb mt : TrayNo) (s : State) : Res :=
  let x := mmaX a b fa fb sa sb mt
  tileIssue t (w0Of 0x27 slot.toNat) (extLo x) (extHi x) noReg noReg s

/-- TDRAIN (R100). -/
def execTdrain (t : Thread) (slot : BitVec 6) (gd : GReg) (s : State) : Res :=
  tileIssue t (w0Of 0x28 slot.toNat) (ext14 gd.val) 0 (fun s => s.g t gd) noReg s

/-- TMOV copy (R101). -/
def execTmovCopy (t : Thread) (dst src : TrayNo) (s : State) : Res :=
  tileIssue t (w0Of 0x29 dst.val) (ext14 src.val) 0 noReg noReg s

/-- TMOV transpose; OP 0b00 is the copy's (R101). -/
def execTmovTranspose (t : Thread) (dst src : TrayNo) (op : BitVec 2) (s : State) : Res :=
  if op = 0 then .refused .illFormed
  else tileIssue t (w0Of 0x29 dst.val) (ext14 (src.val + 16 * op.toNat)) 0 noReg noReg s

/-! ## Whisk instructions (R112, R113, R121) -/

/-- The field X of an element-wise Whisk instruction (R112). -/
def wskX (A B C : TrayNo) (T U : BitVec 4) (BB BC : BitVec 2) : Nat :=
  A.val + B.val * 2 ^ 4 + C.val * 2 ^ 8 + T.toNat * 2 ^ 12 + U.toNat * 2 ^ 16 + BB.toNat * 2 ^ 20 + BC.toNat * 2 ^ 22

/-- RND, SAT and VAR on top of X (R112). -/
def wskTop (RND : BitVec 2) (SAT VAR : Bool) : Nat := RND.toNat * 2 ^ 24 + b2n SAT * 2 ^ 26 + b2n VAR * 2 ^ 27

/-- Issue a Whisk instruction of field X. -/
def wskIssue (t : Thread) (xop : Nat) (D : TrayNo) (x : Nat) (v : State → Word) (s : State) : Res :=
  tileIssue t (w0Of xop D.val) (extLo x) (extHi x) v noReg s

/-- WADD (R113). -/
def execWadd (t : Thread) (D A B : TrayNo) (T U : BitVec 4) (BB RND : BitVec 2) (SAT : Bool) (s : State) : Res :=
  wskIssue t 0x30 D (wskX A B 0 T U BB 0 + wskTop RND SAT false) noReg s

/-- WADD_SUB (R113). -/
def execWaddSub (t : Thread) (D A B : TrayNo) (T U : BitVec 4) (BB RND : BitVec 2) (SAT : Bool) (s : State) : Res :=
  wskIssue t 0x30 D (wskX A B 0 T U BB 0 + wskTop RND SAT true) noReg s

/-- WMUL (R113). -/
def execWmul (t : Thread) (D A B : TrayNo) (T U : BitVec 4) (BB RND : BitVec 2) (SAT : Bool) (s : State) : Res :=
  wskIssue t 0x31 D (wskX A B 0 T U BB 0 + wskTop RND SAT false) noReg s

/-- WFMA (R113). -/
def execWfma (t : Thread) (D A B C : TrayNo) (T U : BitVec 4) (BB BC RND : BitVec 2) (SAT : Bool) (s : State) : Res :=
  wskIssue t 0x32 D (wskX A B C T U BB BC + wskTop RND SAT false) noReg s

/-- WFMA_NEG (R113). -/
def execWfmaNeg (t : Thread) (D A B C : TrayNo) (T U : BitVec 4) (BB BC RND : BitVec 2) (SAT : Bool) (s : State) : Res :=
  wskIssue t 0x32 D (wskX A B C T U BB BC + wskTop RND SAT true) noReg s

/-- WMAX (R113). -/
def execWmax (t : Thread) (D A B : TrayNo) (T U : BitVec 4) (BB RND : BitVec 2) (SAT : Bool) (s : State) : Res :=
  wskIssue t 0x33 D (wskX A B 0 T U BB 0 + wskTop RND SAT false) noReg s

/-- WMIN (R113). -/
def execWmin (t : Thread) (D A B : TrayNo) (T U : BitVec 4) (BB RND : BitVec 2) (SAT : Bool) (s : State) : Res :=
  wskIssue t 0x34 D (wskX A B 0 T U BB 0 + wskTop RND SAT false) noReg s

/-- WSEL (R113). -/
def execWsel (t : Thread) (D A B C : TrayNo) (T U : BitVec 4) (BB BC RND : BitVec 2) (SAT : Bool) (s : State) : Res :=
  wskIssue t 0x35 D (wskX A B C T U BB BC + wskTop RND SAT false) noReg s

/-- WEXP (R113). -/
def execWexp (t : Thread) (D A : TrayNo) (T U : BitVec 4) (RND : BitVec 2) (SAT : Bool) (s : State) : Res :=
  wskIssue t 0x36 D (wskX A 0 0 T U 0 0 + wskTop RND SAT false) noReg s

/-- WRCP (R113). -/
def execWrcp (t : Thread) (D A : TrayNo) (T U : BitVec 4) (RND : BitVec 2) (SAT : Bool) (s : State) : Res :=
  wskIssue t 0x37 D (wskX A 0 0 T U 0 0 + wskTop RND SAT false) noReg s

/-- WRSQ (R113). -/
def execWrsq (t : Thread) (D A : TrayNo) (T U : BitVec 4) (RND : BitVec 2) (SAT : Bool) (s : State) : Res :=
  wskIssue t 0x38 D (wskX A 0 0 T U 0 0 + wskTop RND SAT false) noReg s

/-- The field X of a WCVT, but RND and SAT (R121). -/
def cvtX (A SS DS : TrayNo) (SF DF : BitVec 4) (SW DW SF4 DF4 : Bool) : Nat :=
  A.val + SS.val * 2 ^ 4 + DS.val * 2 ^ 8 + SF.toNat * 2 ^ 12 + DF.toNat * 2 ^ 16 + b2n SW * 2 ^ 20
    + b2n DW * 2 ^ 21 + b2n SF4 * 2 ^ 22 + b2n DF4 * 2 ^ 23

/-- WCVT (R121). -/
def execWcvt (t : Thread) (D A SS DS : TrayNo) (SF DF : BitVec 4) (SW DW SF4 DF4 : Bool) (RND : BitVec 2) (SAT : Bool)
    (s : State) : Res :=
  wskIssue t 0x39 D (cvtX A SS DS SF DF SW DW SF4 DF4 + wskTop RND SAT false) noReg s

/-- WSPL: the value of gA is read at issue (R113, R118). -/
def execWspl (t : Thread) (D : TrayNo) (gA : GReg) (T U : BitVec 4) (RND : BitVec 2) (SAT : Bool) (s : State) : Res :=
  wskIssue t 0x3A D (wskX gA 0 0 T U 0 0 + wskTop RND SAT false) (fun s => s.g t gA) s

/-- WRED sum (R122). -/
def execWredSum (t : Thread) (D A : TrayNo) (T U : BitVec 4) (RND : BitVec 2) (SAT : Bool) (s : State) : Res :=
  wskIssue t 0x3B D (wskX A 0 0 T U 0 0 + wskTop RND SAT false) noReg s

/-- WRED max (R122). -/
def execWredMax (t : Thread) (D A : TrayNo) (T U : BitVec 4) (RND : BitVec 2) (SAT : Bool) (s : State) : Res :=
  wskIssue t 0x3B D (wskX A 0 0 T U 0 0 + wskTop RND SAT true) noReg s

/-! ## TCLAIM, TREL of the unit, TSYNC (R81, R102) -/

/-- Give the unit to a thread. -/
def State.claim (s : State) (t : Thread) (gd : GReg) : State :=
  let s1 := { s with tile := { s.tile with owner := some t } }
  s1.setG t gd 1

/-- TCLAIM (R81). -/
def execTclaim (t : Thread) (gd : GReg) (s : State) : Res :=
  issue s t 2 fun s =>
    if s.tile.owner = none ∨ s.tile.owner = some t then .done (s.claim t gd) .nothing
    else .done (s.setG t gd 0) .nothing

/-- May a forced claim take the unit (R81)? -/
def State.forceReady (s : State) : Bool :=
  s.tile.queue.isEmpty || (s.tile.frozen && !s.tile.trap)

/-- TCLAIM with FORCE (R81, R85 row 2). -/
def execTclaimForce (t : Thread) (gd : GReg) (s : State) : Res :=
  issue s t 2 fun s =>
    if (s.th t).pl = 0 then .trap s 0x02 0 (xWord 0x20 (gd.val + 16))
    else if s.tile.owner = none ∨ s.tile.owner = some t ∨ s.forceReady then .done (s.claim t gd) .nothing
    else .waits (s.setTh t { s.th t with wait := .tclaimForce gd })

/-- TCLAIM_FORCE_DONE: the wait ends (R81). -/
def execTclaimForceDone (t : Thread) (s : State) : Res :=
  match (s.th t).wait with
  | .tclaimForce gd => due s s.forceReady ((s.claim t gd).complete t 2)
  | _ => .next s

/-- The owner becomes none. -/
def State.disown (s : State) : State := { s with tile := { s.tile with owner := none } }

/-- TREL of the unit waits for an empty queue (R81). -/
def execTrelUnit (t : Thread) (s : State) : Res :=
  issue s t 2 (tileChecks t { queued := false } fun s =>
    if s.tile.queue.isEmpty then .done s.disown .nothing
    else .waits (s.setTh t { s.th t with wait := .trelUnit }))

/-- TREL_UNIT_DONE (R81): the owner becomes none, whoever the owner is by then (log 113). -/
def execTrelUnitDone (t : Thread) (s : State) : Res :=
  due s ((s.th t).wait = .trelUnit && s.tile.queue.isEmpty) (s.disown.complete t 2)

/-- No entry and no drain: a TSYNC wait may end (R102). -/
def State.tileIdle (s : State) : Bool := s.tile.queue.isEmpty && s.tile.drains.isEmpty

/-- TSYNC makes the owner's tile flags visible (R133). -/
def State.syncFlags (s : State) (t : Thread) : State := s.setTh t { s.th t with tstatSync := (s.th t).tstat }

/-- TSYNC wait (R102). -/
def execTsyncWait (t : Thread) (s : State) : Res :=
  issue s t 2 (tileChecks t { queued := false } fun s =>
    if s.tileIdle then .done (s.syncFlags t) .nothing
    else .waits (s.setTh t { s.th t with wait := .tsync }))

/-- TSYNC_WAIT_DONE (R102). -/
def execTsyncWaitDone (t : Thread) (s : State) : Res :=
  due s ((s.th t).wait = .tsync && s.tileIdle) ((s.syncFlags t).complete t 2)

/-- Thaw the queue: TPROG.V is cleared (R102, R106). -/
def State.thaw (s : State) : State :=
  { s with tile := { s.tile with frozen := false, trap := false, tprog := setBit s.tile.tprog 63 false } }

/-- TSYNC resume: the faulting entry starts again at TPROG.PROG (R102, R109). -/
def execTsyncResume (t : Thread) (s : State) : Res :=
  issue s t 2 (tileChecks t { queued := false, frozenOk := true } fun s =>
    .done (if s.tile.frozen then s.thaw else s) .nothing)

/-- Remove every entry that has not started (R102). -/
def State.discard (s : State) : State :=
  let s1 := s.thaw
  { s1 with tile := { s1.tile with queue := s1.tile.queue.filter (·.started), deferred := false } }

/-- TSYNC discard (R102). -/
def execTsyncDiscard (t : Thread) (s : State) : Res :=
  issue s t 2 (tileChecks t { queued := false, frozenOk := true } fun s =>
    .done (if s.tile.frozen then s.discard else s) .nothing)

/-! ## What entries use (R86, R87) -/

/-- The kinds of queue entry. -/
inductive EKind where
  | tzero | mma | relSlot | drain | mem | cfg | mov | relTray | whisk
  deriving DecidableEq, Repr

/-- Kind of an entry. -/
def QEntry.kind (q : QEntry) : EKind :=
  match q.xop with
  | 0x21 => if wbits q.w0 5 4 = 1 then .relSlot else .relTray
  | 0x22 => .cfg
  | 0x23 => .tzero
  | 0x24 => .mem
  | 0x25 => .mem
  | 0x26 => .mma
  | 0x27 => .mma
  | 0x28 => .drain
  | 0x29 => .mov
  | _ => .whisk

/-- The slot field of an entry: word 0 for TZERO, TMMA, TMMS and TDRAIN; E1 for TREL. -/
def QEntry.slotF (q : QEntry) : Nat := if q.xop = 0x21 then bits q.x 5 0 else q.opf

/-- The fields of a Whisk entry. -/
def QEntry.wsk (q : QEntry) : WFields := wFields q.w0 q.e1 q.e2

/-- A slot as a resource beside the trays 0 to 15. -/
def slotRes (n : Nat) : Nat := 16 + n

/-- Trays and slots that an entry reads. -/
def State.entryReads (s : State) (q : QEntry) : List Nat :=
  match q.kind with
  | .mma => (s.mmaOf q).reads.map (·.1.val)
  | .drain => slotRes q.slotF :: (drainCw q.v1).reads.map (·.val)
  | .mem => if q.xop = 0x25 then [q.opf % 16] else []
  | .mov => [(trayF q.x 0).val]
  | .whisk => q.wsk.reads.map (·.val)
  | _ => []

/-- Trays and slots that an entry writes. -/
def State.entryWrites (_ : State) (q : QEntry) : List Nat :=
  match q.kind with
  | .tzero => [slotRes q.slotF]
  | .mma => [slotRes q.slotF]
  | .relSlot => [slotRes q.slotF]
  | .drain => slotRes q.slotF :: (drainCw q.v1).writes.map (·.val)
  | .mem => if q.xop = 0x24 then [q.opf % 16] else []
  | .cfg => [q.opf % 16]
  | .mov => [q.opf % 16]
  | .relTray => [(trayF q.x 0).val]
  | .whisk => q.wsk.writes.map (·.val)

/-- Do two lists meet? -/
def meet (a b : List Nat) : Bool := a.any b.contains

/-- Does a running entry keep `q` from starting? A drain past its copy holds only its trays (R74). -/
def State.clashes (s : State) (p q : QEntry) : Bool :=
  let qr := s.entryReads q
  let qw := s.entryWrites q
  if p.kind = .drain then
    let c := drainCw p.v1
    let held := (c.reads ++ c.writes).map (·.val)
    meet held (qr ++ qw)
  else meet (s.entryWrites p) (qr ++ qw) || meet ((s.entryReads p).filter (· < 16)) qw

/-- The resource of an entry is free (R86, R89): the array takes a second drain once the first has reached
relative step 33 (R66). -/
def State.resourceFree (s : State) (q : QEntry) : Bool :=
  match q.kind with
  | .tzero => s.tile.array.isNone
  | .mma => s.tile.array.isNone
  | .relSlot => s.tile.array.isNone
  | .drain => s.tile.array.isNone && s.tile.drains.all fun d => 32 ≤ d.rel
  | .mem =>
    s.tile.mem.all (fun m => m.pages.isEmpty && m.lines.all (·.asked))
      && s.ls.sb.all fun e => !(e.thr = q.thr && e.seq < q.sbMark)
  | .cfg => s.tile.mov.isNone
  | .mov => s.tile.mov.isNone
  | .relTray => s.tile.mov.isNone
  | .whisk => s.tile.whisk.isNone

/-- The pages that an entry needs are at work (R331, R336). -/
def State.pagesRun (s : State) (q : QEntry) : Bool :=
  s.en .til && !s.quiescing .til && s.rpr.migrating = 0 &&
    (match q.kind with
     | .tzero => !s.quiescing .stk
     | .mma => !s.quiescing .stk
     | .relSlot => !s.quiescing .stk
     | .drain => !s.quiescing .stk
     | .whisk => s.en .wsk && !s.quiescing .wsk
     | _ => true)

/-- The next entry to start: the first that has not. -/
def State.nextEntry (s : State) : Option QEntry := s.tile.queue.find? fun q => !q.started

/-- Entries ahead of the next one: all have started. -/
def State.ahead (s : State) : List QEntry := s.tile.queue.filter (·.started)

/-- The conditions of R87 but admission. -/
def State.mayStart (s : State) (q : QEntry) : Bool :=
  s.running && !s.tile.frozen && s.pagesRun q && s.resourceFree q
    && s.ahead.all fun p => p.safe && !s.clashes p q

/-! ## Start -/

/-- The estimate of an entry (R293). -/
def State.entryItems (s : State) (q : QEntry) : List (Nat × Nat) :=
  match q.kind with
  | .tzero => [(7, 1)]
  | .relSlot => [(7, 1)]
  | .mma => (s.mmaOf q).items
  | .drain => s.drainItems (drainCw q.v1)
  | .mem => s.memItems q
  | .cfg => [(0x0C, (s.tray (trayF q.opf 0)).rows)]
  | .relTray => [(0x0C, (s.tray (trayF q.x 0)).rows)]
  | .mov => [(0x0B, (s.tray (trayF q.x 0)).rows), (0x0C, (s.tray (trayF q.x 0)).rows)]
  | .whisk => [(q.wsk.cls, (s.tray q.wsk.d).rows)]

/-- The checks of an entry at its start. -/
def State.entryFault (s : State) (q : QEntry) : Option TFault :=
  match q.kind with
  | .tzero => tzeroFault q.slotF q.v1
  | .mma => s.mmaFault (s.mmaOf q)
  | .relSlot => if q.slotF < 48 then none else some { cause := 1, detail := 1, arg := q.slotF }
  | .drain => s.drainFault q.slotF (drainCw q.v1)
  | .mem => memFault0 q
  | .cfg => none
  | .relTray => none
  | .mov => s.tmovFault (trayF q.opf 0) (trayF q.x 0) (bits q.x 5 4)
  | .whisk => s.whiskFault q.wsk

/-- An entry runs: one-step entries complete at once. -/
def State.entryRun (s : State) (q : QEntry) : State :=
  let n := Fin.ofNat 48 q.slotF
  match q.kind with
  | .tzero => s.tzeroGo q n
  | .mma => s.mmaStart q (s.mmaOf q)
  | .relSlot => s.trelSlotGo q n
  | .drain => s.drainStart q n (drainCw q.v1)
  | .mem => s.memStart q
  | .cfg => s.tcfgGo q (trayF q.opf 0)
  | .relTray => s.trelTrayGo q (trayF q.x 0)
  | .mov =>
    { s with tile := { s.tile with
        mov := some { id := q.id, dst := trayF q.opf 0, src := trayF q.x 0, op := BitVec.ofNat 2 (bits q.x 5 4) } } }
  | .whisk => s.whiskStart q q.wsk

/-- An admitted entry starts: checks, then the run (R87, R88, R106). -/
def State.entryStart (s : State) (q : QEntry) : State :=
  let q1 := { q with started := true, safe := q.kind ≠ .mem }
  let s0 := { s with tile := { s.tile with deferred := false } }
  let s1 := (s0.setEntry q1).bump .til 1 1 (some q.thr)
  match s1.entryFault q1 with
  | some f => s1.freeze q1 f
  | none => s1.entryRun q1

/-- TILE_ENTRY_START (R87, R293): the next entry starts, or the Scale defers it. -/
def execTileEntryStart (s : State) : Res :=
  match s.nextEntry with
  | none => .next s
  | some q =>
    due s (s.mayStart q)
      (match s.admission (s.entryItems q) (some q.thr) with
       | none => s.deferHead
       | some s1 => s1.entryStart q)

/-! ## Steps of running entries -/

/-- SKILLET_STEP: one array step of the TMMA or TMMS on the array (R44, R51). -/
def execSkilletStep (s : State) : Res :=
  match s.tile.array with
  | none => .next s
  | some r => due s s.running (s.arrayStep r)

/-- TILE_MEM_PAGE: the next page of a TLD or TST translates (R94). -/
def execTileMemPage (run : Nat) (s : State) : Res :=
  match s.memRun run with
  | none => .next s
  | some m =>
    due s (s.running && !m.pages.isEmpty && !s.runWalks run) ((s.memXlate m).memFinish run)

/-- TILE_MEM_LINE_DONE: a line's data is written to the tray, or accepted by the local store (R94). -/
def execTileMemLineDone (run line : Nat) (s : State) : Res :=
  match s.memRun run with
  | none => .next s
  | some m =>
    match m.lines.find? fun l => l.line = line && !l.fin with
    | none => .next s
    | some l => due s (s.running && l.ready) (s.memLineDone m l)

/-- DRAIN_STREAM_ROW: relative steps 1 to 32 of the latest drain (R65). -/
def execDrainStreamRow (s : State) : Res :=
  match s.tile.drains.find? fun d => d.rel < 32 with
  | none => .next s
  | some d => due s s.running (s.streamStep d)

/-- DRAIN_COMPLETE: relative step 33 (R65, R73). -/
def execDrainComplete (s : State) : Res :=
  match s.tile.drains.find? fun d => 32 ≤ d.rel with
  | none => .next s
  | some d => due s s.running (s.drainEnd d)

/-- TMOV_COMPLETE (R101). -/
def execTmovComplete (s : State) : Res :=
  match s.tile.mov with
  | none => .next s
  | some m => due s s.running (s.tmovEnd m)

/-- The relative step in which a Whisk entry writes its last row (R123). -/
def WhiskRun.last (r : WhiskRun) : Nat := r.rows + r.lat - 1

/-- WHISK_ROW: one relative step of the Whisk before its last (R123). -/
def execWhiskRow (s : State) : Res :=
  match s.tile.whisk with
  | none => .next s
  | some r => due s (s.running && r.rel < r.last) (s.whiskStep r)

/-- WHISK_COMPLETE: the last relative step, then the flags (R123, R127). -/
def execWhiskComplete (s : State) : Res :=
  match s.tile.whisk with
  | none => .next s
  | some r =>
    let s1 := s.whiskStep r
    due s (s.running && r.rel = r.last)
      (match s1.tile.whisk with
       | none => s1
       | some r1 => s1.whiskEnd r1)

end Sys2Proof.Machine
end

