-- ==== Sys2Proof/Decode.lean ====
section
/-! DEFINITION. Decoding.  spec/opcode_table.json gives no row any bits, so no table word spells a command.  The words that
a thread fetches spell the commands that are its instructions: `decodeWords` reads them and `encodeWords` writes them
(05_threads_volis14.md R139 to R150; 03_trays_tile_instructions.md R83; 04_whisk_rows.md R112, R113, R121;
07_local_store_caches.md R211; 09_translation.md R259). -/

namespace Sys2Proof

open Sys2Proof.Machine

/-- The command that a word of `nbits` bits spells: none, since no row of the table has bits. -/
def decodeTableWord (nbits w : Nat) : Option Instr :=
  match nbits, w with
  | _, _ => none

/-! ## Fields -/

/-- A register or tray number of four bits. -/
def num4 (x lo : Nat) : Fin 16 := Fin.ofNat 16 (bits x (lo + 3) lo)

/-- A field of `n` bits. -/
def fieldAt (n x lo : Nat) : BitVec n := BitVec.ofNat n (x / 2 ^ lo)

/-- Scope codes (R145, R259). -/
def scopeOf (x : Nat) : Scope :=
  match x with
  | 0 => .core | 1 => .cluster | 2 => .chip | _ => .system

/-! ## The classes (R139) -/

/-- The unary operations of UN (R142). -/
def readUnary (t : Thread) (d : GReg) (sel : Nat) : Option Instr :=
  match sel with
  | 0x0 => some (.not t d)
  | 0x1 => some (.neg t d)
  | 0x2 => some (.abs t d)
  | 0x3 => some (.zxb t d)
  | 0x4 => some (.zxh t d)
  | 0x5 => some (.zxw t d)
  | 0x6 => some (.sxb t d)
  | 0x7 => some (.sxh t d)
  | 0x8 => some (.sxw t d)
  | 0x9 => some (.clz t d)
  | 0xA => some (.popc t d)
  | _ => none

/-- The R class (R141). -/
def readR (t : Thread) (w0 : Nat) : Option Instr :=
  let d := num4 w0 4
  let s := num4 w0 0
  match bits w0 11 8 with
  | 0x0 => some (.mov t d s)
  | 0x1 => some (.add t d s)
  | 0x2 => some (.sub t d s)
  | 0x3 => some (.and t d s)
  | 0x4 => some (.or t d s)
  | 0x5 => some (.xor t d s)
  | 0x6 => some (.sll t d s)
  | 0x7 => some (.srl t d s)
  | 0x8 => some (.sra t d s)
  | 0x9 => some (.slt t d s)
  | 0xA => some (.sltu t d s)
  | 0xB => some (.mul t d s)
  | 0xC => some (.mulh t d s)
  | 0xD => some (.mac0 t d s)
  | 0xE => some (.mac1 t d s)
  | _ => readUnary t d (bits w0 3 0)

/-- The M class: S and size choose the operation, X whether a second word gives the offset (R144). -/
def readM (t : Thread) (w0 : Nat) (e1 : IWord) : Option Instr :=
  let d := num4 w0 4
  let b := num4 w0 0
  let e := if nbit w0 11 then some e1 else none
  match bits w0 10 8 with
  | 0 => some (.ldb t d b e)
  | 1 => some (.ldh t d b e)
  | 2 => some (.ldw t d b e)
  | 3 => some (.ldd t d b e)
  | 4 => some (.stb t d b e)
  | 5 => some (.sth t d b e)
  | 6 => some (.stw t d b e)
  | _ => some (.std t d b e)

/-- The I class (R143). -/
def readI (t : Thread) (w0 : Nat) : Option Instr :=
  let d := num4 w0 0
  let imm := fieldAt 6 w0 4
  match bits w0 11 10 with
  | 0 => some (.movi t d imm)
  | 1 => some (.addi t d imm)
  | 2 => some (.slli t d imm)
  | _ => some (.srai t d imm)

/-- Division operations (R148). -/
def readDiv (t : Thread) (d s : GReg) (op : Nat) : Option Instr :=
  match op with
  | 0 => some (.div t d s)
  | 1 => some (.divu t d s)
  | 2 => some (.rem t d s)
  | _ => some (.remu t d s)

/-- Accumulator operations (R149). -/
def readAcc (t : Thread) (a : Fin 2) (g g2 : GReg) (op : Nat) : Option Instr :=
  match op with
  | 0x1 => some (.msu t a g g2)
  | 0x2 => some (.azero t a)
  | 0x3 => some (.ald t a g)
  | 0x4 => some (.ast t a g)
  | 0x5 => some (.ardl t a g)
  | 0x6 => some (.ardh t a g)
  | 0x7 => some (.awr t a g g2)
  | 0x8 => some (.ashl t a g)
  | 0x9 => some (.ashr t a g)
  | 0xA => some (.aadd t a)
  | _ => none

/-- Atomic operations (R168). -/
def readAmo (t : Thread) (wide : Bool) (gd ga gs : GReg) (op : Nat) : Option Instr :=
  match op with
  | 0x0 => some (.amoSwap t wide gd ga gs)
  | 0x1 => some (.amoAdd t wide gd ga gs)
  | 0x2 => some (.amoAnd t wide gd ga gs)
  | 0x3 => some (.amoOr t wide gd ga gs)
  | 0x4 => some (.amoXor t wide gd ga gs)
  | 0x5 => some (.amoMin t wide gd ga gs)
  | 0x6 => some (.amoMax t wide gd ga gs)
  | 0x7 => some (.amoMinu t wide gd ga gs)
  | 0x8 => some (.amoMaxu t wide gd ga gs)
  | 0x9 => some (.amoCas t wide gd ga gs)
  | _ => none

/-- CSR operations (R150). -/
def readCsr (t : Thread) (g : GReg) (op : Nat) (csr : BitVec 12) : Option Instr :=
  match op with
  | 0 => some (.csrr t g csr)
  | 1 => some (.csrw t g csr)
  | 2 => some (.csrs t g csr)
  | _ => some (.csrc t g csr)

/-- XINV by KIND (R259). -/
def readXinv (t : Thread) (ga : GReg) (sc : Scope) (kind : Nat) : Option Instr :=
  match kind with
  | 0 => some (.xinvAddress t ga sc)
  | 1 => some (.xinvNonglobal t ga sc)
  | 2 => some (.xinvAll t ga sc)
  | _ => none

/-- LSM by OP (R211). -/
def readLsm (t : Thread) (ga : GReg) (bySetWay : Bool) (op : Nat) : Option Instr :=
  match op with
  | 0 => some (.lsmClean t ga bySetWay)
  | 1 => some (.lsmInvalidate t ga bySetWay)
  | 2 => some (.lsmCleanInvalidate t ga bySetWay)
  | _ => none

/-- The scalar instructions of the X class, by xop, operand field and extension words (R145). -/
def readScalar (t : Thread) (xop opf e1 e2 : Nat) : Option Instr :=
  let g := num4 opf 0
  let far := fieldAt 17 (e1 + bits opf 2 0 * 2 ^ 14) 0
  let near := Fin.ofNat 8 (bits opf 5 3)
  let lvl := Fin.ofNat 2 (bits opf 4 4)
  let stop := fieldAt 17 (e1 + bits e2 2 0 * 2 ^ 14) 0
  let imm := fieldAt 28 (e1 + e2 * 2 ^ 14) 0
  match xop with
  | 0x00 => some (.jmp t far)
  | 0x01 => some (.call t far)
  | 0x02 => some (.jr t g)
  | 0x03 => some (.callr t g)
  | 0x04 => some (.beqz t near far)
  | 0x05 => some (.bnez t near far)
  | 0x06 => some (.bltz t near far)
  | 0x07 => some (.bgez t near far)
  | 0x08 => some (.loop t g lvl stop)
  | 0x09 => some (.loopi t (fieldAt 15 (bits opf 3 0 + bits e2 13 3 * 2 ^ 4) 0) lvl stop)
  | 0x0A => some (.movl t g imm)
  | 0x0B => some (.shol t g imm)
  | 0x0C => some (.addl t g imm)
  | 0x0D => some (.andl t g imm)
  | 0x0E => readDiv t g (num4 e1 0) (bits e1 5 4)
  | 0x0F => readAcc t lvl g (num4 e1 0) (bits e1 7 4)
  | 0x10 => readAmo t (nbit opf 4) g (num4 e1 0) (num4 e1 4) (bits e1 11 8)
  | 0x11 => some (.fence t (scopeOf (bits opf 1 0)))
  | 0x12 => readCsr t g (bits opf 5 4) (fieldAt 12 e1 0)
  | 0x13 => some (.pmw t g (num4 e1 0))
  | 0x14 => some (.pmr t g (num4 e1 0))
  | 0x15 => some (.trap t (fieldAt 6 opf 0))
  | 0x16 => some (.rett t)
  | 0x17 => some (.wait t)
  | 0x18 => readXinv t g (scopeOf (bits opf 5 4)) (bits e1 1 0)
  | 0x19 => readLsm t g (nbit e1 2) (bits e1 1 0)
  | _ => none

/-- TREL by KIND (R83). -/
def readTrel (t : Thread) (kind e1 : Nat) : Option Instr :=
  match kind with
  | 0 => some (.trelTray t (num4 e1 0))
  | 1 => some (.trelSlot t (fieldAt 6 e1 0))
  | 2 => some (.trelUnit t)
  | _ => none

/-- TSYNC by MODE (R83). -/
def readTsync (t : Thread) (mode : Nat) : Option Instr :=
  match mode with
  | 0 => some (.tsyncWait t)
  | 1 => some (.tsyncResume t)
  | 2 => some (.tsyncDiscard t)
  | _ => none

/-- The tile instructions, by xop, operand field, first extension word and X (R83). -/
def readTile (t : Thread) (xop opf e1 x : Nat) : Option Instr :=
  let r := num4 opf 0
  let slot := fieldAt 6 opf 0
  let op := fieldAt 2 e1 4
  match xop with
  | 0x20 => some (if nbit opf 4 then .tclaimForce t r else .tclaim t r)
  | 0x21 => readTrel t (bits opf 5 4) e1
  | 0x22 => some (.tcfg t r (fieldAt 5 e1 0) (fieldAt 5 e1 5))
  | 0x23 => some (.tzero t slot (num4 e1 0) (num4 e1 4))
  | 0x24 => some (.tld t r (num4 e1 0) (num4 e1 4))
  | 0x25 => some (.tst t r (num4 e1 0) (num4 e1 4))
  | 0x26 => some (.tmma t slot (num4 x 0) (num4 x 4) (fieldAt 4 x 8) (fieldAt 4 x 12) (num4 x 16) (num4 x 20))
  | 0x27 =>
    some (.tmms t slot (num4 x 0) (num4 x 4) (fieldAt 4 x 8) (fieldAt 4 x 12) (num4 x 16) (num4 x 20) (num4 x 24))
  | 0x28 => some (.tdrain t slot (num4 e1 0))
  | 0x29 => some (if op = 0 then .tmovCopy t r (num4 e1 0) else .tmovTranspose t r (num4 e1 0) op)
  | 0x2A => readTsync t (bits opf 1 0)
  | 0x2B => some (.tsave t r)
  | 0x2C => some (.trstr t r)
  | _ => none

/-- The Whisk instructions, by xop, operand field and X (R112, R113, R121). -/
def readWhisk (t : Thread) (xop opf x : Nat) : Option Instr :=
  let D := num4 opf 0
  let A := num4 x 0
  let B := num4 x 4
  let C := num4 x 8
  let T := fieldAt 4 x 12
  let U := fieldAt 4 x 16
  let BB := fieldAt 2 x 20
  let BC := fieldAt 2 x 22
  let RND := fieldAt 2 x 24
  let SAT := nbit x 26
  let var := nbit x 27
  match xop with
  | 0x30 => some (if var then .waddSub t D A B T U BB RND SAT else .wadd t D A B T U BB RND SAT)
  | 0x31 => some (.wmul t D A B T U BB RND SAT)
  | 0x32 => some (if var then .wfmaNeg t D A B C T U BB BC RND SAT else .wfma t D A B C T U BB BC RND SAT)
  | 0x33 => some (.wmax t D A B T U BB RND SAT)
  | 0x34 => some (.wmin t D A B T U BB RND SAT)
  | 0x35 => some (.wsel t D A B C T U BB BC RND SAT)
  | 0x36 => some (.wexp t D A T U RND SAT)
  | 0x37 => some (.wrcp t D A T U RND SAT)
  | 0x38 => some (.wrsq t D A T U RND SAT)
  | 0x39 => some (.wcvt t D A B C T U (nbit x 20) (nbit x 21) (nbit x 22) (nbit x 23) RND SAT)
  | 0x3A => some (.wspl t D A T U RND SAT)
  | 0x3B => some (if var then .wredMax t D A T U RND SAT else .wredSum t D A T U RND SAT)
  | _ => none

/-- The X class (R145). -/
def readX (t : Thread) (w0 : Nat) (e1 e2 : IWord) : Option Instr :=
  let xop := bits w0 11 6
  let opf := bits w0 5 0
  let x := e1.toNat + e2.toNat * 2 ^ 14
  if xop < 0x20 then readScalar t xop opf e1.toNat e2.toNat
  else if xop < 0x30 then readTile t xop opf e1.toNat x
  else readWhisk t xop opf x

/-- Word 0's class chooses the layout (R139). -/
def readWords (t : Thread) (w0 e1 e2 : IWord) : Option Instr :=
  match wbits w0 13 12 with
  | 0 => readR t w0.toNat
  | 1 => readM t w0.toNat e1
  | 2 => readI t w0.toNat
  | _ => readX t w0.toNat e1 e2

/-- The command of a thread that fetches these words: the instruction that they spell; none where they are illegal, which is
the command ILLEGAL_INSTRUCTION (R139, R140).  A word beyond the instruction's length (`instrWords`) says nothing. -/
def decodeWords (t : Thread) (w0 e1 e2 : IWord) : Option Instr :=
  if legalWords w0 e1 e2 then readWords t w0 e1 e2 else none

/-! ## Encoding -/

/-- A thread and the words of its instruction, a word that it does not have being 0. -/
structure Coded where
  thr : Thread
  w0 : IWord
  e1 : IWord
  e2 : IWord
  deriving DecidableEq, Repr

/-- Word 0 of the R class (R139). -/
def rWord (op d s : Nat) : IWord := BitVec.ofNat 14 (op * 2 ^ 8 + d * 2 ^ 4 + s)

/-- An R-class instruction. -/
def codeR (t : Thread) (op : Nat) (d s : GReg) : Option Coded := some ⟨t, rWord op d.val s.val, 0, 0⟩

/-- A unary instruction (R142). -/
def codeUn (t : Thread) (sel : Nat) (d : GReg) : Option Coded := some ⟨t, rWord 0xF d.val sel, 0, 0⟩

/-- An M-class instruction: `op` is S and size (R144). -/
def codeM (t : Thread) (op : Nat) (d b : GReg) (e : Option IWord) : Option Coded :=
  some ⟨t, BitVec.ofNat 14 (0x1000 + b2n e.isSome * 2 ^ 11 + op * 2 ^ 8 + d.val * 2 ^ 4 + b.val), e.getD 0, 0⟩

/-- An I-class instruction (R143). -/
def codeI (t : Thread) (op : Nat) (d : GReg) (imm : BitVec 6) : Option Coded :=
  some ⟨t, BitVec.ofNat 14 (0x2000 + op * 2 ^ 10 + imm.toNat * 2 ^ 4 + d.val), 0, 0⟩

/-- An X-class instruction of two words (R139). -/
def codeX2 (t : Thread) (xop opf e1 : Nat) : Option Coded := some ⟨t, w0Of xop opf, ext14 e1, 0⟩

/-- An X-class instruction of three words with the field X (R139). -/
def codeX3 (t : Thread) (xop opf x : Nat) : Option Coded := some ⟨t, w0Of xop opf, extLo x, extHi x⟩

/-- JMP, CALL and the branches: `near` is the register's field (R145). -/
def codeJump (t : Thread) (xop near : Nat) (target : PAddr) : Option Coded :=
  codeX2 t xop (near * 2 ^ 3 + target.toNat / 2 ^ 14) (target.toNat % 2 ^ 14)

/-- An accumulator operation (R149). -/
def codeAcc (t : Thread) (op : Nat) (a : Fin 2) (g g2 : GReg) : Option Coded :=
  codeX2 t 0x0F (g.val + a.val * 2 ^ 4) (g2.val + op * 2 ^ 4)

/-- An AMO (R145, R168). -/
def codeAmo (t : Thread) (op : Nat) (wide : Bool) (gd ga gs : GReg) : Option Coded :=
  codeX2 t 0x10 (gd.val + b2n wide * 2 ^ 4) (ga.val + gs.val * 2 ^ 4 + op * 2 ^ 8)

/-- A CSR operation (R150). -/
def codeCsr (t : Thread) (op : Nat) (g : GReg) (csr : BitVec 12) : Option Coded :=
  codeX2 t 0x12 (g.val + op * 2 ^ 4) csr.toNat

/-- The code of a scope (R145). -/
def scopeCode (s : Scope) : Nat :=
  match s with
  | .core => 0 | .cluster => 1 | .chip => 2 | .system => 3

/-- XINV (R259). -/
def codeXinv (t : Thread) (kind : Nat) (ga : GReg) (sc : Scope) : Option Coded :=
  codeX2 t 0x18 (ga.val + scopeCode sc * 2 ^ 4) kind

/-- LSM (R211). -/
def codeLsm (t : Thread) (op : Nat) (ga : GReg) (bySetWay : Bool) : Option Coded :=
  codeX2 t 0x19 ga.val (op + b2n bySetWay * 2 ^ 2)

/-- A Whisk instruction (R112). -/
def codeWsk (t : Thread) (xop : Nat) (D : TrayNo) (x : Nat) : Option Coded := codeX3 t xop D.val x

/-- The words of a command that is an instruction; none for one that no words spell. -/
def encodeWords (i : Instr) : Option Coded :=
  match i with
  | .mov t d s => codeR t 0x0 d s
  | .add t d s => codeR t 0x1 d s
  | .sub t d s => codeR t 0x2 d s
  | .and t d s => codeR t 0x3 d s
  | .or t d s => codeR t 0x4 d s
  | .xor t d s => codeR t 0x5 d s
  | .sll t d s => codeR t 0x6 d s
  | .srl t d s => codeR t 0x7 d s
  | .sra t d s => codeR t 0x8 d s
  | .slt t d s => codeR t 0x9 d s
  | .sltu t d s => codeR t 0xA d s
  | .mul t d s => codeR t 0xB d s
  | .mulh t d s => codeR t 0xC d s
  | .mac0 t d s => codeR t 0xD d s
  | .mac1 t d s => codeR t 0xE d s
  | .not t d => codeUn t 0x0 d
  | .neg t d => codeUn t 0x1 d
  | .abs t d => codeUn t 0x2 d
  | .zxb t d => codeUn t 0x3 d
  | .zxh t d => codeUn t 0x4 d
  | .zxw t d => codeUn t 0x5 d
  | .sxb t d => codeUn t 0x6 d
  | .sxh t d => codeUn t 0x7 d
  | .sxw t d => codeUn t 0x8 d
  | .clz t d => codeUn t 0x9 d
  | .popc t d => codeUn t 0xA d
  | .movi t d imm => codeI t 0 d imm
  | .addi t d imm => codeI t 1 d imm
  | .slli t d imm => codeI t 2 d imm
  | .srai t d imm => codeI t 3 d imm
  | .ldb t d b ext => codeM t 0 d b ext
  | .ldh t d b ext => codeM t 1 d b ext
  | .ldw t d b ext => codeM t 2 d b ext
  | .ldd t d b ext => codeM t 3 d b ext
  | .stb t d b ext => codeM t 4 d b ext
  | .sth t d b ext => codeM t 5 d b ext
  | .stw t d b ext => codeM t 6 d b ext
  | .std t d b ext => codeM t 7 d b ext
  | .jmp t target => codeJump t 0x00 0 target
  | .call t target => codeJump t 0x01 0 target
  | .jr t s => codeX2 t 0x02 s.val 0
  | .callr t s => codeX2 t 0x03 s.val 0
  | .beqz t r target => codeJump t 0x04 r.val target
  | .bnez t r target => codeJump t 0x05 r.val target
  | .bltz t r target => codeJump t 0x06 r.val target
  | .bgez t r target => codeJump t 0x07 r.val target
  | .loop t s lvl stop =>
    some ⟨t, w0Of 0x08 (s.val + lvl.val * 2 ^ 4), ext14 (stop.toNat % 2 ^ 14), ext14 (stop.toNat / 2 ^ 14)⟩
  | .loopi t count lvl stop =>
    some ⟨t, w0Of 0x09 (count.toNat % 2 ^ 4 + lvl.val * 2 ^ 4), ext14 (stop.toNat % 2 ^ 14),
      ext14 (stop.toNat / 2 ^ 14 + count.toNat / 2 ^ 4 * 2 ^ 3)⟩
  | .movl t d imm => codeX3 t 0x0A d.val imm.toNat
  | .shol t d imm => codeX3 t 0x0B d.val imm.toNat
  | .addl t d imm => codeX3 t 0x0C d.val imm.toNat
  | .andl t d imm => codeX3 t 0x0D d.val imm.toNat
  | .div t d s => codeX2 t 0x0E d.val (s.val + 0 * 2 ^ 4)
  | .divu t d s => codeX2 t 0x0E d.val (s.val + 1 * 2 ^ 4)
  | .rem t d s => codeX2 t 0x0E d.val (s.val + 2 * 2 ^ 4)
  | .remu t d s => codeX2 t 0x0E d.val (s.val + 3 * 2 ^ 4)
  | .msu t a g g2 => codeAcc t 0x1 a g g2
  | .azero t a => codeAcc t 0x2 a 0 0
  | .ald t a g => codeAcc t 0x3 a g 0
  | .ast t a g => codeAcc t 0x4 a g 0
  | .ardl t a g => codeAcc t 0x5 a g 0
  | .ardh t a g => codeAcc t 0x6 a g 0
  | .awr t a g g2 => codeAcc t 0x7 a g g2
  | .ashl t a g => codeAcc t 0x8 a g 0
  | .ashr t a g => codeAcc t 0x9 a g 0
  | .aadd t a => codeAcc t 0xA a 0 0
  | .amoSwap t wide gd ga gs => codeAmo t 0x0 wide gd ga gs
  | .amoAdd t wide gd ga gs => codeAmo t 0x1 wide gd ga gs
  | .amoAnd t wide gd ga gs => codeAmo t 0x2 wide gd ga gs
  | .amoOr t wide gd ga gs => codeAmo t 0x3 wide gd ga gs
  | .amoXor t wide gd ga gs => codeAmo t 0x4 wide gd ga gs
  | .amoMin t wide gd ga gs => codeAmo t 0x5 wide gd ga gs
  | .amoMax t wide gd ga gs => codeAmo t 0x6 wide gd ga gs
  | .amoMinu t wide gd ga gs => codeAmo t 0x7 wide gd ga gs
  | .amoMaxu t wide gd ga gs => codeAmo t 0x8 wide gd ga gs
  | .amoCas t wide gd ga gs => codeAmo t 0x9 wide gd ga gs
  | .fence t sc => codeX2 t 0x11 (scopeCode sc) 0
  | .csrr t g csr => codeCsr t 0 g csr
  | .csrw t g csr => codeCsr t 1 g csr
  | .csrs t g csr => codeCsr t 2 g csr
  | .csrc t g csr => codeCsr t 3 g csr
  | .pmw t ga gs => codeX2 t 0x13 ga.val gs.val
  | .pmr t gd ga => codeX2 t 0x14 gd.val ga.val
  | .trap t code => codeX2 t 0x15 code.toNat 0
  | .rett t => codeX2 t 0x16 0 0
  | .wait t => codeX2 t 0x17 0 0
  | .xinvAddress t ga sc => codeXinv t 0 ga sc
  | .xinvNonglobal t ga sc => codeXinv t 1 ga sc
  | .xinvAll t ga sc => codeXinv t 2 ga sc
  | .lsmClean t ga bySetWay => codeLsm t 0 ga bySetWay
  | .lsmInvalidate t ga bySetWay => codeLsm t 1 ga bySetWay
  | .lsmCleanInvalidate t ga bySetWay => codeLsm t 2 ga bySetWay
  | .tclaim t gd => codeX2 t 0x20 gd.val 0
  | .tclaimForce t gd => codeX2 t 0x20 (gd.val + 2 ^ 4) 0
  | .tclaimForceDone _ => none
  | .trelTray t tray => codeX2 t 0x21 0 tray.val
  | .trelSlot t slot => codeX2 t 0x21 0x10 slot.toNat
  | .trelUnit t => codeX2 t 0x21 0x20 0
  | .trelUnitDone _ => none
  | .tcfg t tray rows len => codeX2 t 0x22 tray.val (rows.toNat + len.toNat * 2 ^ 5)
  | .tzero t slot gc gs => codeX2 t 0x23 slot.toNat (gc.val + gs.val * 2 ^ 4)
  | .tld t tray ga gb => codeX2 t 0x24 tray.val (ga.val + gb.val * 2 ^ 4)
  | .tst t tray ga gb => codeX2 t 0x25 tray.val (ga.val + gb.val * 2 ^ 4)
  | .tmma t slot a b fa fb sa sb => codeX3 t 0x26 slot.toNat (mmaX a b fa fb sa sb 0)
  | .tmms t slot a b fa fb sa sb mt => codeX3 t 0x27 slot.toNat (mmaX a b fa fb sa sb mt)
  | .tdrain t slot gd => codeX2 t 0x28 slot.toNat gd.val
  | .tmovCopy t dst src => codeX2 t 0x29 dst.val src.val
  | .tmovTranspose t dst src op => if op = 0 then none else codeX2 t 0x29 dst.val (src.val + op.toNat * 2 ^ 4)
  | .tsyncWait t => codeX2 t 0x2A 0 0
  | .tsyncWaitDone _ => none
  | .tsyncResume t => codeX2 t 0x2A 1 0
  | .tsyncDiscard t => codeX2 t 0x2A 2 0
  | .tsave t ga => codeX2 t 0x2B ga.val 0
  | .tsaveBlock _ => none
  | .trstr t ga => codeX2 t 0x2C ga.val 0
  | .trstrBlock _ => none
  | .tileEntryStart => none
  | .skilletStep => none
  | .tileMemPage _ => none
  | .tileMemLineDone _ _ => none
  | .drainStreamRow => none
  | .drainComplete => none
  | .wadd t D A B T U BB RND SAT => codeWsk t 0x30 D (wskX A B 0 T U BB 0 + wskTop RND SAT false)
  | .waddSub t D A B T U BB RND SAT => codeWsk t 0x30 D (wskX A B 0 T U BB 0 + wskTop RND SAT true)
  | .wmul t D A B T U BB RND SAT => codeWsk t 0x31 D (wskX A B 0 T U BB 0 + wskTop RND SAT false)
  | .wfma t D A B C T U BB BC RND SAT => codeWsk t 0x32 D (wskX A B C T U BB BC + wskTop RND SAT false)
  | .wfmaNeg t D A B C T U BB BC RND SAT => codeWsk t 0x32 D (wskX A B C T U BB BC + wskTop RND SAT true)
  | .wmax t D A B T U BB RND SAT => codeWsk t 0x33 D (wskX A B 0 T U BB 0 + wskTop RND SAT false)
  | .wmin t D A B T U BB RND SAT => codeWsk t 0x34 D (wskX A B 0 T U BB 0 + wskTop RND SAT false)
  | .wsel t D A B C T U BB BC RND SAT => codeWsk t 0x35 D (wskX A B C T U BB BC + wskTop RND SAT false)
  | .wexp t D A T U RND SAT => codeWsk t 0x36 D (wskX A 0 0 T U 0 0 + wskTop RND SAT false)
  | .wrcp t D A T U RND SAT => codeWsk t 0x37 D (wskX A 0 0 T U 0 0 + wskTop RND SAT false)
  | .wrsq t D A T U RND SAT => codeWsk t 0x38 D (wskX A 0 0 T U 0 0 + wskTop RND SAT false)
  | .wcvt t D A SS DS SF DF SW DW SF4 DF4 RND SAT =>
    codeWsk t 0x39 D (cvtX A SS DS SF DF SW DW SF4 DF4 + wskTop RND SAT false)
  | .wspl t D gA T U RND SAT => codeWsk t 0x3A D (wskX gA 0 0 T U 0 0 + wskTop RND SAT false)
  | .wredSum t D A T U RND SAT => codeWsk t 0x3B D (wskX A 0 0 T U 0 0 + wskTop RND SAT false)
  | .wredMax t D A T U RND SAT => codeWsk t 0x3B D (wskX A 0 0 T U 0 0 + wskTop RND SAT true)
  | .whiskRow => none
  | .whiskComplete => none
  | .handlerEntry _ => none
  | .quietOverrun _ => none
  | .storeBufferLeave => none
  | .nocRequestSend _ => none
  | .rdRsp _ _ _ _ _ => none
  | .wrAck _ _ _ => none
  | .atomRsp _ _ _ => none
  | .xinvAck _ _ => none
  | .hold _ => none
  | .holdEnd _ => none
  | .linkfail _ => none
  | .requestTimeout _ => none
  | .holdExpiry _ => none
  | .quarantineEnd _ => none
  | .nocRdIn _ => none
  | .nocWrIn _ _ _ => none
  | .nocAtomIn _ _ _ => none
  | .bcastIn _ _ _ => none
  | .xinvIn _ => none
  | .xinvAckSend => none
  | .doorbell _ => none
  | .budgetGrant _ _ => none
  | .badHeader _ => none
  | .chnHeadWrite _ _ _ => none
  | .ladleDescriptorStart _ => none
  | .ladleRun _ => none
  | .ladleDescriptorComplete _ => none
  | .resume _ _ => none
  | .skip _ _ => none
  | .abort _ _ => none
  | .barArrive _ => none
  | .barSend => none
  | .barRel => none
  | .chipIrq _ => none
  | .scrubRead => none
  | .shelfGrowthDone => none
  | .tableWalk _ => none
  | .spanLoad _ _ _ => none
  | .spanClear _ _ _ => none
  | .spanReadBack _ _ _ => none
  | .spanSetAAndD _ _ _ => none
  | .canaryFire _ => none
  | .autoCalibration => none
  | .calCmdGroup _ _ => none
  | .calCmdAll _ => none
  | .recalibrationDone _ => none
  | .voltageMove => none
  | .vack => none
  | .vackFall => none
  | .voltageAckTimeout => none
  | .scalePolicyMove => none
  | .retentionEntry => none
  | .retentionWake => none
  | .retentionWakeDone => none
  | .oscTrimWindow _ => none
  | .syncMarkLost => none
  | .timerExpiry _ => none
  | .pllLock => none
  | .pllCoast => none
  | .pllRelock => none
  | .muxSwitchDone => none
  | .muxHang => none
  | .threadStop _ => none
  | .threadWake _ => none
  | .tempReading _ => none
  | .firmwareLineReadDone => none
  | .pfailAssert => none
  | .pfailDeassert => none
  | .wcmd _ _ _ _ => none
  | .wcmdRefresh _ _ _ _ => none
  | .dwcmd _ _ _ _ => none
  | .drcmd _ _ _ => none
  | .driverReadDone => none
  | .crockLineWriteDone _ => none
  | .wqResume _ => none
  | .wqDiscard _ => none
  | .moveCmd _ _ _ _ => none
  | .mapCmd _ => none
  | .scanCmd _ => none
  | .crockScanRead => none
  | .verify _ => none
  | .vdone => none
  | .switch _ => none
  | .trst _ _ => none
  | .mmioAccess _ => none
  | .ctrlEn _ _ _ => none
  | .ctrlQuiesce _ _ _ => none
  | .ctrlCommit _ _ => none
  | .ctrlRevert _ _ => none
  | .registerWrite _ _ _ => none
  | .regDataRead _ => none
  | .regDataWrite _ _ => none
  | .pendClr _ _ => none
  | .pendSet _ _ => none
  | .readySend _ _ => none
  | .fatalRaise _ _ => none
  | .pmCmdRead _ => none
  | .pmCmdWrite _ => none
  | .bistRow _ _ => none
  | .bistColumn _ _ => none
  | .bistWay _ _ => none
  | .bistWholeArray _ => none
  | .bistDone _ => none
  | .migrationDone => none
  | .waySweepDone => none
  | .tmovComplete => none
  | .crockWindowReadDone _ => none
  | .leakageCharge => none
  | .illegalInstruction _ _ _ _ => none
  | .switched => none
  | .coldReset => none
  | .coldResetRelease _ => none
  | .bootVerifyDone => none
  | .warmReset => none
  | .warmResetRelease => none
  | .timingDomainReset => none
  | .threadResetEffect _ => none
  | .wsBypass => none
  | .wsExtest => none
  | .wsIntestScan => none
  | .wsPreload => none
  | .wsClamp => none
  | .quiesceComplete _ => none
  | .readyResend => none
  | .fatalReportResend => none

end Sys2Proof
end

