-- ==== Sys2Proof/Machine/Branch.lean ====
section
/-! DEFINITION. Branches, calls and hardware loops (05_threads_volis14.md R146, R155, R159). -/

namespace Sys2Proof.Machine

open Sys2Proof

/-- bits(gs, 16, 0) as a branch target (R146). -/
def targetOf (v : Word) : PAddr := v.setWidth 17

/-- The link value: (address of word 0) + 2, exact (R19, R146). -/
def State.linkOf (s : State) (t : Thread) : Word := BitVec.ofNat 64 ((s.th t).pc.toNat + 2)

/-- A conditional branch (R146). -/
def branchIf (taken : State → Bool) (target : PAddr) (s : State) : Ends :=
  if taken s then .jump s target else .done s .nothing

/-- g0 to g7 of a conditional branch (R146). -/
def lowReg (r : Fin 8) : GReg := ⟨r.val, by omega⟩

/-- JMP (R146). -/
def execJmp (t : Thread) (target : PAddr) (s : State) : Res :=
  issue s t 2 fun s => .jump s target

/-- CALL: g15 := the address of the next instruction (R146). -/
def execCall (t : Thread) (target : PAddr) (s : State) : Res :=
  issue s t 2 fun s => .jump (s.setG t 15 (s.linkOf t)) target

/-- JR (R146). -/
def execJr (t : Thread) (r : GReg) (s : State) : Res :=
  issue s t 2 fun s => .jump s (targetOf (s.g t r))

/-- CALLR: gs is read before g15 is written (R146). -/
def execCallr (t : Thread) (r : GReg) (s : State) : Res :=
  issue s t 2 fun s => .jump (s.setG t 15 (s.linkOf t)) (targetOf (s.g t r))

/-- BEQZ (R146). -/
def execBeqz (t : Thread) (r : Fin 8) (target : PAddr) (s : State) : Res :=
  issue s t 2 (branchIf (fun s => s.g t (lowReg r) = 0) target)

/-- BNEZ (R146). -/
def execBnez (t : Thread) (r : Fin 8) (target : PAddr) (s : State) : Res :=
  issue s t 2 (branchIf (fun s => s.g t (lowReg r) ≠ 0) target)

/-- BLTZ (R146). -/
def execBltz (t : Thread) (r : Fin 8) (target : PAddr) (s : State) : Res :=
  issue s t 2 (branchIf (fun s => (s.g t (lowReg r)).toInt < 0) target)

/-- BGEZ (R146). -/
def execBgez (t : Thread) (r : Fin 8) (target : PAddr) (s : State) : Res :=
  issue s t 2 (branchIf (fun s => 0 ≤ (s.g t (lowReg r)).toInt) target)

/-- Arm a loop level, or skip its body (R159).  `w0` is word 0 of the instruction. -/
def armLoop (t : Thread) (c : State → BitVec 32) (l : Fin 2) (stop : PAddr) (w0 : State → Word) (s : State) : Ends :=
  let h := s.th t
  let start := h.pc + 3
  if stop.toNat ≤ h.pc.toNat + 3 then .trap s 0x01 0 (w0 s)
  else if c s = 0 then .jump (s.setTh t { h with lc := vset h.lc l 0 }) stop
  else .done (s.setTh t { h with lc := vset h.lc l (c s), ls := vset h.ls l start, le := vset h.le l stop }) .nothing

/-- LOOP: the count is bits(gs, 31, 0) (R159). -/
def execLoop (t : Thread) (r : GReg) (l : Fin 2) (stop : PAddr) (s : State) : Res :=
  issue s t 3 (armLoop t (fun s => (s.g t r).setWidth 32) l stop (fun _ => xWord 0x08 (r.val + 16 * l.val)))

/-- LOOPI: the count is the 15-bit immediate (R159). -/
def execLoopi (t : Thread) (count : BitVec 15) (l : Fin 2) (stop : PAddr) (s : State) : Res :=
  issue s t 3 (armLoop t (fun _ => count.setWidth 32) l stop (fun _ => xWord 0x09 (wbits count 3 0 + 16 * l.val)))

end Sys2Proof.Machine
end

