-- ==== Sys2Proof/Machine/Crc.lean ====
section
/-! DEFINITION. CRC-32C (06_privilege_traps.md R193; 11_crock_persistence.md R305): the Castagnoli
polynomial 0x1EDC_6F41 in reflected form, initial value and final XOR 0xFFFF_FFFF. -/

namespace Sys2Proof.Machine

open Sys2Proof

/-- `n` shifts of the reflected register. -/
def crcBits (n : Nat) (c : BitVec 32) : BitVec 32 :=
  match n with
  | 0 => c
  | k + 1 => crcBits k (if c.getLsbD 0 then (c >>> 1) ^^^ 0x82F6_3B78 else c >>> 1)

/-- The register after one more byte. -/
def crcByte (c : BitVec 32) (b : Byte) : BitVec 32 := crcBits 8 (c ^^^ b.setWidth 32)

/-- CRC-32C of bytes in increasing address order. -/
def crc32c (bs : List Byte) : BitVec 32 := (bs.foldl crcByte 0xFFFF_FFFF) ^^^ 0xFFFF_FFFF

end Sys2Proof.Machine
end

