-- ==== Sys2Proof/Machine/Verify.lean ====
section
/-! DEFINITION. The image signature: SHA-384 (FIPS 180-4) and ECDSA on the curve P-384 (FIPS 186-5), which R325 of
11_crock_persistence.md names; the standards' own constants and steps are PRESUMED (log 18), the keys are open. -/

namespace Sys2Proof.Machine

open Sys2Proof

/-! ## SHA-384 -/

/-- The greatest number below `a + 2^k` whose `d`-th power is at most `n`, given that `a` is one such: bit by bit. -/
def rootFrom (d n a k : Nat) : Nat :=
  match k with
  | 0 => a
  | j + 1 => rootFrom d n (if (a + 2 ^ j) ^ d ≤ n then a + 2 ^ j else a) j

/-- The first 64 bits of the fractional part of the `d`-th root of a prime. -/
def rootBits (d p : Nat) : BitVec 64 := BitVec.ofNat 64 (rootFrom d (p * 2 ^ (64 * d)) 0 70)

/-- The first eighty primes. -/
def primes80 : List Nat :=
  [2, 3, 5, 7, 11, 13, 17, 19, 23, 29, 31, 37, 41, 43, 47, 53, 59, 61, 67, 71] ++
  [73, 79, 83, 89, 97, 101, 103, 107, 109, 113, 127, 131, 137, 139, 149, 151, 157, 163, 167, 173] ++
  [179, 181, 191, 193, 197, 199, 211, 223, 227, 229, 233, 239, 241, 251, 257, 263, 269, 271, 277, 281] ++
  [283, 293, 307, 311, 313, 317, 331, 337, 347, 349, 353, 359, 367, 373, 379, 383, 389, 397, 401, 409]

/-- Round constants, and the initial hash value: the ninth to the sixteenth prime. -/
def shaK : List (BitVec 64) := primes80.map (rootBits 3)
def shaInit : List (BitVec 64) := ((primes80.drop 8).take 8).map (rootBits 2)

/-- The functions on words. -/
def bigSigma0 (x : BitVec 64) : BitVec 64 := x.rotateRight 28 ^^^ x.rotateRight 34 ^^^ x.rotateRight 39
def bigSigma1 (x : BitVec 64) : BitVec 64 := x.rotateRight 14 ^^^ x.rotateRight 18 ^^^ x.rotateRight 41
def smallSigma0 (x : BitVec 64) : BitVec 64 := x.rotateRight 1 ^^^ x.rotateRight 8 ^^^ (x >>> 7)
def smallSigma1 (x : BitVec 64) : BitVec 64 := x.rotateRight 19 ^^^ x.rotateRight 61 ^^^ (x >>> 6)

/-- One round on the working variables a to h. -/
def shaRound (v : List (BitVec 64)) (k w : BitVec 64) : List (BitVec 64) :=
  match v with
  | [a, b, c, d, e, f, g, h] =>
    let t1 := h + bigSigma1 e + ((e &&& f) ^^^ (~~~ e &&& g)) + k + w
    let t2 := bigSigma0 a + ((a &&& b) ^^^ (a &&& c) ^^^ (b &&& c))
    [t1 + t2, a, b, c, d + t1, e, f, g]
  | _ => v

/-- The rounds, with the sixteen words of the schedule that come next. -/
def shaRounds (ks ws v : List (BitVec 64)) : List (BitVec 64) :=
  match ks with
  | [] => v
  | k :: r =>
    let w := fun (i : Nat) => ws[i]?.getD 0
    shaRounds r (ws.drop 1 ++ [smallSigma1 (w 14) + w 9 + smallSigma0 (w 1) + w 0]) (shaRound v k (w 0))

/-- A number from bytes, the first the most significant. -/
def beNat (bs : List Byte) : Nat := bs.foldl (fun a b => 256 * a + b.toNat) 0

/-- The bytes of a number, the most significant first. -/
def beBytes (n v : Nat) : List Byte := (bytesOf n v).reverse

/-- The hash value after a block of 128 bytes. -/
def shaBlock (h : List (BitVec 64)) (b : List Byte) : List (BitVec 64) :=
  let ws := (List.range 16).map fun i => BitVec.ofNat 64 (beNat ((b.drop (8 * i)).take 8))
  List.zipWith (· + ·) h (shaRounds shaK ws h)

/-- The hash value after `n` blocks. -/
def shaBlocks (n : Nat) (h : List (BitVec 64)) (bs : List Byte) : List (BitVec 64) :=
  match n with
  | 0 => h
  | m + 1 => shaBlocks m (shaBlock h (bs.take 128)) (bs.drop 128)

/-- The padded message. -/
def shaPad (m : List Byte) : List Byte :=
  m ++ 0x80 :: List.replicate ((239 - m.length % 128) % 128) 0 ++ beBytes 16 (8 * m.length)

/-- The SHA-384 digest as a number. -/
def sha384 (m : List Byte) : Nat :=
  let p := shaPad m
  ((shaBlocks (p.length / 128) shaInit p).take 6).foldl (fun a w => 2 ^ 64 * a + w.toNat) 0

/-! ## ECDSA on P-384 -/

/-- The field, the group order, the coefficient b (a is -3) and the base point. -/
def p384P : Nat := 2 ^ 384 - 2 ^ 128 - 2 ^ 96 + 2 ^ 32 - 1
def p384N : Nat :=
  0xFFFFFFFFFFFFFFFFFFFFFFFFFFFFFFFFFFFFFFFFFFFFFFFFC7634D81F4372DDF581A0DB248B0A77AECEC196ACCC52973
def p384G : Nat × Nat :=
  (0xAA87CA22BE8B05378EB1C71EF320AD746E1D3B628BA79B9859F741E082542A385502F25DBF55296C3A545E3872760AB7,
   0x3617DE4A96262C6F5D9E98BF9292DC29F8F41DBD289A147CE9DA3113B5F0B8C00A60B1CE1D7E819D7A431D7C90EA0E5F)

/-- b^e mod m for e below 2^k. -/
def powMod (m b e k : Nat) : Nat :=
  match k with
  | 0 => 1 % m
  | j + 1 => powMod m (b * b % m) (e / 2) j * (if e % 2 = 1 then b else 1) % m

/-- The inverse modulo a prime of 384 bits. -/
def invMod (m a : Nat) : Nat := powMod m (a % m) (m - 2) 384

/-- A point: none is the point at infinity. -/
abbrev EcPoint := Option (Nat × Nat)

/-- The third point of a line of slope `l` through a point and a point with the second abscissa. -/
def ecThird (l : Nat) (a : Nat × Nat) (x2 : Nat) : EcPoint :=
  let p := p384P
  let x := (l * l + 2 * p - a.1 - x2) % p
  some (x, (l * (a.1 + p - x) + p - a.2) % p)

/-- Addition of points. -/
def ecAdd (a b : EcPoint) : EcPoint :=
  let p := p384P
  match a, b with
  | none, _ => b
  | _, none => a
  | some u, some v =>
    if u.1 = v.1 then
      (if (u.2 + v.2) % p = 0 then none
       else ecThird ((3 * u.1 * u.1 + p - 3) * invMod p (2 * u.2) % p) u v.1)
    else ecThird ((v.2 + p - u.2) * invMod p (v.1 + p - u.1) % p) u v.1

/-- A multiple of a point, for a factor below 2^k. -/
def ecMul (e : Nat) (a : EcPoint) (k : Nat) : EcPoint :=
  match k with
  | 0 => none
  | j + 1 => ecAdd (ecMul (e / 2) (ecAdd a a) j) (if e % 2 = 1 then a else none)

/-- Does the signature (r, s) of a digest verify with a public key? -/
def ecdsaOk (key : Nat × Nat) (digest r s : Nat) : Bool :=
  if r = 0 ∨ s = 0 ∨ p384N ≤ r ∨ p384N ≤ s then false
  else
    let w := invMod p384N s
    match ecAdd (ecMul (digest * w % p384N) (some p384G) 384) (ecMul (r * w % p384N) (some key) 384) with
    | none => false
    | some x => x.1 % p384N = r

/-- Does an image's signature verify (R325): over the signed lines and manifest bytes 0x00 to 0x3F, with r and s at 0x40
and 0x70, big-endian? -/
def signatureValid (key : BitVec 2) (image manifest : List Byte) : Bool :=
  ecdsaOk (Config.bootKey key) (sha384 (image ++ manifest.take 0x40)) (beNat ((manifest.drop 0x40).take 48))
    (beNat ((manifest.drop 0x70).take 48))

end Sys2Proof.Machine
end

