-- ==== Sys2Proof/Machine/Crock.lean ====
section
/-! DEFINITION. The Crock: media, regions, write queue, driver reads, moves and checkpoints, scans, firmware
slots (11_crock_persistence.md R298 to R309, R316, R317, R321 to R330, R394). -/

namespace Sys2Proof.Machine

open Sys2Proof

/-! ## Media and regions (R298 to R301) -/

/-- What an unlisted physical line reads as (log 14). -/
def zero256 (_ : Nat) : BitVec 256 := 0

/-- A physical line. -/
def State.mediaLine (s : State) (p : Nat) : BitVec 256 := getD zero256 s.crk.media p

/-- A logical line. -/
def State.crockLine (s : State) (line : Nat) : BitVec 256 := s.mediaLine (s.crockPhys line)

/-- The 32 bytes of a logical line. -/
def State.crockBytes (s : State) (line : Nat) : List Byte := bytesOf 32 (s.crockLine line).toNat

/-- Is a logical block fixed: it always lies in the physical block of its number (R299)? -/
def fixedBlock (b : Nat) : Bool := 1024 ≤ b && b < 1152

/-- The greatest logical line (R299). -/
def lastLine : Nat := 0x6_BFFF

/-- Is a logical line uncorrectable, or refused for want of a wear map (R301, R321)? -/
def State.crockUe (s : State) (line : Nat) : Bool :=
  (s.crk.mapBad && !fixedBlock (line / 128)) || 5 ≤ (s.lineErr line).normal

/-- Bits that a read of a line corrects. -/
def fixedBits (k : Nat) : Nat := if k ≤ 4 then k else 0

/-- Count and charge `n` line reads and the bits corrected by them (R298, R387). -/
def State.crockReads (s : State) (n bits_ : Nat) (who : Option Thread) : State :=
  ((s.charge 0x19 n who).bump .crk 2 n who).bump .crk 4 bits_ who

/-- Record an error of the CRK page (R330): kind, logical line, requester code. -/
def State.crockRecord (s : State) (kind line src : Nat) (who : Option Thread := none) : State :=
  s.record .crk (s.crockAddr line) (kind + 256 * src) false who

/-- An uncorrectable line has been found (R330). -/
def State.crockFound (s : State) (line src : Nat) (who : Option Thread := none) : State :=
  (s.crockRecord 2 line src who).event .crk 2

/-- The first line of the inactive slot, and of the active one (R299). -/
def State.slotBase (s : State) (active : Bool) : Nat := if s.crk.active = active then 0x1_0000 else 0

/-- Does a line lie in the active, or the inactive, firmware slot? -/
def State.inSlot (s : State) (active : Bool) (line : Nat) : Bool :=
  s.slotBase active ≤ line && line < s.slotBase active + 0x1_0000

/-- May a writer write the line's region (R299, R316)?  The engine alone writes the wear-map copies. -/
def mayWrite (driver : Bool) (line : Nat) : Bool :=
  if driver then 0x4_C000 ≤ line && line ≤ lastLine
  else line < 0x4_C000 && !(0x2_0380 ≤ line && line < 0x2_0980)

/-! ## Wear map (R321) -/

/-- The physical block of a logical block under a map. -/
def physBlock (m : List (Nat × Nat)) (b : Nat) : Nat := if b < 3456 then (lookup m b).getD b else b

/-- What an unlisted write count reads as. -/
def zero32 (_ : Nat) : BitVec 32 := 0

/-- Writes of a physical block; all ones marks it retired (R321). -/
def State.blockCount (s : State) (b : Nat) : BitVec 32 := getD zero32 s.crk.wcount b

/-- Is a physical block retired? -/
def State.retired (s : State) (b : Nat) : Bool := s.blockCount b = 0xFFFF_FFFF

/-- Is a physical block free: not fixed, not retired, and no levelled block lies there (R322)? -/
def State.blockFree (s : State) (b : Nat) : Bool :=
  b < 4096 && !fixedBlock b && !s.retired b
    && !((List.range 3456).any fun l => !fixedBlock l && physBlock s.crk.wmap l = b)

/-- Number of free blocks (R323): physical blocks that are neither fixed, retired nor mapped. -/
def State.freeBlocks (s : State) : Nat :=
  ((List.range 4096).filter fun b => !fixedBlock b && !s.retired b).length - (3456 - 128)

/-- EVENT.LOWSPARE when fewer than 16 free blocks remain (R323). -/
def State.lowSpare (s : State) : State := if s.freeBlocks < 16 then s.event .crk 8 else s

/-- Mark a physical block retired (R321). -/
def State.retireBlock (s : State) (b : Nat) : State :=
  ({ s with crk := { s.crk with wcount := setD zero32 s.crk.wcount b 0xFFFF_FFFF } }).lowSpare

/-- Count one write of a physical block; a retired block stays retired. -/
def State.countWrite (s : State) (b : Nat) : State :=
  if s.retired b then s
  else { s with crk := { s.crk with wcount := setD zero32 s.crk.wcount b (s.blockCount b + 1) } }

/-- First line of the map copy B (true) or A (R316). -/
def mapBase (copy : Bool) : Nat := if copy then 0x2_0680 else 0x2_0380

/-- Map under which a move's or checkpoint's copy is written (R322). -/
def State.newMap (s : State) (op : WqOp) : List (Nat × Nat) :=
  match op with
  | .move l p _ => if p = l then drop s.crk.wmap l else put s.crk.wmap l p
  | _ => s.crk.wmap

/-- A 32-byte line from numbers of `w` bytes each. -/
def packLine (w : Nat) (vs : List Nat) : BitVec 256 := BitVec.ofNat 256 (ofBytes (vs.flatMap fun v => bytesOf w v))

/-- The bytes of the map-copy lines written so far. -/
def State.copyBytes (s : State) (base n : Nat) : List Byte := (List.range n).flatMap fun i => s.crockBytes (base + i)

/-- Line `k` of the map copy that is written now (R321); the header's CRC covers the lines as written. -/
def State.mapLine (s : State) (m : List (Nat × Nat)) (base k : Nat) : BitVec 256 :=
  if k < 216 then packLine 2 ((List.range 16).map fun j => physBlock m (16 * k + j))
  else if k < 728 then packLine 4 ((List.range 8).map fun j => (s.blockCount (8 * (k - 216) + j)).toNat)
  else
    let head := bytesOf 4 0x7C74_574D ++ bytesOf 4 (s.crk.wgen + 1).toNat ++ List.replicate 20 0
    BitVec.ofNat 256 (ofBytes (head ++ bytesOf 4 (crc32c (s.copyBytes base 728 ++ head)).toNat))

/-- The copy's header bytes, when its magic, zero bytes and CRC match and every line reads (R321). -/
def State.copyHeader (s : State) (copy : Bool) : Option (BitVec 32) :=
  let base := mapBase copy
  let h := s.crockBytes (base + 728)
  if (List.range 729).all (fun i => !(5 ≤ (s.lineErr (base + i)).normal))
      && ofBytes (h.take 4) = 0x7C74_574D && ((h.drop 8).take 20).all (· = 0)
      && BitVec.ofNat 32 (ofBytes (h.drop 28)) = crc32c (s.copyBytes base 728 ++ h.take 28) then
    some (BitVec.ofNat 32 (ofBytes ((h.drop 4).take 4)))
  else none

/-- The entries of a map copy: block `i` and count `j`. -/
def State.loadCopy (s : State) (copy : Bool) (gen : BitVec 32) : State :=
  let bs := s.copyBytes (mapBase copy) 728
  let m := (List.range 3456).foldl (fun m i =>
    let p := ofBytes ((bs.drop (2 * i)).take 2) % 4096
    if fixedBlock i ∨ p = i then m else put m i p) []
  let c := (List.range 4096).foldl (fun c j =>
    setD zero32 c j (BitVec.ofNat 32 (ofBytes ((bs.drop (6912 + 4 * j)).take 4)))) []
  { s with crk := { s.crk with wmap := m, wcount := c, wgen := gen, wcopy := copy, mapBad := false } }

/-- Record an invalid map copy (kind 0x05 of R330). -/
def State.badCopy (s : State) (copy bad : Bool) : State :=
  if bad then s.crockRecord 5 (mapBase copy) 6 else s

/-- The lines of a map copy (R316, R321). -/
def mapLines (copy : Bool) : List Nat := (List.range 729).map (mapBase copy + ·)

/-- The load of the wear map at cold reset, with the line reads and the bits that they correct (R321, R323, R387). -/
def State.loadMap (s0 : State) : State :=
  let s := s0.crockReads 1458 ((mapLines false ++ mapLines true).foldl (fun a l => a + fixedBits (s0.lineErr l).normal) 0) none
  let a := s.copyHeader false
  let b := s.copyHeader true
  let s1 := (s.badCopy false a.isNone).badCopy true b.isNone
  match a, b with
  | none, none => ({ s1 with crk := { s1.crk with mapBad := true } }).event .crk 9
  | some g, none => (s1.loadCopy false g).lowSpare
  | none, some g => (s1.loadCopy true g).lowSpare
  | some g, some h => (if g.toNat < h.toNat then s1.loadCopy true h else s1.loadCopy false g).lowSpare

/-! ## Write queue (R302 to R304) -/

/-- MC entries queued. -/
def State.mcCount (s : State) : Nat := (s.crk.queue.filter (·.mc)).length

/-- Is an entry a move or a checkpoint? -/
def WqOp.isMap (o : WqOp) : Bool :=
  match o with
  | .move _ _ _ => true
  | .ckpt => true
  | _ => false

/-- Is a move or checkpoint queued? -/
def State.mapQueued (s : State) : Bool := s.crk.queue.any (·.op.isMap)

/-- Complete tickets in order: DONE is the newest ticket with every older one complete (R302). -/
def advanceDone (fuel : Nat) (d : BitVec 16) (out : List (BitVec 16)) (cmp : BitVec 16) (hit : Bool) :
    BitVec 16 × List (BitVec 16) × Bool :=
  match fuel with
  | 0 => (d, out, hit)
  | f + 1 =>
    if out.contains (d + 1) then advanceDone f (d + 1) (out.filter (· ≠ d + 1)) cmp (hit || d + 1 = cmp)
    else (d, out, hit)

/-- A ticket is complete, as failed or not (R302, R306). -/
def State.ticketDone (s : State) (k : BitVec 16) (failed : Bool) : State :=
  let out := s.crk.doneOut ++ [k]
  let (d, out', hit) := advanceDone out.length s.crk.done out ((s.reg .crk 0x78).setWidth 16) false
  let s1 := { s with crk := { s.crk with
      done := d, doneOut := out', failed := if failed then k else s.crk.failed } }
  if hit then s1.event .crk 0 else s1

/-- An entry leaves the queue. -/
def State.entryDone (s : State) (e : WqEntry) (failed : Bool) : State :=
  ({ s with crk := { s.crk with queue := s.crk.queue.filter (·.ticket ≠ e.ticket) } }).ticketDone e.ticket failed

/-- May an entry start now (R282, R302, R304, R308)? -/
def State.mayWriteEntry (s : State) (e : WqEntry) : Bool :=
  if s.crk.pfail then e.mc
  else s.en .crk && !s.quiescing .crk && !s.crk.halt && !s.crk.woken

/-- RUN_CTL.FRUN in force: scans and checkpoints run (R286, R329). -/
def State.frun (s : State) : Bool := nbit (s.comN .tmg 0xB8) 16

/-- Is this entry in turn?  Under PFAIL the MC entries alone are (R308); a checkpoint is passed over while
FRUN = 0, so that appends continue (R329, log 84). -/
def State.inTurn (s : State) (e : WqEntry) : Bool :=
  if s.crk.pfail then e.mc else s.frun || e.op ≠ .ckpt

/-- Start the next entry when none is in progress.  A refresh of an uncorrectable line is read, and completes as failed
without a write (R298, R302). -/
def State.pumpGo (s : State) (fuel : Nat) : State :=
  match fuel with
  | 0 => s
  | f + 1 =>
    if s.crk.now.isSome then s
    else
      match s.crk.queue.find? s.inTurn with
      | none => s
      | some e =>
        if !s.mayWriteEntry e then s
        else
          match e.op with
          | .refresh l _ =>
            if s.crockUe l then (((s.crockReads 1 0 none).crockFound l 6).entryDone e true).pumpGo f
            else { s with crk := { s.crk with now := some { entry := e, line := 0, rewrites := 0, raw := false } } }
          | _ => { s with crk := { s.crk with now := some { entry := e, line := 0, rewrites := 0, raw := false } } }

/-- Start what may start. -/
def State.crockPump (s : State) : State := s.pumpGo (s.crk.queue.length + 1)

/-- Accept an entry: it takes the next ticket (R302). -/
def State.enqueueWrite (s : State) (op : WqOp) (mc drv : Bool) : State :=
  { s with crk := { s.crk with
      queue := s.crk.queue ++ [{ ticket := s.crk.next, op := op, mc := mc, drv := drv }]
      next := s.crk.next + 1 } }

/-- The first failing check of a write command, 0 where none fails (R303, R387). -/
def State.writeCode (s : State) (driver : Bool) (line rsv : Nat) (mc : Bool) : Nat :=
  if !s.en .crk then 3
  else if lastLine < line ∨ rsv ≠ 0 then 1
  else if !mayWrite driver line || (s.crk.mapBad && !fixedBlock (line / 128)) then 0x40
  else if s.inSlot true line then 0x41
  else if s.inSlot false line && (s.crk.vbusy || s.crk.swpend) then 0x44
  else if s.crk.pfail then 0x43
  else if 8 ≤ s.crk.queue.length then 4
  else if mc && (4 ≤ s.mcCount || (driver && s.crk.queue.any fun e => e.drv && e.mc)) then 0x42
  else 0

/-- Report a command's code: firmware's in REFUSE, the driver's in DREFUSE (R303). -/
def State.crockCode (s : State) (driver : Bool) (c : Nat) : State :=
  if driver then { s with crk := { s.crk with drefuse := BitVec.ofNat 8 c } } else s.refuse .crk c

/-- A write of the inactive slot takes its pass away (R328). -/
def State.slotTouched (s : State) (line : Nat) : State :=
  if s.inSlot false line then { s with crk := { s.crk with vpass := false } } else s

/-- A write command (R302, R303). -/
def State.writeCmd (s : State) (driver : Bool) (line rsv : Nat) (mc : Bool) (op : WqOp) : State :=
  let c := s.writeCode driver line rsv mc
  if c ≠ 0 then s.crockCode driver c
  else (((s.enqueueWrite op mc driver).slotTouched line).crockCode driver 0).crockPump

/-- The 32 bytes of WDATA or DWDATA (R306). -/
def State.wdata (s : State) (driver : Bool) : BitVec 256 :=
  let o := if driver then 0x80 else 0x40
  BitVec.ofNat 256 ((s.reg .crk o).toNat + (s.reg .crk (o + 8)).toNat * 2 ^ 64
    + (s.reg .crk (o + 16)).toNat * 2 ^ 128 + (s.reg .crk (o + 24)).toNat * 2 ^ 192)

/-- A command register that accepts firmware at M only, or the driver only: any other writer has no effect
and writes 0x05 (R306, R367). -/
def State.byTag (s : State) (p : Page) (g : WTag) (w : Writer) (f : State → State) : State :=
  if g.allows w then f s else if w = .otherCore then s else s.refuse p 5

/-- A register of firmware at M and the driver whose own rule says that any other write has no effect and sets REFUSE (R244,
R335). -/
def State.byOwn (s : State) (p : Page) (w : Writer) (f : State → State) : State :=
  if WTag.md.allows w then f s else s.refuse p 5

/-- Is the register window served: from reset release onward, but not in retention or while waking, when an access
waits in the port (R279, R354)? -/
def State.served (s : State) : Bool :=
  s.phase ≠ .coldReset && s.phase ≠ .testReset && s.phase ≠ .warmReset && s.tmg.ret.isNone && s.tmg.waking.isNone

/-- A register access `c` by a writer: it has its effect where the window is served.  One from outside the core comes
through the port, which holds it in retention (R279, R354); a core in reset does not take it. -/
def State.access (s : State) (w : Writer) (c : Instr) (t : State) : Res :=
  let outside : Bool := w = .driver || w = .otherCore
  if outside && s.portHolds then .next (s.sealed (s.arrives c))
  else due s s.served t

/-- WCMD (R302, R303). -/
def State.wcmd (s : State) (line : Nat) (mc : Bool) (rsv : Nat) : State :=
  s.writeCmd false line rsv mc (.write line (s.wdata false))

/-- WCMD with RFR (R302). -/
def State.wcmdRefresh (s : State) (line : Nat) (mc : Bool) (rsv : Nat) : State :=
  s.writeCmd false line rsv mc (.refresh line false)

/-- DWCMD (R303). -/
def State.dwcmd (s : State) (line : Nat) (mc : Bool) (rsv : Nat) : State :=
  s.writeCmd true line rsv mc (.write line (s.wdata true))

/-- Codes of MOVE_CMD (R303, R322, R387). -/
def State.moveCode (s : State) (l p : Nat) : Nat :=
  if !s.en .crk then 3
  else if fixedBlock l || 3456 ≤ l || !s.blockFree p then 0x45
  else if s.mapQueued then 4
  else if s.crk.pfail then 0x43
  else if 8 ≤ s.crk.queue.length then 4
  else 0

/-- MOVE_CMD (R322). -/
def State.moveCmd (s : State) (l p : Nat) (retire : Bool) : State :=
  let c := s.moveCode l p
  if c ≠ 0 then s.refuse .crk c
  else ((s.enqueueWrite (.move l p retire) false false).refuse .crk 0).crockPump

/-- MAP_CMD with CKPT = 1 (R322). -/
def State.mapCmd (s : State) : State :=
  let c := if !s.en .crk then 3 else if s.mapQueued then 4 else if s.crk.pfail then 0x43
    else if 8 ≤ s.crk.queue.length then 4 else 0
  if c ≠ 0 then s.refuse .crk c else ((s.enqueueWrite .ckpt false false).refuse .crk 0).crockPump

/-! ## Line writes (R304, R308, R322) -/

/-- The physical line and the data of the line write in progress. -/
def State.runLine (s : State) (r : WqRun) : Nat × BitVec 256 :=
  let base := mapBase (!s.crk.wcopy)
  match r.entry.op with
  | .write l d => (s.crockPhys l, d)
  | .refresh l _ => (s.crockPhys l, s.crockLine l)
  | .move l p _ =>
    if r.line < 128 then (128 * p + r.line, s.mediaLine (128 * physBlock s.crk.wmap l + r.line))
    else (base + (r.line - 128), s.mapLine (s.newMap r.entry.op) base (r.line - 128))
  | .ckpt => (base + r.line, s.mapLine s.crk.wmap base r.line)

/-- The wrong bits of a line whose write did not verify or was torn: an open number (R304, R305, log 32). -/
def State.openErr (s : State) : LineErr :=
  { normal := (Config.crockLeft s.free).1, margin := (Config.crockLeft s.free).2 }

/-- A physical line has `e` wrong bits from now on. -/
def leaveErr (m : List (Nat × LineErr)) (p : Nat) (e : LineErr) : List (Nat × LineErr) :=
  if e = LineErr.mk 0 0 then drop m p else put m p e

/-- A line that a power cut tears holds its new content or its old one, with an open number of wrong bits: it reads as that
content, weak or not, or as uncorrectable (R305, log 34). -/
def State.tearLine (s : State) (p : Nat) (d : BitVec 256) (new : Bool) : State :=
  { s with
    crk := { s.crk with
      media := if new then setD zero256 s.crk.media p d else s.crk.media
      errs := leaveErr s.crk.errs p s.openErr }
    free := s.free + 1 }

/-- Errors that a written line keeps: an uncorrectable line of a move is copied raw; a write that did not
verify leaves an open number (R304, R322, log 32). -/
def State.runErr (s : State) (r : WqRun) (good : Bool) : LineErr :=
  if !good then s.openErr
  else
    match r.entry.op with
    | .move l _ _ =>
      let e := (lookup s.crk.errs (128 * physBlock s.crk.wmap l + r.line)).getD { normal := 0, margin := 0 }
      if r.line < 128 ∧ 5 ≤ e.normal then e else { normal := 0, margin := 0 }
    | _ => { normal := 0, margin := 0 }

/-- A write or refresh that reaches the inactive slot takes its pass away (R328). -/
def State.slotWritten (s : State) (op : WqOp) : State :=
  match op with
  | .write l _ => s.slotTouched l
  | .refresh l _ => s.slotTouched l
  | _ => s

/-- The engine's read of what it writes back: the line of a refresh, a source line of a move (R298, R302, R322). -/
def State.sourceRead (s : State) (r : WqRun) : State :=
  if r.rewrites ≠ 0 then s
  else
    match r.entry.op with
    | .refresh l _ => s.crockReads 1 (fixedBits (s.lineErr l).normal) none
    | .move l _ _ => if r.line < 128 then s.crockReads 1 (fixedBits (s.lineErr (128 * l + r.line)).normal) none else s
    | _ => s

/-- Put a line on the media: one write (R298, R321). -/
def State.putLine (s0 : State) (r : WqRun) (good : Bool) : State :=
  let s := s0.sourceRead r
  let (p, d) := s.runLine r
  let s1 := { s with
    crk := { s.crk with media := setD zero256 s.crk.media p d, errs := leaveErr s.crk.errs p (s.runErr r good) }
    free := if good then s.free else s.free + 1 }
  (((s1.slotWritten r.entry.op).countWrite (p / 128)).charge 0x1A 1).bump .crk 1 1

/-- How many line writes an entry takes (R322). -/
def WqOp.lines (o : WqOp) : Nat :=
  match o with
  | .move _ _ _ => 857
  | .ckpt => 729
  | _ => 1

/-- The map takes the new mapping; the copy written holds the newer generation (R321, R322). -/
def State.mapWritten (s : State) (op : WqOp) : State :=
  let s1 := { s with crk := { s.crk with wgen := s.crk.wgen + 1, wcopy := !s.crk.wcopy } }
  match op with
  | .move l p ret =>
    let old := physBlock s.crk.wmap l
    let s2 := { s1 with crk := { s1.crk with
        wmap := if p = l then drop s1.crk.wmap l else put s1.crk.wmap l p, moveFail := false } }
    (if ret then s2.retireBlock old else s2.lowSpare).event .crk 5
  | _ => s1.event .crk 5

/-- An entry's last line is written and verified. -/
def State.entryGood (s : State) (e : WqEntry) : State :=
  match e.op with
  | .write _ _ => s.entryDone e false
  | .refresh _ scan =>
    let s1 := (s.entryDone e false).bump .crk 5 1
    if scan then { s1 with crk := { s1.crk with scanRef := min 0xFFFF (s1.crk.scanRef + 1) } } else s1
  | .move _ _ _ => (s.mapWritten e.op).entryDone e false
  | .ckpt => (s.mapWritten e.op).entryDone e false

/-- The logical line that an entry's failed line belongs to. -/
def State.failLine (s : State) (r : WqRun) : Nat :=
  match r.entry.op with
  | .write l _ => l
  | .refresh l _ => l
  | .move l _ _ => if r.line < 128 then 128 * l + r.line else mapBase (!s.crk.wcopy) + (r.line - 128)
  | .ckpt => mapBase (!s.crk.wcopy) + r.line

/-- A line still differs after 3 rewrites: the entry fails and the engine halts; a move aborts instead and
retires its new block (R304, R322). -/
def State.entryBad (s : State) (r : WqRun) : State :=
  match r.entry.op with
  | .move _ p _ =>
    let s1 := { s with crk := { s.crk with moveFail := true } }
    (((s1.crockRecord 6 (s.failLine r) 6).retireBlock p).entryDone r.entry true).event .crk 5
  | op =>
    let s1 := ((s.crockRecord 3 (s.failLine r) 6).event .crk 1).entryDone r.entry true
    let s2 := { s1 with crk := { s1.crk with halt := true } }
    if op.isMap then s2.event .crk 5 else s2

/-- Is the line in progress an entry's last? -/
def WqRun.last (r : WqRun) : Bool := r.line + 1 = r.entry.op.lines

/-- Is it the header of a move's map copy, which would put the new mapping in force (R321, R322)? -/
def WqRun.remaps (r : WqRun) : Bool := r.last && (match r.entry.op with | .move _ _ _ => true | _ => false)

/-- The end of one line write: read back, and rewritten or failed (R304); under PFAIL unverified, and a move or
checkpoint stops at a line that is not its last (R308).  The header of a move's map copy is left unwritten there, so that the
old mapping stays in force (R322, R364; log 85); that of a checkpoint, whose map is the one in force, is completed. -/
def State.lineWritten (s : State) (r : WqRun) (good : Bool) : State :=
  let s0 := if s.crk.pfail && r.remaps then s else s.putLine r good
  let s1 := if s.crk.pfail then s0 else s0.crockReads 1 0 none
  let idle := { s1 with crk := { s1.crk with now := none } }
  if s.crk.pfail then
    (if !r.last || r.remaps then idle else idle.entryGood r.entry)
  else if good then
    (if r.line + 1 < r.entry.op.lines then
      { s1 with crk := { s1.crk with now := some { r with line := r.line + 1, rewrites := 0 } } }
     else idle.entryGood r.entry)
  else if r.rewrites < 3 then
    ({ s1 with crk := { s1.crk with now := some { r with rewrites := r.rewrites + 1 } } }).bump .crk 3 1
  else idle.entryBad r

/-- CROCK_LINE_WRITE_DONE (R304). -/
def execCrockLineWriteDone (good : Bool) (s : State) : Res :=
  match s.crk.now with
  | none => .next s
  | some r => always s (s.lineWritten r good).crockPump

/-- RESUME (R304). -/
def State.wqResume (s : State) : State := ({ s with crk := { s.crk with halt := false } }).crockPump

/-- DISCARD: every queued entry that is not in progress completes as failed, without writing (R304). -/
def State.wqDiscard (s : State) : State :=
  let inRun := fun (e : WqEntry) => match s.crk.now with | some r => r.entry.ticket = e.ticket | none => false
  let gone := s.crk.queue.filter fun e => !inRun e
  let s1 := gone.foldl (fun s e =>
    let s2 := s.entryDone e true
    match e.op with
    | .move _ _ _ => ({ s2 with crk := { s2.crk with moveFail := true } }).event .crk 5
    | .ckpt => s2.event .crk 5
    | _ => s2) s
  ({ s1 with crk := { s1.crk with halt := false } }).crockPump

/-! ## Driver reads (R307) -/

/-- The first failing check of a driver read. -/
def State.drCode (s : State) (line rsv : Nat) : Nat :=
  if lastLine < line ∨ rsv ≠ 0 then 1
  else if line < 0x4_C000 then 0x40
  else if s.crk.drRun.isSome then 4
  else 0

/-- DRCMD (R307). -/
def State.drcmd (s : State) (line rsv : Nat) : State :=
  let c := s.drCode line rsv
  if c ≠ 0 then s.crockCode true c
  else ({ s with crk := { s.crk with drRun := some line, drValid := false, drUe := false } }).crockCode true 0

/-- Is a line's write in progress (R329)? -/
def State.lineBusy (s : State) (line : Nat) : Bool :=
  match s.crk.now with
  | some r => (s.runLine r).1 = s.crockPhys line
  | none => false

/-- A word of a Crock line. -/
def lineWord (x : BitVec 256) (i : Nat) : Word := BitVec.ofNat 64 (x.toNat / 2 ^ (64 * i))

/-- The end of a driver read (R301, R307). -/
def State.driverRead (s : State) (line : Nat) : State :=
  let ue := s.crockUe line
  let s1 := s.crockReads 1 (fixedBits (s.lineErr line).normal) none
  let x := if ue then 0 else s.crockLine line
  let s2 := { s1 with crk := { s1.crk with
      drRun := none, drValid := true, drUe := ue
      drData := #v[lineWord x 0, lineWord x 1, lineWord x 2, lineWord x 3] } }
  if ue then s2.crockFound line 7 else s2

/-- DRIVER_READ_DONE (R307). -/
def execDriverReadDone (s : State) : Res :=
  match s.crk.drRun with
  | none => .next s
  | some l => due s (!s.lineBusy l) (s.driverRead l)

/-! ## Scans (R324) -/

/-- SCAN_CMD.GO (R324, R387). -/
def State.scanCmd (s : State) : State :=
  let c := if !s.en .crk then 3 else if s.crk.scanBusy then 4 else if s.crk.pfail then 0x43 else 0
  if c ≠ 0 then s.refuse .crk c
  else ({ s with crk := { s.crk with
      scanBusy := true, scanPos := 0, scanWeak := 0, scanRef := 0, scanUe := 0 } }).refuse .crk 0

/-- Is a line weak (R324)? -/
def State.weakLine (s : State) (line : Nat) : Bool :=
  let e := s.lineErr line
  if 5 ≤ e.margin then true else (s.reg .crk 0x100).toNat % 8 ≤ e.margin

/-- May the scan read its next line: FRUN = 1, no PFAIL, a free read slot, and room for a refresh (R324, R329)? -/
def State.scanDue (s : State) : Bool :=
  s.crk.scanBusy && !s.crk.pfail && s.en .crk && !s.quiescing .crk && s.frun
    && s.crk.winReads.length + b2n s.crk.drRun.isSome < 4 && s.crk.queue.length < 8
    && !s.lineBusy s.crk.scanPos

/-- The two reads of a line and what follows from them. -/
def State.scanLine (s : State) : State :=
  let l := s.crk.scanPos
  let e := s.lineErr l
  let s1 := s.crockReads 2 (fixedBits e.normal + fixedBits e.margin) none
  if s.crockUe l then
    ({ s1 with crk := { s1.crk with scanUe := min 0xFFF (s1.crk.scanUe + 1) } }).crockFound l 6
  else if s.weakLine l then
    let s2 := { s1 with crk := { s1.crk with scanWeak := min 0xFFFF (s1.crk.scanWeak + 1) } }
    (s2.enqueueWrite (.refresh l true) false false).crockPump
  else s1

/-- CROCK_SCAN_READ (R324). -/
def execCrockScanRead (s : State) : Res :=
  let s1 := s.scanLine
  due s s.scanDue
    (if s.crk.scanPos = lastLine then ({ s1 with crk := { s1.crk with scanBusy := false } }).event .crk 6
     else { s1 with crk := { s1.crk with scanPos := s.crk.scanPos + 1 } })

/-! ## Fixed lines and the verifier (R317, R325) -/

/-- Do a line's last four bytes hold the CRC of the others? -/
def lineCrcOk (b : List Byte) : Bool := BitVec.ofNat 32 (ofBytes (b.drop 28)) = crc32c (b.take 28)

/-- A valid copy of the boot record: its bytes (R317). -/
def State.bootCopy (s : State) (i : Nat) : Option (List Byte) :=
  let b := s.crockBytes (0x2_0000 + i)
  if !s.crockUe (0x2_0000 + i) && ofBytes (b.take 4) = 0x7C74_4252 && ((b.drop 11).take 17).all (· = 0)
      && lineCrcOk b then some b else none

/-- GEN of a boot record. -/
def bootGen (b : List Byte) : Nat := ofBytes ((b.drop 4).take 4)

/-- The boot record in force and the copy that holds it (R317). -/
def State.bootRecord (s : State) : Option (Nat × List Byte) :=
  match s.bootCopy 0, s.bootCopy 1 with
  | none, none => none
  | some a, none => some (0, a)
  | none, some b => some (1, b)
  | some a, some b => if bootGen a < bootGen b then some (1, b) else some (0, a)

/-- The boot ROM writes a line once, right or with an open number of wrong bits (R298, R304). -/
def State.bootPut (s : State) (line : Nat) (bs : List Byte) (good : Bool) : State :=
  let p := s.crockPhys line
  let s1 : State := { s with
    crk := { s.crk with
      media := setD zero256 s.crk.media p (BitVec.ofNat 256 (ofBytes bs))
      errs := leaveErr s.crk.errs p (if good then { normal := 0, margin := 0 } else s.openErr) }
    free := s.free + 1 }
  ((s1.countWrite (p / 128)).charge 0x1A 1).bump .crk 1 1

/-- A line of the boot ROM still differs after 3 rewrites: recorded, and the engine halts.  No ticket fails, since the line
took none (R304, log 69). -/
def State.bootHalts (s : State) (line : Nat) : State :=
  let s1 := (s.crockRecord 3 line 6).event .crk 1
  { s1 with crk := { s1.crk with halt := true } }

/-- The boot ROM writes a line and reads it back, with up to `n` rewrites (R304, log 69). -/
def State.bootTry (s : State) (line : Nat) (bs : List Byte) (n : Nat) : State :=
  let good := Config.bootVerifies s.free
  let s1 := (s.bootPut line bs good).crockReads 1 0 none
  match n with
  | 0 => if good then s1 else s1.bootHalts line
  | k + 1 => if good then s1 else (s1.bump .crk 3 1).bootTry line bs k

/-- A line write of the boot ROM, which a halted engine does not start (R304). -/
def State.bootWrite (s : State) (line : Nat) (bs : List Byte) : State :=
  if s.crk.halt then s else s.bootTry line bs 3

/-- Close a line with the CRC of its first 28 bytes (R317). -/
def sealLine (b : List Byte) : List Byte := fitList 28 0 b ++ bytesOf 4 (crc32c (fitList 28 0 b)).toNat

/-- The boot record's fields: PREF, TRIAL, TRIES. -/
def recPref (b : List Byte) : Bool := ofBytes ((b.drop 8).take 1) = 1
def recTrial (b : List Byte) : Bool := ofBytes ((b.drop 9).take 1) = 1
def recTries (b : List Byte) : Nat := ofBytes ((b.drop 10).take 1)

/-- A boot record's bytes. -/
def bootBytes (gen : Nat) (pref trial : Bool) (tries : Nat) : List Byte :=
  sealLine (bytesOf 4 0x7C74_4252 ++ bytesOf 4 gen ++ bytesOf 1 (b2n pref) ++ bytesOf 1 (b2n trial) ++ bytesOf 1 tries)

/-- What the boot ROM makes of the boot record in force where it is on trial, and the line that it writes: the copy that is
not in force, GEN one higher (R317, R326). -/
def State.bootNext (s : State) : Option (Nat × List Byte) :=
  match s.bootRecord with
  | none => none
  | some (i, b) =>
    if !recTrial b then none
    else if recTries b = 0 then some (0x2_0001 - i, bootBytes (bootGen b + 1) (!recPref b) false 0)
    else some (0x2_0001 - i, bootBytes (bootGen b + 1) (recPref b) true (recTries b - 1))

/-- The boot ROM's update of the boot record (R326). -/
def State.bootUpdate (s : State) : State :=
  match s.bootNext with
  | none => s
  | some (l, b) => s.bootWrite l b

/-- The boot ROM reads both copies of the boot record and of the anti-rollback line (R298, R317). -/
def State.bootReads (s : State) : State :=
  s.crockReads 4 (([0x2_0000, 0x2_0001, 0x2_0002, 0x2_0003].map fun l => fixedBits (s.lineErr l).normal).sum) none

/-- The boot record that a running boot ROM has to write (R326). -/
def State.bootPending (s : State) : Option (Nat × List Byte) :=
  if s.phase = .boot ∧ s.crk.mapBad = false then s.bootNext else none

/-- The boot ROM is stopped in stage 1: its write of the boot record, which comes before the verify (R326), has started or
has not, which is open; one that has started is completed, unverified (R308, R309, R364, log 110). -/
def State.bootStopped (s : State) : State :=
  match s.bootPending with
  | none => s
  | some (l, b) =>
    if Config.bootStarted s.free then (s.bootReads.fresh).bootPut l b (Config.resetWriteGood s.free) else s.fresh

/-- Rails that fall in stage 1 tear that line, where its write has started (R305, log 110). -/
def State.bootTorn (s : State) : State :=
  match s.bootPending with
  | none => s
  | some (l, b) =>
    if Config.bootStarted s.free then
      s.fresh.tearLine (s.crockPhys l) (BitVec.ofNat 256 (ofBytes b)) (Config.tornLine s.free)
    else s.fresh

/-- A valid copy of the anti-rollback line (R317). -/
def State.rollCopy (s : State) (i : Nat) : Option (List Byte) :=
  let b := s.crockBytes (0x2_0002 + i)
  if !s.crockUe (0x2_0002 + i) && ofBytes (b.take 4) = 0x7C74_5256
      && ofBytes ((b.drop 4).take 4) + ofBytes ((b.drop 8).take 4) = 2 ^ 32 - 1
      && ((b.drop 13).take 15).all (· = 0) && lineCrcOk b then some b else none

/-- FLOOR and REVOKE of a copy. -/
def rollFloor (b : Option (List Byte)) : Nat := match b with | some x => ofBytes ((x.drop 4).take 4) | none => 0
def rollRevoke (b : Option (List Byte)) : Nat := match b with | some x => ofBytes ((x.drop 12).take 1) | none => 0

/-- The floor and the revocation mask in force (R317). -/
def State.floor (s : State) : Nat := max (rollFloor (s.rollCopy 0)) (rollFloor (s.rollCopy 1))
def State.revoked (s : State) (key : Nat) : Bool :=
  nbit (rollRevoke (s.rollCopy 0)) key || nbit (rollRevoke (s.rollCopy 1)) key

/-- The manifest lines of a slot (R325). -/
def manifestLines (slot : Bool) : List Nat := (List.range 8).map fun i => b2n slot * 0x1_0000 + 0xFFF8 + i

/-- The 256 bytes of a slot's manifest. -/
def State.manifest (s : State) (slot : Bool) : List Byte := (manifestLines slot).flatMap s.crockBytes

/-- A little-endian field of a manifest. -/
def mfield (m : List Byte) (o n : Nat) : Nat := ofBytes ((m.drop o).take n)

/-- Are magic, version, zero fields and DLEN right (R325)? -/
def manifestOk (m : List Byte) : Bool :=
  mfield m 0 4 = 0x7C74_4657 && mfield m 4 2 = 1 && mfield m 6 2 < 4 && mfield m 0xC 4 ≤ 58246
    && ((m.drop 0x18).take 0x28).all (· = 0) && (m.drop 0xA0).all (· = 0)

/-- The lines that the digest covers (R325). -/
def signedLines (slot : Bool) (m : List Byte) : List Nat :=
  (List.range (7282 + mfield m 0xC 4)).map (b2n slot * 0x1_0000 + ·)

/-- The verifier's result for a slot (R325). -/
def State.verifyCode (s : State) (slot : Bool) : Nat :=
  let m := s.manifest slot
  if (manifestLines slot).any s.crockUe then 6
  else if !manifestOk m then 2
  else if s.revoked (mfield m 6 2) then 5
  else if mfield m 8 4 < s.floor then 4
  else if (signedLines slot m).any s.crockUe then 6
  else if signatureValid (BitVec.ofNat 2 (mfield m 6 2)) ((signedLines slot m).flatMap s.crockBytes) m then 1
  else 3

/-- Line reads of a verify, with the bits they correct. -/
def State.verifyReads (s : State) (slot : Bool) : State :=
  let m := s.manifest slot
  let ls := manifestLines slot ++ (if manifestOk m then signedLines slot m else [])
  s.crockReads ls.length (ls.foldl (fun a l => a + fixedBits (s.lineErr l).normal) 0) none

/-- VERIFY (R308, R325). -/
def State.verifyCmd (s : State) : State :=
  let c := if s.crk.vbusy then 4 else if s.crk.pfail then 0x43 else 0
  if c ≠ 0 then s.refuse .crk c
  else ({ s with crk := { s.crk with vbusy := true } }).refuse .crk 0

/-- A verify of the inactive slot ends (R325, R328). -/
def State.verifyEnd (s : State) : State :=
  let slot := !s.crk.active
  let r := s.verifyCode slot
  let s1 := s.verifyReads slot
  let s2 := if r = 6 then s1.crockFound (((manifestLines slot ++ signedLines slot (s.manifest slot)).find? s.crockUe).getD 0) 5
    else s1
  ({ s2 with crk := { s2.crk with vbusy := false, vres := BitVec.ofNat 4 r, vpass := r = 1 } }).event .crk 3

/-- VDONE (R325). -/
def execVdone (s : State) : Res := due s s.crk.vbusy s.verifyEnd

/-- SWITCH (R308, R328). -/
def State.switchCmd (s : State) : State :=
  if !s.crk.vpass then s.refuse .crk 0x46
  else if s.crk.pfail then s.refuse .crk 0x43
  else ({ s with crk := { s.crk with swpend := true } }).refuse .crk 0

/-- The switch (R328): SVN follows the active image. -/
def State.switched (s : State) : State :=
  let a := !s.crk.active
  ({ s with crk := { s.crk with
      active := a, swpend := false, btb := [], fwLines := []
      svn := BitVec.ofNat 32 (mfield (s.manifest a) 8 4) } }).event .crk 4

/-- SWITCHED (R328). -/
def execSwitched (s : State) : Res := due s (s.crk.swpend && s.noFs) s.switched

/-! ## Power fail (R308, R329, R350) -/

/-- A running verify is abandoned (R329). -/
def State.stopVerify (s : State) : State :=
  if s.crk.vbusy then { s with crk := { s.crk with vbusy := false, vres := 0, vpass := false } } else s

/-- Does the core take PFAIL: powered, retention included? -/
def State.powered (s : State) : Bool := s.phase ≠ .coldReset && s.phase ≠ .testReset

/-- PFAIL_ASSERT (R350): the commit starts, the event is set and cause 0xC2 is raised; a core in retention wakes (R279); in
stage 1 of a cold start the boot ROM stops (R364). -/
def execPfailAssert (s : State) : Res :=
  let s0 := ({ s with crk := { s.crk with pfail := true } }).bootStopped
  let s1 := { s0 with
    irq := { s.irq with pfLatch := true }
    tmg := { s.tmg with moveStop := s.tmg.move.isSome }
    phase := if s.phase = Phase.boot then Phase.bootStopped else s.phase }
  due s (s.powered && !s.crk.pfail) ((s1.stopVerify.event .crk 7).crockPump).rouse

/-- PFAIL_DEASSERT: the held entries resume in queue order (R308, R350). -/
def execPfailDeassert (s : State) : Res :=
  due s (s.powered && s.crk.pfail)
    ({ s with crk := { s.crk with pfail := false }, tmg := { s.tmg with moveStop := false } }).crockPump

/-! ## Commands by register write (R306, R367) -/

/-- WCMD (R302, R303). -/
def execWcmd (w : Writer) (line : BitVec 19) (mc : Bool) (rsv : BitVec 43) (s : State) : Res :=
  s.access w (.wcmd w line mc rsv) (s.byTag .crk .m w fun s => s.wcmd line.toNat mc rsv.toNat)

/-- WCMD with RFR = 1 (R302). -/
def execWcmdRefresh (w : Writer) (line : BitVec 19) (mc : Bool) (rsv : BitVec 43) (s : State) : Res :=
  s.access w (.wcmdRefresh w line mc rsv) (s.byTag .crk .m w fun s => s.wcmdRefresh line.toNat mc rsv.toNat)

/-- DWCMD (R303). -/
def execDwcmd (w : Writer) (line : BitVec 19) (mc : Bool) (rsv : BitVec 44) (s : State) : Res :=
  s.access w (.dwcmd w line mc rsv) (s.byTag .crk .d w fun s => s.dwcmd line.toNat mc rsv.toNat)

/-- DRCMD (R307). -/
def execDrcmd (w : Writer) (line : BitVec 19) (rsv : BitVec 45) (s : State) : Res :=
  s.access w (.drcmd w line rsv) (s.byTag .crk .d w fun s => s.drcmd line.toNat rsv.toNat)

/-- WQ_CTRL.RESUME (R304). -/
def execWqResume (w : Writer) (s : State) : Res := s.access w (.wqResume w) (s.byTag .crk .m w State.wqResume)

/-- WQ_CTRL.DISCARD (R304). -/
def execWqDiscard (w : Writer) (s : State) : Res := s.access w (.wqDiscard w) (s.byTag .crk .m w State.wqDiscard)

/-- MOVE_CMD (R322). -/
def execMoveCmd (w : Writer) (l p : BitVec 12) (retire : Bool) (s : State) : Res :=
  s.access w (.moveCmd w l p retire) (s.byTag .crk .m w fun s => s.moveCmd l.toNat p.toNat retire)

/-- MAP_CMD (R322). -/
def execMapCmd (w : Writer) (s : State) : Res := s.access w (.mapCmd w) (s.byTag .crk .m w State.mapCmd)

/-- SCAN_CMD (R324). -/
def execScanCmd (w : Writer) (s : State) : Res := s.access w (.scanCmd w) (s.byTag .crk .m w State.scanCmd)

/-- SLOT_CTRL.VERIFY (R325). -/
def execVerify (w : Writer) (s : State) : Res := s.access w (.verify w) (s.byTag .crk .m w State.verifyCmd)

/-- SLOT_CTRL.SWITCH (R328). -/
def execSwitch (w : Writer) (s : State) : Res := s.access w (.switch w) (s.byTag .crk .m w State.switchCmd)

end Sys2Proof.Machine
end

