-- ==== Sys2Proof/Machine/Csr.lean ====
section
/-! DEFINITION. CSR access, program memory access, TRAP, RETT and WAIT
(05_threads_volis14.md R150, R151; 06_privilege_traps.md R171 to R175, R187, R188;
10_timing_energy.md R281, R287, R292). -/

namespace Sys2Proof.Machine

open Sys2Proof

/-- Lowest level to read and to write a CSR; no write level where it is read only (R150, R175, R281, R292). -/
def csrLevels (n : Nat) : Option (Nat × Option Nat) :=
  if n ≤ 0x004 then some (0, some 0)
  else if n = 0x005 ∨ n = 0x006 then some (0, none)
  else if 0x008 ≤ n ∧ n ≤ 0x00D then some (0, some 0)
  else if n = 0x010 then some (0, some 1)
  else if n = 0x011 ∨ n = 0x015 then some (1, some 1)
  else if n = 0x018 then some (1, none)
  else if 0x012 ≤ n ∧ n ≤ 0x017 then some (3, some 3)
  else if n = 0x080 ∨ n = 0x081 ∨ n = 0x090 ∨ n = 0x091 then some (0, none)
  else if n = 0x082 ∨ n = 0x092 then some (1, some 1)
  else none

/-- EVPEND (R175). -/
def State.evpend (s : State) (t : Thread) : Word :=
  let p := match s.bestSource t 0 with
    | some (_, q) => q + 1
    | none => 0
  let me := s.mcThread = t.val
  BitVec.ofNat 64 (p + b2n (me && s.irq.mcLatch) * 32 + b2n (me && s.irq.pfLatch) * 64)

/-- TID (R150). -/
def State.tid (s : State) (t : Thread) : Word :=
  BitVec.ofNat 64 (t.val + s.pos.core.toNat * 4 + s.pos.cluster.toNat * 64)

/-- TSTAT as a read shows it: flags of completions after the last TSYNC wait may or may not appear (R133). -/
def tstatRead (h : HThread) (free : Nat) : Word :=
  if h.tstat &&& ~~~ h.tstatSync = 0 then h.tstat
  else (h.tstat &&& h.tstatSync) ||| (h.tstat &&& Config.tstatShown free)

/-- BAL and RSV in pJ (R292). -/
def State.balPj (s : State) : Int := s.scl.bal / 16
def State.rsvPj (s : State) : Nat := s.scl.rsv / 16

/-- The value a CSR holds for set and clear operations. -/
def State.csrVal (s : State) (t : Thread) (n : Nat) : Word :=
  let h := s.th t
  match n with
  | 0x000 => h.mode
  | 0x001 => h.flg
  | 0x002 => h.tstat
  | 0x003 => h.seed
  | 0x004 => h.rcnt.setWidth 64
  | 0x005 => s.tile.tprog
  | 0x006 => s.tid t
  | 0x008 => h.lc[0].setWidth 64
  | 0x009 => h.ls[0].setWidth 64
  | 0x00A => h.le[0].setWidth 64
  | 0x00B => h.lc[1].setWidth 64
  | 0x00C => h.ls[1].setWidth 64
  | 0x00D => h.le[1].setWidth 64
  | 0x010 => h.stat
  | 0x011 => h.tsbps
  | 0x012 => h.tsbpm
  | 0x013 => h.hdtb
  | 0x014 => h.qlim.setWidth 64
  | 0x016 => h.mshb
  | 0x017 => h.mshl
  | 0x018 => s.evpend t
  | 0x080 => BitVec.ofNat 64 s.tmg.time
  | 0x081 => s.tmg.steps
  | 0x082 => h.tcmp
  | 0x090 => BitVec.ofInt 64 s.balPj
  | 0x091 => BitVec.ofNat 64 s.rsvPj
  | 0x092 => if h.sresRefused then 1 else 0
  | _ => 0

/-- Raise the timer's edge when TCMP is non-zero and reached (R281). -/
def State.timerCheck (s : State) (t : Thread) : State :=
  let h := s.th t
  if h.tcmp ≠ 0 ∧ h.tcmp.toNat ≤ s.tmg.time then (s.setTh t { h with tcmp := 0 }).edge (20 + t.val) else s

/-- Add to the reserve: past the 47 bits of SCL.RSV the sum has no stated value (R292, log 98). -/
def State.growReserve (s : State) (n : Nat) : State :=
  let r := s.scl.rsv + n
  if r < 16 * 2 ^ 47 then { s with scl := { s.scl with rsv := r } }
  else { s with scl := { s.scl with rsv := 16 * (Config.reserveOver s.free).toNat + r % 16 }, free := s.free + 1 }

/-- A write of SRES (R292). -/
def State.sresWrite (s : State) (t : Thread) (g : Word) : State :=
  let x := 16 * g.toInt
  let mark := fun (s' : State) (r : Bool) => s'.setTh t { s'.th t with sresRefused := r }
  if 0 < x then
    (if 0 ≤ s.scl.bal - x then
       let s1 := s.setBal (s.scl.bal - x)
       mark (s1.growReserve x.toNat) false
     else mark s true)
  else
    let m := min (-x).toNat s.scl.rsv
    let b := s.scl.bal + m
    let s1 := s.setBal (if balMax < b then balMax else b)
    mark { s1 with scl := { s1.scl with rsv := s1.scl.rsv - m } } false

/-- Raise the software interrupts named in bits [3:0] (R175). -/
def State.swi (s : State) (v : Word) : State :=
  (List.range 4).foldl (fun s i => if wbit v i then s.edge (24 + i) else s) s

/-- Write a loop register (R150). -/
def HThread.setLoopReg (h : HThread) (n : Nat) (v : Word) : HThread :=
  match n with
  | 0x008 => { h with lc := h.lc.set 0 (v.setWidth 32) }
  | 0x009 => { h with ls := h.ls.set 0 (v.setWidth 17) }
  | 0x00A => { h with le := h.le.set 0 (v.setWidth 17) }
  | 0x00B => { h with lc := h.lc.set 1 (v.setWidth 32) }
  | 0x00C => { h with ls := h.ls.set 1 (v.setWidth 17) }
  | 0x00D => { h with le := h.le.set 1 (v.setWidth 17) }
  | _ => h

/-- May this STAT value be written over the old one (R171)? -/
def statWriteOk (old v : Word) : Bool := statOk v && (old ^^^ v) &&& 0x20B = 0

/-- A write of QLIM: a count that has still to reach the new limit may overrun again (R173). -/
def HThread.withQlim (h : HThread) (n : BitVec 32) : HThread :=
  { h with qlim := n, quietFired := h.quietFired && decide (n.toNat ≤ h.quietCnt) }

/-- Write value `v` to CSR `n`; the value rules come after privilege (R131, R150, R171, R185). -/
def csrPut (t : Thread) (n : Nat) (v w0 : Word) (s : State) : Ends :=
  let h := s.th t
  let set := fun h' => Ends.done (s.setTh t h') .nothing
  match n with
  | 0x000 => if modeOk v then .done s (.mode v) else .trap s 0x01 0 w0
  | 0x001 => set { h with flg := v &&& 0x1F }
  | 0x002 => set { h with tstat := v &&& 0x3F, tstatSync := v &&& 0x3F }
  | 0x003 => set { h with seed := v }
  | 0x004 => set { h with rcnt := v.setWidth 47 }
  | 0x010 => if statWriteOk h.stat v then set (h.withStat v) else .trap s 0x01 0 w0
  | 0x011 => set { h with tsbps := v &&& 0x7FFF00 }
  | 0x012 => set { h with tsbpm := v &&& 0x7FFF00 }
  | 0x013 => set { h with hdtb := v &&& 0x7FF000 }
  | 0x014 => set (h.withQlim (v.setWidth 32))
  | 0x015 => .done (s.swi v) .nothing
  | 0x016 => set { h with mshb := v &&& 0x7FF000 }
  | 0x017 => set { h with mshl := v &&& 0x7FF000 }
  | 0x082 => .done ((s.setTh t { h with tcmp := v }).timerCheck t) .nothing
  | 0x092 => .done (s.sresWrite t v) .nothing
  | _ => .late s fun h => h.setLoopReg n v

/-- Fault information of a CSR's privilege trap (R181). -/
def csrInfo (w0 : Word) (n : Nat) : Word := w0 + BitVec.ofNat 64 (n * 2 ^ 16)

/-- CSRR: g := csr, zero-extended (R150). -/
def csrRead (t : Thread) (g : GReg) (n : Nat) (s : State) : Ends :=
  let w0 := xWord 0x12 g.val
  match csrLevels n with
  | none => .trap s 0x01 0 w0
  | some (rl, _) =>
    if (s.th t).pl < rl then .trap s 0x02 0 (csrInfo w0 n)
    else if n = 0x002 then .done ((s.setG t g (tstatRead (s.th t) s.free)).fresh) .nothing
    else .done (s.setG t g (s.csrVal t n)) .nothing

/-- CSRW, CSRS and CSRC; `op` is the operation field and `f` makes the new value (R150). -/
def csrModify (t : Thread) (g : GReg) (n op : Nat) (f : Word → Word → Word) (s : State) : Ends :=
  let w0 := xWord 0x12 (g.val + 16 * op)
  match csrLevels n with
  | none => .trap s 0x01 0 w0
  | some (_, none) => .trap s 0x01 0 w0
  | some (_, some wl) =>
    if n = 0x092 ∧ op ≠ 1 then .trap s 0x01 0 w0
    else if (s.th t).pl < wl then .trap s 0x02 0 (csrInfo w0 n)
    else csrPut t n (f (if n = 0x015 then 0 else s.csrVal t n) (s.g t g)) w0 s

/-- CSRR (R150). -/
def execCsrr (t : Thread) (g : GReg) (csr : BitVec 12) (s : State) : Res :=
  issue s t 2 (csrRead t g csr.toNat)

/-- CSRW (R150). -/
def execCsrw (t : Thread) (g : GReg) (csr : BitVec 12) (s : State) : Res :=
  issue s t 2 (csrModify t g csr.toNat 1 fun _ g => g)

/-- CSRS (R150). -/
def execCsrs (t : Thread) (g : GReg) (csr : BitVec 12) (s : State) : Res :=
  issue s t 2 (csrModify t g csr.toNat 2 fun c g => c ||| g)

/-- CSRC (R150). -/
def execCsrc (t : Thread) (g : GReg) (csr : BitVec 12) (s : State) : Res :=
  issue s t 2 (csrModify t g csr.toNat 3 fun c g => c &&& ~~~ g)

/-! ## Program memory (R151, R243) -/

/-- Store a program-memory word with given stored bits. -/
def State.setPm (s : State) (w : Nat) (x : BitVec 16) : State := { s with pm := setD pmEmpty s.pm w x }

/-- The checks of PMW and PMR: privilege, then bounds; then the access (R151, R243). -/
def pmAccess (t : Thread) (ga : GReg) (w0 : Word) (go : Nat → State → Ends) (s : State) : Ends :=
  let a := wbits (s.g t ga) 16 0
  if (s.th t).pl = 0 then .trap s 0x02 0 w0
  else if !s.pmAllowed (s.th t).pl a then .trap s 0x08 0 (BitVec.ofNat 64 a)
  else go a s

/-- PMW: the word and its parity bits (R151, R158). -/
def execPmw (t : Thread) (ga gs : GReg) (s : State) : Res :=
  issue s t 2 (pmAccess t ga (xWord 0x13 ga.val) fun a s =>
    .done (s.setPm a (pmEncode ((s.g t gs).setWidth 14))) .nothing)

/-- PMR: the word, zero-extended, without a parity check (R151). -/
def execPmr (t : Thread) (gd ga : GReg) (s : State) : Res :=
  issue s t 2 (pmAccess t ga (xWord 0x14 gd.val) fun a s =>
    .done (s.setG t gd (((s.pmWord a).setWidth 14 : IWord).setWidth 64)) .nothing)

/-! ## TRAP and RETT (R181, R187, R188) -/

/-- TRAP: cause 0x80 + code; the TSB names the next instruction (R181). -/
def execTrap (t : Thread) (code : BitVec 6) (s : State) : Res :=
  issue s t 2 fun s => .waits (s.trapNext t 2 (0x80 + code.toNat))

/-- Is a STAT read from a TSB one that RETT refuses (R187)? -/
def rettBad (st : Word) (pl : Nat) : Bool :=
  !statOk st || pl < wbits st 1 0 || (wbit st 3 && wbits st 1 0 ≠ 3)

/-- Restore a thread from the bytes of a TSB (R179, R187). -/
def HThread.restore (h : HThread) (b : List Byte) : HThread :=
  let w := fun o => word64At b o
  let st := w 0xA8
  { h.withStat st with
    g := Vector.ofFn fun i : Fin 16 => w (8 * i.val)
    a := #v[(w 0x80).setWidth 80 ||| (((w 0x88).setWidth 16).setWidth 80 <<< 64),
            (w 0x90).setWidth 80 ||| (((w 0x98).setWidth 16).setWidth 80 <<< 64)]
    pc := (w 0xA0).setWidth 17
    mode := (w 0xB0) &&& 0x3F
    lc := #v[(w 0xB8).setWidth 32, (w 0xB8 >>> 32).setWidth 32]
    ls := #v[(w 0xC0).setWidth 17, (w 0xC8).setWidth 17]
    le := #v[(w 0xC0 >>> 32).setWidth 17, (w 0xC8 >>> 32).setWidth 17]
    pair := none
    wait := .none
    entered := false }

/-- The asynchronous event that a restored STAT would let the thread take (R188). -/
def State.chainEv (s : State) (t : Thread) (st : Word) : Option Event :=
  if s.tileTrap t then none
  else
    match (s.th t).quietOver with
    | some (p, n) => some (syncEv 0xC3 0 (BitVec.ofNat 64 (p.toNat + n * 2 ^ 32)))
    | none => s.asyncEv t (wbit st 2) (wbits st 8 4)

/-- A load that the instruction before left pending writes last (R154). -/
def HThread.loaded (h : HThread) (p : Option Pair) : HThread :=
  match p with
  | some q => { h with g := match q.ld with | some (d, v) => vset h.g d v | none => h.g }
  | none => h

/-- Start the chained handler: the TSB at `b` keeps its registers (R188).  Its write has no failure of its own (log 88). -/
def State.chain (s : State) (t : Thread) (b : Nat) (st : Word) (e : Event) (d : Desc) (nl : Nat) : State :=
  let s1 := s.shelfWriteBy t (b + 0xD0)
    (bytesOf 8 (causeWord e 0) ++ bytesOf 8 e.addr.toNat ++ bytesOf 8 e.info.toNat ++ bytesOf 8 s.tile.tprog.toNat)
  let h := (s1.th t).deliver
  let h1 := h.enter t d nl (forcedCause e.cause) e st
  let h2 := if d.adv then h1.setTsbp nl (b + 256) else h1
  (((s1.setTh t h2).clearLatch t e).bump .irq 2 1 (some t)).charge 0x1E 1 (some t)

/-- The full restore; a load before RETT still writes its register, and a step trap due from the pair's first instruction goes
with the pair (R154, R187, log 82). -/
def State.rettBack (s : State) (t : Thread) (tsb : List Byte) : State :=
  s.setTh t (((s.th t).restore tsb).loaded (s.th t).pair)

/-- RETT past its checks: chain where R188 allows it, else restore (R187).  The level of the third condition is the
descriptor's; a forced cause runs its handler at M (R183), whose pointer then follows the TSB at `b` (log 88). -/
def State.rettGo (s : State) (t : Thread) (b : Nat) (tsb : List Byte) : State :=
  let h := s.th t
  let st := word64At tsb 0xA8
  let pl := h.pl
  let s1 := s.setTh t (if h.adv then h.setTsbp pl b else h)
  match s1.chainEv t st with
  | none => s1.rettBack t tsb
  | some e =>
    match s1.readDesc t e.cause with
    | (s2, .inr d) =>
      let nl := if forcedCause e.cause then 3 else d.lvl
      if d.lvl = pl ∧ d.adv = h.adv then s2.chain t b st e d nl else s2.rettBack t tsb
    | (s2, .inl _) => s2.rettBack t tsb

/-- RETT (R187, R240).  Where the TSB pointer with ADV = 1 is below 256 the fault address is 0 (log 88). -/
def rettBody (t : Thread) (s0 : State) : Ends :=
  let h0 := s0.th t
  if h0.pl = 0 then .trap s0 0x02 0 (xWord 0x16 0)
  else
    let s := s0.charge 0x1E 1 (some t)
    let p := (s.th t).tsbp h0.pl
    let b := if h0.adv then p - 256 else p
    let out := (h0.adv ∧ p < 256) ∨ !s.tsbInShelf b
    if out then .trap s 0xC4 (BitVec.ofNat 64 b) 0xFFFFFFFF
    else
      let (s1, tsb0, bad) := s.shelfRead (.thread t) b 256
      if bad then .trap s1 0xC4 (BitVec.ofNat 64 b) 0xFFFFFFFF
      else
        let tsb := s1.sbSeen b tsb0
        let st := word64At tsb 0xA8
        if rettBad st h0.pl then .trap s1 0xC4 (BitVec.ofNat 64 b) ((st.setWidth 32).setWidth 64)
        else .waits (s1.rettGo t b tsb)

/-- RETT (R187, R188). -/
def execRett (t : Thread) (s : State) : Res := issue s t 2 (rettBody t)

/-! ## WAIT (R287) -/

/-- A wake condition holds (R287). -/
def State.wakeDue (s : State) (t : Thread) : Bool :=
  (s.bestSource t (s.th t).ipl).isSome
    || (s.mcThread = t.val && (s.irq.mcLatch || s.irq.pfLatch))
    || (s.th t).quietOver.isSome || s.tileTrap t

/-- WAIT completes, then the thread sleeps unless a wake condition holds, SLE = 0 or a single-step
trap is due (R174, R287). -/
def waitBody (t : Thread) (s : State) : Ends :=
  let s1 := s.complete t 2
  let h := s1.th t
  if s1.wakeDue t ∨ !s1.sleBit t ∨ h.stepTrap then .waits s1
  else .waits (s1.setTh t { h with sleep := if s1.dseBit t then .deep else .asleep })

/-- WAIT (R287). -/
def execWait (t : Thread) (s : State) : Res := issue s t 2 (waitBody t)

end Sys2Proof.Machine
end

