-- ==== Sys2Proof/Machine/Timing.lean ====
section
/-! DEFINITION. Delay lines, voltage moves, retention, oscillator, port clock, run and sleep
(10_timing_energy.md R269 to R287; 13_boundary_bringup.md R349, R351). -/

namespace Sys2Proof.Machine

open Sys2Proof

/-- Oscillator cycles of 10 ns in a microsecond and a millisecond (R280). -/
def cycUs : Nat := 100
def cycMs : Nat := 100000

/-- MGNn in force (R275). -/
def State.margin (s : State) (level : Nat) : Nat := bits (s.comN .tmg 0x88) (6 * level + 5) (6 * level)

/-- A group's state. -/
def State.group (s : State) (g : Fin 40) : Group := s.tmg.groups[g]

/-- Replace a group's state. -/
def State.setGroup (s : State) (g : Fin 40) (x : Group) : State :=
  { s with tmg := { s.tmg with groups := vset s.tmg.groups g x } }

/-- Does this group calibrate now? -/
def State.calibrating (s : State) (g : Fin 40) : Bool :=
  match s.tmg.calNow with
  | some (k, _) => k = g
  | none => false

/-- The trim code in force (R271, R272, R274). -/
def State.codeOf (s : State) (g : Fin 40) : Nat :=
  if s.calibrating g then 63
  else min 63 ((s.group g).cal + s.margin s.tmg.vlMargin.val + (s.group g).add)

/-- TMG.TRIMk (R275). -/
def State.trimReg (s : State) (k : Nat) : Word :=
  BitVec.ofNat 64 ((List.range 8).foldl (fun a i =>
    let g := Fin.ofNat 40 (8 * k + i)
    a + (s.codeOf g + b2n (s.group g).can * 64 + b2n (s.group g).str * 128) * 2 ^ (8 * i)) 0)

/-- A group takes its stretch path: record and machine check, or fatal when already stretched (R273).  No code is
added: the code in force stays the one of R271 and R272. -/
def State.stretch (s : State) (g : Fin 40) : State :=
  if (s.group g).str then (s.record .tmg 0 g.val true).fatalCond 5 .tmg
  else
    (((s.setGroup g { s.group g with str := true }).record .tmg 0 g.val false).event .tmg 3).mcheck .tmg

/-- Is the core out of its resets? -/
def State.released (s : State) : Bool := s.phase ≠ .coldReset && s.phase ≠ .testReset && s.phase ≠ .warmReset

/-- The core is powered and out of reset, with VCORE at a compute level. -/
def State.alive (s : State) : Bool := s.released && s.tmg.ret.isNone

/-- The effect of a canary firing (R272, R273, R297): a group at code 63 or on its stretch path goes to `stretch`, whose
record is made of EVENT as it stood before. -/
def State.canary (s : State) (g : Fin 40) : State :=
  if s.calibrating g then s
  else
    let full := s.codeOf g = 63
    let x := s.group g
    let s1 := (s.setGroup g { x with can := true, add := if full then x.add else x.add + 1 }).bump .tmg 1 1
    (if full || x.str then s1.stretch g else s1).event .tmg 2

/-- CANARY_FIRE (R272, R273). -/
def execCanaryFire (g : Fin 40) (s : State) : Res := due s s.alive (s.canary g)

/-- The sequencer and calibration do work: EN = 1, not quiesced (R331). -/
def State.tmgWorks (s : State) : Bool := s.en .tmg && !s.quiescing .tmg

/-- Start the next queued calibration when none runs and no move is in progress (R275, R297). -/
def State.startCal (s : State) : State :=
  if s.tmg.calNow.isNone ∧ s.tmg.move.isNone ∧ s.tmgWorks then
    match s.tmg.calQ with
    | [] => s
    | g :: r => { s with tmg := { s.tmg with calNow := some (g, s.tmg.time), calGrp := g, calQ := r } }
  else s

/-- Queue groups for calibration. -/
def State.queueCal (s : State) (gs : List (Fin 40)) : State :=
  ({ s with tmg := { s.tmg with calQ := s.tmg.calQ ++ gs } }).startCal

/-- Has a group's temperature moved by more than DT since its last calibration (R275)? -/
def State.tempMoved (s : State) (g : Fin 40) : Bool :=
  let d := s.tmg.temp.toInt - (s.group g).temp.toInt
  let dt : Int := (8 * bits (s.comN .tmg 0x48) 23 16 : Nat)
  decide (dt < d) || decide (dt < -d)

/-- All groups in order. -/
def allGroups : List (Fin 40) := List.finRange 40

/-- The interval of automatic calibration has passed (R275). -/
def State.autoDue (s : State) : Bool :=
  let c := s.comN .tmg 0x48
  nbit c 24 && bits c 15 0 ≠ 0 && s.tmgWorks && s.alive
    && s.tmg.autoLast + cycMs * bits c 15 0 ≤ s.tmg.time

/-- AUTO_CALIBRATION: a group whose temperature moved goes first, the lowest of several (log 123), else the round's next
(R275). -/
def execAutoCalibration (s : State) : Res :=
  let s1 := { s with tmg := { s.tmg with autoLast := s.tmg.time } }
  due s s.autoDue
    (match allGroups.find? fun g => s.tempMoved g with
     | some g => s1.queueCal [g]
     | none => ({ s1 with tmg := { s1.tmg with autoGroup := s.tmg.autoGroup + 1 } }).queueCal [s.tmg.autoGroup])

/-! ## Voltage (R276 to R279, R349) -/

/-- Is a thread out of the way of retention: RUN = 0 or in deep sleep (R279)? -/
def State.threadQuiet (s : State) (t : Thread) : Bool := !s.runBit t || (s.th t).sleep = .deep

/-- All threads. -/
def allThreads : List Thread := List.finRange 4

/-- Is a Crock access pending: a write, a driver or window read, a verify, or a scan that runs (R279, R285)? -/
def State.crockBusy (s : State) : Bool :=
  !s.crk.queue.isEmpty || s.crk.now.isSome || s.crk.drRun.isSome || !s.crk.winReads.isEmpty || s.crk.vbusy
    || (s.crk.scanBusy && nbit (s.comN .tmg 0xB8) 16)

/-- Is the firmware domain in deep sleep: idle, with FSLE and FDSE (R279, R285, R286)? -/
def State.fwDeep (s : State) : Bool :=
  nbit (s.comN .tmg 0xB8) 17 && nbit (s.comN .tmg 0xB8) 18 && s.noFs && !s.crockBusy

/-- The conditions of R279 for retention, the level apart. -/
def State.retentionOk (s : State) : Bool :=
  nbit (s.comN .tmg 0x90) 12 && allThreads.all s.threadQuiet && s.fwDeep
    && s.tile.queue.isEmpty && s.tile.drains.isEmpty
    && (List.finRange 4).all (fun c => s.ldl[c].desc.isNone && !s.ldl[c].halted)
    && s.noc.rt.isEmpty && allThreads.all (fun t => (s.th t).tcmp = 0)
    && s.tmg.calNow.isNone

/-- The level the sequencer heads for: VL1 on the way into retention, the level left on a wake (R277, R279). -/
def State.seqTarget (s : State) : Nat :=
  match s.tmg.waking with
  | some (l, _) => l.val
  | none => if s.retentionOk then 1 else s.tmg.vlWant.val

/-- Does PFAIL hold a move back: none starts under it, but those that bring a woken core back to its level, unless it came
during a move (R279, R297, R350)? -/
def State.moveHeld (s : State) : Bool := if s.tmg.waking.isSome then s.tmg.moveStop else s.crk.pfail

/-- May the sequencer make a request: the last handshake has ended (R278, R331, R349)? -/
def State.seqFree (s : State) : Bool :=
  s.alive && s.tmgWorks && s.tmg.move.isNone && !s.tmg.vhold && !s.tmg.vack && !s.tmg.vreqV

/-- May a move start (R277, R278, R297, R331, R349)? -/
def State.moveFree (s : State) : Bool :=
  s.seqFree && s.tmg.calNow.isNone && !s.moveHeld && s.seqTarget ≠ s.tmg.vlCur.val
    && (match s.tmg.waking with
        | some (_, t0) => t0 + 10 * cycUs * bits (s.comN .tmg 0xA0) 7 0 ≤ s.tmg.time
        | none => true)

/-- Start the next queued calibration, but where a move is due, which goes first (R297). -/
def State.nextCal (s : State) : State := if s.moveFree then s else s.startCal

/-- The end of a sweep of group g (R274).  Where no code passes, the group keeps code 63: 63 codes stay added to its old CAL
until it is calibrated again (R272). -/
def State.calDone (s : State) (g : Fin 40) (m : Option (BitVec 6)) : State :=
  let x := s.group g
  let s1 := match m with
    | none =>
      let s2 := s.stretch g
      let s2 := s2.setGroup g { s2.group g with add := 63 }
      { s2 with
        tmg := { s2.tmg with calLast := BitVec.ofNat 64 g.val ||| (Config.calNoPass s2.free &&& 0xFF3F00) }
        free := s2.free + 1 }
    | some c =>
      let s2 := s.setGroup g { x with cal := c.toNat, add := 0, can := false, str := false }
      let drift := (BitVec.ofInt 8 ((c.toNat : Int) - x.cal)).toNat
      { s2 with tmg := { s2.tmg with calLast := BitVec.ofNat 64 (g.val + c.toNat * 2 ^ 8 + drift * 2 ^ 16) } }
  let s3 := s1.setGroup g { s1.group g with temp := s1.tmg.temp }
  let s4 := { s3 with tmg := { s3.tmg with calNow := none } }
  (((s4.event .tmg 4).bump .tmg 3 1).charge 0x1B 1).nextCal

/-- RECALIBRATION_DONE, 50 µs after its start (R274). -/
def execRecalibrationDone (m : Option (BitVec 6)) (s : State) : Res :=
  match s.tmg.calNow with
  | none => .next s
  | some (g, t0) => due s (t0 + 50 * cycUs ≤ s.tmg.time) (s.calDone g m)

/-- Begin a move to level `n` (R277, R349). -/
def State.beginMove (s : State) (n : Fin 8) : State :=
  let up := s.tmg.vlCur < n
  { s with tmg := { s.tmg with
      move := some { fromL := s.tmg.vlCur, toL := n, start := s.tmg.time }
      vlCharge := if up then n else s.tmg.vlCharge
      vlMargin := if up then s.tmg.vlMargin else n
      vreq := n
      vreqV := true } }

/-- VOLTAGE_MOVE: one level toward the working level (R277). -/
def execVoltageMove (s : State) : Res :=
  let c := s.tmg.vlCur.val
  due s s.moveFree
    (s.beginMove (Fin.ofNat 8 (if c < s.seqTarget then c + 1 else c - 1)))

/-- The acknowledgment of a move (R277, R349). -/
def State.moveAcked (s : State) (m : VMove) : State :=
  let up := m.fromL < m.toL
  let s1 := { s with tmg := { s.tmg with
      move := none
      vlCur := m.toL
      vlMargin := if up then m.toL else s.tmg.vlMargin
      vlCharge := if up then s.tmg.vlCharge else m.toL
      vreqV := false
      vack := true } }
  (s1.bump .tmg 2 1).startCal

/-- VACK: the regulator acknowledges a move's request, or that of VL0; a late one after the time limit completes no move,
and no request starts until it has dropped (R277, R278, R279, R349). -/
def execVack (s : State) : Res :=
  due s (s.released && !s.tmg.vack)
    (match s.tmg.move with
     | some m => s.moveAcked m
     | none => { s with tmg := { s.tmg with vreqV := false, vack := true } })

/-- VACK_FALL: the regulator drops VACK (R349). -/
def execVackFall (s : State) : Res :=
  due s s.tmg.vack { s with tmg := { s.tmg with vack := false } }

/-- VOLTAGE_ACK_TIMEOUT: the move stops where it stands (R278). -/
def execVoltageAckTimeout (s : State) : Res :=
  match s.tmg.move with
  | none => .next s
  | some m =>
    due s (m.start + cycUs * bits (s.comN .tmg 0x98) 7 0 ≤ s.tmg.time)
      ((({ s with tmg := { s.tmg with move := none, vhold := true, vreqV := false } }).event .tmg 5).mcheck .tmg).startCal

/-- RETENTION_ENTRY from VL1: the core requests VL0 and stops its oscillator (R279, R349); the level in force is VL0 (R288). -/
def execRetentionEntry (s : State) : Res :=
  due s (s.seqFree && s.tmg.waking.isNone && !s.crk.pfail && s.retentionOk && s.tmg.vlCur.val = 1)
    { s with tmg := { s.tmg with
        ret := some s.tmg.vlWant, retPend := s.enPend, vlCur := 0, vlCharge := 0, vlMargin := 1, vreq := 0
        vreqV := true, loLock := false } }

/-- RETENTION_WAKE: an enabled source has become pending (R279).  PFAIL and what arrives at the port wake the core in
their own commands. -/
def execRetentionWake (s : State) : Res :=
  due s (s.tmg.ret.isSome && s.enPend &&& ~~~ s.tmg.retPend ≠ 0) s.rouse

/-- RETENTION_WAKE_DONE: the core is back at the level that it left (R279). -/
def execRetentionWakeDone (s : State) : Res :=
  match s.tmg.waking with
  | none => .next s
  | some (l, _) =>
    due s (s.tmg.vlCur = l)
      (({ s with tmg := { s.tmg with waking := none } }).event .tmg 9)

/-! ## Oscillator and timers (R280, R281, R351) -/

/-- OSC_TRIM_WINDOW: the count of a window, and one trim step toward 12,800 (R280, log 28). -/
def execOscTrimWindow (cnt : BitVec 16) (s : State) : Res :=
  let c := cnt.toNat
  let trim := if c < 12800 ∧ s.tmg.loTrim.toNat < 1023 then s.tmg.loTrim + 1
    else if 12800 < c ∧ 0 < s.tmg.loTrim.toNat then s.tmg.loTrim - 1 else s.tmg.loTrim
  due s s.alive
    { s with
      tmg := { s.tmg with
        loCnt := cnt, loTrim := trim, loLock := 12794 ≤ c && c ≤ 12806, loFrozen := false, lastMark := s.tmg.time }
      crk := { s.crk with woken := s.crk.woken && !(12794 ≤ c && c ≤ 12806) } }

/-- SYNC_MARK_LOST: no mark for 1 ms (R280). -/
def execSyncMarkLost (s : State) : Res :=
  due s (s.alive && !s.tmg.loFrozen && s.tmg.lastMark + cycMs ≤ s.tmg.time)
    (({ s with tmg := { s.tmg with loFrozen := true, loLock := false } }).event .tmg 7)

/-- TIMER_EXPIRY: TIME reaches TCMP (R281). -/
def execTimerExpiry (t : Thread) (s : State) : Res :=
  let h := s.th t
  due s (h.tcmp ≠ 0 && h.tcmp.toNat ≤ s.tmg.time && s.alive)
    ((s.setTh t { h with tcmp := 0 }).edge (20 + t.val))

/-- TEMP_READING: copied to TMG.TEMP, compared with HI (R296, R351). -/
def execTempReading (temp : BitVec 12) (s : State) : Res :=
  let hi := signed 12 (s.comN .tmg 0xC8)
  let s1 := { s with tmg := { s.tmg with temp := temp } }
  due s s.alive
    (if s.tmg.temp.toInt ≤ hi ∧ hi < temp.toInt then s1.event .tmg 6 else s1)

/-! ## Port clock (R283, R284) -/

/-- Committed CLK_CTRL.SRC: true is the reference. -/
def State.clkSrc (s : State) : Bool := nbit (s.comN .tmg 0xB0) 0
def State.pllEn (s : State) : Bool := nbit (s.comN .tmg 0xB0) 1

/-- Does the port clock run: its source toggles and no switch hangs on a stopped source (R284)? -/
def State.portRuns (s : State) : Bool :=
  s.alive && s.tmg.waking.isNone && !s.tmg.muxHung && s.tmg.mux.isNone
    && (if s.tmg.src then s.tmg.refAlive else s.tmg.pllAlive)

/-- The port's source once the PLL locks: after a reset the core leaves the reference for the PLL (R283). -/
def State.lockedSrc (s : State) : Bool := if s.tmg.mux.isNone && !s.clkSrc then false else s.tmg.src

/-- PLL_LOCK, on a reference that is there (R283). -/
def execPllLock (s : State) : Res :=
  due s (s.alive && s.pllEn && !s.tmg.pllLock && !s.tmg.coast && s.tmg.refAlive)
    { s with tmg := { s.tmg with pllLock := true, pllAlive := true, src := s.lockedSrc } }

/-- Can a switch to a source end: no source that it needed has stopped, and the phases it still waits for come (R284,
R297)?  True is the reference. -/
def Timing.muxCan (x : Timing) (target : Bool) : Bool :=
  let toggles := fun (ref : Bool) => if ref then x.refAlive else x.pllAlive
  !x.muxLost && (x.muxOld || toggles x.src) && toggles target

/-- A switch that needs a source which does not toggle never ends, even when the source comes back (R284). -/
def Timing.muxWatch (x : Timing) : Timing :=
  match x.mux with
  | none => x
  | some (target, _) => { x with muxLost := !x.muxCan target }

/-- PLL_COAST: the reference is lost; a PLL that is enabled coasts from then on, and a switch that needed the reference
hangs (R283, R284, R297). -/
def execPllCoast (s : State) : Res :=
  let s1 : State := { s with tmg := Timing.muxWatch { s.tmg with
      refHere := false, refAlive := false, coast := s.tmg.coast || s.pllEn, pllAlive := s.tmg.pllAlive || s.pllEn
      pllLock := false } }
  due s (s.alive && s.tmg.refHere) (if s.pllEn && !s.tmg.coast then s1.event .tmg 0 else s1)

/-- PLL_RELOCK: the reference has been back for 10 µs; a PLL that had not locked before has now (R283). -/
def execPllRelock (s : State) : Res :=
  due s (s.alive && s.tmg.coast && s.tmg.refHere && s.tmg.refSince + 10 * cycUs ≤ s.tmg.time)
    (({ s with tmg := { s.tmg with coast := false, pllLock := true, src := s.lockedSrc } }).event .tmg 1)

/-- The reference returns: when is the environment's, a free value (R284, log 97). -/
def State.refReturns (s : State) : State :=
  if s.tmg.refHere then s
  else
    let back := Config.refReturns s.free
    { s with
      tmg := { s.tmg with refHere := back, refAlive := back, refSince := s.tmg.time }
      free := s.free + 1 }

/-- The switch sees its low phase of the old clock, when that toggles (R284). -/
def State.muxPhase (s : State) : State :=
  { s with tmg := { s.tmg with
      muxOld := s.tmg.muxOld || (s.tmg.mux.isSome && (if s.tmg.src then s.tmg.refAlive else s.tmg.pllAlive)) } }

/-- MUX_SWITCH_DONE: the old clock and then the new one gave a low phase (R284). -/
def execMuxSwitchDone (s : State) : Res :=
  match s.tmg.mux with
  | none => .next s
  | some (target, _) =>
    due s (s.tmg.muxCan target && !s.tmg.muxHung) { s with tmg := { s.tmg with src := target, mux := none, muxOld := false } }

/-- MUX_HANG: a switch that needs a stopped source has not ended within 10 µs (R284, R297). -/
def execMuxHang (s : State) : Res :=
  match s.tmg.mux with
  | none => .next s
  | some (target, t0) =>
    due s (!s.tmg.muxCan target && !s.tmg.muxHung && t0 + 10 * cycUs ≤ s.tmg.time)
      (({ s with tmg := { s.tmg with muxHung := true } }).event .tmg 8)

/-! ## Run and sleep (R286, R287) -/

/-- A thread stops: a wait that an event may interrupt is abandoned first (R286). -/
def State.stopThread (s : State) (t : Thread) : State :=
  let s1 := s.abandon t
  s1.setTh t { s1.th t with stopped := true, entered := false, sleep := .awake }

/-- Does a thread that is asleep or in deep sleep have to stop: its RUN is 0 (R286)? -/
def State.sleeperStops (s : State) (t : Thread) : Bool :=
  let h := s.th t
  !s.runBit t && !h.stopped && !h.halted && h.sleep ≠ .awake

/-- THREAD_STOP: a thread with RUN = 0 stops at its next allowed boundary (R286). -/
def execThreadStop (t : Thread) (s : State) : Res :=
  let h := s.th t
  due s (!s.runBit t && !h.stopped && !h.halted && (h.sleep ≠ .awake || h.boundary)) (s.stopThread t)

/-- THREAD_WAKE: a thread with RUN = 0 stops instead (R286, R287). -/
def execThreadWake (t : Thread) (s : State) : Res :=
  let h := s.th t
  due s (h.sleep ≠ .awake && s.wakeDue t && s.runBit t && s.alive)
    (s.setTh t { h with sleep := .awake })

/-- The QUIET count reaches QLIM at S or U (R173), or stands at or above it (log 116). -/
def State.quietDue (s : State) (t : Thread) : Bool :=
  let h := s.th t
  h.quiet && h.pl ≠ 3 && h.qlim ≠ 0 && !h.quietFired && h.qlim.toNat ≤ h.quietCnt

/-- QUIET_OVERRUN: the event of R173 becomes pending with level and count. -/
def execQuietOverrun (t : Thread) (s : State) : Res :=
  let h := s.th t
  due s (s.quietDue t)
    (s.setTh t { h with quietFired := true, quietOver := some (BitVec.ofNat 2 h.pl, h.quietCnt) })

/-- May this thread take an event now: at an allowed boundary at which none has been taken, neither stopped nor about to
stop or to be reset (R161, R164, R184 to R186, R286, R287, R358)? -/
def State.mayEnter (s : State) (t : Thread) : Bool :=
  let h := s.th t
  s.running && s.runBit t && !h.stopped && !h.halted && !h.resetReq && !h.entered && (h.sleep = .awake || h.stepTrap) && h.boundary

/-- HANDLER_ENTRY: the first event of R185 is taken; an interruptible wait is abandoned (R164, R183). -/
def execHandlerEntry (t : Thread) (s : State) : Res :=
  match s.boundaryEv t with
  | none => .next s
  | some e =>
    let s1 := s.abandon t
    due s (s.mayEnter t) ((s1.setTh t { s1.th t with sleep := .awake }).enter t e)

end Sys2Proof.Machine
end

