-- ==== Sys2Proof/Machine/Ladle.lean ====
section
/-! DEFINITION. The Ladle: channels, descriptors, runs and warm requests
(08_ladle_noc_port.md R230 to R237; 07_local_store_caches.md R210). -/

namespace Sys2Proof.Machine

open Sys2Proof

/-! ## Channels (R230, R231) -/

/-- A channel. -/
def State.chan (s : State) (c : Fin 4) : Chan := s.ldl[c]

/-- Replace a channel. -/
def State.setChan (s : State) (c : Fin 4) (x : Chan) : State := { s with ldl := vset s.ldl c x }

/-- The committed ring offset and configuration fields of a channel (R230). -/
def State.chRing (s : State) (c : Fin 4) : Nat := s.comN .ldl (0x48 + 0x40 * c.val)
def State.chEn (s : State) (c : Fin 4) : Bool := nbit (s.chCfg c) 0
def State.chPl (s : State) (c : Fin 4) : Nat := bits (s.chCfg c) 1 1
def State.chRsz (s : State) (c : Fin 4) : Nat := bits (s.chCfg c) 5 2

/-- A write of HEAD (R231). -/
def State.headWrite (s : State) (c : Fin 4) (v : BitVec 16) : State :=
  let x := s.chan c
  if 2 ^ s.chRsz c < (v - x.tail).toNat then s.setChan c { x with ovf := true }
  else s.setChan c { x with head := v }

/-- Halt a channel before run `r` (R234). -/
def State.chHalt (s : State) (c : Fin 4) (err : Nat) (kind r : Nat) : State :=
  (s.setChan c { s.chan c with
    halted := true, err := BitVec.ofNat 8 err, kind := BitVec.ofNat 6 kind, prog := BitVec.ofNat 64 r
    run := r, xl := [], flt := none }).event .ldl c.val

/-! ## Descriptors (R232) -/

/-- A word of a descriptor. -/
def dw (d : List Word) (i : Nat) : Word := (d[i]?).getD 0

/-- Fields of word 7. -/
def dLen (d : List Word) : Nat := wbits (dw d 7) 19 0 + 1
def dSk (d : List Word) : Nat := wbits (dw d 7) 21 20
def dDk (d : List Word) : Nat := wbits (dw d 7) 23 22
def dTray (d : List Word) : TrayNo := Fin.ofNat 16 (wbits (dw d 7) 27 24)
def dWarm (d : List Word) : Bool := wbit (dw d 7) 28
def dIrq (d : List Word) : Bool := wbit (dw d 7) 29
def dScope (d : List Word) : Nat := wbits (dw d 7) 32 31

/-- N(k) + 1 for dimension k = 1 to 4. -/
def dCount (d : List Word) (k : Nat) : Nat := wbits (dw d 2) (16 * k - 1) (16 * k - 16) + 1

/-- Runs of the descriptor (R233). -/
def dRuns (d : List Word) : Nat := dCount d 1 * dCount d 2 * dCount d 3 * dCount d 4

/-- Index of run `r` in dimension k. -/
def dIndex (d : List Word) (r k : Nat) : Nat :=
  match k with
  | 1 => r % dCount d 1
  | 2 => r / dCount d 1 % dCount d 2
  | 3 => r / (dCount d 1 * dCount d 2) % dCount d 3
  | _ => r / (dCount d 1 * dCount d 2 * dCount d 3)

/-- Σ ik·Sk of run `r`, for the source or the destination strides. -/
def dOffset (d : List Word) (r : Nat) (dst : Bool) : Int :=
  [1, 2, 3, 4].foldl (fun a k =>
    let w := dw d (2 + k)
    a + (dIndex d r k : Int) * signed 32 (if dst then wbits w 63 32 else wbits w 31 0)) 0

/-- Address of a run, modulo 2^57 (R233). -/
def dAddr (d : List Word) (r : Nat) (dst : Bool) : Nat :=
  (((wbits (dw d (if dst then 1 else 0)) 56 0 : Nat) + dOffset d r dst) % 2 ^ 57).toNat

/-- Is a descriptor invalid (R232)? -/
def dInvalid (d : List Word) : Bool :=
  wbits (dw d 0) 63 57 ≠ 0 || wbits (dw d 1) 63 57 ≠ 0 || wbits (dw d 7) 63 33 ≠ 0
    || 2 ≤ dSk d || (!dWarm d && dDk d = 3) || (!dWarm d && dSk d = 1 && dDk d = 1) || (dWarm d && dSk d = 1)

/-- Does a descriptor have a tray endpoint? -/
def dTrayEnd (d : List Word) : Bool := dSk d = 1 || (!dWarm d && dDk d = 1)

/-- A descriptor has been read: it starts, or halts the channel (R231, R232). -/
def State.descRead (s : State) (c : Fin 4) (ws : List Word) (bad : Bool) : State :=
  if bad then s.chHalt c 1 0 0
  else if dInvalid ws then s.chHalt c 2 0 0
  else s.setChan c { s.chan c with desc := some ws, run := 0, xl := [], flt := none, runs := [], writes := [] }

/-- Read descriptor TAIL from the shelf (R231). -/
def State.descStart (s : State) (c : Fin 4) : State :=
  let x := s.chan c
  let o := s.chRing c + 64 * (x.tail.toNat % 2 ^ s.chRsz c)
  if s.shelfSize < o + 64 then s.descRead c [] true
  else
    let (s1, bs, p) := (s.lsCharge 0x12 (.chan c)).shelfRead (.chan c) o 64
    s1.descRead c ((List.range 8).map fun i => word64At bs (8 * i)) p

/-- LADLE_DESCRIPTOR_START (R231). -/
def execLadleDescriptorStart (c : Fin 4) (s : State) : Res :=
  let x := s.chan c
  due s
    (s.alive && s.en .ldl && !s.quiescing .ldl && s.chEn c && !x.halted && x.desc.isNone && x.head ≠ x.tail)
    (s.descStart c)

/-! ## Lines of a run -/

/-- Virtual lines of the `n` bytes at `a`, modulo 2^57. -/
def linesOf (a n : Nat) : List Nat :=
  (List.range ((a + n - 1) / 128 - a / 128 + 1)).map fun i => (a / 128 + i) % 2 ^ 50

/-- Virtual pages of the `n` bytes at `a`. -/
def pagesOf (a n : Nat) : List Nat :=
  (List.range ((a + n - 1) / 2 ^ 14 - a / 2 ^ 14 + 1)).map fun i => (a / 2 ^ 14 + i) % 2 ^ 43

/-- Offset in a run's bytes of byte `o` of a virtual line, if the run has it: `a` is the run's address. -/
def lineByte (a n line o : Nat) : Option Nat :=
  let i := (128 * line + o + 2 ^ 57 - a) % 2 ^ 57
  if i < n then some i else none

/-- The halves of a line that a run's bytes touch. -/
def runHalves (a n line : Nat) : List Nat :=
  [0, 1].filter fun h => (List.range 64).any fun o => (lineByte a n line (64 * h + o)).isSome

/-- Physical base and policy of a virtual line from a run's pages. -/
def pageLine (xl : List (Nat × Bool × Nat × Nat)) (wr : Bool) (line : Nat) : Option (Nat × Nat) :=
  (xl.find? fun x => x.1 = line / 128 && x.2.1 = wr).map fun x => (x.2.2.1 + line % 128 * 128, x.2.2.2)

/-! ## Warm requests (R210, R237) -/

/-- The policy code that marks a page a warm descriptor skipped. -/
def skipped : Nat := 4

/-- Replace the side buffer. -/
def State.sideSet (s : State) (l : List SideLine) : State := { s with ls := { s.ls with side := l } }

/-- A free place in the side buffer, where one can be made: an empty entry, else the entry filled earliest
(R210). -/
def State.sideRoom (s : State) : Option State :=
  if s.ls.side.length < 64 then some s
  else
    match s.ls.side.find? fun e => e.data.isSome with
    | none => none
    | some v => some ((s.sideSet (s.ls.side.filter fun e => e ≠ v)).bump .ldl 5 1)

/-- A warm request for a physical line enters the request table, at the index answered; none where it has to wait (R210,
R220). -/
def State.warmLine (s : State) (c : Fin 4) (line : Nat) : Option (State × List Nat) :=
  if (s.lsWay line).isSome || (s.sideOf line).isSome || (s.fillOf line).isSome || (s.warmOf line).isSome then some (s, [])
  else if !s.chRoom c then none
  else
    match s.sideRoom with
    | none => none
    | some s1 =>
      match s1.request false (newReq (.warm line c) (.chan c) 0 (128 * line) 5) with
      | none => none
      | some (s2, i) =>
        some (s2.sideSet (s2.ls.side ++ [{ line := line, data := none, errs := (0, 0), drop := false }]), [i])

/-- Serve the warm lines of a run: device pages count, uncached ones and the own windows are ignored (R201, R210). -/
def State.warmOut (s : State) (c : Fin 4) (o : LOut) : Option (State × List Nat) :=
  if o.pol = 3 then some (s.bump .ldl 7 1, [])
  else if o.pol = 2 then some (s, [])
  else if s.window o.pa ≠ .mem then some (s, [])
  else s.warmLine c (o.pa / 128)

/-! ## Reads and writes of a run (R233, R234) -/

/-- Replace a run of a channel. -/
def State.setLRun (s : State) (c : Fin 4) (r : LRun) : State :=
  let x := s.chan c
  s.setChan c { x with runs := x.runs.map fun y => if y.idx = r.idx then r else y }

/-- A run of a channel. -/
def State.lrun (s : State) (c : Fin 4) (i : Nat) : Option LRun := (s.chan c).runs.find? fun r => r.idx = i

/-- Replace a read of a run. -/
def LRun.setRead (r : LRun) (x : LRead) : LRun :=
  { r with reads := r.reads.map fun y => if y.line = x.line ∧ y.half = x.half then x else y }

/-- Ask for one source line, or half line (R233). -/
def State.askRead (s : State) (c : Fin 4) (r : LRun) (x : LRead) : State :=
  if x.asked ∨ !s.chRoom c then s
  else
    match s.readLine (x.pa / 128) x.pol (match x.half with | some h => [h] | none => [0, 1]) (.chan c)
        (.ladle c r.idx x.line false) with
    | (s1, .data d p) =>
      let d1 := match x.half with | some h => lineHalf d h | none => d
      let p1 := match x.half with | some h => BitVec.ofNat 2 (b2n (wbit p h)) | none => p
      match s1.lrun c r.idx with
      | some r1 => s1.setLRun c (r1.setRead { x with asked := true, got := true, data := d1, pois := p1 })
      | none => s1
    | (s1, .asked _) =>
      match s1.lrun c r.idx with
      | some r1 => s1.setLRun c (r1.setRead { x with asked := true })
      | none => s1
    | (_, .full) => s

/-- The byte at an offset of the run's source, with its block's poison; none while it is awaited. -/
def LRun.srcByte (r : LRun) (n i : Nat) : Option (Byte × Bool) :=
  if n ≤ i then none
  else if !r.row.isEmpty then (r.row[i]?).map fun b => (b, r.rowPois)
  else
    let a := (r.src + i) % 2 ^ 57
    match r.reads.find? fun x => x.line = a / 128 && (x.half = none || x.half = some (a % 128 / 64)) with
    | none => none
    | some x =>
      if !x.got then none
      else
        match x.half with
        | some _ => (x.data[a % 64]?).map fun b => (b, wbit x.pois 0)
        | none => (x.data[a % 128]?).map fun b => (b, wbit x.pois (a % 128 / 64))

/-- The masked bytes of a destination line with the poison of each block; none while a byte is awaited. -/
def LRun.outBytes (r : LRun) (n line : Nat) : Option (List (Byte × Bool) × BitVec 2) :=
  (List.range 128).foldl (fun acc o =>
    match acc with
    | none => none
    | some (ms, p) =>
      match lineByte r.dst n line o with
      | none => some (ms ++ [(0, false)], p)
      | some i =>
        match r.srcByte n i with
        | none => none
        | some (b, bad) => some (ms ++ [(b, true)], if bad then setBit p (o / 64) true else p))
    (some ([], 0))

/-- Note poison written to a destination (R234). -/
def State.chPois (s : State) (c : Fin 4) (p : Bool) : State :=
  if p then s.setChan c { s.chan c with pois := true } else s

/-- Remove an out of a run and note the table entries of its write, or of its warm request. -/
def State.outDone (s : State) (c : Fin 4) (i line : Nat) (idx : List Nat) : State :=
  let x := s.chan c
  s.setChan c { x with
    runs := x.runs.map fun r => if r.idx = i then { r with outs := r.outs.filter fun o => o.line ≠ line } else r
    writes := x.writes ++ idx.map fun k => (k, i) }

/-- A BCAST of one line of a run: the low 23 bits of the shelf offset go in ADDR (R225, R235, log 107). -/
def bcastReq (c : Fin 4) (i line : Nat) (ms : List (Byte × Bool)) (p : BitVec 2) : RtEntry :=
  let e := memWrite (.bcast c i) (.chan c) line ms p
  { e with typ := 6, addr := e.addr % 2 ^ 23 }

/-- Does an earlier open run still write the physical line (R233)? -/
def State.earlierOut (s : State) (c : Fin 4) (i pa : Nat) : Bool :=
  (s.chan c).runs.any fun r => r.idx < i && r.outs.any fun o => o.pa = pa

/-- Write one destination line when its bytes are there (R233, R235). -/
def State.putOut (s : State) (c : Fin 4) (d : List Word) (r : LRun) (o : LOut) : State :=
  if o.asked ∨ s.earlierOut c r.idx o.pa ∨ !s.chRoom c then s
  else
    match r.outBytes (dLen d) o.line with
    | none => s
    | some (ms, p) =>
      if dDk d = 2 then
        match s.request false (bcastReq c r.idx o.line ms p) with
        | none => s
        | some (s1, i) => (s1.outDone c r.idx o.line [i]).chPois c (p ≠ 0)
      else
        match s.storeLine (o.pa / 128) ms o.pol p (.chan c) (.ladle c r.idx o.line true) false with
        | (s1, .done idx) => (s1.outDone c r.idx o.line idx).chPois c (p ≠ 0)
        | (s1, .asked) =>
          match s1.lrun c r.idx with
          | none => s1
          | some r1 => s1.setLRun c { r1 with
              outs := r1.outs.map fun y => if y.line = o.line then { y with asked := true } else y }
        | (_, .full) => s

/-- Serve one warm line of a run. -/
def State.warmPut (s : State) (c : Fin 4) (r : LRun) (o : LOut) : State :=
  match s.warmOut c o with
  | none => s
  | some (s1, idx) => s1.outDone c r.idx o.line idx

/-- Write the tray row of a run when its bytes are there (R78, R79, R233). -/
def State.putTray (s : State) (c : Fin 4) (d : List Word) (r : LRun) : State :=
  if !r.fill then s
  else
    let bs := (List.range (dLen d)).map fun i => r.srcByte (dLen d) i
    if bs.any (·.isNone) then s
    else
      let p := bs.any fun b => match b with | some (_, x) => x | none => false
      let s1 := (s.putRow (dTray d) r.idx (bs.map fun b => match b with | some (x, _) => x | none => 0) p).charge 0x0C 1
      ((match s1.lrun c r.idx with
        | some r1 => s1.setLRun c { r1 with fill := false }
        | none => s1)).chPois c p

/-- Serve one open run as far as it goes. -/
def State.runGo (s : State) (c : Fin 4) (d : List Word) (i : Nat) : State :=
  let s1 := match s.lrun c i with
    | none => s
    | some r => r.reads.foldl (fun s x => s.askRead c r x) s
  let s2 := match s1.lrun c i with
    | none => s1
    | some r => r.outs.foldl (fun s o => if dWarm d then s.warmPut c r o else s.putOut c d r o) s1
  let s3 := match s2.lrun c i with
    | none => s2
    | some r => s2.putTray c d r
  match s3.lrun c i with
  | none => s3
  | some r =>
    if r.outs.isEmpty && !r.fill then
      s3.setChan c { s3.chan c with runs := (s3.chan c).runs.filter fun y => y.idx ≠ i }
    else s3

/-- Serve every open run of a channel, the oldest first. -/
def State.ladleGo (s : State) (c : Fin 4) : State :=
  match (s.chan c).desc with
  | none => s
  | some d => (s.chan c).runs.foldl (fun s r => s.runGo c d r.idx) s

/-- Data for a source line of a run: the line, or half `h` of an uncached one. -/
def State.ladleData (s : State) (c : Fin 4) (i line : Nat) (h : Option Nat) (d : List Byte) (p : BitVec 2) : State :=
  match s.lrun c i with
  | none => s
  | some r =>
    (s.setLRun c { r with reads := r.reads.map fun x =>
      if x.line = line ∧ (x.half = none ∨ x.half = h) then { x with got := true, data := d, pois := p } else x }).ladleGo c

/-- The line that a write-back page's write waited for is there: the write is tried again. -/
def State.ladleFilled (s : State) (c : Fin 4) (i line : Nat) : State :=
  match s.lrun c i with
  | none => s
  | some r =>
    (s.setLRun c { r with outs := r.outs.map fun o => if o.line = line then { o with asked := false } else o }).ladleGo c

/-- That fill ended in an error: the bytes go to memory as a masked write (R229). -/
def State.ladleAround (s : State) (c : Fin 4) (i line : Nat) : State :=
  match s.lrun c i, (s.chan c).desc with
  | some r, some d =>
    match r.outs.find? fun o => o.line = line, r.outBytes (dLen d) line with
    | some o, some (ms, p) =>
      match if s.chRoom c then s.request false (memWrite .write (.chan c) (o.pa / 128) ms p) else none with
      | some (s1, k) => ((s1.outDone c i line [k]).chPois c (p ≠ 0)).ladleGo c
      | none => s.ladleFilled c i line
    | _, _ => s
  | _, _ => s

/-! ## Opening a run (R233, R234) -/

/-- Do a run's destination bytes on a page fall in a protected shelf range (R176, R234)?  A channel belongs to no
thread: the range of any of the four counts (log 94). -/
def State.runProtected (s : State) (d : List Word) (r page base : Nat) : Bool :=
  match s.shelfOff base with
  | none => false
  | some o =>
    let a := dAddr d r true
    let first := if a / 2 ^ 14 = page then a % 2 ^ 14 else 0
    let stop := if (a + dLen d - 1) / 2 ^ 14 % 2 ^ 43 = page then (a + dLen d - 1) % 2 ^ 14 + 1 else 2 ^ 14
    s.anyProtects (o + first) (stop - first)

/-- Pages of a run in order: source pages, then destination pages. -/
def runPages (d : List Word) (r : Nat) : List (Nat × Bool) :=
  (if dSk d = 0 then (pagesOf (dAddr d r false) (dLen d)).map (·, false) else [])
    ++ (if !dWarm d && dDk d = 0 then (pagesOf (dAddr d r true) (dLen d)).map (·, true) else [])

/-- Add a translated page. -/
def State.pageDone (s : State) (c : Fin 4) (p : Nat × Bool) (base pol : Nat) : State :=
  s.setChan c { s.chan c with xl := (s.chan c).xl ++ [(p.1, p.2, base, pol)] }

/-- A page of a warm descriptor that fails to translate is skipped (R237). -/
def State.warmSkip (s : State) (c : Fin 4) (p : Nat × Bool) : State :=
  let s1 := s.pageDone c p 0 skipped
  s1.setChan c { s1.chan c with wskip := true }

/-- Translate the pages of a run that are still to do; the Bool answers whether all are done.  A fault is noted. -/
def State.runXlate (s : State) (c : Fin 4) (d : List Word) (ps : List (Nat × Bool)) : State × Bool :=
  match ps with
  | [] => (s, true)
  | p :: rest =>
    if (s.chan c).xl.any fun x => x.1 = p.1 && x.2.1 = p.2 then s.runXlate c d rest
    else
      let fail := fun (s : State) (e k : Nat) =>
        s.setChan c { s.chan c with flt := some (BitVec.ofNat 8 e, BitVec.ofNat 6 k) }
      match s.translate (BitVec.ofNat 64 (p.1 * 2 ^ 14)) (s.chPl c) (!p.2) p.2 (.chan c) with
      | (s1, .ok pa pol) =>
        if dWarm d then (s1.pageDone c p pa pol).runXlate c d rest
        else if pol = 3 then (fail s1 4 0, false)
        else if p.2 && s1.runProtected d (s1.chan c).run p.1 pa then (fail s1 5 0, false)
        else (s1.pageDone c p pa pol).runXlate c d rest
      | (s1, .fault kind _ _) =>
        if dWarm d then (s1.warmSkip c p).runXlate c d rest else (fail s1 3 kind, false)
      | (s1, .walking) => (s1, false)
      | (_, .busy) => (s, false)

/-- The source reads of a run: whole lines, or the halves that it needs of an uncached page. -/
def runReads (d : List Word) (xl : List (Nat × Bool × Nat × Nat)) (r : Nat) : List LRead :=
  let a := dAddr d r false
  (linesOf a (dLen d)).flatMap fun l =>
    match pageLine xl false l with
    | none => []
    | some (pa, pol) =>
      let mk := fun (h : Option Nat) =>
        ({ line := l, half := h, pa := pa, pol := pol, asked := false, got := false, data := [], pois := 0 } : LRead)
      if pol = 2 then (runHalves a (dLen d) l).map fun h => mk (some h) else [mk none]

/-- The destination lines of a run; a broadcast's carry the shelf offset, a warm run's are its source lines. -/
def runOuts (d : List Word) (xl : List (Nat × Bool × Nat × Nat)) (r : Nat) : List LOut :=
  let mk := fun (l pa pol : Nat) => ({ line := l, pa := pa, pol := pol, asked := false } : LOut)
  if dWarm d then
    (linesOf (dAddr d r false) (dLen d)).filterMap fun l =>
      match pageLine xl false l with
      | some (pa, pol) => if pol = skipped then none else some (mk l pa pol)
      | none => none
  else if dDk d = 1 then []
  else
    (linesOf (dAddr d r true) (dLen d)).filterMap fun l =>
      if dDk d = 2 then some (mk l (128 * l) 0)
      else (pageLine xl true l).map fun x => mk l x.1 x.2

/-- Open the run whose pages have all translated; a tray row that fails its parity is the tray path's (log 102). -/
def State.openRun (s0 : State) (c : Fin 4) (d : List Word) : State :=
  let r := (s0.chan c).run
  let T := dTray d
  let s := if dSk d = 1 then (s0.checkRow T 3 r).charge 0x0B 1 else s0
  let x := s.chan c
  let run : LRun :=
    { idx := r, src := dAddr d r false, dst := dAddr d r true
      reads := if dWarm d ∨ dSk d = 1 then [] else runReads d x.xl r
      outs := runOuts d x.xl r
      row := if dSk d = 1 then s.rowBytes T r else []
      rowPois := dSk d = 1 && s.mark T r
      fill := !dWarm d && dDk d = 1 }
  (s.setChan c { x with run := r + 1, xl := [], runs := x.runs ++ [run] }).runGo c d r

/-- Does a thread run a TSAVE or TRSTR (R103)? -/
def State.ctxRuns (s : State) : Bool :=
  (List.finRange 4).any fun t => match (s.th t).wait with | .ctx _ => true | _ => false

/-- Is a walk for a channel under way? -/
def State.chanWalks (s : State) (c : Fin 4) : Bool := s.xl.walks.any fun w => w.who = .chan c

/-- Runs before the next are complete: nothing open and nothing to be acknowledged. -/
def Chan.idle (x : Chan) : Bool := x.runs.isEmpty && x.writes.isEmpty

/-- The tray shape that a tray endpoint needs (R233). -/
def State.trayFits (s : State) (d : List Word) : Bool :=
  !dTrayEnd d || (dLen d = (s.tray (dTray d)).bytes && dRuns d ≤ (s.tray (dTray d)).rows)

/-- May a channel take up its next run? -/
def State.runDue (s : State) (c : Fin 4) (d : List Word) : Bool :=
  let x := s.chan c
  s.alive && !x.halted && x.run < dRuns d && !s.chanWalks c && !(dTrayEnd d && s.ctxRuns)
    && (x.flt.isNone || dWarm d || x.idle) && (s.trayFits d || x.idle) && (dWarm d || dDk d ≠ 2 || x.idle)

/-- The next run: a fault halts the channel, else its pages translate and it opens (R233, R234). -/
def State.nextRun (s : State) (c : Fin 4) (d : List Word) : State :=
  let x := s.chan c
  if !s.trayFits d then s.chHalt c 6 0 x.run
  else
    let ps := runPages d x.run
    match x.flt with
    | some (e, k) =>
      if dWarm d then
        let s1 := s.setChan c { x with flt := none }
        match ps.find? fun p => !(x.xl.any fun y => y.1 = p.1 && y.2.1 = p.2) with
        | some p => s1.warmSkip c p
        | none => s1
      else s.chHalt c e.toNat k.toNat x.run
    | none =>
      let (s1, ok) := s.runXlate c d ps
      if ok then s1.openRun c d
      else
        match (s1.chan c).flt with
        | some (e, k) => if (s1.chan c).idle && !dWarm d then s1.chHalt c e.toNat k.toNat x.run else s1
        | none => s1

/-- LADLE_RUN (R233, R234, R237). -/
def execLadleRun (c : Fin 4) (s : State) : Res :=
  match (s.chan c).desc with
  | none => .next s
  | some d => due s (s.runDue c d) (s.nextRun c d)

/-! ## Completion (R234, R236) -/

/-- Is a write performed at a scope: acknowledged, or sent where its home lies outside (R239)?  A warm request has to be
sent (R237). -/
def State.writeSeen (s : State) (rank i : Nat) : Bool :=
  match lookup s.noc.rt i with
  | none => true
  | some e => e.sent && (e.typ = 0 || (rank < s.homeScope e.addr && e.typ ≠ 6))

/-- A warm request of a channel has still to be sent. -/
def State.warmUnsent (s : State) (c : Fin 4) : Bool :=
  s.noc.rt.any fun e => match e.2.kind with | .warm _ k => k = c && !e.2.sent | _ => false

/-- Move on to the next descriptor; source 16 + n where the descriptor asks for it (R236). -/
def State.descDone (s : State) (c : Fin 4) : State :=
  let x := s.chan c
  let s1 := s.setChan c { x with
    tail := x.tail + 1, desc := none, run := 0, xl := [], flt := none, runs := [], writes := [] }
  match x.desc with
  | some d => if dIrq d then s1.edge (16 + c.val) else s1
  | none => s1

/-- Is the descriptor complete (R236)? -/
def State.descComplete (s : State) (c : Fin 4) (d : List Word) : Bool :=
  let x := s.chan c
  !x.halted && x.run = dRuns d && x.runs.isEmpty && x.flt.isNone
    && x.writes.all (fun w => s.writeSeen (dScope d) w.1) && !(dWarm d && s.warmUnsent c)

/-- LADLE_DESCRIPTOR_COMPLETE (R236). -/
def execLadleDescriptorComplete (c : Fin 4) (s : State) : Res :=
  match (s.chan c).desc with
  | none => .next s
  | some d => due s (s.descComplete c d) (s.descDone c)

/-- A table entry is answered: no channel awaits it any longer. -/
def State.chanAcked (s : State) (i : Nat) : State :=
  (List.finRange 4).foldl (fun s c =>
    s.setChan c { s.chan c with writes := (s.chan c).writes.filter fun w => w.1 ≠ i }) s

/-- A refused broadcast halts the channel at that run, once the run's other requests are answered (R235). -/
def State.bcastFailed (s : State) (c : Fin 4) (i : Nat) : State :=
  let x := s.chan c
  let s1 := s.setChan c { x with run := i, runs := [], xl := [], flt := some (7, 0) }
  if (s1.chan c).idle then s1.chHalt c 7 0 i else s1

/-- RESUME, SKIP and ABORT of a halted channel (R234). -/
def State.chResume (s : State) (c : Fin 4) : State :=
  if (s.chan c).halted then s.setChan c { s.chan c with halted := false } else s
def State.chSkip (s : State) (c : Fin 4) : State :=
  if (s.chan c).halted then (s.setChan c { s.chan c with halted := false }).descDone c else s
def State.chAbort (s : State) (c : Fin 4) : State :=
  let x := s.chan c
  if x.halted then
    s.setChan c { x with halted := false, tail := x.head, desc := none, run := 0, xl := [], flt := none, runs := [], writes := [] }
  else s

/-! ## Accesses in flight (R256, R260, R265) -/

/-- A part that has been translated but not asked for translates again. -/
def Part.fresh (p : Part) : Part := if p.asked then p else { p with pa := none }

/-- A wait with the translations that it has not used yet given up. -/
def Wait.retranslate (w : Wait) : Wait :=
  match w with
  | .load p => .load { p with parts := p.parts.map Part.fresh }
  | .store p => .store { p with parts := p.parts.map Part.fresh }
  | _ => w

/-- Does a thread hold translations in a context transfer or a Crock window load? -/
def State.holdsPages (s : State) (t : Thread) : Bool :=
  (match (s.th t).wait with | .ctx _ => true | _ => false) || s.crk.winReads.any fun r => r.1 = t

/-- The runs of a channel that have something open, or a request that has not left the port. -/
def State.chanOpen (s : State) (c : Fin 4) : List Nat :=
  (s.chan c).runs.map (·.idx) ++ ((s.chan c).writes.filter fun w => s.noc.queue.contains w.1).map (·.2)

/-- The runs of the channels that access memory through translations and have not left the port with all their requests
(R265); a span clear waits for warm runs too, an XINV does not (R256, R260). -/
def State.openRuns (s : State) (clear : Bool) : List (Fin 4 × BitVec 16 × Nat) :=
  (List.finRange 4).flatMap fun c =>
    match (s.chan c).desc with
    | some d => if dWarm d && !clear then [] else (s.chanOpen c).map fun r => (c, (s.chan c).tail, r)
    | none => []

/-- The table entries that an acknowledgment waits for until they leave the port. -/
def State.unsent (s : State) (clear : Bool) : List Nat :=
  s.noc.queue.filter fun i => (lookup s.noc.rt i).any fun e => e.kind.translated clear

/-- The accesses in flight, for an XINV or for a span clear. -/
def State.inFlight (s : State) (clear : Bool) : InFlight where
  clear := clear
  waitFor := s.unsent clear
  sb := s.ls.sbSeq
  lines := s.tile.mem.flatMap fun m => (m.flying clear).map fun l => (m.id, l)
  runs := s.openRuns clear
  thr := allThreads.filter s.holdsPages

/-- Is a line of a tile memory run still in flight? -/
def State.lineFlies (s : State) (clear : Bool) (x : Nat × Nat) : Bool :=
  (s.memRun x.1).any fun m => (m.flying clear).contains x.2

/-- Does a load of the thread wait for data that a span clear's acknowledgment waits for (R265)? -/
def HThread.heldLoad (h : HThread) : Bool :=
  match h.wait with
  | .load p => p.held
  | _ => false

/-- Have those accesses been performed at core scope, or left?  What they send to the port's queue meanwhile has joined
`waitFor` (State.joined). -/
def State.flown (s : State) (x : InFlight) : Bool :=
  x.waitFor.isEmpty && s.ls.sb.all (fun e => x.sb ≤ e.seq) && !(x.lines.any (s.lineFlies x.clear))
    && !((s.openRuns true).any fun r => x.runs.contains r) && !(x.thr.any s.holdsPages)
    && !(x.clear && allThreads.any fun t => (s.th t).heldLoad)

/-- A load that has asked for data is noted as one that a span clear waits for (R265). -/
def Wait.hold (w : Wait) : Wait :=
  match w with
  | .load p => .load { p with held := p.held || p.parts.any (·.asked) }
  | _ => w

/-- The loads whose data a span clear waits for are noted. -/
def State.holdLoads (s : State) : State := { s with thr := s.thr.map fun x => { x with wait := x.wait.hold } }

/-- Translations that are not in use yet are made again; those of warm runs for a span clear alone (R256, R260). -/
def State.retranslate (s : State) (clear : Bool) : State :=
  { s with
    thr := s.thr.map fun x => { x with wait := x.wait.retranslate }
    ldl := s.ldl.map fun x => match x.desc with
      | some d => if dWarm d && !clear then x else { x with xl := [] }
      | none => x }

/-- Do accesses in flight keep a span clear's acknowledgment back? -/
def State.clearWaits (s : State) : Bool := !s.holdLoads.flown (s.inFlight true)

/-- Does a write of the register window clear a span while accesses are in flight (R256)? -/
def State.clearHeld (s : State) (off : Nat) (v : Word) : Bool :=
  pageOf (off / 0x1000) = .xlt && off % 0x1000 = 0x78 && wbits v 13 12 = 1 && wbits v 63 14 = 0 && s.clearWaits

/-- The acknowledgment of a span clear waits for the accesses in flight and the data of loads under way (R256, R265). -/
def State.holdClear (s : State) (who : ClearBy) : State :=
  let s1 := s.holdLoads
  { s1 with noc := { s1.noc with clears := s1.noc.clears ++ [{ s.inFlight true with who := who }] } }

end Sys2Proof.Machine
end

