-- ==== Sys2Proof/Machine/Pages.lean ====
section
/-! DEFINITION. Page control: enable, quiesce, the consistency check, commit and revert
(12_live_service_modes.md R331 to R338; 14_register_pages.md R365 to R375; 07_local_store_caches.md R209;
08_ladle_noc_port.md R228, R230; 09_translation.md R244, R247, R258; 10_timing_energy.md R275 to R292). -/

namespace Sys2Proof.Machine

open Sys2Proof

/-! ## Quiesce (R331) -/

/-- Has the block finished the work that R331 names? -/
def State.quiesceReady (s : State) (p : Page) : Bool :=
  match p with
  | .til => s.tile.queue.all (fun q => !q.started) && s.tile.drains.isEmpty
  | .stk => s.tile.array.isNone
  | .wsk => s.tile.whisk.isNone
  | .ldl => (List.finRange 4).all fun c => (s.chan c).desc.isNone
  | .lst => s.ls.growth.isNone
  | .xlt => s.xl.walks.isEmpty
  | .tmg => s.tmg.move.isNone && s.tmg.calNow.isNone
  | .crk => s.crk.now.isNone
  | .core | .thr | .irq | .scl | .ras | .pmc | .dbg | .rpr => true

/-- What a block takes up when its quiesce ends. -/
def State.workAgain (s : State) (p : Page) : State :=
  match p with
  | .tmg => s.startCal
  | .crk => s.crockPump
  | _ => s

/-- Write CTRL.QUIESCE (R331, R369). -/
def State.setQuiesce (s : State) (p : Page) (v : Bool) : State :=
  let f := s.frame p
  if v then s.setFrame p { f with quiesce := true, quiesced := f.quiesced || !f.en || s.quiesceReady p }
  else (s.setFrame p { f with quiesce := false, quiesced := false }).workAgain p

/-- QUIESCE_COMPLETE (R331). -/
def execQuiesceComplete (p : Page) (s : State) : Res :=
  let f := s.frame p
  due s (f.quiesce && !f.quiesced && s.quiesceReady p)
    (s.setFrame p { f with quiesced := true })

/-! ## Checks (R333) -/

/-- The first of some conditions that holds, as its code; 0 where none does. -/
def firstCode (cs : List (Bool × Nat)) : Nat :=
  match cs with
  | [] => 0
  | (b, c) :: r => if b then c else firstCode r

/-- The Scale's policy needs TMG (R292, R334): the committed or the shadow POLICY. -/
def policyUsesTmg (v : Word) : Bool := wbit v 0 || wbit v 1

/-- Is a block that a page requires disabled (code 0x03 of an enable or a COMMIT, R334)? -/
def State.depMissing (s : State) (p : Page) : Bool :=
  match p with
  | .til => !s.en .stk || !s.en .lst
  | .wsk => !s.en .til
  | .ldl => !s.en .lst
  | .scl => policyUsesTmg (s.reg .scl 0x78) && !s.en .tmg
  | _ => false

/-- Does an enabled block require this page (code 0x03 of a disable, R331, R334)? -/
def State.depHeld (s : State) (p : Page) : Bool :=
  match p with
  | .stk => s.en .til
  | .lst => s.en .til || s.en .ldl
  | .til => s.en .wsk
  | .wsk => s.en .til
  | .tmg => s.en .scl && policyUsesTmg (s.com .scl 0x78)
  | _ => false

/-- LDL (R228, R230). -/
def State.ldlCodes (s : State) (dep : Bool) : List (Bool × Nat) :=
  let cfg := fun (c : Fin 4) => (s.reg .ldl (0x40 + 0x40 * c.val)).toNat
  let ring := fun (c : Fin 4) => (s.reg .ldl (0x48 + 0x40 * c.val)).toNat
  let noc := (s.reg .ldl 0x140).toNat
  [((List.finRange 4).any fun c =>
      12 < bits (cfg c) 5 2 || bits (cfg c) 26 16 = 0 || 1984 < bits (cfg c) 26 16, 1),
   (bits noc 9 0 = 0 || bits noc 19 10 = 0, 1),
   (dep && s.depMissing .ldl, 3),
   ((List.finRange 4).any fun c =>
      nbit (cfg c) 0 && s.shelfSize < ring c + 64 * 2 ^ bits (cfg c) 5 2, 0x40)]

/-- SHELF_WAYS of the committed and of the shadow LST.CFG. -/
def State.waysOld (s : State) : Nat := bits (s.comN .lst 0x40) 3 0
def State.waysNew (s : State) : Nat := bits (s.reg .lst 0x40).toNat 3 0

/-- Enabled ways below the shelf of `n` ways under a way mask (R209, R335). -/
def waysOutside (mask n : Nat) : Nat := popBelow (16 - n) mask

/-- Is every one of the `n` highest ways enabled? -/
def shelfEnabled (mask n : Nat) : Bool := (List.range n).all fun i => nbit mask (15 - i)

/-- Does some thread's shelf structure reach beyond a shelf of `n` ways (R209)? -/
def State.shelfUsedBeyond (s : State) (n : Nat) : Bool :=
  allThreads.any fun t =>
    let h := s.th t
    let lim := 393216 * n
    lim < offBits h.hdtb + 4096 || lim < offBits h.tsbps + 256 || lim < offBits h.tsbpm + 256 || lim < offBits h.mshl

/-- LST: the table of R209, for a change of SHELF_WAYS; another COMMIT waits for a resize (R375). -/
def State.lstCodes (s : State) : List (Bool × Nat) :=
  let n := s.waysNew
  let m := s.comN .rpr 0x50
  if n = s.waysOld then [(s.ls.growth.isSome, 4)]
  else
    [(12 < n, 0x40), (waysOutside m n < 2, 0x41), (!shelfEnabled m n, 0x41), (s.ls.growth.isSome, 4),
     (n < s.waysOld && s.shelfUsedBeyond n, 0x42)]

/-- XLT (R244, R258). -/
def State.xltCodes (s : State) : List (Bool × Nat) :=
  [([0x40, 0x48].any fun o => 0x2_0000 < bits (s.reg .xlt o).toNat 49 32, 1),
   ((List.range 16).any fun r =>
      let lo := (s.reg .xlt (0x100 + 0x10 * r)).toNat
      let hi := (s.reg .xlt (0x108 + 0x10 * r)).toNat
      nbit lo 0 && hi / 2 ^ 14 ≤ lo / 2 ^ 14, 2)]

/-- IRQ (R384). -/
def State.irqCodes (s : State) : List (Bool × Nat) :=
  [(!s.runBit (Fin.ofNat 4 (bits (s.reg .irq 0x58).toNat 1 0)), 0x40)]

/-- SCL (R292). -/
def State.sclCodes (s : State) (dep : Bool) : List (Bool × Nat) :=
  [(decide (signed 48 (s.reg .scl 0x68).toNat < signed 48 (s.reg .scl 0x70).toNat), 2),
   (dep && s.depMissing .scl, 3)]

/-- TMG (R275, R276, R278, R284, R286; a switch in progress by R375). -/
def State.tmgCodes (s : State) (com : Bool) : List (Bool × Nat) :=
  let mgn := (s.reg .tmg 0x88).toNat
  let m := fun (n : Nat) => bits mgn (6 * n + 5) (6 * n)
  let vl := (s.reg .tmg 0x90).toNat
  let target := bits vl 2 0
  let clk := (s.reg .tmg 0xB0).toNat
  [(bits (s.reg .tmg 0x98).toNat 7 0 = 0, 1),
   ([1, 2, 3, 4, 5, 6].any fun n => m n < m (n + 1), 2),
   (!(1 ≤ bits vl 6 4 && bits vl 6 4 ≤ target && target ≤ bits vl 10 8), 2),
   (com && s.tmg.mux.isSome, 4),
   (!nbit clk 1 && !nbit clk 0, 0x40),
   (!wbit (s.reg .tmg 0xB8) (4 * s.mcThread), 0x41)]

/-- LREP entries: valid bit and set. -/
def lrepV (x : BitVec 16) : Bool := wbit x 15
def lrepSet (x : BitVec 16) : Nat := wbits x 11 0

/-- Shadow and committed LREP entries. -/
def State.lrepShadow (s : State) (i : Nat) : BitVec 16 := getD zero16 s.rpr.lrepSh i
def State.lrepCom (s : State) (i : Nat) : BitVec 16 := getD zero16 s.rpr.lrepCo i

/-- Do two valid entries of one way name one set (R335)? -/
def State.lrepTwice (s : State) (w : Nat) : Bool :=
  (List.range 4).any fun a => (List.range 4).any fun b =>
    a < b && lrepV (s.lrepShadow (4 * w + a)) && lrepV (s.lrepShadow (4 * w + b))
      && lrepSet (s.lrepShadow (4 * w + a)) = lrepSet (s.lrepShadow (4 * w + b))

/-- The shelf ways in force or being grown. -/
def State.shelfWays (s : State) : Nat :=
  match s.ls.growth with
  | some (n, _, _) => n
  | none => s.ls.ways

/-- Does a mask change rows or columns; does it change ways? -/
def State.maskChanged (s : State) (o : Nat) : Bool := s.reg .rpr o ≠ s.com .rpr o

/-- RPR (R335, R336, R338, R375). -/
def State.rprCodes (s : State) (dep : Bool) : List (Bool × Nat) :=
  let rc := s.maskChanged 0x40 || s.maskChanged 0x48
  let way := (s.reg .rpr 0x50).toNat
  [((List.range 64).any fun i => lrepV (s.lrepShadow i) && 3072 ≤ lrepSet (s.lrepShadow i), 1),
   ((List.range 16).any fun w => s.lrepTwice w, 2),
   (dep && s.maskChanged 0x50 && !s.en .lst, 3),
   (s.rpr.migrating ≠ 0 || !s.ls.sweep.isEmpty, 4),
   (rc && !s.quiesced .til, 6),
   (popBelow 34 (s.reg .rpr 0x40).toNat ≠ 32 || popBelow 34 (s.reg .rpr 0x48).toNat ≠ 32, 0x40),
   (!shelfEnabled way s.shelfWays, 0x41),
   (waysOutside way s.shelfWays < 2, 0x42),
   ((List.range 64).any fun i => s.lrepShadow i ≠ s.lrepCom i && s.wayEnabled (i / 4), 0x43)]

/-- The consistency check of a page (R333): 0 where it accepts.  `dep` asks for code 0x03 (R374), `com` is a COMMIT, which
waits for a change of the page that is still taking effect: a clock switch, a move of the Crock (R375). -/
def State.pageCheck (s : State) (p : Page) (dep com : Bool) : Nat :=
  match p with
  | .ldl => firstCode (s.ldlCodes dep)
  | .lst => firstCode s.lstCodes
  | .xlt => firstCode s.xltCodes
  | .irq => firstCode s.irqCodes
  | .scl => firstCode (s.sclCodes dep)
  | .tmg => firstCode (s.tmgCodes com)
  | .rpr => firstCode (s.rprCodes dep)
  | .til => if dep && s.depMissing .til then 3 else 0
  | .wsk => if dep && s.depMissing .wsk then 3 else 0
  | .crk => if com && s.crk.queue.any (·.op.isMap) then 4 else 0
  | .core | .thr | .stk | .ras | .pmc | .dbg => 0

/-! ## Putting a set in force (R374) -/

/-- Cut a map to the keys below a limit. -/
def below {α : Type} (m : List (Nat × α)) (lim : Nat) : List (Nat × α) := m.filter fun e => e.1 < lim

/-- Shrink the shelf to `n` ways at once: the contents beyond are discarded with their L1D copies (R196, R209). -/
def State.shrinkShelf (s : State) (n : Nat) : State :=
  let lim := 393216 * n
  let base := s.shelfBase / 64
  let keep := fun (b : Nat) => !(base + lim / 64 ≤ b && b < base + 0x80_0000 / 64)
  { s with ls := { s.ls with
      ways := n
      shelf := below s.ls.shelf lim
      shelfErrs := below s.ls.shelfErrs (lim / 64)
      shelfPois := s.ls.shelfPois.filter (· < lim / 64)
      shelfDead := s.ls.shelfDead.filter (· < lim / 64)
      l1 := s.ls.l1.filter fun e => keep e.2.blk } }

/-- A change of SHELF_WAYS takes hold (R209). -/
def State.resize (s : State) (old new : Nat) : State :=
  if new < old then s.shrinkShelf new
  else if old < new then { s with ls := { s.ls with growth := some (new, 15 - old, 0) } }
  else s

/-- A COMMIT of TMG takes hold: VL_WANT, VHOLD, a switch, the PLL, threads that may run again, and sleeping ones that stop
(R276, R278, R284, R286). -/
def State.tmgCommit (s0 : State) : State :=
  let s := s0.commitRegs .tmg
  let src := s.clkSrc
  let s1 := { s with tmg := Timing.muxWatch { s.tmg with
      vlWant := Fin.ofNat 8 s.vlTarget
      vhold := false
      mux := if src ≠ s0.clkSrc then some (src, s.tmg.time) else s.tmg.mux
      muxOld := if src ≠ s0.clkSrc then false else s.tmg.muxOld
      pllAlive := s.tmg.pllAlive && s.pllEn
      pllLock := s.tmg.pllLock && s.pllEn
      coast := s.tmg.coast && s.pllEn } }
  (allThreads.foldl (fun s t =>
    if s.runBit t && !(s.th t).halted then s.setTh t { s.th t with stopped := false }
    else if s.sleeperStops t then s.stopThread t else s) s1).startCal

/-- Ways that a new mask takes offline, rising, and those that it returns. -/
def waysCleared (old new : Nat) : List Nat := (List.range 16).filter fun w => nbit old w && !nbit new w
def waysSet (old new : Nat) : List Nat := (List.range 16).filter fun w => !nbit old w && nbit new w

/-- A COMMIT of RPR takes hold (R336, R338). -/
def State.rprCommit (s : State) : State :=
  let old := s.comN .rpr 0x50
  let new := (s.reg .rpr 0x50).toNat
  let back := waysSet old new
  { s.commitRegs .rpr with
    rpr := { s.rpr with
      lrepCo := s.rpr.lrepSh
      migrating := b2n (s.maskChanged 0x40) + b2n (s.maskChanged 0x48) }
    ls := { s.ls with
      sweep := s.ls.sweep ++ (waysCleared old new).map (·, 0)
      lines := s.ls.lines.filter fun e => !back.contains (cellWay e.1) } }

/-- The shadow set of a page takes hold (R374). -/
def State.commitPage (s : State) (p : Page) : State :=
  match p with
  | .tmg => s.tmgCommit
  | .rpr => s.rprCommit
  | .lst => (s.commitRegs .lst).resize s.waysOld s.waysNew
  | .scl => let s1 := s.commitRegs .scl; { s1 with scl := { s1.scl with wCo := s1.scl.wSh } }
  | _ => s.commitRegs p

/-- The outcome of a check (R333): REFUSE and CHECK_FAIL. -/
def State.checked (s : State) (p : Page) (code : Nat) : State :=
  (s.setFrame p { s.frame p with checkFail := code ≠ 0 }).refuse p code

/-- COMMIT (R333, R374). -/
def State.commit (s : State) (p : Page) : State :=
  let c := s.pageCheck p (s.en p) true
  if c ≠ 0 then s.checked p c else (s.commitPage p).checked p 0

/-- REVERT (R368). -/
def State.revert (s : State) (p : Page) : State :=
  let s1 := s.revertRegs p
  match p with
  | .scl => { s1 with scl := { s1.scl with wSh := s1.scl.wCo } }
  | .rpr => { s1 with rpr := { s1.rpr with lrepSh := s1.rpr.lrepCo } }
  | _ => s1

/-! ## Enable (R332, R333) -/

/-- The code of an enable, with COMMIT in the same write or without (R333, R337, R368). -/
def State.enableCode (s : State) (p : Page) (com : Bool) : Nat :=
  if p = .til ∧ !s.depMissing .til ∧ s.rpr.bist.isSome then 4 else s.pageCheck p true com

/-- What a block does when it is enabled: XLT empties its caches (R250, R265). -/
def State.enabled (s : State) (p : Page) : State :=
  let s1 := s.setFrame p { s.frame p with en := true, quiesced := (s.frame p).quiesce && (s.frame p).quiesced }
  match p with
  | .xlt => s1.tlbFlush
  | _ => s1.workAgain p

/-- The code of a disable (R332 to R334, R376, R388). -/
def State.disableCode (s : State) (p : Page) : Nat :=
  if p = .core ∨ p = .ras then 0x40
  else if s.depHeld p then 3
  else if !s.quiesced p then 6
  else 0

/-- Write CTRL.EN; an equal value is no transition. -/
def State.setEn (s : State) (p : Page) (v com : Bool) : State :=
  if v = s.en p then s
  else if v then
    let c := s.enableCode p com
    if c ≠ 0 then s.checked p c else ((s.commitPage p).enabled p).checked p 0
  else
    let c := s.disableCode p
    if c ≠ 0 then s.checked p c
    else (s.setFrame p { s.frame p with en := false }).checked p 0

/-! ## CTRL (R368) -/

/-- The writers of a page's CTRL: those that R367 allows for its shadowed registers (log 23). -/
def ctrlTag (p : Page) : WTag :=
  match p with
  | .lst | .scl | .rpr => .md
  | _ => .any

/-- One CTRL write acts in the order QUIESCE, EN, COMMIT, REVERT; an enable with COMMIT runs one check (R368). -/
def State.ctrlWrite (s : State) (p : Page) (v : Word) : State :=
  let rises := wbit v 0 && !s.en p
  let s1 := s.setQuiesce p (wbit v 1)
  let s2 := s1.setEn p (wbit v 0) (wbit v 2)
  let s3 := if wbit v 2 && !rises then s2.commit p else s2
  if wbit v 3 then s3.revert p else s3

/-- The CTRL bits as they stand. -/
def State.ctrlBits (s : State) (p : Page) : Nat := b2n (s.en p) + 2 * b2n (s.quiescing p)

/-- A CTRL write by a writer. -/
def State.ctrlBy (s : State) (w : Writer) (p : Page) (v : Nat) : State :=
  s.byTag p (ctrlTag p) w fun s => s.ctrlWrite p (BitVec.ofNat 64 v)

/-- CTRL.EN (R332, R333). -/
def execCtrlEn (w : Writer) (p : Page) (v : Bool) (s : State) : Res :=
  s.access w (.ctrlEn w p v) (s.ctrlBy w p (b2n v + 2 * b2n (s.quiescing p)))

/-- CTRL.QUIESCE (R331). -/
def execCtrlQuiesce (w : Writer) (p : Page) (v : Bool) (s : State) : Res :=
  s.access w (.ctrlQuiesce w p v) (s.ctrlBy w p (b2n (s.en p) + 2 * b2n v))

/-- CTRL.COMMIT (R333). -/
def execCtrlCommit (w : Writer) (p : Page) (s : State) : Res := s.access w (.ctrlCommit w p) (s.ctrlBy w p (s.ctrlBits p + 4))

/-- CTRL.REVERT (R368). -/
def execCtrlRevert (w : Writer) (p : Page) (s : State) : Res := s.access w (.ctrlRevert w p) (s.ctrlBy w p (s.ctrlBits p + 8))

end Sys2Proof.Machine
end

