-- ==== Sys2Proof/Machine/Service.lean ====
section
/-! DEFINITION. Background service: the scrubber, shelf growth, way sweeps, built-in tests and slot migration
(07_local_store_caches.md R209, R216, R218; 12_live_service_modes.md R335 to R338). -/

namespace Sys2Proof.Machine

open Sys2Proof

/-! ## Scrubber (R218) -/

/-- The next line that the scrubber visits: ways within a set, then sets. -/
def nextScrub (p : Nat × Nat) : Nat × Nat :=
  if p.2 < 15 then (p.1, p.2 + 1) else ((p.1 + 1) % 3072, 0)

/-- Shelf block of the lower half of a set and shelf way (R206). -/
def shelfBlock (set way : Nat) : Nat := ((15 - way) * 393216 + set * 128) / 64

/-- Read and check the line at a set and way; an invalid or disabled one is skipped. -/
def State.scrubLine (s : State) (set way : Nat) : State :=
  if s.shelfWayQ way then
    let b := shelfBlock set way
    (((s.charge 0x1D 1).shelfCheck .scrub b).shelfCheck .scrub (b + 1)).bump .lst 6 1
  else if !s.wayEnabled way then s
  else
    match lookup s.ls.lines (s.cell set way) with
    | none => s
    | some l => (((s.charge 0x1D 1).lsCheck l.line way .scrub).1).bump .lst 6 1

/-- SCRUB_INT in force, in oscillator cycles (R219). -/
def State.scrubInt (s : State) : Nat := cycUs * bits (s.comN .lst 0x40) 31 16

/-- SCRUB_READ: one interval (R218, R331). -/
def execScrubRead (s : State) : Res :=
  let s1 := s.scrubLine s.ls.scrub.1 s.ls.scrub.2
  due s
    (s.alive && s.en .lst && !s.quiescing .lst && s.scrubInt ≠ 0 && s.ls.scrubAt + s.scrubInt ≤ s.tmg.time)
    { s1 with ls := { s1.ls with scrub := nextScrub s.ls.scrub, scrubAt := s.tmg.time } }

/-! ## Sweeps (R209, R338) -/

/-- Sweep one set of a way: a dirty line is sent to memory, the line is invalidated; none while the port has no
room for the write. -/
def State.sweepSet (s : State) (way set : Nat) : Option State :=
  match lookup s.ls.lines (s.cell set way) with
  | none => some s
  | some l =>
    match s.lsClean l.line way .sweep true with
    | none => none
    | some (s1, _) => some ((s1.lsDrop l.line way).sideKill l.line .sweep)

/-- A write of a sweep has still to be answered. -/
def State.sweepWrites (s : State) : Bool :=
  s.noc.rt.any fun e => e.2.src = .sweep && !e.2.dead

/-- Has a growth swept all its ways (R209)? -/
def State.growthSwept (s : State) : Bool :=
  match s.ls.growth with
  | some (n, w, _) => w + n < 16
  | none => false

/-- May the growth sweep run: LST enabled and not quiesced (R331)? -/
def State.growthRuns (s : State) : Bool := s.en .lst && !s.quiesced .lst

/-- One step of a growth sweep: ways downward, sets upward (R209). -/
def State.growthStep (s : State) : State :=
  match s.ls.growth with
  | none => s
  | some (n, w, set) =>
    if !s.growthRuns || s.growthSwept then s
    else
      match s.sweepSet w set with
      | none => s
      | some s1 =>
        let next := if set + 1 < 3072 then (n, w, set + 1) else (n, w - 1, 0)
        { s1 with ls := { s1.ls with growth := some next } }

/-- The grown shelf: the new ways are zero, SHELF_SIZE changes, RESIZING clears (R209). -/
def State.growthEnd (s : State) (n : Nat) : State :=
  let s1 : State := { s with ls := { s.ls with ways := n, growth := none } }
  s1.event .lst 4

/-- SHELF_GROWTH_DONE: swept, zeroed and every write-back answered (R209). -/
def execShelfGrowthDone (s : State) : Res :=
  match s.ls.growth with
  | none => .next s
  | some (n, _, _) =>
    due s (s.growthSwept && s.growthRuns && !s.sweepWrites) (s.growthEnd n)

/-- One step of a way sweep (R338). -/
def State.waySweepStep (s : State) : State :=
  match s.ls.sweep with
  | [] => s
  | (w, set) :: r =>
    if 3072 ≤ set then s
    else
      match s.sweepSet w set with
      | none => s
      | some s1 => { s1 with ls := { s1.ls with sweep := (w, set + 1) :: r } }

/-- WAY_SWEEP_DONE (R338). -/
def execWaySweepDone (s : State) : Res :=
  match s.ls.sweep with
  | [] => .next s
  | (_, set) :: r =>
    let s1 : State := { s with ls := { s.ls with sweep := r } }
    due s (3072 ≤ set && !s.sweepWrites) ((s1.event .rpr 1).bump .rpr 2 1)

/-! ## Built-in tests (R335 to R337) -/

/-- Greatest index of a test target, exclusive. -/
def bistLimit (tgt : Nat) : Nat := if tgt = 2 then 16 else 34

/-- Is the row, column or way that a test names enabled in the committed map? -/
def State.bistEnabled (s : State) (tgt i : Nat) : Bool :=
  if tgt = 0 then wbit (s.com .rpr 0x40) i
  else if tgt = 1 then wbit (s.com .rpr 0x48) i
  else if tgt = 2 then wbit (s.com .rpr 0x50) i
  else false

/-- The first failing check of BIST_CMD (R335, R392), in the order that R333 gives a COMMIT (log 108). -/
def State.bistCode (s : State) (tgt i : Nat) : Nat :=
  firstCode
    [(tgt ≠ 3 && bistLimit tgt ≤ i, 1),
     (!s.en .rpr, 3),
     (s.rpr.bist.isSome, 4),
     (s.bistEnabled tgt i, 0x43),
     (tgt = 3 && s.en .til, 0x44)]

/-- BIST_CMD (R335). -/
def State.bistCmd (s : State) (tgt : BitVec 2) (i : Nat) : State :=
  let c := s.bistCode tgt.toNat i
  if c ≠ 0 then s.refuse .rpr c
  else
    let s1 : State := { s with rpr := { s.rpr with bist := some (tgt, i) } }
    s1.refuse .rpr 0

/-- BIST_CMD of a row (R335). -/
def execBistRow (w : Writer) (i : BitVec 6) (s : State) : Res :=
  s.access w (.bistRow w i) (s.byOwn .rpr w fun s => s.bistCmd 0 i.toNat)

/-- BIST_CMD of a column (R335). -/
def execBistColumn (w : Writer) (i : BitVec 6) (s : State) : Res :=
  s.access w (.bistColumn w i) (s.byOwn .rpr w fun s => s.bistCmd 1 i.toNat)

/-- BIST_CMD of a way (R335). -/
def execBistWay (w : Writer) (i : BitVec 6) (s : State) : Res :=
  s.access w (.bistWay w i) (s.byOwn .rpr w fun s => s.bistCmd 2 i.toNat)

/-- BIST_CMD of the whole array (R337). -/
def execBistWholeArray (w : Writer) (s : State) : Res :=
  s.access w (.bistWholeArray w) (s.byOwn .rpr w fun s => s.bistCmd 3 0)

/-- Are failing places in increasing order, without repeats? -/
def placesRise (l : List (Nat × Nat)) : Bool :=
  match l with
  | [] => true
  | [_] => true
  | a :: b :: r => (a.1 < b.1 || (a.1 = b.1 && a.2 < b.2)) && placesRise (b :: r)

/-- Do failing places belong to the test that runs? -/
def bistFits (tgt i : Nat) (l : List (Nat × Nat)) : Bool :=
  placesRise l && l.all fun p =>
    if tgt = 0 then p.1 = i && p.2 < 34
    else if tgt = 1 then p.1 < 34 && p.2 = i
    else if tgt = 2 then p.1 < 3072 && p.2 = 0
    else p.1 < 34 && p.2 < 34

/-- FIRST of BIST_STATUS: the failing PE's place along the row or column tested, the set, or the physical row. -/
def bistFirst (tgt : Nat) (l : List (Nat × Nat)) : Nat :=
  match l with
  | [] => 0
  | p :: _ => if tgt = 0 then p.2 else p.1

/-- A whole-array test leaves elements and slot flags at zero (R337). -/
def State.arrayCleared (s : State) : State :=
  { s with tile := { s.tile with
      elems := [], shadow := [], badElem := []
      slots := s.tile.slots.map fun x => { x with inuse := false, sat := false, inx := false } } }

/-- The end of a test (R335, R337). -/
def State.bistEnd (s : State) (tgt : Nat) (fails : List (Nat × Nat)) : State :=
  let s0 := if tgt = 3 then s.arrayCleared else s
  let s1 : State := { s0 with rpr := { s0.rpr with
      bist := none, pass := fails.isEmpty, nfail := min 255 fails.length, first := bistFirst tgt fails
      fails := if tgt = 3 then fails.take 4 else s0.rpr.fails } }
  (s1.event .rpr 0).bump .rpr 1 1

/-- BIST_DONE (R335, R337). -/
def execBistDone (fails : List (Nat × Nat)) (s : State) : Res :=
  match s.rpr.bist with
  | none => .next s
  | some (tgt, i) => due s (bistFits tgt.toNat i fails) (s.bistEnd tgt.toNat fails)

/-! ## Migration (R336) -/

/-- Is the slot of an element key an FP slot; the shadow set holds what its drain copied (R76)? -/
def State.keyFp (s : State) (k : Nat) : Bool :=
  if k / 1024 < 48 then s.tile.slots[Fin.ofNat 48 (k / 1024)].fp
  else match s.tile.drains with | d :: _ => d.fp | [] => false

/-- The end of a migration: elements keep their logical places; one whose parity fails takes its NaN, in the order of the
list of such elements (R76, R336, log 103). -/
def State.migrated (s : State) : State :=
  let n := s.rpr.migrating
  let s1 := s.tile.badElem.foldl (fun s k =>
    if k / 1024 = 48 then s.checkShadow (s.keyFp k) (k / 32 % 32) else s.checkElem (s.keyFp k) k) s
  let s2 : State := { s1 with rpr := { s1.rpr with migrating := 0 } }
  (s2.event .rpr 1).bump .rpr 2 n

/-- MIGRATION_DONE (R336). -/
def execMigrationDone (s : State) : Res := due s (s.rpr.migrating ≠ 0) s.migrated

end Sys2Proof.Machine
end

