-- ==== Sys2Proof/Machine/ThreadReset.lean ====
section
/-! DEFINITION. Per-thread reset (13_boundary_bringup.md R356, R358). -/

namespace Sys2Proof.Machine

open Sys2Proof

/-- Can the reset of a thread give up the tile unit now: the thread does not own it, the queue is empty, or it is
frozen with no started entry left (R358)? -/
def State.tileLets (s : State) (t : Thread) : Bool :=
  s.tile.owner ≠ some t || s.tile.queue.isEmpty || (s.tile.frozen && s.tile.queue.all fun q => !q.started)

/-- The owner's tile unit after a reset of its thread: discarded and released (R358). -/
def State.giveUpTile (s : State) (t : Thread) : State :=
  if s.tile.owner = some t then s.discard.disown else s

/-- A thread's span clears wait for no acknowledgment any more. -/
def State.dropClears (s : State) (t : Thread) : State :=
  { s with noc := { s.noc with clears := s.noc.clears.filter fun x => x.who ≠ .thread t } }

/-- The effect of a per-thread reset (R358): cold values, STAT 0x000F, PC 0x0_0030; RUN_CTL unchanged. -/
def State.threadReset (s : State) (t : Thread) : State :=
  ((((s.orphan t).giveUpTile t).dropClears t).setTh t { HThread.reset with pc := 0x30, stopped := !s.runBit t })

/-- Does the thread wait where an event may interrupt it (R164)? -/
def HThread.waitsOpen (h : HThread) : Bool := !h.wait.idle && h.wait.interruptible

/-- Ask for a reset of thread t: an interruptible wait is abandoned first; on a halted thread it takes effect at once (R358). -/
def State.askReset (s : State) (t : Thread) : State :=
  let s1 := if (s.th t).waitsOpen then s.abandon t else s
  if (s1.th t).halted && s1.tileLets t then s1.threadReset t else s1.setTh t { s1.th t with resetReq := true }

/-- A write of THR.TRST (R356). -/
def State.trst (s : State) (mask : Nat) : State :=
  allThreads.foldl (fun s t => if nbit mask t.val then s.askReset t else s) s

/-- TRST (R358). -/
def execTrst (w : Writer) (mask : BitVec 4) (s : State) : Res :=
  s.access w (.trst w mask) (s.byTag .thr .md w fun s => s.trst mask.toNat)

/-- THREAD_RESET_EFFECT at a boundary: the reset, once the tile unit can be given up; a wait that the thread has entered
since is abandoned before (R358). -/
def execThreadResetEffect (t : Thread) (s : State) : Res :=
  let h := s.th t
  due s (s.alive && h.resetReq && (h.halted || h.boundary) && (s.tileLets t || h.waitsOpen))
    (if s.tileLets t then s.threadReset t else s.abandon t)

end Sys2Proof.Machine
end

