-- ==== Sys2Proof/Machine/Mmio.lean ====
section
/-! DEFINITION. The 64 KiB register window: what a read shows and what a write does
(13_boundary_bringup.md R354, R362; 14_register_pages.md R365 to R392; 06_privilege_traps.md R190;
08_ladle_noc_port.md R234, R238). -/

namespace Sys2Proof.Machine

open Sys2Proof

/-! ## Reports (R345, R362) -/

/-- The ready report's payload (R362). -/
def State.readyPayload (s : State) (status : Nat) : List Byte :=
  bytesOf 8 s.posPacked ++ bytesOf 1 status ++ bytesOf 1 (b2n s.crk.active) ++ bytesOf 1 (b2n s.crk.trial)
    ++ bytesOf 1 0 ++ bytesOf 4 (if status = 0x80 ∨ status = 0x81 then 0 else s.crk.svn.toNat)
    ++ bytesOf 8 s.tmg.time ++ bytesOf 8 (s.ras.reason.toNat + s.ras.page.toNat * 256)

/-- Send a ready report; it takes the place of an earlier one that is not acknowledged yet (R362). -/
def State.sendReady (s : State) (status : Nat) : State :=
  let r : Report := { payload := s.readyPayload status, entry := none, sentAt := s.tmg.time, failed := false }
  ({ s with noc := { s.noc with ready := some r } }).queueReady

/-! ## The common frame (R365 to R373) -/

/-- ID.CODE: the page's letters in ASCII (R366). -/
def pageCode (p : Page) : Nat :=
  match p with
  | .core => 0x4552_4F43 | .thr => 0x52_4854 | .til => 0x4C_4954 | .stk => 0x4B_5453
  | .wsk => 0x4B_5357 | .ldl => 0x4C_444C | .lst => 0x54_534C | .xlt => 0x54_4C58
  | .irq => 0x51_5249 | .scl => 0x4C_4353 | .tmg => 0x47_4D54 | .crk => 0x4B_5243
  | .ras => 0x53_4152 | .pmc => 0x43_4D50 | .dbg => 0x47_4244 | .rpr => 0x52_5052

/-- ID (R366). -/
def pageId (p : Page) : Nat := pageCode p + (pageNo p).val * 2 ^ 32 + 2 ^ 40

/-- TMG.STATUS [30:8] (R296). -/
def State.tmgStatus (s : State) : Nat :=
  let t := s.tmg
  b2n t.coast * 2 ^ 8 + b2n t.pllLock * 2 ^ 9 + b2n t.pllAlive * 2 ^ 10 + b2n t.refAlive * 2 ^ 11
    + b2n t.src * 2 ^ 12 + b2n t.mux.isSome * 2 ^ 13 + b2n t.loLock * 2 ^ 14 + b2n t.move.isSome * 2 ^ 15
    + b2n t.vhold * 2 ^ 16 + t.vlCur.val * 2 ^ 17 + t.vlWant.val * 2 ^ 20
    + b2n t.calNow.isSome * 2 ^ 23 + t.calGrp.val * 2 ^ 24
    + b2n (t.groups.toList.any (·.str)) * 2 ^ 30

/-- Block fields of STATUS (R369, R382, R388, R392). -/
def State.statusBlock (s : State) (p : Page) : Nat :=
  match p with
  | .lst => b2n s.ls.growth.isSome * 2 ^ 8
  | .ras => b2n s.ras.fatal * 2 ^ 8
  | .rpr => b2n (s.rpr.migrating ≠ 0) * 2 ^ 8 + b2n (!s.ls.sweep.isEmpty) * 2 ^ 9
  | .tmg => s.tmgStatus
  | _ => 0

/-- STATUS (R369). -/
def State.pageStatus (s : State) (p : Page) : Nat :=
  let f := s.frame p
  b2n (f.en && !f.quiesced) + 2 * b2n f.quiesced + 4 * b2n f.checkFail + s.statusBlock p

/-- The common registers (R365). -/
def State.frameVal (s : State) (p : Page) (o : Nat) : Word :=
  let f := s.frame p
  match o with
  | 0x00 => BitVec.ofNat 64 (pageId p)
  | 0x08 => BitVec.ofNat 64 (s.ctrlBits p)
  | 0x10 => BitVec.ofNat 64 (s.pageStatus p)
  | 0x18 => f.refuse.setWidth 64
  | 0x20 => f.event
  | 0x28 => f.mask
  | 0x30 => f.errAddr
  | 0x38 => f.errInfo
  | _ => 0

/-- Write EVENT: each 1 clears its bit; a write that leaves EVENT zero opens the error capture again (R371, R372). -/
def State.eventClear (s : State) (p : Page) (v : Word) : State :=
  let f := s.frame p
  let e := f.event &&& ~~~ v
  s.setFrame p (if e = 0 then { f with event := e, held := false, errFatal := false } else { f with event := e })

/-- How many counters a page has, from 0xF00 on (R376 to R392). -/
def counterSlots (p : Page) : Nat :=
  match p with
  | .core => 1 | .thr => 2 | .til => 5 | .stk => 3 | .wsk => 3 | .ldl => 8 | .lst => 9 | .xlt => 7
  | .irq => 4 | .scl => 12 | .tmg => 4 | .crk => 6 | .ras => 3 | .pmc => 18 | .dbg => 1 | .rpr => 3

/-- An energy counter in pJ (R288, R385). -/
def State.energy (s : State) (i : Nat) : Nat := (s.scl.e[Fin.ofNat 8 i]).toNat / 16

/-- A counter's value (R373, R385). -/
def State.counterVal (s : State) (p : Page) (k : Nat) : Word :=
  if counterSlots p ≤ k then 0
  else if p = .scl ∧ 1 ≤ k ∧ k ≤ 8 then BitVec.ofNat 64 (s.energy (k - 1))
  else (s.counter p k).setWidth 64

/-- A write of a counter (R373). -/
def State.counterWrite (s : State) (p : Page) (k : Nat) (v : Word) : State :=
  if counterSlots p ≤ k then s
  else if p = .scl ∧ 1 ≤ k ∧ k ≤ 8 then
    { s with scl := { s.scl with e := vset s.scl.e (Fin.ofNat 8 (k - 1)) (BitVec.ofNat 52 (16 * (v.toNat % 2 ^ 48))) } }
  else s.setCounter p k (v.setWidth 48)

/-! ## Threads as the THR page shows them (R377) -/

/-- ACT (R377). -/
def State.act (s : State) (t : Thread) : Nat :=
  let h := s.th t
  if h.halted then 6
  else if h.stopped then 0
  else if !s.runBit t then 5
  else if h.sleep = .asleep then 3
  else if h.sleep = .deep then 4
  else if h.wait ≠ .none then 2
  else 1

/-- THR.STATE (R377). -/
def State.thrState (s : State) : Nat :=
  allThreads.foldl (fun a t =>
    let h := s.th t
    a + (s.act t + h.pl * 8 + b2n h.fs * 32 + b2n h.quiet * 64) * 2 ^ (8 * t.val)) 0

/-- The thread state that INDEX selects (R377). -/
def HThread.sel (h : HThread) (i : Nat) : Word :=
  match i with
  | 0x10 => h.a[0].setWidth 64
  | 0x11 => BitVec.ofInt 64 (signed 16 (h.a[0].toNat / 2 ^ 64))
  | 0x12 => h.a[1].setWidth 64
  | 0x13 => BitVec.ofInt 64 (signed 16 (h.a[1].toNat / 2 ^ 64))
  | 0x14 => h.pc.setWidth 64
  | 0x15 => h.stat
  | 0x16 => h.mode
  | 0x17 => h.lc[0].setWidth 64
  | 0x18 => h.ls[0].setWidth 64
  | 0x19 => h.le[0].setWidth 64
  | 0x1A => h.lc[1].setWidth 64
  | 0x1B => h.ls[1].setWidth 64
  | 0x1C => h.le[1].setWidth 64
  | 0x1D => h.flg
  | 0x1E => h.tstat
  | 0x1F => h.seed
  | 0x20 => h.rcnt.setWidth 64
  | _ => h.g[Fin.ofNat 16 i]

/-- Write the thread state that INDEX selects: the low bits of a narrower state (R377). -/
def HThread.put (h : HThread) (i : Nat) (v : Word) : HThread :=
  match i with
  | 0x10 => { h with a := h.a.set 0 (setBits h.a[0] 63 0 v.toNat) }
  | 0x11 => { h with a := h.a.set 0 (setBits h.a[0] 79 64 v.toNat) }
  | 0x12 => { h with a := h.a.set 1 (setBits h.a[1] 63 0 v.toNat) }
  | 0x13 => { h with a := h.a.set 1 (setBits h.a[1] 79 64 v.toNat) }
  | 0x14 => { h with pc := v.setWidth 17 }
  | 0x15 => h.withStat v
  | 0x16 => { h with mode := v }
  | 0x17 => h.setLoopReg 0x008 v
  | 0x18 => h.setLoopReg 0x009 v
  | 0x19 => h.setLoopReg 0x00A v
  | 0x1A => h.setLoopReg 0x00B v
  | 0x1B => h.setLoopReg 0x00C v
  | 0x1C => h.setLoopReg 0x00D v
  | 0x1D => { h with flg := v &&& 0x1F }
  | 0x1E => { h with tstat := v &&& 0x3F, tstatSync := v &&& 0x3F }
  | 0x1F => { h with seed := v }
  | 0x20 => { h with rcnt := v.setWidth 47 }
  | _ => { h with g := vset h.g (Fin.ofNat 16 i) v }

/-- REG_SEL (R377). -/
def State.selThread (s : State) : Thread := Fin.ofNat 4 (wbits (s.reg .thr 0x50) 1 0)
def State.selIndex (s : State) : Nat := wbits (s.reg .thr 0x50) 13 8

/-- The first refusal of REG_DATA: 0x01, 0x03, 0x04 (R377), in the order that R333 gives a COMMIT (log 108); 0 where it is
served. -/
def State.regDataCode (s : State) (w : Option Word) : Nat :=
  let i := s.selIndex
  let bad : Bool := match w with
    | some v => (i = 0x15 && !statOk v) || (i = 0x16 && !modeOk v)
    | none => false
  let a := s.act s.selThread
  if 0x20 < i ∨ bad then 1 else if !s.en .thr then 3 else if a = 0 ∨ a = 6 then 0 else 4

/-- A read of REG_DATA; a refused one returns zero (R377). -/
def State.regDataRead (s : State) : State × Word :=
  let c := s.regDataCode none
  if c ≠ 0 then (s.refuse .thr c, 0) else (s, (s.th s.selThread).sel s.selIndex)

/-- A write of REG_DATA (R377). -/
def State.regDataWrite (s : State) (v : Word) : State :=
  let c := s.regDataCode (some v)
  if c ≠ 0 then s.refuse .thr c
  else s.setTh s.selThread ((s.th s.selThread).put s.selIndex v)

/-! ## Registers computed from other state -/

/-- TIL.QSTAT (R378). -/
def State.qstat (s : State) : Nat :=
  s.tile.queue.length % 64 + b2n s.tile.frozen * 64 + b2n (!s.tile.drains.isEmpty) * 128 + b2n s.tile.deferred * 256

/-- One bit per tray or slot. -/
def maskOf {n : Nat} (f : Fin n → Bool) : Nat := (List.finRange n).foldl (fun a i => a + b2n (f i) * 2 ^ i.val) 0

/-- CHn_STATUS.STATE (R234): a channel of a disabled block is idle, as at reset (log 55). -/
def State.chState (s : State) (c : Fin 4) : Nat :=
  let x := s.chan c
  if x.halted then 2 else if x.desc.isSome then 1 else if s.en .ldl && s.quiesced .ldl then 3 else 0

/-- CHn_STATUS (R234). -/
def State.chStatus (s : State) (c : Fin 4) : Nat :=
  let x := s.chan c
  s.chState c + x.kind.toNat * 4 + x.err.toNat * 2 ^ 8 + b2n x.pois * 2 ^ 16 + b2n x.wskip * 2 ^ 17
    + b2n x.ovf * 2 ^ 18 + x.prog.toNat % 2 ^ 32 * 2 ^ 32

/-- CRK.WQ_STATUS (R306). -/
def State.wqStatus (s : State) : Nat :=
  let k := s.crk
  k.queue.length + s.mcCount * 16 + b2n k.halt * 128 + b2n k.pfail * 256
    + b2n (match k.now with | some r => r.entry.op.isMap | none => false) * 512
    + k.next.toNat * 2 ^ 16 + k.done.toNat * 2 ^ 32 + k.failed.toNat * 2 ^ 48

/-- CRK.SCAN_STATUS (R387): counts saturate. -/
def State.scanStatus (s : State) : Nat :=
  let k := s.crk
  k.scanPos % 2 ^ 19 + b2n k.scanBusy * 2 ^ 19 + min k.scanWeak 0xFFFF * 2 ^ 20 + min k.scanRef 0xFFFF * 2 ^ 36
    + min k.scanUe 0xFFF * 2 ^ 52

/-- CRK.SLOT_STATUS (R328). -/
def State.slotStatus (s : State) : Nat :=
  let k := s.crk
  b2n k.active + b2n k.swpend * 2 + b2n k.vbusy * 4 + b2n k.vpass * 8 + k.vres.toNat * 16 + k.svn.toNat * 256

/-- RPR.BIST_STATUS and BIST_FAILi (R335). -/
def State.bistStatus (s : State) : Nat :=
  b2n s.rpr.bist.isSome + b2n s.rpr.pass * 2 + s.rpr.first % 4096 * 4 + min s.rpr.nfail 255 * 2 ^ 14
def State.bistFail (s : State) (i : Nat) : Nat :=
  match s.rpr.fails[i]? with
  | some (r, c) => r % 64 + c % 64 * 64 + 4096
  | none => 0

/-- The weight entry that WT_SEL selects (R290). -/
def State.wtKey (s : State) : Nat := 8 * wbits (s.reg .scl 0x40) 5 0 + wbits (s.reg .scl 0x40) 10 8

/-- The line-replacement entry that LREP_SEL selects (R335). -/
def State.lrepKey (s : State) : Nat := wbits (s.reg .rpr 0x58) 5 0

/-- Read-only registers of CORE, THR, TIL, STK, LST, XLT, IRQ (R376 to R384). -/
def State.readCore (s : State) (p : Page) (o : Nat) : Nat :=
  match p with
  | .core =>
    if o = 0x40 then s.pos.core.toNat + s.pos.cluster.toNat * 16 + s.pos.chip.toNat * 1024
    else if o = 0x48 then s.winIdx else if o = 0x50 then 0x1_0740 else 0
  | .thr => if o = 0x48 then s.thrState else 0
  | .til =>
    if o = 0x40 then (match s.tile.owner with | some t => 1 + 2 * t.val | none => 0)
    else if o = 0x48 then s.qstat
    else if o = 0x50 then s.tile.tprog.toNat
    else if o = 0x58 then maskOf fun T : TrayNo => (s.tray T).inuse else 0
  | .stk =>
    if o = 0x40 then maskOf fun i : Fin 48 => (s.slot i).inuse
    else if o = 0x48 then maskOf fun i : Fin 48 => (s.slot i).sat
    else if o = 0x50 then maskOf fun i : Fin 48 => (s.slot i).inx
    else if o = 0x58 then (s.reg .stk 0x58).toNat else 0
  | .wsk => if o = 0x40 then (s.reg .wsk 0x40).toNat else 0
  | .lst => if o = 0x48 then s.shelfSize else 0
  | .xlt => if o = 0x80 then s.spanCount else 0
  | .irq => if o = 0x40 then s.pend.toNat else 0
  | _ => 0

/-- Computed registers of LDL (R381). -/
def State.readLdl (s : State) (o : Nat) : Nat :=
  if o < 0x140 then
    let c := Fin.ofNat 4 ((o - 0x40) / 0x40)
    let x := s.chan c
    let k := o % 0x40
    if k = 0x10 then x.head.toNat else if k = 0x18 then x.tail.toNat else if k = 0x20 then s.chStatus c
    else if k = 0x30 then x.prog.toNat else 0
  else if o = 0x150 then b2n s.noc.barRel + 2 * b2n s.noc.barDup + 256 * s.noc.barGen.toNat
  else if o = 0x158 then s.noc.rt.length
  else 0

/-- Computed registers of SCL and TMG (R275, R280, R290, R292, R296). -/
def State.readScl (s : State) (p : Page) (o : Nat) : Word :=
  match p with
  | .scl =>
    if o = 0x48 then (getD zero16 s.scl.wCo s.wtKey).setWidth 64
    else if o = 0x50 then BitVec.ofInt 64 s.balPj
    else if o = 0x58 then BitVec.ofNat 64 s.rsvPj
    else if o = 0x80 then BitVec.ofNat 64 (s.scl.grantSeq.toNat + b2n s.scl.seen * 2 ^ 16) else 0
  | .tmg =>
    if o = 0x40 then s.tmg.stepMon.setWidth 64
    else if o = 0x58 then s.tmg.calLast
    else if 0x60 ≤ o ∧ o < 0x88 then s.trimReg ((o - 0x60) / 8)
    else if o = 0xA8 then BitVec.ofNat 64 (s.tmg.loCnt.toNat + s.tmg.loTrim.toNat * 2 ^ 16)
    else if o = 0xC0 then s.tmg.temp.setWidth 64 else 0
  | _ => 0

/-- Computed registers of CRK (R306, R387). -/
def State.readCrk (s : State) (o : Nat) : Nat :=
  if o = 0x68 then s.wqStatus
  else if 0xB0 ≤ o ∧ o < 0xD0 then (s.crk.drData[Fin.ofNat 4 ((o - 0xB0) / 8)]).toNat
  else if o = 0xD0 then b2n s.crk.drValid + 2 * b2n s.crk.drUe
  else if o = 0xD8 then s.crk.drefuse.toNat
  else if o = 0xF0 then b2n s.mapQueued + 2 * b2n s.crk.moveFail
  else if o = 0x108 then s.scanStatus
  else if o = 0x110 then s.slotStatus
  else 0

/-- Computed registers of RAS, DBG and RPR (R388, R391, R392). -/
def State.readRas (s : State) (p : Page) (o : Nat) : Nat :=
  match p with
  | .ras =>
    if o = 0x40 then s.ras.reason.toNat + s.ras.page.toNat * 256 else if o = 0x50 then s.ras.mcPages.toNat else 0
  | .dbg => if o = 0x58 then s.wrap.wir.toNat + b2n (s.phase = .testReset) * 64 else 0
  | .rpr =>
    if o = 0x60 then (s.lrepShadow s.lrepKey).toNat
    else if o = 0x70 then s.bistStatus
    else if 0x78 ≤ o ∧ o < 0x98 then s.bistFail ((o - 0x78) / 8) else 0
  | _ => 0

/-- What a read of offset `o` of page `p` shows, REG_DATA apart. -/
def State.pageVal (s : State) (p : Page) (o : Nat) : Word :=
  if o < 0x40 then s.frameVal p o
  else if 0xF00 ≤ o then s.counterVal p ((o - 0xF00) / 8)
  else if (regInfo p o).isSome then s.reg p o
  else
    match p with
    | .ldl => BitVec.ofNat 64 (s.readLdl o)
    | .scl | .tmg => s.readScl p o
    | .crk => BitVec.ofNat 64 (s.readCrk o)
    | .ras | .dbg | .rpr => BitVec.ofNat 64 (s.readRas p o)
    | .core | .thr | .til | .stk | .wsk | .lst | .xlt | .irq | .pmc => BitVec.ofNat 64 (s.readCore p o)

/-- A read of the window at an 8-byte-aligned offset. -/
def State.mmioRead (s : State) (off : Nat) : State × Word :=
  if off = 0x1058 then s.regDataRead
  else (s, s.pageVal (pageOf (off / 0x1000)) (off % 0x1000))

/-! ## Commands of the pages -/

/-- The BAR arrives (R238): it waits for every write and atomic in the table; a second arrival is not sent. -/
def State.barArrive (s : State) : State :=
  if s.noc.barArrived ∨ s.noc.barRel then { s with noc := { s.noc with barDup := true } }
  else
    let need := s.noc.rt.filter fun e => !e.2.dead && (e.2.typ = 1 || e.2.typ = 2 || e.2.typ = 6)
    { s with noc := { s.noc with barArrived := true, barWait := some (need.map (·.1)) } }

/-- CHn_STATUS: each 1 clears POIS, WSKIP or OVF (R234). -/
def State.chClear (s : State) (c : Fin 4) (v : Word) : State :=
  let x := s.chan c
  s.setChan c { x with pois := x.pois && !wbit v 16, wskip := x.wskip && !wbit v 17, ovf := x.ovf && !wbit v 18 }

/-- CHn_CTRL (R234): RESUME, SKIP, ABORT in this order. -/
def State.chCtrl (s : State) (c : Fin 4) (v : Word) : State :=
  let s1 := if wbit v 0 then s.chResume c else s
  let s2 := if wbit v 1 then s1.chSkip c else s1
  if wbit v 2 then s2.chAbort c else s2

/-- BAR_STATUS: each 1 clears REL or DUP (R238, R381). -/
def State.barClear (s : State) (v : Word) : State :=
  { s with noc := { s.noc with barRel := s.noc.barRel && !wbit v 0, barDup := s.noc.barDup && !wbit v 1 } }

/-- Span clear (R256): every copy leaves the first-level TLBs, and translations that are not in use yet are made
again. -/
def State.spanClear (s : State) (i rsv : Nat) : State :=
  if rsv ≠ 0 then s.refuse .xlt 1
  else
    let s1 := s.dropCopies i
    (({ s1 with xl := { s1.xl with
        spans := if s.spanValid i then drop s.xl.spans i else s.xl.spans } }).retranslate true).refuse .xlt 0

/-- SPAN_CMD (R256). -/
def State.spanCmd (s : State) (v : Word) : State :=
  let i := wbits v 11 0
  let rsv := wbits v 63 14
  match wbits v 13 12 with
  | 0 => s.spanLoad i rsv
  | 1 => s.spanClear i rsv
  | 2 => s.spanReadBack i rsv
  | _ => s.spanSetAD i rsv

/-- The edge latches that PEND_CLR and PEND_SET reach: sources that are edge-sensitive and not reserved (R189, R190). -/
def edgeMask : Word :=
  BitVec.ofNat 64 ((List.range 64).foldl (fun a n =>
    a + b2n (!levelSource n && n ≠ 29 && n ≠ 30 && n ≠ 31) * 2 ^ n) 0)

/-- PEND_CLR and PEND_SET (R190). -/
def State.pendClr (s : State) (v : Word) : State := { s with irq := { s.irq with edge := s.irq.edge &&& ~~~ (v &&& edgeMask) } }
def State.pendSet (s : State) (v : Word) : State := { s with irq := { s.irq with edge := s.irq.edge ||| (v &&& edgeMask) } }

/-- WT_DATA: the shadow of the selected weight (R290). -/
def State.wtWrite (s : State) (v : Word) : State :=
  { s with scl := { s.scl with wSh := setD zero16 s.scl.wSh s.wtKey (v.setWidth 16) } }

/-- CAL_CMD (R275). -/
def State.calCmd (s : State) (v : Word) : State :=
  if wbit v 6 then s.queueCal allGroups
  else if wbits v 5 0 < 40 then s.queueCal [Fin.ofNat 40 (wbits v 5 0)]
  else s.refuse .tmg 1

/-- LREP_DATA: the shadow of the selected entry (R335). -/
def State.lrepWrite (s : State) (v : Word) : State :=
  { s with rpr := { s.rpr with lrepSh := setD zero16 s.rpr.lrepSh s.lrepKey ((v &&& 0x8FFF).setWidth 16) } }

/-- BIST_CMD; its reserved bits are ignored (R16, R335). -/
def State.bistWrite (s : State) (v : Word) : State := s.bistCmd (v.setWidth 2) (wbits v 7 2)

/-- PM_CMD.READ: the word with its parity bits; BADPAR stays as it is (R391). -/
def State.pmCmdRead (s : State) : State :=
  let a := wbits (s.reg .dbg 0x40) 16 0
  s.setReg .dbg 0x48 ((s.reg .dbg 0x48 &&& 0x1_0000) ||| (s.pmWord a).setWidth 64)

/-- PM_CMD.WRITE: the word with its parity bits, or both inverted (R391). -/
def State.pmCmdWrite (s : State) : State :=
  let a := wbits (s.reg .dbg 0x40) 16 0
  let d := s.reg .dbg 0x48
  let x := pmEncode (d.setWidth 14)
  s.setPm a (if wbit d 16 then x ^^^ 0xC000 else x)

/-- PM_CMD (R391). -/
def State.pmCmd (s : State) (v : Word) : State :=
  if !s.en .dbg then s.refuse .dbg 3
  else if wbit v 0 && wbit v 1 then s.refuse .dbg 2
  else if wbit v 0 then s.pmCmdRead
  else if wbit v 1 then s.pmCmdWrite
  else s

/-- WCMD (R306). -/
def State.wcmdWrite (s : State) (v : Word) : State :=
  if wbit v 20 then s.wcmdRefresh (wbits v 18 0) (wbit v 19) (wbits v 63 21)
  else s.wcmd (wbits v 18 0) (wbit v 19) (wbits v 63 21)

/-- WQ_CTRL (R304): DISCARD, then RESUME. -/
def State.wqCtrl (s : State) (v : Word) : State :=
  let s1 := if wbit v 1 then s.wqDiscard else s
  if wbit v 0 then s1.wqResume else s1

/-- SLOT_CTRL (R328): VERIFY, then SWITCH. -/
def State.slotCtrl (s : State) (v : Word) : State :=
  let s1 := if wbit v 0 then s.verifyCmd else s
  if wbit v 1 then s1.switchCmd else s1

/-! ## Writes -/

/-- Bits of a register that RWL locks now: PL, RSZ and the ring of a channel while LDL has EN = 1 (R17, R230). -/
def State.lockedBits (s : State) (p : Page) (o : Nat) : Word :=
  if p = .ldl ∧ s.en .ldl ∧ o < 0x140 then (if o % 0x40 = 0 then 0x3E else if o % 0x40 = 8 then 0xFFFF_FFFF_FFFF_FFFF else 0)
  else 0

/-- HIWAT and LOWAT are 48-bit signed and read sign-extended (R292). -/
def regForm (p : Page) (o : Nat) (v : Word) : Word :=
  if p = .scl ∧ (o = 0x68 ∨ o = 0x70) then (v.setWidth 48).signExtend 64 else v

/-- Write a register that holds a value (R374); a locked field keeps it and REFUSE takes 0x05 (R17). -/
def State.regPut (s : State) (p : Page) (o : Nat) (r : RegInfo) (v : Word) : State :=
  let l := s.lockedBits p o
  let m := BitVec.ofNat 64 r.mask &&& ~~~ l
  let s1 := s.setReg p o (regForm p o ((s.reg p o &&& ~~~ m) ||| (v &&& m)))
  if l = 0 then s1 else s1.refuse p 5

/-- Commands and special registers of CORE, THR, STK, WSK, LDL, XLT, IRQ. -/
def State.cmdLow (s : State) (w : Writer) (p : Page) (o : Nat) (v : Word) : State :=
  match p with
  | .core => if o = 0x58 then s.byTag .core .m w (·.sendReady (wbits v 7 0)) else s
  | .thr =>
    if o = 0x40 then s.byTag .thr .md w (·.trst (wbits v 3 0))
    else if o = 0x58 then s.byTag .thr .md w (·.regDataWrite v) else s
  | .stk => if o = 0x58 then s.byTag .stk .any w fun s => s.setReg .stk 0x58 (s.reg .stk 0x58 &&& ~~~ v) else s
  | .wsk => if o = 0x40 then s.byTag .wsk .any w fun s => s.setReg .wsk 0x40 (s.reg .wsk 0x40 &&& ~~~ v) else s
  | .ldl =>
    s.byTag .ldl .any w fun s =>
      if o < 0x140 then
        let c := Fin.ofNat 4 ((o - 0x40) / 0x40)
        let k := o % 0x40
        if k = 0x10 then s.headWrite c (v.setWidth 16) else if k = 0x20 then s.chClear c v
        else if k = 0x28 then s.chCtrl c v else s
      else if o = 0x148 then s.barArrive
      else if o = 0x150 then s.barClear v
      else s
  | .xlt => if o = 0x78 then s.byTag .xlt .any w (·.spanCmd v) else s
  | .irq =>
    if o = 0x48 then s.byTag .irq .any w (·.pendClr v)
    else if o = 0x50 then s.byTag .irq .any w (·.pendSet v) else s
  | _ => s

/-- Commands of CRK (R306, R322, R324, R328, R387). -/
def State.cmdCrk (s : State) (w : Writer) (o : Nat) (v : Word) : State :=
  if o = 0x60 then s.byTag .crk .m w (·.wcmdWrite v)
  else if o = 0x70 then s.byTag .crk .m w (·.wqCtrl v)
  else if o = 0xA0 then s.byTag .crk .d w fun s => s.dwcmd (wbits v 18 0) (wbit v 19) (wbits v 63 20)
  else if o = 0xA8 then s.byTag .crk .d w fun s => s.drcmd (wbits v 18 0) (wbits v 63 19)
  else if o = 0xE0 then s.byTag .crk .m w fun s => s.moveCmd (wbits v 11 0) (wbits v 27 16) (wbit v 28)
  else if o = 0xE8 then s.byTag .crk .m w fun s => if wbit v 0 then s.mapCmd else s
  else if o = 0xF8 then s.byTag .crk .m w fun s => if wbit v 0 then s.scanCmd else s
  else if o = 0x118 then s.byTag .crk .m w (·.slotCtrl v)
  else s

/-- Commands and special registers of SCL, TMG, CRK, RAS, DBG, RPR; `who` is the thread that writes (R390). -/
def State.cmdHigh (s : State) (w : Writer) (p : Page) (o : Nat) (v : Word) (who : Option Thread) : State :=
  match p with
  | .scl => if o = 0x48 then s.byTag .scl .md w (·.wtWrite v) else s
  | .tmg => if o = 0x50 then s.byTag .tmg .md w (·.calCmd v) else s
  | .crk => s.cmdCrk w o v
  | .ras =>
    if o = 0x48 then s.byTag .ras .m w fun s => s.fatalCond (wbits v 7 0) .ras who
    else if o = 0x50 then s.byTag .ras .any w fun s =>
      { s with ras := { s.ras with mcPages := s.ras.mcPages &&& ~~~ (v.setWidth 16) } }
    else s
  | .dbg => if o = 0x50 then s.byTag .dbg .md w (·.pmCmd v) else s
  | .rpr =>
    if o = 0x60 then s.byOwn .rpr w (·.lrepWrite v)
    else if o = 0x68 then s.byOwn .rpr w (·.bistWrite v)
    else if 0x70 ≤ o ∧ o < 0x98 then s.byOwn .rpr w id else s
  | _ => s

/-- A write to a common register (R365). -/
def State.frameWrite (s : State) (w : Writer) (p : Page) (o : Nat) (v : Word) : State :=
  if o = 0x08 then s.byTag p (ctrlTag p) w (·.ctrlWrite p v)
  else if o = 0x20 then s.byTag p .any w (·.eventClear p v)
  else if o = 0x28 then s.byTag p .any w fun s => s.setFrame p { s.frame p with mask := v }
  else s

/-- Do the registers that hold a value at this place refuse every other writer with 0x05 by a rule of their own: the repair
registers, the program-memory bounds, the physical regions and VL_CTRL (R244, R258, R276, R335)? -/
def ownRule (p : Page) (o : Nat) : Bool :=
  p = .rpr || (p = .tmg && o = 0x90) || (p = .xlt && (o = 0x40 || o = 0x48 || (0x100 ≤ o && o < 0x200)))

/-- A write to offset `o` of page `p`. -/
def State.pageWrite (s : State) (w : Writer) (p : Page) (o : Nat) (v : Word) (who : Option Thread) : State :=
  if o < 0x40 then s.frameWrite w p o v
  else if 0xF00 ≤ o then s.byTag p .any w (·.counterWrite p ((o - 0xF00) / 8) v)
  else
    match regInfo p o with
    | some r => if ownRule p o then s.byOwn p w (·.regPut p o r v) else s.byTag p r.tag w (·.regPut p o r v)
    | none =>
      match p with
      | .core | .thr | .stk | .wsk | .ldl | .xlt | .irq => s.cmdLow w p o v
      | .scl | .tmg | .crk | .ras | .dbg | .rpr => s.cmdHigh w p o v who
      | .til | .lst | .pmc => s

/-- A write of the window: 8 bytes at an 8-byte-aligned offset; no tag allows another core's (R354, R367).  `who` is the
thread whose store it is (R390). -/
def State.mmioWrite (s : State) (w : Writer) (off : Nat) (v : Word) (who : Option Thread := none) : State :=
  if off % 8 ≠ 0 then s
  else s.pageWrite w (pageOf (off / 0x1000)) (off % 0x1000) v who

/-! ## The commands of the table -/

/-- REGISTER_WRITE (R354, R367, R374). -/
def execRegisterWrite (w : Writer) (off : BitVec 16) (v : Word) (s : State) : Res :=
  s.access w (.registerWrite w off v) (s.mmioWrite w off.toNat v)

/-- REG_DATA_READ, by any reader (R367, R377). -/
def execRegDataRead (w : Writer) (s : State) : Res :=
  s.access w (.regDataRead w) s.regDataRead.1

/-- REG_DATA_WRITE (R377). -/
def execRegDataWrite (w : Writer) (v : Word) (s : State) : Res :=
  s.access w (.regDataWrite w v) (s.byTag .thr .md w (·.regDataWrite v))

/-- CHN_HEAD_WRITE (R231). -/
def execChnHeadWrite (w : Writer) (ch : Fin 4) (v : BitVec 16) (s : State) : Res :=
  s.access w (.chnHeadWrite w ch v) (s.byTag .ldl .any w (·.headWrite ch v))

/-- RESUME (R234). -/
def execResume (w : Writer) (ch : Fin 4) (s : State) : Res :=
  s.access w (.resume w ch) (s.byTag .ldl .any w (·.chResume ch))

/-- SKIP (R234). -/
def execSkip (w : Writer) (ch : Fin 4) (s : State) : Res :=
  s.access w (.skip w ch) (s.byTag .ldl .any w (·.chSkip ch))

/-- ABORT (R234). -/
def execAbort (w : Writer) (ch : Fin 4) (s : State) : Res :=
  s.access w (.abort w ch) (s.byTag .ldl .any w (·.chAbort ch))

/-- BAR_ARRIVE (R238). -/
def execBarArrive (w : Writer) (s : State) : Res :=
  s.access w (.barArrive w) (s.byTag .ldl .any w State.barArrive)

/-- SPAN_LOAD (R256). -/
def execSpanLoad (w : Writer) (i : BitVec 12) (rsv : BitVec 50) (s : State) : Res :=
  s.access w (.spanLoad w i rsv) (s.byTag .xlt .any w (·.spanLoad i.toNat rsv.toNat))

/-- SPAN_CLEAR (R256). -/
def execSpanClear (w : Writer) (i : BitVec 12) (rsv : BitVec 50) (s : State) : Res :=
  s.access w (.spanClear w i rsv) (s.byTag .xlt .any w (·.spanClear i.toNat rsv.toNat))

/-- SPAN_READ_BACK (R256). -/
def execSpanReadBack (w : Writer) (i : BitVec 12) (rsv : BitVec 50) (s : State) : Res :=
  s.access w (.spanReadBack w i rsv) (s.byTag .xlt .any w (·.spanReadBack i.toNat rsv.toNat))

/-- SPAN_SET_A_AND_D (R256). -/
def execSpanSetAAndD (w : Writer) (i : BitVec 12) (rsv : BitVec 50) (s : State) : Res :=
  s.access w (.spanSetAAndD w i rsv) (s.byTag .xlt .any w (·.spanSetAD i.toNat rsv.toNat))

/-- CAL_CMD of one group (R275). -/
def execCalCmdGroup (w : Writer) (g : BitVec 6) (s : State) : Res :=
  s.access w (.calCmdGroup w g) (s.byTag .tmg .md w (·.calCmd (g.setWidth 64)))

/-- CAL_CMD.ALL (R275). -/
def execCalCmdAll (w : Writer) (s : State) : Res :=
  s.access w (.calCmdAll w) (s.byTag .tmg .md w (·.calCmd 0x40))

/-- PEND_CLR (R190). -/
def execPendClr (w : Writer) (v : Word) (s : State) : Res :=
  s.access w (.pendClr w v) (s.byTag .irq .any w (·.pendClr v))

/-- PEND_SET (R190). -/
def execPendSet (w : Writer) (v : Word) (s : State) : Res :=
  s.access w (.pendSet w v) (s.byTag .irq .any w (·.pendSet v))

/-- READY_SEND (R362). -/
def execReadySend (w : Writer) (status : Byte) (s : State) : Res :=
  s.access w (.readySend w status) (s.byTag .core .m w (·.sendReady status.toNat))

/-- FATAL_RAISE (R345). -/
def execFatalRaise (w : Writer) (reason : Byte) (s : State) : Res :=
  s.access w (.fatalRaise w reason) (s.byTag .ras .m w (·.fatalCond reason.toNat .ras))

/-- PM_CMD.READ (R391). -/
def execPmCmdRead (w : Writer) (s : State) : Res :=
  s.access w (.pmCmdRead w) (s.byTag .dbg .md w (·.pmCmd 1))

/-- PM_CMD.WRITE (R391). -/
def execPmCmdWrite (w : Writer) (s : State) : Res :=
  s.access w (.pmCmdWrite w) (s.byTag .dbg .md w (·.pmCmd 2))

end Sys2Proof.Machine
end

