-- ==== Sys2Proof/Machine/LoadStore.lean ====
section
/-! DEFINITION. Scalar loads and stores and the store buffer
(05_threads_volis14.md R144, R164 to R167; 07_local_store_caches.md R195, R196, R201, R207;
08_ladle_noc_port.md R223, R229; 11_crock_persistence.md R300; 13_boundary_bringup.md R354). -/

namespace Sys2Proof.Machine

open Sys2Proof

/-! ## Translation of an access -/

/-- A part before translation. -/
def newPart (x : Word × Nat) : Part := { va := x.1, len := x.2, pa := none, asked := false, got := none }

/-- How the translation of all parts ends. -/
inductive PartsXl where
  | ok (ps : List Part)
  | wait (ps : List Part)
  | fault (va info : Word)
  deriving DecidableEq, Repr

/-- Translate the parts in order; every part before any access (R166).  `done` holds those translated. -/
def State.xlParts (s : State) (t : Thread) (rd wr : Bool) (done : List Part) (todo : List Part) : State × PartsXl :=
  match todo with
  | [] => (s, .ok done)
  | p :: r =>
    match p.pa with
    | some _ => s.xlParts t rd wr (done ++ [p]) r
    | none =>
      match s.translate p.va (s.th t).pl rd wr (.thread t) with
      | (s1, .ok pa pol) => s1.xlParts t rd wr (done ++ [{ p with pa := some (pa, pol) }]) r
      | (s1, .fault kind level span) => (s1, .fault p.va (xlInfo kind level wr span))
      | (s1, _) => (s1, .wait (done ++ p :: r))

/-- A part's physical address and policy. -/
def Part.addr (p : Part) : Nat := match p.pa with | some (a, _) => a | none => 0
def Part.pol (p : Part) : Nat := match p.pa with | some (_, c) => c | none => 0

/-- The sizes of a header, by SIZE code (R224). -/
def sizeCode (n : Nat) : Nat := if n = 1 then 0 else if n = 2 then 1 else if n = 4 then 2 else if n = 8 then 3 else if n = 64 then 4 else 5

/-- A part cut at an offset. -/
def Part.cut (p : Part) (o n : Nat) : Part :=
  { p with va := p.va + BitVec.ofNat 64 o, len := n, pa := p.pa.map fun x => (x.1 + o, x.2) }

/-- The requests that a part is made of: aligned units on a device page, one Crock line each in the Crock window,
else itself (R201, R300). -/
def State.expand (s : State) (p : Part) : List Part :=
  let a := p.addr
  match s.window a with
  | .mem => if p.pol = 3 then (alignedUnits 8 a p.len).map fun u => p.cut (u.1 - a) u.2 else [p]
  | .crock _ =>
    let k := 32 - a % 32
    if p.len ≤ k then [p] else [p.cut 0 k, p.cut k (p.len - k)]
  | _ => [p]

/-! ## Loads (R165 to R167) -/

/-- The bytes of a part as the store buffer holds them. -/
def State.sbPart (s : State) (p : Part) : List (Option Byte) := (List.range p.len).map fun i => s.sbByte (p.addr + i)

/-- What the store buffer holds of the parts that are not on a device page: all, some or none of their bytes. -/
inductive SbLook where
  | all | some | none
  deriving DecidableEq, Repr

/-- Every load checks every entry (R167). -/
def State.sbLook (s : State) (ps : List Part) : SbLook :=
  let bs := (ps.filter fun p => p.pol ≠ 3).flatMap s.sbPart
  if bs.all (·.isNone) then .none else if bs.all (·.isSome) then .all else .some

/-- A part with its data bound. -/
def Part.bind (p : Part) (bs : List Byte) (pois : Bool) : Part := { p with asked := true, got := some (bs, pois) }

/-- A part that takes its bytes from the store buffer. -/
def State.sbTake (s : State) (p : Part) : Part :=
  if p.pol = 3 then p else p.bind ((s.sbPart p).map (·.getD 0)) false

/-- The bytes of a part within its 64 B block. -/
def Part.slice (p : Part) (blk : List Byte) : List Byte := (blk.drop (p.addr % 64)).take p.len

/-- How asking for a part ends: bound, asked, or to be tried again. -/
inductive Ask where
  | got (p : Part)
  | asked
  | full
  deriving DecidableEq, Repr

/-- A block read past the L1D ends the demand of a part; a cacheable block that is not poisoned enters the L1D. -/
def State.blockEnd (p : Part) (r : State × BRead) : State × Ask :=
  match r with
  | (s1, .data d pois) =>
    (if p.pol < 2 ∧ !pois then s1.l1Fill (p.addr / 64) d else s1, .got (p.bind (p.slice d) pois))
  | (s1, .asked) => (s1, .asked)
  | (s1, .full) => (s1, .full)

/-- Ask for one part (R195, R201, R207, R300, R354). -/
def State.askPart (s : State) (t : Thread) (p : Part) : State × Ask :=
  let a := p.addr
  let src := Src.thread t
  let poison : Ask := .got (p.bind (List.replicate p.len 0) true)
  match s.window a with
  | .mmio o =>
    if p.len = 8 ∧ o % 8 = 0 then
      let (s1, v) := s.mmioRead o
      (s1, .got (p.bind (bytesOf 8 v.toNat) false))
    else (s.record .ldl a (0x10 + 256 * src.code) false (some t), poison)
  | .crock o =>
    if (s.th t).pl = 3 ∧ o < 0xD8_0000 then
      ({ s with crk := { s.crk with winReads := s.crk.winReads ++ [(t, o / 32)] } }, .asked)
    else (s.crockRefused o src, poison)
  | .shelf o =>
    if 2 ≤ p.pol then State.blockEnd p (s.readShelfBlock (o / 64 * 64) src)
    else
      match s.l1Read (a / 64) src with
      | (s1, some d) => (s1, .got (p.bind (p.slice d) false))
      | (s1, none) => State.blockEnd p (s1.readShelfBlock (o / 64 * 64) src)
  | .mem =>
    if p.pol = 3 then State.blockEnd p (s.readUncached a (sizeCode p.len) true src (.load t))
    else if p.pol = 2 then State.blockEnd p (s.readUncached (a / 64 * 64) 4 false src (.load t))
    else
      match s.l1Read (a / 64) src with
      | (s1, some d) => (s1, .got (p.bind (p.slice d) false))
      | (s1, none) => State.blockEnd p (s1.readCached (a / 64) src (.load t))

/-- Ask for the parts in order, stopping at one that finds no room. -/
def State.askParts (s : State) (t : Thread) (done todo : List Part) : State × List Part :=
  match todo with
  | [] => (s, done)
  | p :: r =>
    if p.asked then s.askParts t (done ++ [p]) r
    else
      match s.askPart t p with
      | (s1, .got q) => s1.askParts t (done ++ [q]) r
      | (s1, .asked) => s1.askParts t (done ++ [{ p with asked := true }]) r
      | (_, .full) => (s, done ++ p :: r)

/-- The bytes and the poison of a part. -/
def Part.bytes (p : Part) : List Byte := match p.got with | some (b, _) => b | none => []
def Part.poisoned (p : Part) : Bool := match p.got with | some (_, x) => x | none => false

/-- The first byte of a load that lies in a poisoned 64 B block (R165). -/
def firstPoison (ps : List Part) : Option Word :=
  (ps.find? fun p => ps.any fun q => q.poisoned && q.va.toNat / 64 = p.va.toNat / 64).map (·.va)

/-- A load with all its bytes bound ends (R144, R165). -/
def loadEnd (s : State) (p : PendLoad) : Ends :=
  match firstPoison p.parts with
  | some a => .trap s 0x07 a 0
  | none => .done s (.load p.d (sextW (8 * p.size) (ofBytes (p.parts.flatMap (·.bytes)))))

/-- A load whose parts are translated: wait for the buffer, take bytes from it, or ask for them. -/
def loadAsk (s : State) (t : Thread) (p : PendLoad) : Ends :=
  let wait := fun (s' : State) (q : PendLoad) => Ends.waits (s'.setTh t { s'.th t with wait := .load q })
  let fresh := p.parts.all fun x => !x.asked
  let look := if fresh then s.sbLook p.parts else .none
  if p.parts.any (fun x => x.pol = 3) ∧ s.sbHas t then wait s p
  else if look = .some then wait s p
  else
    let ps := if look = .all then p.parts.map s.sbTake else p.parts
    let (s1, qs) := s.askParts t [] ps
    let q : PendLoad := { p with parts := qs }
    if qs.all (·.got.isSome) then loadEnd s1 q else wait s1 q

/-- Carry a load as far as it can go (R165, R166). -/
def loadGo (s : State) (t : Thread) (p : PendLoad) : Ends :=
  match s.xlParts t true false [] p.parts with
  | (s1, .fault va info) => .trap s1 0x06 va info
  | (s1, .wait ps) => .waits (s1.setTh t { s1.th t with wait := .load { p with parts := ps } })
  | (s1, .ok ps) => loadAsk s1 t { p with parts := ps.flatMap s1.expand }

/-- The effective address (R165). -/
def State.ea (s : State) (t : Thread) (b : GReg) (ext : Option IWord) : Word := s.g t b + extOffset ext

/-- A load of 2^k bytes (R144). -/
def loadBody (t : Thread) (d b : GReg) (ext : Option IWord) (k : Nat) (s : State) : Ends :=
  loadGo s t { d := d, size := 2 ^ k, words := memWords ext, held := false,
                parts := (splitParts (s.ea t b ext) (2 ^ k)).map newPart }

/-- LDB (R144). -/
def execLdb (t : Thread) (d b : GReg) (ext : Option (BitVec 14)) (s : State) : Res :=
  issue s t (memWords ext) (loadBody t d b ext 0)

/-- LDH (R144). -/
def execLdh (t : Thread) (d b : GReg) (ext : Option (BitVec 14)) (s : State) : Res :=
  issue s t (memWords ext) (loadBody t d b ext 1)

/-- LDW (R144). -/
def execLdw (t : Thread) (d b : GReg) (ext : Option (BitVec 14)) (s : State) : Res :=
  issue s t (memWords ext) (loadBody t d b ext 2)

/-- LDD (R144). -/
def execLdd (t : Thread) (d b : GReg) (ext : Option (BitVec 14)) (s : State) : Res :=
  issue s t (memWords ext) (loadBody t d b ext 3)

/-! ## Data that arrives for a load -/

/-- Does [lo, lo + n) hold the part? -/
def Part.within (p : Part) (lo n : Nat) : Bool := p.asked && p.got.isNone && lo ≤ p.addr && p.addr + p.len ≤ lo + n

/-- Bind the parts of a thread's load that lie in the `data` at physical address `lo`; `pois` tells for a physical
address whether its 64 B block is poisoned.  `keep` fills the L1D with the blocks of cacheable pages. -/
def State.loadData (s : State) (t : Thread) (lo : Nat) (data : List Byte) (pois : Nat → Bool) (keep : Bool) : State :=
  match (s.th t).wait with
  | .load p =>
    let hit := p.parts.filter fun x => x.within lo data.length
    let ps := p.parts.map fun x =>
      if x.within lo data.length then x.bind ((data.drop (x.addr - lo)).take x.len) (pois x.addr) else x
    let s1 := hit.foldl (fun s x =>
      if keep && x.pol < 2 && !pois x.addr then
        s.l1Fill (x.addr / 64) ((data.drop (x.addr / 64 * 64 - lo)).take 64) else s) s
    let q : PendLoad := { p with parts := ps }
    if ps.all (·.got.isSome) then (loadEnd s1 q).finish s1 t p.words
    else s1.setTh t { s1.th t with wait := .load q }
  | _ => s

/-! ## Stores (R165 to R167, R176) -/

/-- Does a store at U or S reach into the protected shelf range (R176)? -/
def State.storeProtected (s : State) (t : Thread) (ps : List Part) : Bool :=
  (s.th t).pl ≠ 3 && ps.any fun p =>
    match s.shelfOff p.addr with
    | some o => (s.th t).protects o p.len
    | none => false

/-- Entries for the parts of a store, lower half first. -/
def sbEntries (seq : Nat) (t : Thread) (lvl : Nat) (ps : List Part) (bytes : List Byte) : List SbEntry :=
  match ps with
  | [] => []
  | p :: r =>
    { seq := seq, thr := t, pa := p.addr, bytes := bytes.take p.len, pol := p.pol, lvl := lvl, asked := false }
      :: sbEntries (seq + 1) t lvl r (bytes.drop p.len)

/-- Put the parts of a store into the buffer in one step. -/
def State.sbPush (s : State) (t : Thread) (ps : List Part) (bytes : List Byte) : State :=
  { s with ls := { s.ls with
      sb := s.ls.sb ++ sbEntries s.ls.sbSeq t (s.th t).pl ps bytes
      sbSeq := s.ls.sbSeq + ps.length } }

/-- Carry a store as far as it can go (R165 to R167). -/
def storeGo (s : State) (t : Thread) (p : PendStore) : Ends :=
  let wait := fun (s' : State) (ps : List Part) =>
    Ends.waits (s'.setTh t { s'.th t with wait := .store { p with parts := ps } })
  match s.xlParts t false true [] p.parts with
  | (s1, .fault va info) => .trap s1 0x06 va info
  | (s1, .wait ps) => wait s1 ps
  | (s1, .ok ps) =>
    if s1.storeProtected t ps then .trap s1 0x0E ((p.parts.head?.map (·.va)).getD 0) 0
    else if 32 < s1.ls.sb.length + ps.length then wait s1 ps
    else .done (s1.sbPush t ps p.bytes) .nothing

/-- A store of 2^k bytes (R144). -/
def storeBody (t : Thread) (d b : GReg) (ext : Option IWord) (k : Nat) (s : State) : Ends :=
  storeGo s t { bytes := bytesOf (2 ^ k) (s.g t d).toNat, words := memWords ext,
                parts := (splitParts (s.ea t b ext) (2 ^ k)).map newPart }

/-- STB (R144). -/
def execStb (t : Thread) (d b : GReg) (ext : Option (BitVec 14)) (s : State) : Res :=
  issue s t (memWords ext) (storeBody t d b ext 0)

/-- STH (R144). -/
def execSth (t : Thread) (d b : GReg) (ext : Option (BitVec 14)) (s : State) : Res :=
  issue s t (memWords ext) (storeBody t d b ext 1)

/-- STW (R144). -/
def execStw (t : Thread) (d b : GReg) (ext : Option (BitVec 14)) (s : State) : Res :=
  issue s t (memWords ext) (storeBody t d b ext 2)

/-- STD (R144). -/
def execStd (t : Thread) (d b : GReg) (ext : Option (BitVec 14)) (s : State) : Res :=
  issue s t (memWords ext) (storeBody t d b ext 3)

/-! ## Entries leave the store buffer (R167) -/

/-- Take the head entry out. -/
def State.sbPop (s : State) : State := { s with ls := { s.ls with sb := s.ls.sb.drop 1 } }

/-- Mark the head entry as waiting for its line. -/
def State.sbMark (s : State) : State :=
  match s.ls.sb with
  | [] => s
  | e :: r => { s with ls := { s.ls with sb := { e with asked := true } :: r } }

/-- The writer of the register window that a store is (R354, R367). -/
def writerOf (lvl : Nat) : Writer := if lvl = 3 then .firmware else .ownUS

/-- The flit of an exact-size access: its bytes at their offsets in the 64 B block, zero elsewhere (R223). -/
def unitFlit (a : Nat) (bs : List Byte) : List Byte := fitList 64 0 (List.replicate (a % 64) 0 ++ bs)

/-- A device write of one aligned unit (R201, R223). -/
def devWrite (src : Src) (a : Nat) (bs : List Byte) (after : Option Nat) : RtEntry :=
  { newReq .write src 1 a (sizeCode bs.length) with data := unitFlit a bs, dev := true, after := after }

/-- All requests of a device store, lowest address first, or none of them. -/
def State.devWrites (s : State) (src : Src) (after : Option Nat) (us : List (Nat × List Byte)) : Option State :=
  match us with
  | [] => some s
  | (a, bs) :: r =>
    match s.request true (devWrite src a bs after) with
    | none => none
    | some (s1, _) => s1.devWrites src after r

/-- The writes of a device page to bytes of one line, after the clean of a dirty copy (R201). -/
def State.devStore (s : State) (src : Src) (line : Nat) (us : List (Nat × List Byte)) : Option State :=
  match s.cleaned line src with
  | none => none
  | some (s1, after) => s1.devWrites src after us

/-- A device store leaves (R201). -/
def State.devLeave (s : State) (e : SbEntry) : Option State :=
  s.devStore (.thread e.thr) (e.pa / 128)
    ((alignedUnits 8 e.pa e.bytes.length).map fun u => (u.1, (e.bytes.drop (u.1 - e.pa)).take u.2))

/-- A store to the own shelf leaves; beyond its size it is dropped with a machine check (R207). -/
def State.shelfLeave (s : State) (e : SbEntry) (o : Nat) : State :=
  let src := Src.thread e.thr
  if s.shelfSize < o + e.bytes.length then s.shelfRefused o src true
  else
    let s1 := (s.shelfMerge src o (e.bytes.map fun b => (b, true))).lsCharge 0x13 src
    if e.pol < 2 then (s1.charge 0x11 1 (some e.thr)).l1Update e.pa e.bytes else s1.l1Drop (e.pa / 64)

/-- What the head entry does where it leads: the state after it has left, or one in which it stays. -/
inductive Leave where
  | gone (s : State)
  | stays (s : State)

/-- The head entry leaves under its page's policy (R167, R201). -/
def State.sbLeave (s : State) (e : SbEntry) : Leave :=
  let src := Src.thread e.thr
  match s.window e.pa with
  | .shelf o => .gone (s.shelfLeave e o)
  | .mmio o =>
    if e.bytes.length = 8 ∧ o % 8 = 0 then .gone (s.mmioWrite (writerOf e.lvl) o (word64At e.bytes 0) (some e.thr))
    else .gone (s.ldlError 0x10 e.pa src)
  | .crock o => .gone ((s.crockRefused o src).mcheck .crk src.thread?)
  | .mem =>
    if e.pol = 3 then
      match s.devLeave e with
      | some s1 => .gone s1
      | none => .stays s
    else
      match s.storeLine (e.pa / 128) (spread (e.pa % 128) e.bytes) e.pol 0 src .sb true with
      | (s1, .done _) => .gone (if e.pol < 2 then (s1.charge 0x11 1 (some e.thr)).l1Update e.pa e.bytes else s1)
      | (s1, .asked) => .stays s1.sbMark
      | (_, .full) => .stays s

/-- The line of a store at the head of the buffer cannot be had: its bytes go to memory as a masked write, at
once or when an entry is free (R216, R229). -/
def State.sbAround (s : State) (line : Nat) : State :=
  match s.ls.sb with
  | [] => s
  | e :: r =>
    if e.asked && e.pa / 128 = line then
      match s.writeAround line (spread (e.pa % 128) e.bytes) 0 (.thread e.thr) with
      | some s1 => (s1.joined s fun x => e.seq < x.sb).sbPop
      | none => { s with ls := { s.ls with sb := { e with asked := false, pol := 2 } :: r } }
    else s

end Sys2Proof.Machine
end

