-- ==== Sys2Proof/Machine/Amo.lean ====
section
/-! DEFINITION. Atomics, fences, translation invalidation and local-store maintenance
(05_threads_volis14.md R168; 07_local_store_caches.md R211 to R213; 08_ladle_noc_port.md R225, R239 to R242;
09_translation.md R259, R261). -/

namespace Sys2Proof.Machine

open Sys2Proof

/-! ## AMO (R168) -/

/-- The thread waits in an AMO. -/
def State.amoWait (s : State) (t : Thread) (p : PendAmo) (sent : Bool) : Ends :=
  .waits (s.setTh t { s.th t with wait := .amo { p with sent := sent } })

/-- An AMO on the own shelf (R168, R207). -/
def State.amoShelf (s : State) (t : Thread) (p : PendAmo) (o pa : Nat) : State :=
  let src := Src.thread t
  let n := if p.wide then 8 else 4
  let s0 := s.l1Drop (pa / 64)
  if s.shelfSize < o + n then s0.shelfRefused o src true
  else
    let (s1, bs, pois) := (s0.lsCharge 0x12 src).shelfRead src o n
    if pois then s1.ldlError 0x13 pa src
    else
      let old := BitVec.ofNat 64 (ofBytes bs)
      let s2 := (s1.lsCharge 0x13 src).shelfWrite src o (bytesOf n (amoNew p.op p.wide old p.gsv p.gdv))
      s2.setG t p.gd (amoOld p.wide old)

/-- The operands of a far atomic in its flit: gs in bytes 0 to 7, gd in bytes 8 to 15; the low halves for 32 bits (R225). -/
def atomFlit (wide : Bool) (gs gd : Word) : List Byte :=
  fitList 64 0 (bytesOf 8 (amoVal wide gs) ++ bytesOf 8 (amoVal wide gd))

/-- A far atomic (R225, R242). -/
def atomReq (t : Thread) (p : PendAmo) (pa pol : Nat) (after : Option Nat) : RtEntry :=
  { newReq (.atom t) (.thread t) 2 pa (if p.wide then 3 else 2) with
    op := p.op, data := atomFlit p.wide p.gsv p.gdv, dev := pol = 3, after := after }

/-- An AMO on memory or a device: the line is cleaned and invalidated, then the atomic is sent (R168).  A line
whose fill or eviction is in flight is waited for (R213, as for maintenance by address). -/
def State.amoFar (s : State) (t : Thread) (p : PendAmo) (pa pol : Nat) : Ends :=
  let line := lineOf pa
  if (s.fillOf line).isSome ∨ s.evicting line then s.amoWait t p false
  else
    let s0 := (s.l1DropLine line).sideKill line (.thread t)
    match s0.lsWay line with
    | none =>
      match s0.request true (atomReq t p pa pol none) with
      | none => s0.amoWait t p false
      | some (s1, _) => s1.amoWait t p true
    | some w =>
      match s0.lsClean line w (.thread t) with
      | none => s0.amoWait t p false
      | some (s1, after) =>
        match (s1.lsDrop line w).request true (atomReq t p pa pol after) with
        | none => (s1.lsDrop line w).amoWait t p false
        | some (s2, _) => s2.amoWait t p true

/-- Carry an AMO that has not been sent as far as it can go (R168). -/
def amoGo (s : State) (t : Thread) (p : PendAmo) : Ends :=
  match s.translate p.ea (s.th t).pl true true (.thread t) with
  | (s1, .fault kind level span) => .trap s1 0x06 p.ea (xlInfo kind level true span)
  | (s1, .walking) => s1.amoWait t p false
  | (s1, .busy) => s1.amoWait t p false
  | (s1, .ok pa pol) =>
    let part : Part := { va := p.ea, len := if p.wide then 8 else 4, pa := some (pa, pol), asked := false, got := none }
    if s1.storeProtected t [part] then .trap s1 0x0E p.ea 0
    else if s1.sbHas t then s1.amoWait t p false
    else
      match s1.window pa with
      | .shelf o => .done (s1.amoShelf t p o pa) .nothing
      | .mmio _ => .done (s1.ldlError 0x13 pa (.thread t)) .nothing
      | .crock o => .done ((s1.crockRefused o (.thread t)).mcheck .crk (some t)) .nothing
      | .mem => s1.amoFar t p pa pol

/-- An AMO (R168). -/
def amoBody (t : Thread) (op : Nat) (wide : Bool) (gd ga gs : GReg) (s : State) : Ends :=
  let ea := s.g t ga
  if ea.toNat % (if wide then 8 else 4) ≠ 0 then .trap s 0x03 ea 0
  else amoGo s t { op := op, wide := wide, gd := gd, gsv := s.g t gs, gdv := s.g t gd, ea := ea, sent := false }

/-- AMO_SWAP (R168). -/
def execAmoSwap (t : Thread) (wide : Bool) (gd ga gs : GReg) (s : State) : Res := issue s t 2 (amoBody t 0 wide gd ga gs)
/-- AMO_ADD (R168). -/
def execAmoAdd (t : Thread) (wide : Bool) (gd ga gs : GReg) (s : State) : Res := issue s t 2 (amoBody t 1 wide gd ga gs)
/-- AMO_AND (R168). -/
def execAmoAnd (t : Thread) (wide : Bool) (gd ga gs : GReg) (s : State) : Res := issue s t 2 (amoBody t 2 wide gd ga gs)
/-- AMO_OR (R168). -/
def execAmoOr (t : Thread) (wide : Bool) (gd ga gs : GReg) (s : State) : Res := issue s t 2 (amoBody t 3 wide gd ga gs)
/-- AMO_XOR (R168). -/
def execAmoXor (t : Thread) (wide : Bool) (gd ga gs : GReg) (s : State) : Res := issue s t 2 (amoBody t 4 wide gd ga gs)
/-- AMO_MIN (R168). -/
def execAmoMin (t : Thread) (wide : Bool) (gd ga gs : GReg) (s : State) : Res := issue s t 2 (amoBody t 5 wide gd ga gs)
/-- AMO_MAX (R168). -/
def execAmoMax (t : Thread) (wide : Bool) (gd ga gs : GReg) (s : State) : Res := issue s t 2 (amoBody t 6 wide gd ga gs)
/-- AMO_MINU (R168). -/
def execAmoMinu (t : Thread) (wide : Bool) (gd ga gs : GReg) (s : State) : Res := issue s t 2 (amoBody t 7 wide gd ga gs)
/-- AMO_MAXU (R168). -/
def execAmoMaxu (t : Thread) (wide : Bool) (gd ga gs : GReg) (s : State) : Res := issue s t 2 (amoBody t 8 wide gd ga gs)
/-- AMO_CAS (R168). -/
def execAmoCas (t : Thread) (wide : Bool) (gd ga gs : GReg) (s : State) : Res := issue s t 2 (amoBody t 9 wide gd ga gs)

/-! ## FENCE (R239 to R241, R261) -/

/-- Is a request an access of thread t (R89, R212, R241)? -/
def Src.ofThread (x : Src) (t : Thread) : Bool :=
  match x with
  | .thread u => u = t
  | .tileMem u => u = some t
  | .maint u => u = t
  | _ => false

/-- Does a request write or update memory for its requester: a store, a clean of its own, an atomic (R241)? -/
def ReqKind.stores (k : ReqKind) : Bool :=
  match k with
  | .write => true
  | .writeBack evict _ => !evict
  | .atom _ => true
  | _ => false

/-- Has a write been performed at a scope for its requester (R239)?  A dead one has had its outcome (R229). -/
def State.performed (s : State) (rank : Nat) (e : RtEntry) : Bool :=
  e.dead || (e.sent && rank < s.homeScope e.addr)

/-- Every earlier store, AMO and LSM of the thread is performed at the scope of this rank (R239, R241), and its
span clears are acknowledged (R256). -/
def State.storesDone (s : State) (t : Thread) (rank : Nat) : Bool :=
  !s.sbHas t && !(s.noc.clears.any fun x => x.who = .thread t) && (rank = 0 || s.noc.rt.all fun e =>
    !(e.2.src.ofThread t && e.2.kind.stores) || s.performed rank e.2)

/-- Every earlier XINV of the thread has been acknowledged: those of the FENCE's scope or wider, and those that a FENCE of
a narrower scope waits for, whose guarantees the wider one gives too (R3, R241, R261). -/
def State.xinvsDone (s : State) (t : Thread) : Bool :=
  s.noc.rt.all fun e =>
    match e.2.kind with
    | .xinv u _ => u ≠ t || e.2.dead
    | _ => true

/-- Carry a FENCE (R241). -/
def fenceGo (s : State) (t : Thread) (sc : Scope) : Ends :=
  if s.storesDone t (scopeRank sc) && s.xinvsDone t then .done s .nothing
  else .waits (s.setTh t { s.th t with wait := .fence sc })

/-- FENCE (R241). -/
def execFence (t : Thread) (sc : Scope) (s : State) : Res := issue s t 2 fun s => fenceGo s t sc

/-! ## XINV (R259) -/

/-- The XINV request (R259). -/
def xinvReq (t : Thread) (kind : BitVec 2) (ga : Word) (sc : Scope) : RtEntry :=
  { newReq (.xinv t sc) (.thread t) 4 (ga.toNat % 2 ^ 58) 0 with op := scopeRank sc + 4 * kind.toNat }

/-- Carry an XINV: wait for the stores, act on the own caches, send the request (R259). -/
def xinvGo (s : State) (t : Thread) (kind : BitVec 2) (ga : Word) (sc : Scope) : Ends :=
  let wait := Ends.waits (s.setTh t { s.th t with wait := .xinv kind ga sc })
  if !s.storesDone t (scopeRank sc) then wait
  else
    let s1 := s.xinvApply kind.toNat ga.toNat 0
    if sc = .core then .done s1 .nothing
    else
      match s1.request false (xinvReq t kind ga sc) with
      | none => wait
      | some (s2, _) => .done s2 .nothing

/-- XINV's privilege check (R259). -/
def xinvBody (t : Thread) (kind : BitVec 2) (ga : GReg) (sc : Scope) (s : State) : Ends :=
  if (s.th t).pl = 0 then .trap s 0x02 0 (xWord 0x18 (ga.val + 16 * scopeRank sc))
  else xinvGo s t kind (s.g t ga) sc

/-- XINV of an address (R259). -/
def execXinvAddress (t : Thread) (ga : GReg) (sc : Scope) (s : State) : Res := issue s t 2 (xinvBody t 0 ga sc)
/-- XINV of entries with G = 0 (R259). -/
def execXinvNonglobal (t : Thread) (ga : GReg) (sc : Scope) (s : State) : Res := issue s t 2 (xinvBody t 1 ga sc)
/-- XINV of every entry (R259). -/
def execXinvAll (t : Thread) (ga : GReg) (sc : Scope) (s : State) : Res := issue s t 2 (xinvBody t 2 ga sc)

/-! ## LSM (R211 to R213) -/

/-- The operation on a line that the local store holds; none while the port's write queue is full (R212). -/
def State.lsmLine (s : State) (t : Thread) (op : BitVec 2) (line w : Nat) : Option State :=
  if op = 1 then some (s.lsDrop line w)
  else
    match s.lsClean line w (.maint t) with
    | none => none
    | some (s1, _) => some (if op = 2 then s1.lsDrop line w else s1)

/-- The L1D copies and the side-buffer entry of a line go (R212). -/
def State.lsmUpper (s : State) (t : Thread) (line : Nat) : State := (s.l1DropLine line).sideKill line (.maint t)

/-- By set and way (R211, R212); none also while a store of the thread to the line waits in the store buffer (R240). -/
def State.lsmWay (s : State) (t : Thread) (op : BitVec 2) (ga : Word) : Option State :=
  let set := wbits ga 11 0
  let w := wbits ga 19 16
  if 3072 ≤ set ∨ s.shelfWayQ w ∨ !s.wayEnabled w then some s
  else
    match lookup s.ls.lines (s.cell set w) with
    | none => some s
    | some l => if s.sbHolds t (128 * l.line) 128 then none else (s.lsmUpper t l.line).lsmLine t op l.line w

/-- By address (R212, R213); none also while a store of the thread to the line waits in the store buffer (R240). -/
def State.lsmAddr (s : State) (t : Thread) (op : BitVec 2) (pa pol : Nat) : Option State :=
  let line := lineOf pa
  match s.window pa with
  | .mem =>
    if (s.fillOf line).isSome ∨ s.evicting line ∨ s.sbHolds t (128 * line) 128 then none
    else if 2 ≤ pol then some (s.lsmUpper t line)
    else
      let s1 := s.lsmUpper t line
      match s1.lsWay line with
      | none => some s1
      | some w => s1.lsmLine t op line w
  | _ => some (s.l1DropLine line)

/-- Carry an LSM (R211 to R213). -/
def lsmGo (s : State) (t : Thread) (op : BitVec 2) (ga : Word) (byWay : Bool) : Ends :=
  let wait := fun (s' : State) => Ends.waits (s'.setTh t { s'.th t with wait := .lsm op ga byWay })
  if byWay then
    match s.lsmWay t op ga with
    | none => wait s
    | some s1 => .done s1 .nothing
  else
    let wr : Bool := op ≠ 0
    match s.translate ga (s.th t).pl (!wr) wr (.thread t) with
    | (s1, .fault kind level span) => .trap s1 0x06 ga (xlInfo kind level wr span)
    | (s1, .walking) => wait s1
    | (s1, .busy) => wait s1
    | (s1, .ok pa pol) =>
      match s1.lsmAddr t op pa pol with
      | none => wait s1
      | some s2 => .done s2 .nothing

/-- LSM's privilege check (R211). -/
def lsmBody (t : Thread) (op : BitVec 2) (ga : GReg) (byWay : Bool) (s : State) : Ends :=
  if byWay ∧ (s.th t).pl = 0 then .trap s 0x02 0 (xWord 0x19 ga.val)
  else lsmGo s t op (s.g t ga) byWay

/-- LSM clean (R212). -/
def execLsmClean (t : Thread) (ga : GReg) (bySetWay : Bool) (s : State) : Res := issue s t 2 (lsmBody t 0 ga bySetWay)
/-- LSM invalidate (R212). -/
def execLsmInvalidate (t : Thread) (ga : GReg) (bySetWay : Bool) (s : State) : Res := issue s t 2 (lsmBody t 1 ga bySetWay)
/-- LSM clean and invalidate (R212). -/
def execLsmCleanInvalidate (t : Thread) (ga : GReg) (bySetWay : Bool) (s : State) : Res :=
  issue s t 2 (lsmBody t 2 ga bySetWay)

end Sys2Proof.Machine
end

