-- ==== Sys2Proof/Machine/Context.lean ====
section
/-! DEFINITION. TSAVE and TRSTR: the context image and its blocks
(03_trays_tile_instructions.md R103 to R105; 06_privilege_traps.md R193, R194). -/

namespace Sys2Proof.Machine

open Sys2Proof

/-! ## The image (R193) -/

/-- Trays and slots that the image holds, in increasing index. -/
def State.traysIn (s : State) : List TrayNo := (List.finRange 16).filter fun T => (s.tray T).inuse
def State.slotsIn (s : State) : List (Fin 48) := (List.finRange 48).filter fun i => (s.slot i).inuse

/-- Frozen entries. -/
def State.frozenQ (s : State) : List QEntry := if s.tile.frozen then s.tile.queue else []

/-- Bytes of an image of so many trays, slots and entries. -/
def imageSize (nt ns e : Nat) : Nat := 2048 + 4096 * nt + 12288 * ns + 32 * e

/-- Blocks of 512 B. -/
def blocksOf512 (n : Nat) : Nat := (n + 511) / 512

/-- A slot record (R193). -/
def slotRecord (x : Slot) : List Byte :=
  if x.inuse then
    bytesOf 8 (x.anchor.toNat + b2n x.fp * 2 ^ 10 + x.rnd.toNat * 2 ^ 11 + x.fold % 8 * 2 ^ 13 + b2n x.sat * 2 ^ 16
      + b2n x.inx * 2 ^ 17) ++ bytesOf 8 x.seed.toNat ++ bytesOf 8 x.p.toNat ++ bytesOf 8 x.d.toNat
  else List.replicate 32 0

/-- The header below its CRC (R193). -/
def State.headerBody (s : State) : List Byte :=
  bytesOf 8 (0x7C74_0740 + 2 ^ 32) ++ bytesOf 8 (maskOf fun T : TrayNo => (s.tray T).inuse)
    ++ bytesOf 8 (maskOf fun i : Fin 48 => (s.slot i).inuse)
    ++ bytesOf 8 (s.frozenQ.length % 64 + b2n s.tile.frozen * 64) ++ bytesOf 8 s.tile.tprog.toNat
    ++ bytesOf 8 (if s.tile.frozen then s.tile.faultAddr.toNat else 0)
    ++ s.tile.trays.toList.flatMap (fun x => bytesOf 4 ((x.rows - 1) % 32 + (x.bytes / 4 - 1) % 32 * 32))
    ++ s.tile.trays.toList.flatMap (fun x => bytesOf 4 x.marks.toNat)
    ++ List.replicate 80 0 ++ s.tile.slots.toList.flatMap slotRecord ++ List.replicate 252 0

/-- The header (R193). -/
def State.header (s : State) : List Byte := s.headerBody ++ bytesOf 4 (crc32c s.headerBody).toNat

/-- A frozen-entry record (R193). -/
def entryRecord (q : QEntry) : List Byte :=
  bytesOf 8 (q.w0.toNat + q.e1.toNat * 2 ^ 14 + q.e2.toNat * 2 ^ 28 + q.pc.toNat * 2 ^ 42)
    ++ bytesOf 8 q.v1.toNat ++ bytesOf 8 q.v2.toNat ++ bytesOf 8 q.lvl.toNat

/-- Bytes [o, o + n) of a slot's elements, 12 bytes each (R193). -/
def State.slotBytes (s : State) (i : Fin 48) (o n : Nat) : List Byte :=
  let a := o / 12
  let bs := (List.range ((o + n + 11) / 12 - a)).flatMap fun k => bytesOf 12 (s.elem (elemKey i.val 0 0 + a + k)).toNat
  (bs.drop (o - 12 * a)).take n

/-- The rows of a tray that lie in bytes [o, o + n) of its storage. -/
def Tray.rowsIn (x : Tray) (o n : Nat) : List Nat :=
  (List.range x.rows).filter fun r => r * x.bytes < o + n && o < (r + 1) * x.bytes

/-- Block k of the image, read from the tile state: a tray row's parity is checked as it is read (R103). -/
def State.imageBlock (s : State) (k : Nat) (who : Option Thread := none) : State × List Byte :=
  let nt := s.traysIn.length
  let ns := s.slotsIn.length
  if k < 4 then (s, (s.header.drop (512 * k)).take 512)
  else if k - 4 < 8 * nt then
    let T := (s.traysIn[(k - 4) / 8]?).getD 0
    let o := 512 * ((k - 4) % 8)
    let u := (Config.tsaveUnit s.free).toNat
    (((s.tray T).rowsIn o 512).foldl (fun s r => s.checkRow T u r who) s.fresh, getN zero8 s.tile.data (trayAt T o) 512)
  else if k - 4 - 8 * nt < 24 * ns then
    let j := k - 4 - 8 * nt
    (s, s.slotBytes ((s.slotsIn[j / 24]?).getD 0) (512 * (j % 24)) 512)
  else
    let j := k - 4 - 8 * nt - 24 * ns
    (s, ((s.frozenQ.flatMap entryRecord).drop (512 * j)).take 512)

/-! ## Both instructions -/

/-- Is a Ladle run with a tray endpoint in flight (R103)? -/
def State.trayRunFlies (s : State) : Bool :=
  (List.finRange 4).any fun c =>
    match (s.chan c).desc with
    | some d => dTrayEnd d && !(s.chan c).idle
    | none => false

/-- The wait of R103 is over: no started entry, no drain, no Ladle run with a tray endpoint. -/
def State.ctxReady (s : State) : Bool :=
  (s.tile.queue.isEmpty || (s.tile.frozen && s.tile.queue.all fun q => !q.started)) && s.tile.drains.isEmpty
    && !s.trayRunFlies

/-- Is a read or fill for a thread's context transfer in flight? -/
def State.ctxAsked (s : State) (t : Thread) : Bool :=
  s.noc.rt.any fun e => !e.2.dead &&
    (match e.2.kind with
     | .fill _ _ _ ks => ks.any fun k => k.ofThread t
     | .uncRead k => k.ofThread t
     | _ => false)

/-- Does a walk of the thread run? -/
def State.threadWalks (s : State) (t : Thread) : Bool := s.xl.walks.any fun w => w.who = .thread t

/-- May a context transfer move on: its wait is over, nothing it asked for is outstanding, and nothing waits for its block
boundary, where it is abandoned (R105, R192)? -/
def State.ctxDue (s : State) (t : Thread) : Bool :=
  s.running && s.ctxReady && !s.ctxAsked t && !s.threadWalks t && !s.boundaryDue t

/-- Pages of [a, a + n), rising (R103). -/
def imagePages (a n : Nat) : List Nat := (List.range ((a + n - 1) / 2 ^ 14 - a / 2 ^ 14 + 1)).map (a / 2 ^ 14 + ·)

/-- The physical address and policy of a virtual address on a translated page. -/
def CtxRun.phys (r : CtxRun) (va : Nat) : Option (Nat × Nat) :=
  (r.xl.find? fun x => x.1 = va / 2 ^ 14).map fun x => (x.2.1 + va % 2 ^ 14, x.2.2)

/-- The transfer waits in this condition. -/
def State.ctxWait (s : State) (t : Thread) (r : CtxRun) : Ends := .waits (s.setTh t { s.th t with wait := .ctx r })

/-- Issue of TSAVE and TRSTR: the rows of R85, then the alignment of the image (R103). -/
def ctxBody (t : Thread) (save : Bool) (ga : GReg) (s : State) : Ends :=
  if (s.th t).pl = 0 then .trap s 0x02 0 (xWord (if save then 0x2B else 0x2C) ga.val)
  else tileChecks t { queued := false, frozenOk := true } (fun s =>
    let a := s.g t ga
    if a.toNat % 512 ≠ 0 then .trap s 0x03 a 0
    else s.ctxWait t { save := save, base := a, checked := false, xl := [], done := 0, total := 4, image := [],
                       pois := [], asked := [], got := [] }) s

/-- TSAVE (R103). -/
def execTsave (t : Thread) (ga : GReg) (s : State) : Res := issue s t 2 (ctxBody t true ga)

/-- TRSTR (R104). -/
def execTrstr (t : Thread) (ga : GReg) (s : State) : Res := issue s t 2 (ctxBody t false ga)

/-! ## TSAVE (R103) -/

/-- The image's length (R193). -/
def State.imageLen (s : State) : Nat := imageSize s.traysIn.length s.slotsIn.length s.frozenQ.length

/-- The first protected byte of an image page for a TSAVE at S: its offset from the first byte (R103, R176). -/
def State.pageProtected (s : State) (t : Thread) (pa n : Nat) : Option Nat :=
  if (s.th t).pl = 3 then none
  else
    match s.shelfOff pa with
    | none => none
    | some o => if (s.th t).protects o n then some ((s.th t).protLo - o) else none

/-- The image checks of a TSAVE, page by page, through the data TLB of its thread (R103, log 112): a trap, or a wait for a
walk, or the end of the list. -/
def saveCheck (s : State) (t : Thread) (r : CtxRun) (len : Nat) (ps : List Nat) : Ends :=
  match ps with
  | [] => s.ctxWait t { r with checked := true, total := blocksOf512 len }
  | p :: rest =>
    if r.xl.any fun x => x.1 = p then saveCheck s t r len rest
    else
      let a := max r.base.toNat (p * 2 ^ 14)
      let n := min (r.base.toNat + len) ((p + 1) * 2 ^ 14) - a
      match s.translate (BitVec.ofNat 64 a) (s.th t).pl false true (.thread t) with
      | (s1, .fault kind level span) => .trap s1 0x06 (BitVec.ofNat 64 a) (xlInfo kind level true span)
      | (s1, .ok pa pol) =>
        match s1.pageProtected t pa n with
        | some o => .trap s1 0x0E (BitVec.ofNat 64 (a + o)) 0
        | none => saveCheck s1 t { r with xl := r.xl ++ [(p, pa - a % 2 ^ 14, pol)] } len rest
      | (s1, _) => s1.ctxWait t r

/-- The block that a TSAVE moves as its `i`-th of `n`: the header's four come last (R103). -/
def saveOrder (n i : Nat) : Nat := if i < n - 4 then i + 4 else i - (n - 4)

/-- Write one piece of a block of at most 128 B under its page's policy. -/
def State.savePiece (s : State) (t : Thread) (pa pol : Nat) (bs : List Byte) (b : Nat) : State × WEnd :=
  if pol = 3 ∧ s.window pa = .mem then
    match s.devStore (.thread t) (pa / 128)
        ((alignedUnits 16 pa bs.length).map fun u => (u.1, (bs.drop (u.1 - pa)).take u.2)) with
    | some s1 => (s1, .done [])
    | none => (s, .full)
  else s.storeLine (pa / 128) (spread (pa % 128) bs) pol 0 (.thread t) (.ctx t b) false

/-- Write the pieces of a block that are not written yet, in order, up to one that must wait: also for the thread's
earlier stores to its bytes (R240). -/
def State.savePieces (s : State) (t : Thread) (r : CtxRun) (k : Nat) (ps : List (List Byte)) (i : Nat) : State × CtxRun × Bool :=
  match ps with
  | [] => (s, r, true)
  | bs :: rest =>
    if r.asked.contains i ∨ bs = [] then s.savePieces t r k rest (i + 1)
    else
      match r.phys (r.base.toNat + 512 * k + 128 * i) with
      | none => (s, r, false)
      | some (pa, pol) =>
        if s.sbHolds t pa bs.length then (s, r, false) else
        match s.savePiece t pa pol bs (64 * k + 16 * i) with
        | (s1, .done _) => s1.savePieces t { r with asked := r.asked ++ [i] } k rest (i + 1)
        | (s1, .asked) => (s1, r, false)
        | (_, .full) => (s, r, false)

/-- A completed TSAVE cancels an undelivered trap of the frozen queue that it saved (R193). -/
def State.saveDone (s : State) : State :=
  if s.tile.frozen then { s with tile := { s.tile with trap := false } } else s

/-- One TSAVE block (R103). -/
def saveMove (s : State) (t : Thread) (r : CtxRun) : Ends :=
  let k := saveOrder r.total r.done
  let (s1, bs) := s.imageBlock k (some t)
  let (sent, r2, whole) := s1.savePieces t r k (pieces 128 4 bs) 0
  let s2 := sent.joined s1 fun x => x.thr.contains t
  if !whole then s2.ctxWait t r2
  else if r.total ≤ r.done + 1 then .done s2.saveDone .nothing
  else s2.ctxWait t { r2 with done := r.done + 1, asked := [] }

/-- The image checks of a TSAVE, or its next block. -/
def saveStep (s : State) (t : Thread) (r : CtxRun) : Ends :=
  if r.checked then saveMove s t r
  else
    match saveCheck s t r s.imageLen (imagePages r.base.toNat s.imageLen) with
    | .waits s1 =>
      match (s1.th t).wait with
      | .ctx r1 => if r1.checked then saveMove s1 t r1 else .waits s1
      | _ => .waits s1
    | e => e

/-- TSAVE_BLOCK (R105). -/
def execTsaveBlock (t : Thread) (s : State) : Res :=
  match (s.th t).wait with
  | .ctx r => due s (r.save && s.ctxDue t) ((saveStep s t r).finish s t 2)
  | _ => .next s

/-- The line of a TSAVE piece cannot be had: its bytes go to memory as a masked write (R229). -/
def State.ctxAround (s : State) (t : Thread) (line : Nat) : State :=
  match (s.th t).wait with
  | .ctx r =>
    let k := saveOrder r.total r.done
    let bs := (s.imageBlock k).2
    match (List.range 4).find? fun i =>
        !r.asked.contains i && (match r.phys (r.base.toNat + 512 * k + 128 * i) with
          | some (pa, _) => pa / 128 = line
          | none => false) with
    | none => s
    | some i =>
      match s.writeAround line (spread 0 ((bs.drop (128 * i)).take 128)) 0 (.thread t) with
      | none => s
      | some s1 =>
        (s1.joined s fun x => x.thr.contains t).setTh t { s1.th t with wait := .ctx { r with asked := r.asked ++ [i] } }
  | _ => s

/-! ## TRSTR (R104, R194) -/

/-- An 8-byte word of the image. -/
def imgWord (im : List Byte) (o : Nat) : Nat := (word64At im o).toNat

/-- Header fields (R193). -/
def hdrTrays (im : List Byte) : Nat := imgWord im 0x008 % 2 ^ 16
def hdrSlots (im : List Byte) : Nat := imgWord im 0x010 % 2 ^ 48
def hdrE (im : List Byte) : Nat := imgWord im 0x018 % 64
def hdrFrozen (im : List Byte) : Bool := nbit (imgWord im 0x018) 6
def hdrShape (im : List Byte) (T : Nat) : Nat := ofBytes ((im.drop (0x30 + 4 * T)).take 4)
def hdrMarks (im : List Byte) (T : Nat) : Nat := ofBytes ((im.drop (0x70 + 4 * T)).take 4)

/-- The bits of a header word that may be other than zero (R193, R194). -/
def hdrMask (sm o : Nat) : Nat :=
  if o = 0x000 then 2 ^ 48 - 1
  else if o = 0x008 then 0xFFFF
  else if o = 0x010 then 2 ^ 48 - 1
  else if o = 0x018 then 0x7F
  else if o = 0x020 then 0x83FF_FFFF_FFF1_FFFF
  else if o = 0x028 then 2 ^ 64 - 1
  else if 0x030 ≤ o ∧ o < 0x070 then 0x3FF_0000_03FF
  else if 0x070 ≤ o ∧ o < 0x0B0 then 2 ^ 64 - 1
  else if 0x100 ≤ o ∧ o < 0x700 ∧ nbit sm ((o - 0x100) / 32) then
    (if o % 32 = 0 then 0x3_FFFF else if o % 32 = 8 then 2 ^ 64 - 1 else 2 ^ 47 - 1)
  else if o = 0x7F8 then 0xFFFF_FFFF_0000_0000
  else 0

/-- Is every bit of x also in m? -/
def subMask (x m : Nat) : Bool := (BitVec.ofNat 64 x) &&& ~~~ (BitVec.ofNat 64 m) = 0

/-- The fold factor of each slot record (R194). -/
def foldsOk (im : List Byte) (sm : Nat) : Bool :=
  (List.range 48).all fun i =>
    let f := bits (imgWord im (0x100 + 32 * i)) 15 13
    !nbit sm i || f = 0 || f = 1 || f = 2 || f = 4

/-- The header check: 0, or the reason of R194; a poisoned header has reason 0x02 (R215). -/
def headerCode (im : List Byte) (pois : List Nat) : Nat :=
  let sm := hdrSlots im
  if pois.any (· < 32) then 2
  else if imgWord im 0 % 2 ^ 48 ≠ 0x7C74_0740 + 2 ^ 32 then 1
  else if (crc32c (im.take 0x7FC)).toNat ≠ ofBytes ((im.drop 0x7FC).take 4) then 2
  else if !((List.range 256).all fun i => subMask (imgWord im (8 * i)) (hdrMask sm (8 * i))) || !foldsOk im sm then 3
  else if hdrFrozen im ≠ decide (0 < hdrE im) ∨ 32 < hdrE im ∨ nbit (imgWord im 0x020) 63 ≠ hdrFrozen im
      ∨ (!hdrFrozen im ∧ imgWord im 0x028 ≠ 0) then 4
  else 0

/-- Trays and slots of the image, and its length. -/
def hdrNt (im : List Byte) : Nat := popBelow 16 (hdrTrays im)
def hdrNs (im : List Byte) : Nat := popBelow 48 (hdrSlots im)
def hdrLen (im : List Byte) : Nat := imageSize (hdrNt im) (hdrNs im) (hdrE im)

/-- The record of frozen entry `k`. -/
def recordAt (im : List Byte) (k : Nat) : List Byte :=
  (im.drop (2048 + 4096 * hdrNt im + 12288 * hdrNs im + 32 * k)).take 32

/-- Words of a record. -/
def recW0 (b : List Byte) : IWord := BitVec.ofNat 14 (imgWord b 0)
def recE1 (b : List Byte) : IWord := BitVec.ofNat 14 (imgWord b 0 / 2 ^ 14)
def recE2 (b : List Byte) : IWord := BitVec.ofNat 14 (imgWord b 0 / 2 ^ 28)

/-- Reason 0x05: the words, the level, and zero above the level's field; what lies above the program address is not looked
at (R194, log 111). -/
def recordOk (b : List Byte) (pl : Nat) : Bool :=
  frozenWords (recW0 b) (recE1 b) (recE2 b) && imgWord b 24 ≤ 3 && imgWord b 24 ≠ 2 && imgWord b 24 ≤ pl

/-- The queue entries that an image restores (R104, R109, R193); an image that has passed its header check has no more
than 32. -/
def State.restored (s : State) (t : Thread) (im : List Byte) : List QEntry :=
  (List.range (min 32 (hdrE im))).map fun k =>
    let b := recordAt im k
    { id := s.tile.nextId + k, w0 := recW0 b, e1 := recE1 b, e2 := recE2 b
      pc := BitVec.ofNat 17 (imgWord b 0 / 2 ^ 42), v1 := word64At b 8, v2 := word64At b 16
      lvl := BitVec.ofNat 2 (imgWord b 24), thr := t
      prog := if k = 0 ∧ (wbits (recW0 b) 11 6 = 0x24 ∨ wbits (recW0 b) 11 6 = 0x25) then bits (imgWord im 0x020) 35 24 else 0
      started := false, safe := false, sbMark := s.ls.sbSeq }

/-- Does a poisoned 64 B block of the image overlap bytes [o, o + n)? -/
def poisIn (pois : List Nat) (o n : Nat) : Bool := pois.any fun b => 64 * b < o + n && o < 64 * b + 64

/-- Restore a tray from the image: `o` is its place there (R104). -/
def State.restoreTray (s : State) (t : Thread) (T : TrayNo) (im : List Byte) (pois : List Nat) (o : Nat) : State :=
  let sh := hdrShape im T.val
  let rows := sh % 32 + 1
  let bt := 4 * (sh / 32 % 32 + 1)
  let m := (List.range rows).foldl (fun m r => if poisIn pois (o + r * bt) bt then setBit m r true else m)
    (BitVec.ofNat 32 (hdrMarks im T.val))
  let s1 := s.zeroData T
  let s2 : State := { s1 with tile := { s1.tile with data := setN zero8 s1.tile.data (trayAt T 0) ((im.drop o).take 4096) } }
  (s2.setTray T { rows := rows, bytes := bt, inuse := true, marks := m }).charge 0x0C rows (some t)

/-- All trays: in the image, or zeroed with the shape that it gives (R104). -/
def State.restoreTrays (s : State) (t : Thread) (im : List Byte) (pois : List Nat) : State × Nat :=
  (List.finRange 16).foldl (fun (x : State × Nat) T =>
    let sh := hdrShape im T.val
    if nbit (hdrTrays im) T.val then (x.1.restoreTray t T im pois x.2, x.2 + 4096)
    else ((x.1.zeroTray T (sh % 32 + 1) (4 * (sh / 32 % 32 + 1))).charge 0x0C (sh % 32 + 1) (some t), x.2)) (s, 2048)

/-- An element of the image: a poisoned one takes the NaN marker (R215). -/
def imgElem (im : List Byte) (pois : List Nat) (o : Nat) (fp : Bool) : BitVec 96 :=
  if poisIn pois o 12 then nanMark fp
  else
    let v := ofBytes ((im.drop o).take 12)
    BitVec.ofNat 96 (if fp then v % 2 ^ 32 else v)

/-- Restore a slot (R104). -/
def State.restoreSlot (s : State) (i : Fin 48) (im : List Byte) (pois : List Nat) (o : Nat) : State :=
  let b := 0x100 + 32 * i.val
  let w := imgWord im b
  let fp := nbit w 10
  let s1 : State := { s with tile := { s.tile with
    elems := setN zero96 s.tile.elems (elemKey i.val 0 0) ((List.range 1024).map fun k => imgElem im pois (o + 12 * k) fp)
    badElem := s.tile.badElem.filter fun k => k / 1024 ≠ i.val } }
  s1.setSlot i
    { fp := fp, anchor := BitVec.ofNat 10 w, rnd := BitVec.ofNat 2 (w / 2 ^ 11), seed := word64At im (b + 8)
      fold := bits w 15 13, p := BitVec.ofNat 47 (imgWord im (b + 16)), d := BitVec.ofNat 47 (imgWord im (b + 24))
      inuse := true, sat := nbit w 16, inx := nbit w 17 }

/-- All slots: in the image, or with their flags cleared (R63, R104). -/
def State.restoreSlots (s : State) (im : List Byte) (pois : List Nat) (o : Nat) : State :=
  ((List.finRange 48).foldl (fun (x : State × Nat) i =>
    if nbit (hdrSlots im) i.val then (x.1.restoreSlot i im pois x.2, x.2 + 12288)
    else (x.1.setSlot i { x.1.slot i with inuse := false, sat := false, inx := false }, x.2)) (s, o)).1

/-- The tile state takes the image (R104). -/
def State.restore (s : State) (t : Thread) (im : List Byte) (pois : List Nat) : State :=
  let q := s.restored t im
  let (s1, o) := s.restoreTrays t im pois
  let s2 := s1.restoreSlots im pois o
  { s2 with tile := { s2.tile with
      queue := q, nextId := s.tile.nextId + q.length, frozen := hdrFrozen im, trap := hdrFrozen im
      tprog := word64At im 0x020, faultAddr := word64At im 0x028, deferred := false } }

/-- Keep 8-byte units of the image that have arrived; `u` is the first one's number. -/
def CtxRun.keep (r : CtxRun) (u : Nat) (bs : List Byte) (pois : Bool) : CtxRun :=
  { r with got := r.got ++ (List.range (bs.length / 8)).map fun i => (u + i, (bs.drop (8 * i)).take 8, pois) }

/-- Ask for an 8-byte-wise read of a 64 B block of a device page, all requests or none (R201); `u` is its first unit. -/
def State.ctxDevice (s : State) (t : Thread) (pa u : Nat) : Option State :=
  s.readPast (pa / 128) true (.thread t) ((List.range 8).map fun i => (pa + 8 * i, 3, .ctx t (u + i)))

/-- Ask for the 64 B blocks of a 512 B block that have not been asked for, in order, up to one that an earlier store
of the thread still has to reach (R240). -/
def State.ctxAsk (s : State) (t : Thread) (r : CtxRun) (bs : List Nat) : State × CtxRun :=
  match bs with
  | [] => (s, r)
  | b :: rest =>
    if r.asked.contains b then s.ctxAsk t r rest
    else
      match r.phys (r.base.toNat + 64 * b) with
      | none => (s, r)
      | some (pa, pol) =>
        let r1 := { r with asked := r.asked ++ [b] }
        if s.sbHolds t pa 64 then (s, r)
        else if pol = 3 ∧ s.window pa = .mem then
          match s.ctxDevice t pa (8 * b) with
          | some s1 => s1.ctxAsk t r1 rest
          | none => (s, r)
        else
          match s.readBlock (pa / 64) pol (.thread t) (.ctx t (8 * b)) with
          | (s1, .data d p) => s1.ctxAsk t (r1.keep (8 * b) d p) rest
          | (s1, .asked) => s1.ctxAsk t r1 rest
          | (_, .full) => (s, r)

/-- The 64 B blocks of 512 B block k of an image of `len` bytes. -/
def blocks64 (k len : Nat) : List Nat := (List.range ((min 512 (len - 512 * k) + 63) / 64)).map (8 * k + ·)

/-- The unit's bytes and poison, once it has arrived. -/
def CtxRun.unit (r : CtxRun) (u : Nat) : Option (List Byte × Bool) :=
  (r.got.find? fun g => g.1 = u).map (·.2)

/-- A 512 B block has arrived whole: its bytes and its poisoned 64 B blocks. -/
def CtxRun.blockOf (r : CtxRun) (bs : List Nat) : Option (List Byte × List Nat) :=
  let us := bs.flatMap fun b => (List.range 8).map fun i => (b, r.unit (8 * b + i))
  if us.all fun x => x.2.isSome then
    some (us.flatMap (fun x => match x.2 with | some (d, _) => d | none => []),
      bs.filter fun b => us.any fun x => x.1 = b && (match x.2 with | some (_, p) => p | none => false))
  else none

/-- The length of the image as far as a TRSTR knows it. -/
def CtxRun.len (r : CtxRun) : Nat := if r.checked then hdrLen r.image else 2048

/-- A fault of a TRSTR: one that stops it after its header check wipes the tile state (R105). -/
def State.wiped (s : State) (t : Thread) (r : CtxRun) : State := if r.checked then s.wipeTile t else s

/-- The end of a TRSTR block: the header check after the fourth, the records and the restore after the last. -/
def restoreMoved (s : State) (t : Thread) (r : CtxRun) : Ends :=
  let c := if r.done = 4 then headerCode r.image r.pois else 0
  if c ≠ 0 then .trap s 0x0D r.base (BitVec.ofNat 64 c)
  else
    let r1 := if r.done = 4 then { r with checked := true, total := blocksOf512 (hdrLen r.image) } else r
    if r1.done < r1.total then s.ctxWait t r1
    else if !((List.range (hdrE r1.image)).all fun k => recordOk (recordAt r1.image k) (s.th t).pl) then
      .trap s 0x0D r1.base 5
    else .done (s.restore t r1.image r1.pois) .nothing

/-- One TRSTR block: its page is translated when it is first reached; its 64 B blocks are read; when all are there,
the block moves (R103 to R105). -/
def restoreMove (s : State) (t : Thread) (r : CtxRun) : Ends :=
  let bs := blocks64 r.done r.len
  let (s1, r1) := s.ctxAsk t r bs
  match r1.blockOf bs with
  | none => s1.ctxWait t r1
  | some (d, ps) =>
    restoreMoved s1 t { r1 with
      image := (r1.image ++ d).take (r1.len), pois := r1.pois ++ ps, done := r1.done + 1, asked := [], got := [] }

/-- The translation of the page that a TRSTR block lies on, through the data TLB of its thread (log 112), then the block. -/
def restoreStep (s : State) (t : Thread) (r : CtxRun) : Ends :=
  let a := (r.base.toNat + 512 * r.done) % 2 ^ 64
  match r.phys a with
  | some _ => restoreMove s t r
  | none =>
    match s.translate (BitVec.ofNat 64 a) (s.th t).pl true false (.thread t) with
    | (s1, .fault kind level span) => .trap (s1.wiped t r) 0x06 (BitVec.ofNat 64 a) (xlInfo kind level false span)
    | (s1, .ok pa pol) => restoreMove s1 t { r with xl := r.xl ++ [(a / 2 ^ 14, pa - a % 2 ^ 14, pol)] }
    | (s1, _) => s1.ctxWait t r

/-- TRSTR_BLOCK (R104). -/
def execTrstrBlock (t : Thread) (s : State) : Res :=
  match (s.th t).wait with
  | .ctx r => due s (!r.save && s.ctxDue t) ((restoreStep s t r).finish s t 2)
  | _ => .next s

/-- Data of a TRSTR read arrive; `u` is the first 8-byte unit. -/
def State.ctxData (s : State) (t : Thread) (u : Nat) (bs : List Byte) (pois : Bool) : State :=
  match (s.th t).wait with
  | .ctx r => s.setTh t { s.th t with wait := .ctx (r.keep u bs pois) }
  | _ => s

end Sys2Proof.Machine
end

