-- ==== Sys2Proof/Machine/Answers.lean ====
section
/-! DEFINITION. What an answer from outside sets going: data for those who wait, the outcomes of errors, dead
requests and link failures, retries, table walks and the store buffer's head
(05_threads_volis14.md R165 to R168; 07_local_store_caches.md R203, R210, R216; 08_ladle_noc_port.md R229;
09_translation.md R251, R254, R261). -/

namespace Sys2Proof.Machine

open Sys2Proof

/-! ## Retries -/

/-- Carry on what a thread waits in, as far as it goes now. -/
def State.retryThread (s : State) (t : Thread) : State :=
  if s.threadWalks t then s
  else
    match (s.th t).wait with
    | .load p => (loadGo s t p).finish s t p.words
    | .store p => (storeGo s t p).finish s t p.words
    | .amo p => if p.sent then s else (amoGo s t p).finish s t 2
    | .fence sc => (fenceGo s t sc).finish s t 2
    | .xinv k ga sc => (xinvGo s t k ga sc).finish s t 2
    | .lsm op ga w => (lsmGo s t op ga w).finish s t 2
    | _ => s

/-- Every requester that waits for room, a line or an answer tries again. -/
def State.retryAll (s : State) : State :=
  let s1 := allThreads.foldl (fun s t => s.retryThread t) s
  let s2 := (List.finRange 4).foldl (fun s c => s.ladleGo c) s1
  s2.tile.mem.foldl (fun s m => s.memAskAll m.id) s2

/-! ## Data that arrive -/

/-- Is a thread's context transfer a TSAVE? -/
def State.saves (s : State) (t : Thread) : Bool := match (s.th t).wait with | .ctx r => r.save | _ => false

/-- Is a tile memory run a TLD? -/
def State.runLoads (s : State) (id : Nat) : Bool := match s.memRun id with | some m => m.load | none => false

/-- Does the taker of a fill need the line for a write (R216, R229)? -/
def State.takerWrites (s : State) (k : Taker) : Bool :=
  match k with
  | .sb => true
  | .tile id _ => !s.runLoads id
  | .ladle _ _ _ wr => wr
  | .ctx t _ => s.saves t
  | _ => false

/-- The 64 B half of a 128 B line that an image unit's block lies in (R193: images are aligned to 512 B). -/
def unitHalf (u : Nat) : Nat := u / 8 % 2

/-- A whole line arrives for one taker; `keep` where the line may enter the L1D. -/
def State.lineTo (s : State) (k : Taker) (line : Nat) (d : List Byte) (p : BitVec 2) (keep : Bool) : State :=
  match k with
  | .load t => s.loadData t (128 * line) d (fun a => wbit p (a / 64 % 2)) keep
  | .tile id l => if s.runLoads id then s.tileData id l none d p else s
  | .ladle c r l wr => if wr then s.ladleFilled c r l else s.ladleData c r l none d p
  | .ctx t u => if s.saves t then s else s.ctxData t u (lineHalf d (unitHalf u)) (wbit p (unitHalf u))
  | _ => s

/-- A line that could not be had goes to one taker: data for a reader, a masked write for a writer (R216, R229). -/
def State.aroundTo (s : State) (k : Taker) (line : Nat) (d : List Byte) (p : BitVec 2) : State :=
  match k with
  | .sb => s.sbAround line
  | .tile id l => if s.runLoads id then s.tileData id l none d p else s.tstAround id l
  | .ladle c r l wr => if wr then s.ladleAround c r l else s.ladleData c r l none d p
  | .ctx t _ => if s.saves t then s.ctxAround t line else s.lineTo k line d p false
  | _ => s.lineTo k line d p false

/-- A walk's table word (R251): none for an error or poison (R254). -/
def State.walkValue (s : State) (w : Nat) (v : Option Word) : State :=
  match s.xl.walks.find? fun x => x.id = w with
  | none => s
  | some x => s.setWalk { x with ph := .value v }

/-- The answer to a walk's compare-and-swap (R251). -/
def State.walkSwapped (s : State) (w : Nat) (v : Option Word) : State :=
  match s.xl.walks.find? fun x => x.id = w with
  | none => s
  | some x =>
    match x.ph with
    | .swapping _ old new => s.setWalk { x with ph := .swapped old new v }
    | _ => s

/-- The data of an uncached or device read arrive: the flit's bytes from `addr` on (R223). -/
def State.unitTo (s : State) (k : Taker) (addr size : Nat) (d : List Byte) (pois : Bool) : State :=
  let bs := if size = 4 then d else (d.drop (addr % 64)).take (2 ^ size)
  let p2 := BitVec.ofNat 2 (b2n pois)
  match k with
  | .load t => s.loadData t addr bs (fun _ => pois) false
  | .tile id l => s.tileData id l (some (addr / 64 % 2)) d p2
  | .ladle c r l _ => s.ladleData c r l (some (addr / 64 % 2)) d p2
  | .ctx t u => s.ctxData t u bs pois
  | .walk w => s.walkValue w (if pois then none else some (word64At bs 0))
  | .sb => s
  | .nobody => s

/-- May the way that a fill reserved still take the line (R209, R335)? -/
def State.wayKept (s : State) (w : Nat) : Bool := s.wayEnabled w && !s.shelfWayQ w && !s.growing w

/-- Install a line that has arrived, where a way is or can be had: the Bool answers whether it was.  A warm fill that a demand
has joined and that finds no way gives its data and leaves no line (R210, log 119). -/
def State.installFill (s : State) (line : Nat) (way : Option Nat) (d : List Byte) (p : BitVec 2) (src : Src) : State × Bool :=
  match way with
  | some w => if s.wayKept w then (s.lsInstall line w d p (0, 0) src, true) else (s, false)
  | none =>
    match s.lsRoom line src with
    | some (s1, w, _) => (s1.lsInstall line w d p (0, 0) src, true)
    | none => (s, false)

/-- The way that a fill's records name: the one that it reserved, or for a warm fill that a demand has joined the one that
the line takes now; 0 where there is none (R218, log 101). -/
def State.fillWay (s : State) (line : Nat) (way : Option Nat) (src : Src) : Nat :=
  match way with
  | some w => w
  | none =>
    match s.lsRoom line src with
    | some (_, w, _) => w
    | none => 0

/-- Symbols in error in the two codewords of an answer; 3 stands for three or more, which the decoder cannot correct
(R214). -/
def symErrs (errs : BitVec 4) : Nat × Nat := (bits errs.toNat 1 0, bits errs.toNat 3 2)

/-- The first codeword that cannot be corrected. -/
def badHalf (errs : Nat × Nat) : Option Nat := if 3 ≤ errs.1 then some 0 else if 3 ≤ errs.2 then some 1 else none

/-- A line fill arrives (R195, R214, R216): corrected where it can be, else fetched again once. -/
def State.fillArrives (s : State) (e : RtEntry) (line : Nat) (way : Option Nat) (again : Bool) (ks : List Taker)
    (d : List Byte) (p : BitVec 2) (errs : Nat × Nat) : State :=
  match badHalf errs with
  | none =>
    let (s1, here) := (s.corrected (128 * line) (s.fillWay line way e.src) errs e.src).installFill line way d p e.src
    ks.foldl (fun s k => s.lineTo k line d p here) s1
  | some h =>
    let addr := 128 * line + 64 * h
    if !again then
      let s1 := s.lstError 3 addr (s.fillWay line way e.src) h 0 e.src false
      match s1.request e.src.demand { newReq (.fill line way true ks) e.src 0 (128 * line) 5 with dev := e.dev } with
      | some (s2, _) => s2
      | none => ks.foldl (fun s k => s.aroundTo k line d p) s1
    else ks.foldl (fun s k => s.aroundTo k line d p) (s.lstError 4 addr (s.fillWay line way e.src) h 0 e.src true)

/-- A warm fill arrives (R210): into its side-buffer entry, which then counts as the one filled last; what can be
corrected is (R214, R216), with WAY 0 (log 101). -/
def State.warmArrives (s : State) (src : Src) (line : Nat) (d : List Byte) (p : BitVec 2) (errs : Nat × Nat) : State :=
  match s.ls.side.find? fun x => x.line = line && x.data.isNone with
  | none => s
  | some x =>
    let rest := s.ls.side.filter fun y => y ≠ x
    if x.drop then s.sideSet rest
    else
      let left := (if 3 ≤ errs.1 then 3 else 0, if 3 ≤ errs.2 then 3 else 0)
      ((s.corrected (128 * line) 0 errs src).sideSet (rest ++ [{ x with data := some (d, p), errs := left }])).charge 0x14 1

/-- A warm fill fails: its entry is discarded and counted as evicted unused (R229). -/
def State.warmFails (s : State) (line : Nat) : State :=
  match s.ls.side.find? fun x => x.line = line && x.data.isNone with
  | none => s
  | some x =>
    let s1 := s.sideSet (s.ls.side.filter fun y => y ≠ x)
    if x.drop then s1 else s1.bump .ldl 5 1

/-! ## Failures (R229) -/

/-- The record of a failed read or fill: with a machine check where a store, TST, TSAVE or Ladle write needed it. -/
def State.fillError (s : State) (kind : Nat) (e : RtEntry) (mc : Bool) : State :=
  if mc then s.ldlError kind e.addr e.src else s.record .ldl e.addr (kind + 256 * e.src.code) false e.src.thread?

/-- The report that an entry carried has failed and is to be sent again (R345, R362). -/
def State.reportFailed (s : State) (i : Nat) : State :=
  let f := fun (r : Report) => if r.entry = some i then { r with entry := none, failed := true } else r
  { s with noc := { s.noc with ready := s.noc.ready.map f, fatal := s.noc.fatal.map f } }

/-- A report has been acknowledged. -/
def State.reportDone (s : State) (i : Nat) : State :=
  let f := fun (r : Option Report) => if (r.bind (·.entry)) = some i then none else r
  { s with noc := { s.noc with ready := f s.noc.ready, fatal := f s.noc.fatal } }

/-- An AMO in flight ends; gd takes the old value, or stays (R168, R229). -/
def State.amoEnds (s : State) (t : Thread) (old : Option Word) : State :=
  match (s.th t).wait with
  | .amo p =>
    if p.sent then
      (match old with | some v => s.setG t p.gd (amoOld p.wide v) | none => s).complete t 2
    else s
  | _ => s

/-- What a failed request brings: `kind` is 0x10 for an error response, 0x11 for a dead request, 0x12 for a link
failure (R229, R261). -/
def State.fails (s : State) (i : Nat) (e : RtEntry) (kind : Nat) : State :=
  match e.kind with
  | .fill line _ _ ks =>
    ks.foldl (fun s k => s.aroundTo k line (List.replicate 128 0) 3) (s.fillError kind e (ks.any s.takerWrites))
  | .warm line _ => s.warmFails line
  | .uncRead (.walk w) => s.walkValue w none
  | .uncRead k => (s.fillError kind e false).unitTo k e.addr e.size (List.replicate 64 0) true
  | .write => s.ldlError kind e.addr e.src
  | .writeBack _ w => s.lstError 8 e.addr w 0 0 e.src false
  | .atom t => (s.ldlError 0x13 e.addr e.src).amoEnds t none
  | .walkAtom w => s.walkSwapped w none
  | .msgReady => (s.ldlError 0x14 e.addr .msg).reportFailed i
  | .msgFatal => (s.ldlError 0x14 e.addr .msg).reportFailed i
  | .xinv _ _ => s.ldlError 0x15 e.addr e.src
  | .bcast c r => s.bcastFailed c r

/-- An entry has had its outcome: nobody awaits it any longer (R236, R238). -/
def State.settled (s : State) (i : Nat) : State :=
  let s1 := s.chanAcked i
  { s1 with noc := { s1.noc with barWait := s1.noc.barWait.map fun l => l.filter (· ≠ i) } }

/-! ## Table walks (R251, R254) -/

/-- A walk's fault reaches its requester (R95, R234, R254). -/
def State.walkFaults (s : State) (w : Walk) (kind level : Nat) : State :=
  match w.who with
  | .thread t =>
    (match (s.th t).wait with
     | .ctx r => s.wiped t r
     | _ => s).trap t 0x06 w.va (xlInfo kind level w.wr none)
  | .tile id _ =>
    match s.memRun id with
    | none => s
    | some m =>
      match m.pages with
      | [] => s
      | (p, r) :: _ => (s.memFault m p r 6 kind).memFinish id
  | .chan c => s.setChan c { s.chan c with flt := some (3, BitVec.ofNat 6 kind) }
  | .left _ => s

/-- One advance of a walk. -/
def State.walkStep (s : State) (w : Walk) : State :=
  match s.walkGo walkFuel w with
  | (s1, .waits) => s1
  | (s1, .done) => s1.retryAll
  | (s1, .fault kind level) => s1.walkFaults w kind level

/-- TABLE_WALK (R251). -/
def execTableWalk (walk : Nat) (s : State) : Res :=
  match s.xl.walks.find? fun w => w.id = walk with
  | none => .next s
  | some w => due s (s.alive && walkDue w) (s.walkStep w)

/-! ## The store buffer's head (R167) -/

/-- Does the head entry wait for a line whose fill is in flight? -/
def State.headWaits (s : State) : Bool :=
  match s.ls.sb with
  | [] => true
  | e :: _ => e.asked && (s.fillOf (e.pa / 128)).isSome

/-- A store that cleared a span waits for its acknowledgment (R256). -/
def State.clearStored (s : State) (e : SbEntry) : State :=
  match s.window e.pa with
  | .mmio o => if e.bytes.length = 8 ∧ s.clearHeld o (word64At e.bytes 0) then s.holdClear (.thread e.thr) else s
  | _ => s

/-- STORE_BUFFER_LEAVE (R167): the head leaves, or asks for the line that it needs. -/
def execStoreBufferLeave (s : State) : Res :=
  match s.ls.sb with
  | [] => .next s
  | e :: _ =>
    match s.sbLeave e with
    | .gone s1 =>
      due s (s.alive && !s.headWaits) (((s1.joined s fun x => e.seq < x.sb).sbPop.clearStored e).retryAll)
    | .stays s1 => due s (s.alive && !s.headWaits && s1.headWaits) s1

end Sys2Proof.Machine
end

