-- ==== Sys2Proof/Machine/Fetch.lean ====
section
/-! DEFINITION. Firmware line reads, Crock window loads, and words that are no instruction
(05_threads_volis14.md R140, R157; 06_privilege_traps.md R181; 11_crock_persistence.md R300, R301, R329). -/

namespace Sys2Proof.Machine

open Sys2Proof

/-! ## Firmware fetch (R157) -/

/-- May the fetch unit read lines for a thread (R156, R157)? -/
def State.fetchesFw (s : State) (t : Thread) : Bool :=
  let h := s.th t
  h.fs && !h.stopped && !h.halted && h.sleep = .awake && s.runBit t

/-- The lines of a thread's buffer are the line at its pc and the three after it; the first that is missing. -/
def State.wantLine (s : State) (t : Thread) : Option Nat :=
  let w := (s.th t).pc.toNat / 18
  ((List.range 4).map fun i => s.fwLine (18 * (w + i))).find? fun l =>
    l ≤ s.fwLine (2 ^ 17 - 1) && !s.crk.fwLines.contains (t, l)

/-- The next line read: the first thread that wants a line, and the line. -/
def State.nextLine (s : State) : Option (Thread × Nat) :=
  allThreads.findSome? fun t => if s.fetchesFw t then (s.wantLine t).map fun l => (t, l) else none

/-- A line enters a thread's buffer of four, and the branch-target entries whose target it holds. -/
def State.lineHeld (s : State) (t : Thread) (l : Nat) : State :=
  let own := ((t, l) :: s.crk.fwLines.filter fun x => x.1 = t && x.2 ≠ l).take 4
  { s with crk := { s.crk with
      fwLines := own ++ s.crk.fwLines.filter fun x => x.1 ≠ t
      btb := s.crk.btb.map fun e => if s.fwLine e.target.toNat = l then { e with filled := true } else e } }

/-- The fetch unit has read a line for a thread; one that it cannot correct is recorded with the unit's SRC code (R330, log
109), and traps where a word of it issues (R158). -/
def State.fetchRead (s : State) (t : Thread) (l : Nat) : State :=
  let s1 := s.crockReads 1 (fixedBits (s.lineErr l).normal) (some t)
  (if s.crockUe l then s1.crockFound l 4 (some t) else s1).lineHeld t l

/-- FIRMWARE_LINE_READ_DONE (R157). -/
def execFirmwareLineReadDone (s : State) : Res :=
  match s.nextLine with
  | none => .next s
  | some (t, l) => due s s.running (s.fetchRead t l)

/-! ## Crock window loads (R300, R301) -/

/-- A window load's line has been read: its corrected bytes, or poison for an uncorrectable line. -/
def State.windowRead (s : State) (t : Thread) (line : Nat) : State :=
  let ue := s.crockUe line
  let s1 : State := { s with crk := { s.crk with winReads := s.crk.winReads.erase (t, line) } }
  let s2 := s1.crockReads 1 (fixedBits (s.lineErr line).normal) (some t)
  let s3 := if ue then s2.crockFound line t.val (some t) else s2
  s3.loadData t (s.crockBase + 32 * line) (if ue then List.replicate 32 0 else s.crockBytes line) (fun _ => ue) false

/-- CROCK_WINDOW_READ_DONE (R300): after a write of the line in progress (R329). -/
def execCrockWindowReadDone (t : Thread) (s : State) : Res :=
  match s.crk.winReads.find? fun r => r.1 = t with
  | none => .next s
  | some (_, l) => due s (s.running && !s.lineBusy l) (s.windowRead t l)

/-! ## Illegal words (R140) -/

/-- ILLEGAL_INSTRUCTION: the words raise cause 0x01 at issue.  Words that are an instruction are no such command. -/
def execIllegalInstruction (t : Thread) (w0 e1 e2 : IWord) (s : State) : Res :=
  if legalWords w0 e1 e2 then .refused .illFormed
  else issue s t (instrWords w0) fun s => .trap s 0x01 0 (w0.zeroExtend 64)

end Sys2Proof.Machine
end

