-- ==== Sys2Proof/Machine/NocPort.lean ====
section
/-! DEFINITION. The NoC port: requests leave, responses and notices arrive, timers run out, the barrier
(08_ladle_noc_port.md R220 to R229, R238, R240; 12_live_service_modes.md R345; 13_boundary_bringup.md R352,
R353, R362). -/

namespace Sys2Proof.Machine

open Sys2Proof

/-- Charge what leaves: so many data flits, or a header alone, for the thread whose request it is, where one asked for it
(R289, R390). -/
def State.txCharge (s : State) (flits : Nat) (who : Option Thread := none) : State :=
  if flits = 0 then s.charge 0x18 1 who else s.charge 0x16 flits who

/-- Charge what arrives. -/
def State.rxCharge (s : State) (flits : Nat) (who : Option Thread := none) : State :=
  if flits = 0 then s.charge 0x18 1 who else s.charge 0x17 flits who

/-! ## Requests leave (R223, R224, R240) -/

/-- Does a request keep a later one of the queue back: device order of one requester (R201), or one line with a
write among them (R240)? -/
def holdsBack (e later : RtEntry) : Bool :=
  (e.dev && later.dev && e.src = later.src)
    || (e.addr / 128 = later.addr / 128 && !(e.typ = 0 && later.typ = 0))

/-- May the request at index `i` leave: nothing ahead of it in the queue keeps it back? -/
def State.mayLeave (s : State) (i : Nat) (e : RtEntry) : Bool :=
  !e.sent && !e.dead && e.after.isNone &&
    (s.noc.queue.takeWhile (· ≠ i)).all fun j =>
      match lookup s.noc.rt j with
      | some x => !holdsBack x e
      | none => true

/-- The packet of a request (R224): a MSG holds its kind in MKIND. -/
def State.packet (s : State) (i : Nat) (e : RtEntry) : Packet where
  typ := e.typ
  tag := { idx := i, gen := s.genOf i }
  schip := s.pos.chip
  sclu := s.pos.cluster
  score := s.pos.core
  addr := e.addr
  size := e.size
  op := if e.typ = 3 then 0 else e.op
  psn := e.psn
  sts := 0
  sc := 0
  masked := e.masked
  mkind := if e.typ = 3 then e.op else 0
  data := e.data
  mask := if e.masked then e.mask else []

/-- LDL.NOC_CFG in force, in oscillator cycles (R228). -/
def State.tmoNow (s : State) : Nat := cycUs * bits (s.comN .ldl 0x140) 9 0
def State.holdmaxNow (s : State) : Nat := 10 * cycUs * bits (s.comN .ldl 0x140) 19 10

/-- A report leaves: its 1 ms counts from here (R345, R362). -/
def Report.leaves (r : Report) (i now : Nat) : Report := if r.entry = some i then { r with sentAt := now } else r

/-- The request at index `i` leaves the port. -/
def State.sendReq (s : State) (i : Nat) (e : RtEntry) : State :=
  let e1 := { e with sent := true, timer := 0, held := 0, susp := false, tmo := s.tmoNow, holdmax := s.holdmaxNow }
  let rt := (put s.noc.rt i e1).map fun x => (x.1, if x.2.after = some i then { x.2 with after := none } else x.2)
  let n : Noc := { s.noc with
    rt := rt
    queue := s.noc.queue.filter (· ≠ i)
    out := some (s.packet i e)
    ready := s.noc.ready.map fun r => r.leaves i s.tmg.time
    fatal := s.noc.fatal.map fun r => r.leaves i s.tmg.time
    xinvs := s.noc.xinvs.map fun x => { x with waitFor := x.waitFor.filter (· ≠ i) }
    clears := s.noc.clears.map fun x => { x with waitFor := x.waitFor.filter (· ≠ i) } }
  let s1 := ({ s with noc := n }).txCharge (e.data.length / 64) e.src.thread?
  match e.kind with
  | .warm _ _ => s1.bump .ldl 3 1
  | .xinv _ _ => s1.bump .xlt 5 1 e.src.thread?
  | _ => s1

/-- Does the port move packets: its clock runs, or a warm reset lets the write-backs in flight complete (R213, R284)? -/
def State.portMoves (s : State) : Bool := s.portRuns || (s.phase = .warmReset && !s.noc.rt.isEmpty)

/-- Do request timers act: the core is alive, or a warm reset waits for write-backs (R213, R227)? -/
def State.timersRun (s : State) : Bool := s.alive || s.phase = .warmReset

/-- What waits tries again, when the core is alive. -/
def State.retryLive (s : State) : State := if s.alive then s.retryAll else s

/-- NOC_REQUEST_SEND (R223). -/
def execNocRequestSend (idx : Nat) (s : State) : Res :=
  match lookup s.noc.rt idx with
  | none => .next s
  | some e => due s (s.portMoves && s.mayLeave idx e) (s.sendReq idx e).retryLive

/-! ## Responses (R221, R225, R227, R229) -/

/-- The live entry of a tag (R221). -/
def State.tagged (s : State) (tag : Tag) : Option RtEntry :=
  match lookup s.noc.rt tag.idx with
  | some e => if e.sent && !e.dead && s.genOf tag.idx = tag.gen then some e else none
  | none => none

/-- The thread whose request a tag names, for counter attribution (R390). -/
def State.tagWho (s : State) (tag : Tag) : Option Thread := (s.tagged tag).bind fun e => e.src.thread?

/-- A late response is discarded and counted (R221). -/
def State.lateRsp (s : State) : State := s.bump .ldl 1 1

/-- A response has freed its entry. -/
def State.answered (s : State) (i : Nat) : State := (s.freeReq i).settled i

/-- The flit of an uncached or device read: what can be corrected is, else the reader receives poison (R214, R216;
log 95); it lies in no way, and WAY is 0 (log 101). -/
def State.unitArrives (s : State) (e : RtEntry) (k : Taker) (d : List Byte) (pois : Bool) (errs : Nat × Nat) : State :=
  (s.corrected (e.addr / 64 * 64) 0 (errs.1, 0) e.src).unitTo k e.addr e.size d (pois || 3 ≤ errs.1)

/-- The data of a good RD_RSP (R225), with the symbols in error of its codewords (R214). -/
def State.readAnswer (s : State) (e : RtEntry) (d : List Byte) (psn : BitVec 2) (errs : Nat × Nat) : State :=
  match e.kind with
  | .fill line way again ks => s.fillArrives e line way again ks d psn errs
  | .warm line _ => s.warmArrives e.src line d psn errs
  | .uncRead k => s.unitArrives e k d (wbit psn 0) errs
  | _ => s

/-- Bytes of the data flits of a read of a SIZE code (R225). -/
def rspLen (size : Nat) : Nat := if size = 5 then 128 else 64

/-- A received response: late, a retry-pending notice, which holds the timer as HOLD does (R224, R227), or it frees its
entry; an error response brings the outcome of R229, a good one `f`.  A response of another type than the entry's
request awaits counts as late. -/
def State.response (s : State) (tag : Tag) (typ : Nat → Bool) (sts : BitVec 3) (f : State → RtEntry → State) : State :=
  match s.tagged tag with
  | none => s.lateRsp
  | some e =>
    if !typ e.typ then s.lateRsp
    else if sts = 3 then s.setReq tag.idx { e with susp := true, held := 0 }
    else
      let s1 := s.answered tag.idx
      (if sts ≠ 0 then s1.fails tag.idx e 0x10 else f s1 e).retryLive

/-- RD_RSP (R225): with data of another length than its request asked for, nothing the home can send. -/
def execRdRsp (tag : Tag) (sts : BitVec 3) (psn : BitVec 2) (data : List Byte) (errs : BitVec 4) (s : State) : Res :=
  let fits : Bool := match s.tagged tag with
    | some e => e.typ ≠ 0 || data.length = rspLen e.size
    | none => true
  if fits then
    due s s.portMoves
      ((s.rxCharge (data.length / 64) (s.tagWho tag)).response tag (· = 0) sts fun s e =>
        s.readAnswer e data psn (symErrs errs))
  else .refused .illFormed

/-- WR_ACK, of a WR, MSG or BCAST (R225). -/
def execWrAck (tag : Tag) (sts : BitVec 3) (_sc : Scope) (s : State) : Res :=
  due s s.portMoves
    ((s.rxCharge 0 (s.tagWho tag)).response tag (fun n => n = 1 || n = 3 || n = 6) sts fun s _ => s.reportDone tag.idx)

/-- ATOM_RSP (R168, R242, R251). -/
def execAtomRsp (tag : Tag) (sts : BitVec 3) (old : Word) (s : State) : Res :=
  due s s.portMoves
    ((s.rxCharge 1 (s.tagWho tag)).response tag (· = 2) sts fun s e =>
      match e.kind with
      | .atom t => s.amoEnds t (some old)
      | .walkAtom w => s.walkSwapped w (some old)
      | _ => s)

/-- XINV_ACK (R259). -/
def execXinvAck (tag : Tag) (sts : BitVec 3) (s : State) : Res :=
  due s s.portMoves ((s.rxCharge 0 (s.tagWho tag)).response tag (· = 4) sts fun s _ => s)

/-- A notice about a tag: late, or it acts on the entry (R227). -/
def State.notice (s : State) (tag : Tag) (f : State → RtEntry → State) : State :=
  match s.tagged tag with
  | none => s.lateRsp
  | some e => f s e

/-- HOLD: the timer stops (R227). -/
def execHold (tag : Tag) (s : State) : Res :=
  due s s.portMoves
    ((s.rxCharge 0 (s.tagWho tag)).notice tag fun s e => s.setReq tag.idx { e with susp := true, held := 0 })

/-- HOLD_END: the timer goes on (R227); one for a tag that is not live counts as late (log 106). -/
def execHoldEnd (tag : Tag) (s : State) : Res :=
  due s s.portMoves ((s.rxCharge 0 (s.tagWho tag)).notice tag fun s e => s.setReq tag.idx { e with susp := false })

/-- LINKFAIL: the request has failed; its entry is free (R227, R229). -/
def execLinkfail (tag : Tag) (s : State) : Res :=
  due s s.portMoves
    ((s.rxCharge 0 (s.tagWho tag)).notice tag fun s e => ((s.answered tag.idx).fails tag.idx e 0x12).retryLive)

/-- The request dies: its entry is quarantined (R221, R227). -/
def State.dies (s : State) (i : Nat) (e : RtEntry) : State :=
  (((s.setReq i { e with dead := true, quar := 0 }).settled i).fails i e 0x11).retryLive

/-- REQUEST_TIMEOUT (R227). -/
def execRequestTimeout (idx : Nat) (s : State) : Res :=
  match lookup s.noc.rt idx with
  | none => .next s
  | some e => due s (s.timersRun && e.sent && !e.dead && e.tmo ≤ e.timer) (s.dies idx e)

/-- HOLD_EXPIRY: a lost HOLD_END cannot stall an entry (R227). -/
def execHoldExpiry (idx : Nat) (s : State) : Res :=
  match lookup s.noc.rt idx with
  | none => .next s
  | some e =>
    due s (s.timersRun && e.sent && !e.dead && e.susp && e.holdmax ≤ e.held) (s.setReq idx { e with susp := false })

/-- QUARANTINE_END (R221). -/
def execQuarantineEnd (idx : Nat) (s : State) : Res :=
  match lookup s.noc.rt idx with
  | none => .next s
  | some e => due s (s.timersRun && e.dead && e.tmo ≤ e.quar) (s.freeReq idx).retryLive

/-! ## The barrier and the chip's interrupts (R238, R352, R353) -/

/-- A write or atomic ahead of a BAR is out of its way: answered, or a write whose home lies outside the chip that has left
(R238, R239); a broadcast and an atomic are waited for until they are answered (R225, R242). -/
def State.barClearOf (s : State) (i : Nat) : Bool :=
  match lookup s.noc.rt i with
  | none => true
  | some e => e.dead || (e.sent && e.typ = 1 && s.homeScope e.addr = 3)

/-- The BAR header (R225, R238). -/
def State.barPacket (s : State) : Packet where
  typ := 5
  tag := { idx := 0, gen := 0 }
  schip := s.pos.chip
  sclu := s.pos.cluster
  score := s.pos.core
  addr := 0
  size := 0
  op := 0
  psn := 0
  sts := 0
  sc := 0
  masked := false
  mkind := 0
  data := []
  mask := []

/-- BAR_SEND (R238). -/
def execBarSend (s : State) : Res :=
  match s.noc.barWait with
  | none => .next s
  | some l =>
    due s (s.portRuns && l.all s.barClearOf)
      (({ s with noc := { s.noc with barWait := none, out := some s.barPacket } }).txCharge 0)

/-- BAR_REL: the release sets REL and counts, whether or not an arrival is outstanding (R238, R353). -/
def execBarRel (s : State) : Res :=
  due s s.released
    { s with noc := { s.noc with barRel := true, barGen := s.noc.barGen + 1, barArrived := false } }

/-- CHIP_IRQ[i] rises (R352). -/
def execChipIrq (i : Fin 16) (s : State) : Res := due s s.released (s.edge (48 + i.val))

/-! ## Resends of reports (R345, R362) -/

/-- May a report go into the table again: 1 ms after its last send, or at once where none has been? -/
def State.resendDue (s : State) (r : Option Report) : Bool :=
  match r with
  | some x => x.entry.isNone && (!x.failed || x.sentAt + cycMs ≤ s.tmg.time) && (s.freeIdx false).isSome && s.alive
  | none => false

/-- READY_RESEND (R362). -/
def execReadyResend (s : State) : Res := due s (s.resendDue s.noc.ready) s.queueReady

/-- FATAL_REPORT_RESEND (R345). -/
def execFatalReportResend (s : State) : Res := due s (s.resendDue s.noc.fatal) s.queueFatal

end Sys2Proof.Machine
end

