-- ==== Sys2Proof/Machine/Inbound.lean ====
section
/-! DEFINITION. What other cores, the chip and the router send to the core: reads, writes, atomics, broadcasts,
translation invalidations, messages and bad headers
(07_local_store_caches.md R207, R208; 08_ladle_noc_port.md R223 to R226, R235, R242; 09_translation.md R260;
10_timing_energy.md R291; 11_crock_persistence.md R300; 13_boundary_bringup.md R354; 14_register_pages.md R367). -/

namespace Sys2Proof.Machine

open Sys2Proof

/-! ## Headers and answers (R224, R225) -/

/-- Bytes of a SIZE code. -/
def sizeBytes (c : BitVec 3) : Nat := if c = 5 then 128 else if c = 4 then 64 else 2 ^ c.toNat

/-- A SIZE that R224 defines. -/
def sizeOk (c : BitVec 3) : Bool := c.toNat ≤ 5

/-- Is an address aligned to its access (R201, R223)? -/
def reqAligned (h : Hdr) : Bool := h.addr.toNat % sizeBytes h.size = 0

/-- Can these flits and masks come with the header (R223): masks only for 64 B and 128 B? -/
def reqCarries (h : Hdr) (data : List Byte) (mask : List Bool) : Bool :=
  sizeOk h.size && data.length = rspLen h.size.toNat && (if h.masked then 4 ≤ h.size.toNat && mask.length = data.length
    else mask.isEmpty)

/-- The masked bytes that a write carries for its SIZE bytes at ADDR (R223). -/
def reqBytes (h : Hdr) (data : List Byte) (mask : List Bool) : List (Byte × Bool) :=
  if h.masked then data.zip mask
  else if 4 ≤ h.size.toNat then data.map fun b => (b, true)
  else ((data.drop (h.addr.toNat % 64)).take (sizeBytes h.size)).map fun b => (b, true)

/-- SCOPE of an acknowledgment (R224): the requester's distance from this shelf window or register window. -/
def State.ackScope (s : State) (h : Hdr) (shelf : Bool) : Nat :=
  if h.schip ≠ s.pos.chip then 3 else if shelf && h.sclu = s.pos.cluster then 1 else 2

/-- An answer to a request: its tag and requester, as it named them. -/
def answer (h : Hdr) (typ sts sc psn : Nat) (data : List Byte) : Packet where
  typ := typ
  tag := h.tag
  schip := h.schip
  sclu := h.sclu
  score := h.score
  addr := h.addr.toNat
  size := h.size.toNat
  op := 0
  psn := psn
  sts := sts
  sc := sc
  masked := false
  mkind := 0
  data := data
  mask := []

/-- The port drives an answer out. -/
def State.reply (s : State) (p : Packet) : State :=
  ({ s with noc := { s.noc with out := some p } }).txCharge (p.data.length / 64)

/-- The data flits that an error response carries: as many as its type and SIZE ask for, of free content (R225, log 93). -/
def State.errorData (s : State) (h : Hdr) (typ : Nat) : List Byte :=
  if typ = 8 then bytesOf (rspLen h.size.toNat) (Config.errorData s.free).toNat
  else if typ = 10 then bytesOf 64 (Config.errorData s.free).toNat
  else []

/-- An answer with STS and no data of its own: an acknowledgment, or an error response. -/
def State.replySts (s : State) (h : Hdr) (typ sts : Nat) : State :=
  (if typ = 8 ∨ typ = 10 then s.fresh else s).reply (answer h typ sts 0 0 (s.errorData h typ))

/-- Does the port serve a request from outside? -/
def State.hears (s : State) : Bool := s.served && s.portRuns

/-- What arrives at the port has its effect where the port serves it; in retention it waits there and wakes the core (R279).
A port whose clock stands takes nothing in (R284). -/
def State.receives (s : State) (c : Instr) (t : State) : Res :=
  if s.released && s.portHolds then .next (s.sealed (s.arrives c)) else due s s.hears t

/-- Is the requester the chip's host interface, which counts as the driver (R354)? -/
def reqByHost (h : Hdr) : Bool := h.sclu = 0x3F && h.score = 0xF

/-- STS codes (R224). -/
def stsAddress : Nat := 1
def stsRefused : Nat := 2

/-! ## The own shelf (R208) -/

/-- A refused request to the shelf: kind 0x0A, counted and recorded. -/
def State.shelfTurns (s : State) (o : Nat) : State := s.shelfRefused o .noc false

/-- A read of the shelf (R208, R223): the bytes at their places in the flit, a poisoned block with its PSN bit. -/
def State.shelfServe (s : State) (h : Hdr) (o : Nat) : State :=
  let n := sizeBytes h.size
  if s.shelfSize < o + n then (s.shelfTurns o).replySts h 8 stsRefused
  else
    let (s1, bs, _) := (s.lsCharge 0x12 .noc).shelfRead .noc o n
    let psn := b2n (s1.shelfBad (o / 64)) + (if n = 128 then 2 * b2n (s1.shelfBad (o / 64 + 1)) else 0)
    s1.reply (answer h 8 0 0 psn (if n < 64 then unitFlit h.addr.toNat bs else bs))

/-- Does a write reach a byte of a protected range of any thread (R176, R208)? -/
def State.writeTouches (s : State) (o : Nat) (ms : List (Byte × Bool)) : Bool :=
  (List.range ms.length).any fun i => (match ms[i]? with | some (_, w) => w | none => false) && s.anyProtects (o + i) 1

/-- The poison that a write's flits carry into shelf blocks they touch (R215). -/
def State.flitPoison (s : State) (o : Nat) (ms : List (Byte × Bool)) (psn : BitVec 2) : State :=
  let s1 := if wbit psn 0 && (ms.take 64).any (·.2) then s.shelfPoison o 1 else s
  if wbit psn 1 && (ms.drop 64).any (·.2) then s1.shelfPoison (o + 64) 1 else s1

/-- A write to the shelf: the state, and whether it was refused (R208). -/
def State.shelfTakes (s : State) (o : Nat) (ms : List (Byte × Bool)) (psn : BitVec 2) : State × Bool :=
  if s.shelfSize < o + ms.length ∨ s.writeTouches o ms then (s.shelfTurns o, true)
  else ((((s.lsCharge 0x13 .noc).shelfWriteM .noc o ms).flitPoison o ms psn), false)

/-- An atomic on the shelf (R208, R242). -/
def State.shelfAtom (s : State) (h : Hdr) (o : Nat) (gs gd : Word) : State :=
  let wide : Bool := h.size = 3
  let n := sizeBytes h.size
  if s.shelfSize < o + n ∨ s.anyProtects o n then (s.shelfTurns o).replySts h 10 stsRefused
  else
    let (s1, bs, pois) := (s.lsCharge 0x12 .noc).shelfRead .noc o n
    if pois then (s1.shelfTurns o).replySts h 10 stsRefused
    else
      let old := BitVec.ofNat 64 (ofBytes bs)
      let s2 := (s1.lsCharge 0x13 .noc).shelfWrite .noc o (bytesOf n (amoNew h.op.toNat wide old gs gd))
      s2.reply (answer h 10 0 0 0 (fitList 64 0 (bytesOf 8 (amoVal wide old))))

/-! ## Requests -/

/-- A read of the register window (R354). -/
def State.mmioServe (s : State) (h : Hdr) (o : Nat) : State :=
  if h.size = 3 ∧ o % 8 = 0 then
    let (s1, v) := s.mmioRead o
    s1.reply (answer h 8 0 0 0 (unitFlit h.addr.toNat (bytesOf 8 v.toNat)))
  else s.replySts h 8 stsAddress

/-- A write of the register window: another core's is refused (R354, R367). -/
def State.mmioTakes (s : State) (h : Hdr) (o : Nat) (ms : List (Byte × Bool)) : State :=
  if h.size = 3 ∧ o % 8 = 0 then
    if (reqByHost h) then
      let v := word64At (ms.map (·.1)) 0
      let s1 := s.mmioWrite .driver o v
      if s1.clearHeld o v then s1.holdClear (.host h) else s1.reply (answer h 9 0 (s.ackScope h false) 0 [])
    else (s.mmioWrite .otherCore o (word64At (ms.map (·.1)) 0)).replySts h 9 stsRefused
  else s.replySts h 9 stsAddress

/-- A request to a window that does not serve it (R224, R300). -/
def State.elsewhere (s : State) (h : Hdr) (typ : Nat) : State :=
  match s.window h.addr.toNat with
  | .crock o => (s.crockRefused o .noc).replySts h typ stsAddress
  | _ => s.replySts h typ stsAddress

/-- A read arrives. -/
def State.rdIn (s : State) (h : Hdr) : State :=
  match s.window h.addr.toNat with
  | .shelf o => s.shelfServe h o
  | .mmio o => s.mmioServe h o
  | _ => s.elsewhere h 8

/-- A write arrives. -/
def State.wrIn (s : State) (h : Hdr) (ms : List (Byte × Bool)) : State :=
  match s.window h.addr.toNat with
  | .shelf o =>
    let (s1, no) := s.shelfTakes o ms h.psn
    if no then s1.replySts h 9 stsRefused else s1.reply (answer h 9 0 (s.ackScope h true) 0 [])
  | .mmio o => s.mmioTakes h o ms
  | _ => s.elsewhere h 9

/-- An atomic arrives. -/
def State.atomIn (s : State) (h : Hdr) (gs gd : Word) : State :=
  match s.window h.addr.toNat with
  | .shelf o => s.shelfAtom h o gs gd
  | _ => s.elsewhere h 10

/-- Is a header to the register window, which answers a misaligned one (R354)? -/
def State.toMmio (s : State) (h : Hdr) : Bool := (s.mmioOff h.addr.toNat).isSome

/-- NOC_RD_IN (R208, R354). -/
def execNocRdIn (h : Hdr) (s : State) : Res :=
  if h.typ = 0 ∧ sizeOk h.size ∧ ((reqAligned h) ∨ s.toMmio h) then s.receives (.nocRdIn h) ((s.rxCharge 0).rdIn h)
  else .refused .illFormed

/-- NOC_WR_IN (R208, R354). -/
def execNocWrIn (h : Hdr) (data : List Byte) (mask : List Bool) (s : State) : Res :=
  if h.typ = 1 ∧ reqCarries h data mask ∧ ((reqAligned h) ∨ s.toMmio h) then
    s.receives (.nocWrIn h data mask) ((s.rxCharge (data.length / 64)).wrIn h (reqBytes h data mask))
  else .refused .illFormed

/-- NOC_ATOM_IN (R208, R242). -/
def execNocAtomIn (h : Hdr) (gs gd : Word) (s : State) : Res :=
  if h.typ = 2 ∧ (h.size = 2 ∨ h.size = 3) ∧ h.op.toNat ≤ 9 ∧ ((reqAligned h) ∨ s.toMmio h) then
    s.receives (.nocAtomIn h gs gd) ((s.rxCharge 1).atomIn h gs gd)
  else .refused .illFormed

/-- BCAST_IN: a write to the own shelf at the offset in ADDR, answered with done or refused (R225, R235). -/
def execBcastIn (h : Hdr) (data : List Byte) (mask : List Bool) (s : State) : Res :=
  if h.typ = 6 ∧ 4 ≤ h.size.toNat ∧ reqCarries h data mask ∧ (reqAligned h) then
    let (s1, no) := (s.rxCharge (data.length / 64)).shelfTakes (h.addr.toNat % 2 ^ 23) (reqBytes h data mask) h.psn
    s.receives (.bcastIn h data mask)
      (if no then s1.replySts h 9 stsRefused else s1.reply (answer h 9 0 1 0 []))
  else .refused .illFormed

/-! ## XINV (R260) -/

/-- The requester's distance: 1 cluster, 2 chip, 3 system. -/
def State.distance (s : State) (h : Hdr) : Nat :=
  if h.schip ≠ s.pos.chip then 3 else if h.sclu ≠ s.pos.cluster then 2 else 1

/-- An XINV arrives: walked entries of the SCOPE go, walks start again, and translations that are not in use yet are
made again (R260). -/
def State.xinvTakes (s : State) (h : Hdr) : State :=
  let s1 := ((s.xinvApply (h.op.toNat / 4) h.addr.toNat (s.distance h)).bump .xlt 6 1).retranslate false
  { s1 with noc := { s1.noc with xinvs := s1.noc.xinvs ++ [{ s1.inFlight false with h := h }] } }

/-- XINV_IN (R260). -/
def execXinvIn (h : Hdr) (s : State) : Res :=
  if h.typ = 4 ∧ h.op.toNat < 12 then s.receives (.xinvIn h) ((s.rxCharge 0).xinvTakes h)
  else .refused .illFormed

/-- XINV_ACK_SEND (R260). -/
def execXinvAckSend (s : State) : Res :=
  match s.noc.xinvs with
  | [] => .next s
  | x :: r =>
    due s (s.hears && s.flown x.toInFlight)
      (({ s with noc := { s.noc with xinvs := r } }).replySts x.h 11 0)

/-! ## Messages and bad headers (R225, R226) -/

/-- A message that the core does not take is acknowledged, discarded and counted. -/
def State.badMsg (s : State) (h : Hdr) : State := (s.bump .ldl 2 1).replySts h 9 0

/-- A message of a kind that the core takes, when it is addressed to its window. -/
def State.msgIn (s : State) (h : Hdr) (f : State → State) : State :=
  if h.addr.toNat = s.mmioBase then (f s).replySts h 9 0 else s.badMsg h

/-- DOORBELL (R189, R225, R226). -/
def execDoorbell (h : Hdr) (s : State) : Res :=
  if h.typ = 3 ∧ h.mkind = 1 then s.receives (.doorbell h) ((s.rxCharge 1).msgIn h fun s => s.edge (32 + h.op.toNat))
  else .refused .illFormed

/-- BUDGET_GRANT (R291). -/
def execBudgetGrant (h : Hdr) (data : List Byte) (s : State) : Res :=
  if h.typ = 3 ∧ h.mkind = 2 ∧ data.length = 64 then
    s.receives (.budgetGrant h data) ((s.rxCharge 1).msgIn h fun s => s.grant data)
  else .refused .illFormed

/-- Types whose headers the core discards (R225). -/
def reqDiscarded (h : Hdr) : Bool := h.typ = 5 || h.typ = 7 || h.typ = 0xF

/-- BAD_HEADER: a BAR or reserved type, or a message of a kind or to an address that the core does not take (R225, R226). -/
def execBadHeader (h : Hdr) (s : State) : Res :=
  if (reqDiscarded h) then s.receives (.badHeader h) ((s.rxCharge 0).bump .ldl 2 1)
  else if h.typ = 3 ∧ (h.mkind ≠ 1 ∧ h.mkind ≠ 2 ∨ h.addr.toNat ≠ s.mmioBase) then
    s.receives (.badHeader h) ((s.rxCharge 1).badMsg h)
  else .refused .illFormed

end Sys2Proof.Machine
end

