-- ==== Sys2Proof/Machine/Reset.lean ====
section
/-! DEFINITION. The resets, the boot ROM and the wrapper
(00_scope.md R18; 07_local_store_caches.md R213; 10_timing_energy.md R283, R284; 11_crock_persistence.md R309,
R317, R321, R326, R394; 13_boundary_bringup.md R349, R355 to R364; 14_register_pages.md R373, R374). -/

namespace Sys2Proof.Machine

open Sys2Proof

/-! ## The Crock at a reset (R309) -/

/-- Complete the line write in progress and the queued MC entries, unverified (R308). -/
def State.commitGo (s : State) (fuel : Nat) : State :=
  match fuel with
  | 0 => s
  | f + 1 =>
    match s.crk.now with
    | none => s
    | some r => ((s.fresh.lineWritten r (Config.resetWriteGood s.free)).crockPump).commitGo f

/-- The engine's commit at a reset: as PFAIL, then the held entries go and the tickets start again (R309); a boot ROM in
stage 1 stops. -/
def State.crockCommit (s : State) : State :=
  let s1 := ({ s with crk := { s.crk with pfail := true } }).bootStopped.stopVerify.crockPump
  s1.commitGo (s1.crk.queue.length + 1)

/-- A power cut: the line whose write it interrupts is torn (R305).  The header of a move's map copy whose write PFAIL has
met does not take its new content (R322, R364; log 85). -/
def State.crockTorn (s0 : State) : State :=
  let s := s0.bootTorn
  match s.crk.now with
  | none => s
  | some r =>
    let (p, d) := s.runLine r
    s.tearLine p d (Config.tornLine s.free && !(s.crk.pfail && r.remaps))

/-- The Crock after a warm reset: media, map and slot status are kept, the registers take their reset values (R394). -/
def Crock.warm (c : Crock) : Crock :=
  { Crock.reset with
    media := c.media, errs := c.errs, wmap := c.wmap, wcount := c.wcount, wgen := c.wgen, wcopy := c.wcopy
    mapBad := c.mapBad, active := c.active, vpass := c.vpass, vres := c.vres, svn := c.svn, trial := c.trial
    start := c.start }

/-- The Crock after a cold reset: what lies on the media stays; the map and the slot are chosen again (R321, R326). -/
def Crock.cold (c : Crock) : Crock :=
  { Crock.warm c with mapBad := false, vpass := false, vres := 0, svn := 0, trial := false, start := none }

/-! ## Cold and warm reset (R357) -/

/-- A thread after a reset: HT0 runs (R286, R359). -/
def threadsAt (pc : PAddr) : Vector HThread 4 :=
  Vector.ofFn fun t => { HThread.reset with pc := pc, stopped := t.val ≠ 0 }

/-- Is a request the write-back of a line, which a warm reset lets complete (R213)? -/
def RtEntry.isWriteBack (e : RtEntry) : Bool := match e.kind with | .writeBack _ _ => !e.dead | _ => false

/-- The request table is emptied but for what `keeps` holds: every other entry is freed (R213, R221, R357). -/
def State.portReset (s : State) (keeps : RtEntry → Bool) : Noc :=
  let rt := s.noc.rt.filter fun e => keeps e.2
  { Noc.reset with
    rt := rt
    queue := s.noc.queue.filter fun i => rt.any (·.1 = i)
    gens := (s.noc.rt.filter fun e => !keeps e.2).foldl (fun m e => setD zero3 m e.1 (getD zero3 m e.1 + 1)) s.noc.gens }

/-- Register values that a warm reset keeps (R374). -/
def keptRegs (m : List (Nat × Word)) : List (Nat × Word) :=
  m.filter fun e =>
    match regInfo (pageOf (e.1 / 0x1000)) (e.1 % 0x1000) with
    | some r => r.keep
    | none => false

/-- The wrapper after a reset of the core: WRAP_STATUS takes its Reset value, and the other wrapper registers, which have none,
keep theirs (R18, R391; log 96). -/
def Wrapper.restart (x : Wrapper) : Wrapper := { x with wir := 0x3F }

/-- The state that a cold reset holds the core in (R357), after a power cut or with the rails held.  Program memory keeps its
words, but for a power cut (log 4). -/
def State.coldReset (s : State) (ph : Phase) (cut : Bool) : State :=
  let s1 := if cut then s.crockTorn else s.crockCommit
  { State.reset with
    pos := s.pos
    phase := ph
    crst := s.crst
    pm := if cut then [] else s.pm
    tmg := { Timing.reset with vack := s.tmg.vack, refHere := s.tmg.refHere }
    noc := s1.portReset fun _ => false
    crk := Crock.cold s1.crk
    wrap := s.wrap.restart
    free := s1.free
    pending := s.pending }

/-- Timing after a warm reset: TIME, STEPS and the CAL codes are kept (R357). -/
def Timing.warm (x : Timing) : Timing :=
  { Timing.reset with
    time := x.time, steps := x.steps
    groups := x.groups.map fun g => { g with add := 0, can := false, str := false }
    autoLast := x.autoLast, autoGroup := x.autoGroup, vack := x.vack, refHere := x.refHere
    lastMark := x.time }

/-- Caches after a warm reset: lines, shelf and its growth are kept; L1D, side buffer and store buffer are empty
(R213, R357), and no way sweep is under way: RPR.STATUS.SWEEP takes its Reset value (R18, R335; log 68). -/
def LStore.warm (x : LStore) : LStore := { x with sb := [], l1 := [], l1lru := [], side := [], sweep := [] }

/-- The Scale after a warm reset: the energy counters and SEEN are kept (R292, R373). -/
def Scale.warm (x : Scale) : Scale := { Scale.reset with e := x.e, seen := x.seen, lastMove := x.lastMove }

/-- Repair state after a warm reset: the LREP entries are kept (R392). -/
def Repair.warm (x : Repair) : Repair := { Repair.reset with lrepSh := x.lrepSh, lrepCo := x.lrepCo }

/-- The state that a warm reset holds the core in (R357); write-backs in flight go on to their end (R213). -/
def State.warmReset (s : State) : State :=
  let s1 := s.crockCommit
  { State.reset with
    pos := s.pos
    phase := .warmReset
    thr := threadsAt 0x20
    pm := s.pm
    ls := s.ls.warm
    noc := s1.portReset RtEntry.isWriteBack
    scl := s1.scl.warm
    tmg := s.tmg.warm
    crk := Crock.warm s1.crk
    shadow := keptRegs s.shadow
    committed := keptRegs s.committed
    counters := s1.counters
    rpr := s.rpr.warm
    wrap := s.wrap.restart
    free := s1.free
    pending := s.pending }

/-- COLD_RESET: CRST_N goes low (R356), with the rails held or after a power cut, which is free (R305, R348, log 99).  A test
ends in it, since the reset takes the WIR out of the test instruction (R355, R391; log 96). -/
def execColdReset (s : State) : Res :=
  let s1 : State := { s with crst := true }
  always s (s1.coldReset .coldReset (Config.powerCut s.free)).fresh

/-- WARM_RESET: WRST_N goes low (R356); with a cold or test reset it changes nothing. -/
def execWarmReset (s : State) : Res :=
  always s (if s.phase = .coldReset ∨ s.phase = .testReset then s else s.warmReset)

/-! ## Cold start (R349, R360) -/

/-- Reset release: the reference toggles, which REF_ALIVE shows at once (log 100), and the engine loads the wear map
(R321, R360). -/
def State.coldStart (s : State) : State :=
  ({ s with phase := .boot, tmg := { s.tmg with refAlive := true, refHere := true } }).loadMap

/-- COLD_RESET_RELEASE, with VCORE at `level`: below VL1 the behaviour is undefined (R349); a test reset holds on. -/
def execColdResetRelease (level : Fin 8) (s : State) : Res :=
  let s1 : State := { s with crst := false }
  if s.phase ≠ .coldReset then always s s1
  else if level = 0 then .fault .undefinedVcore
  else always s s1.coldStart

/-! ## The boot ROM (R317, R326, R394) -/

/-- The anti-rollback line in force (R317). -/
def State.rollBytes (s : State) : List Byte :=
  let mask := ofBytes [BitVec.ofNat 8 (rollRevoke (s.rollCopy 0)) ||| BitVec.ofNat 8 (rollRevoke (s.rollCopy 1))]
  sealLine (bytesOf 4 0x7C74_5256 ++ bytesOf 4 s.floor ++ bytesOf 4 (2 ^ 32 - 1 - s.floor) ++ bytesOf 1 mask)

/-- The boot ROM rewrites copy `i` of the anti-rollback line from the one in force, `bs`, where it is invalid or lower
(R317). -/
def State.rollRepair (s : State) (bs : List Byte) (i : Nat) : State :=
  if (s.rollCopy 0).isNone ∧ (s.rollCopy 1).isNone then s
  else if s.rollCopy i = some bs then s
  else s.bootWrite (0x2_0002 + i) bs

/-- PREF and TRIAL of the record in force: slot A with no trial where none is valid (R317). -/
def State.bootPref (s : State) : Bool := match s.bootRecord with | some (_, b) => recPref b | none => false
def State.bootTrial (s : State) : Bool := match s.bootRecord with | some (_, b) => recTrial b | none => false

/-- PREF and TRIAL that the boot ROM goes on with: as it has updated them, whether or not their line could be written (R326). -/
def State.bootChoice (s : State) : Bool × Bool :=
  match s.bootNext with
  | some (_, b) => (recPref b, recTrial b)
  | none => (s.bootPref, s.bootTrial)

/-- A verify at boot, with the result `r`: its line reads, and the record of an uncorrectable line. -/
def State.bootVerify (s : State) (slot : Bool) (r : Nat) : State :=
  let s1 := s.verifyReads slot
  if r = 6 then s1.crockFound (((manifestLines slot ++ signedLines slot (s.manifest slot)).find? s.crockUe).getD 0) 5
  else s1

/-- A slot has verified: HT0 starts (R326, R360, R394). -/
def State.bootStart (s : State) (slot : Bool) : State :=
  { s with
    phase := .run
    startAt := s.tmg.time
    crk := { s.crk with
      active := slot, vres := 1, start := some true
      svn := BitVec.ofNat 32 (mfield (s.manifest slot) 8 4) } }

/-- No slot can start: the boot ROM reports it (R363, R394). -/
def State.bootFails (s : State) (pref : Bool) (vres status : Nat) : State :=
  ({ s with
    phase := .noBoot
    crk := { s.crk with active := pref, vres := BitVec.ofNat 4 vres, svn := 0, start := some false } }).sendReady
    status

/-- The boot ROM settles the active slot (R326, R363), by the boot record, the floor and the revocations in force at its start:
a copy that it cannot write changes none of them (log 69). -/
def State.bootSettle (s0 : State) : State :=
  let s := s0.bootReads
  if s.crk.mapBad then ({ s with crk := { s.crk with trial := s.bootTrial } }).bootFails s.bootPref 0 0x80
  else
    let (pref, trial) := s.bootChoice
    let s1 := (s.bootUpdate.rollRepair s.rollBytes 0).rollRepair s.rollBytes 1
    let r := s.verifyCode pref
    let s2 := ({ s1 with crk := { s1.crk with trial := trial } }).bootVerify pref r
    if r = 1 then s2.bootStart pref
    else
      let r2 := s.verifyCode (!pref)
      let s3 := s2.bootVerify (!pref) r2
      if r2 = 1 then s3.bootStart (!pref) else s3.bootFails pref r 0x81

/-- BOOT_VERIFY_DONE (R326). -/
def execBootVerifyDone (s : State) : Res := due s (s.phase = .boot) s.bootSettle

/-- Do write-backs that were in flight at a warm reset wait for their answers still (R213)? -/
def State.writesBack (s : State) : Bool := s.noc.rt.any fun e => !e.2.dead

/-- The request table is empty: an entry still in quarantine is freed, its generation one higher (R221, R357). -/
def State.tableEmptied (s : State) : State :=
  { s with noc := { s.noc with rt := [], queue := [], gens := (s.portReset fun _ => false).gens } }

/-- Where a warm reset's release takes the core: what the boot ROM had settled stands (R361, log 68). -/
def State.warmPhase (s : State) : Phase :=
  match s.crk.start with
  | none => .boot
  | some true => .run
  | some false => .noBoot

/-- WARM_RESET_RELEASE: the reset ends when the write-backs in flight have completed (R213), with an empty request table
(R357); HT0 starts 10 µs later (R361), and where the boot ROM has started no thread, none starts.  REF_ALIVE is set where
the reference toggles (log 100). -/
def execWarmResetRelease (s : State) : Res :=
  due s (s.phase = .warmReset && !s.writesBack)
    { s.tableEmptied with
      phase := s.warmPhase, startAt := s.tmg.time + 10 * cycUs, tmg := { s.tmg with refAlive := s.tmg.refHere } }

/-- TIMING_DOMAIN_RESET: the PLL, the multiplexer and the link start again on the reference; flits on the link are
lost (R284, R356). -/
def execTimingDomainReset (s : State) : Res :=
  always s { s with
    tmg := { s.tmg with pllLock := false, pllAlive := false, coast := false, src := true, mux := none, muxOld := false, muxLost := false, muxHung := false }
    noc := { s.noc with out := none } }

/-! ## The wrapper (R355) -/

/-- Does a WIR value hold the core in test reset? -/
def testHold (w : BitVec 6) : Bool := w = 0x01 || w = 0x02 || w = 0x04

/-- The WIR takes a value: a test reset begins, goes on, or ends in a cold start, which waits while CRST_N is low
(R355, R356). -/
def State.setWir (s : State) (w : BitVec 6) : State :=
  let s1 := if testHold w then (if s.phase = .testReset then s else s.coldReset .testReset false)
    else if s.phase = .testReset then (if s.crst then { s with phase := .coldReset } else s.coldStart) else s
  { s1 with wrap := { s1.wrap with wir := w } }

/-- The bypass register is selected: it captures 0 (log 15). -/
def State.selBypass (s : State) : State := { s with wrap := { s.wrap with bypass := false } }

/-- The boundary register is selected: it captures, shifts and updates; what it captures has no layout, and what is
shifted in is free (log 21). -/
def State.selBoundary (s : State) : State :=
  { s with
    wrap := { s.wrap with boundary := Config.boundaryCapture s.free, preload := Config.boundaryShift s.free }
    free := s.free + 1 }

/-- What the wrapper holds the outputs at: WS_CLAMP the preloaded values (R355); WS_EXTEST drives its boundary register
too (log 21). -/
def State.pinsHeld (s : State) : Option Nat :=
  if s.wrap.wir = 0x04 ∨ s.wrap.wir = 0x01 then some s.wrap.preload else none

/-- WIR values that R355 names. -/
def wirNamed (w : BitVec 6) : Bool := w = 0x01 || w = 0x02 || w = 0x03 || w = 0x04 || w = 0x10

/-- The value that WS_BYPASS loads: 0x3F or one that R355 does not name (log 99). -/
def State.bypassValue (s : State) : BitVec 6 :=
  let w := Config.bypassWir s.free
  if wirNamed w then 0x3F else w

/-- WS_BYPASS: 0x3F, and every value that R355 does not name (R355). -/
def execWsBypass (s : State) : Res := always s (s.setWir s.bypassValue).selBypass.fresh
/-- WS_EXTEST (R355). -/
def execWsExtest (s : State) : Res := always s (s.setWir 0x01).selBoundary
/-- WS_INTEST_SCAN (R355). -/
def execWsIntestScan (s : State) : Res := always s (s.setWir 0x02)
/-- WS_PRELOAD (R355). -/
def execWsPreload (s : State) : Res := always s (s.setWir 0x03).selBoundary
/-- WS_CLAMP (R355). -/
def execWsClamp (s : State) : Res := always s (s.setWir 0x04).selBypass

/-- The data register of MMIO_ACCESS: data, window offset, write, done. -/
def accessReg (data : Word) (off : Nat) (wr done : Bool) : BitVec 82 :=
  BitVec.ofNat 82 (data.toNat + off * 2 ^ 64 + b2n wr * 2 ^ 80 + b2n done * 2 ^ 81)

/-- One access as the driver (R354, R355): at an offset that the window does not serve it has no effect. -/
def State.wrapAccess (s : State) (data : Word) (off : Nat) (wr : Bool) : State :=
  let put := fun (s : State) (v : Word) (done : Bool) =>
    { s with wrap := { s.wrap with dr := accessReg v off wr done } }
  if !s.served then put s data false
  else if off % 8 ≠ 0 then put s data true
  else if wr then
    let s1 := s.mmioWrite .driver off data
    if s1.clearHeld off data then put (s1.holdClear .tap) data false else put s1 data true
  else
    let (s1, v) := s.mmioRead off
    put s1 v true

/-- A new access: the wrapper waits no longer for an earlier one. -/
def State.dropTap (s : State) : State :=
  { s with noc := { s.noc with clears := s.noc.clears.filter fun x => x.who ≠ .tap } }

/-- MMIO_ACCESS (R355): in retention it wakes the core and waits, not yet done (R279). -/
def execMmioAccess (dr : BitVec 82) (s : State) : Res :=
  let x := dr.toNat
  let s1 := (s.setWir 0x10).dropTap
  if s.portHolds then
    always s { s1.arrives (.mmioAccess dr) with wrap := { s1.wrap with dr := accessReg (BitVec.ofNat 64 x) (bits x 79 64) (nbit x 80) false } }
  else always s (s1.wrapAccess (BitVec.ofNat 64 x) (bits x 79 64) (nbit x 80))

end Sys2Proof.Machine
end

