-- ==== Sys2Proof/Machine/Scalar.lean ====
section
/-! DEFINITION. The scalar register instructions: R and I class, long immediates, division and
accumulators (05_threads_volis14.md R137, R138, R141 to R143, R147 to R149). -/

namespace Sys2Proof.Machine

open Sys2Proof

/-- MODE fields (R131). -/
def HThread.rnd (h : HThread) : Rnd := Rnd.ofCode (wbits h.mode 2 0)
def HThread.sat (h : HThread) : Bool := wbit h.mode 3
def HThread.dze (h : HThread) : Bool := wbit h.mode 4
def HThread.ove (h : HThread) : Bool := wbit h.mode 5

/-- Write a result that cannot trap. -/
def writeG (t : Thread) (d : GReg) (f : State → Word) (s : State) : Ends := .done (s.setG t d (f s)) .nothing

/-- Write an exact result under the overflow rule of R137. -/
def arith (t : Thread) (d : GReg) (f : State → Int) (s : State) : Ends :=
  let x := f s
  if overflows x then
    (if (s.th t).ove then .trap s 0x05 0 0
     else .done ((s.setG t d (BitVec.ofInt 64 x)).setFlg t flgOV) .nothing)
  else .done (s.setG t d (BitVec.ofInt 64 x)) .nothing

/-- The draw of an instruction that rounds: taken once under stochastic rounding (R134). -/
def State.scalarDraw (s : State) (t : Thread) : State × Nat :=
  let h := s.th t
  match h.rnd with
  | .stoch => (s.setTh t { h with rcnt := h.rcnt + 1 }, draw h.seed 0 0 h.rcnt.toNat)
  | _ => (s, 0)

/-- rnd(num / 2^k) of R136 with its flag. -/
def State.round (s : State) (t : Thread) (num : Int) (k : Nat) : State × Int :=
  let (s1, u) := s.scalarDraw t
  (s1.flgIf t flgAINX (rndInexact num k), rndPow2 (s.th t).rnd u num k)

/-- Write fit80 of a value into an accumulator (R136). -/
def State.setFit80 (s : State) (t : Thread) (a : Fin 2) (x : Int) : State :=
  let r := fitS 80 (s.th t).sat x
  (s.setAcc t a r.1).flgIf t flgAOV r.2

/-- a := fit80(a + sign x rnd(x y 2^-62)) (R141, R149). -/
def macc (t : Thread) (a : Fin 2) (sign : Int) (x y : State → Word) (s : State) : Ends :=
  let (s1, r) := s.round t ((x s).toInt * (y s).toInt) 62
  .done (s1.setFit80 t a (s.acc t a + sign * r)) .nothing

/-- A division that has a non-zero divisor, or takes the result of R138 for a divisor of zero. -/
def divide (t : Thread) (d : GReg) (x y : State → Word) (zero : Word → Word)
    (go : State → Ends) (s : State) : Ends :=
  if y s = 0 then
    (if (s.th t).dze then .trap s 0x04 0 0
     else .done ((s.setG t d (zero (x s))).setFlg t flgDZ) .nothing)
  else go s

/-- MOV: gd := gs (R141). -/
def execMov (t : Thread) (d r : GReg) (s : State) : Res :=
  issue s t 1 (writeG t d fun s => s.g t r)

/-- ADD, with overflow (R137, R141). -/
def execAdd (t : Thread) (d r : GReg) (s : State) : Res :=
  issue s t 1 (arith t d fun s => (s.g t d).toInt + (s.g t r).toInt)

/-- SUB, with overflow (R137, R141). -/
def execSub (t : Thread) (d r : GReg) (s : State) : Res :=
  issue s t 1 (arith t d fun s => (s.g t d).toInt - (s.g t r).toInt)

/-- AND (R141). -/
def execAnd (t : Thread) (d r : GReg) (s : State) : Res :=
  issue s t 1 (writeG t d fun s => s.g t d &&& s.g t r)

/-- OR (R141). -/
def execOr (t : Thread) (d r : GReg) (s : State) : Res :=
  issue s t 1 (writeG t d fun s => s.g t d ||| s.g t r)

/-- XOR (R141). -/
def execXor (t : Thread) (d r : GReg) (s : State) : Res :=
  issue s t 1 (writeG t d fun s => s.g t d ^^^ s.g t r)

/-- SLL (R141). -/
def execSll (t : Thread) (d r : GReg) (s : State) : Res :=
  issue s t 1 (writeG t d fun s => sllV (s.g t d) (s.g t r))

/-- SRL (R141). -/
def execSrl (t : Thread) (d r : GReg) (s : State) : Res :=
  issue s t 1 (writeG t d fun s => srlV (s.g t d) (s.g t r))

/-- SRA (R141). -/
def execSra (t : Thread) (d r : GReg) (s : State) : Res :=
  issue s t 1 (writeG t d fun s => sraV (s.g t d) (s.g t r))

/-- SLT (R141). -/
def execSlt (t : Thread) (d r : GReg) (s : State) : Res :=
  issue s t 1 (writeG t d fun s => sltV (s.g t d) (s.g t r))

/-- SLTU (R141). -/
def execSltu (t : Thread) (d r : GReg) (s : State) : Res :=
  issue s t 1 (writeG t d fun s => sltuV (s.g t d) (s.g t r))

/-- MUL: the low 64 bits, with overflow (R137, R141). -/
def execMul (t : Thread) (d r : GReg) (s : State) : Res :=
  issue s t 1 (arith t d fun s => (s.g t d).toInt * (s.g t r).toInt)

/-- MULH: bits [127:64] of the signed product (R141). -/
def execMulh (t : Thread) (d r : GReg) (s : State) : Res :=
  issue s t 1 (writeG t d fun s => mulhV (s.g t d) (s.g t r))

/-- MAC0: a0 := fit80(a0 + rnd(gd gs 2^-62)) (R141). -/
def execMac0 (t : Thread) (d r : GReg) (s : State) : Res :=
  issue s t 1 (macc t 0 1 (fun s => s.g t d) (fun s => s.g t r))

/-- MAC1: as MAC0, into a1 (R141). -/
def execMac1 (t : Thread) (d r : GReg) (s : State) : Res :=
  issue s t 1 (macc t 1 1 (fun s => s.g t d) (fun s => s.g t r))

/-- NOT (R142). -/
def execNot (t : Thread) (d : GReg) (s : State) : Res :=
  issue s t 1 (writeG t d fun s => ~~~ (s.g t d))

/-- NEG, with overflow (R137, R142). -/
def execNeg (t : Thread) (d : GReg) (s : State) : Res :=
  issue s t 1 (arith t d fun s => -(s.g t d).toInt)

/-- ABS, with overflow (R137, R142). -/
def execAbs (t : Thread) (d : GReg) (s : State) : Res :=
  issue s t 1 (arith t d fun s => if (s.g t d).toInt < 0 then -(s.g t d).toInt else (s.g t d).toInt)

/-- ZXB: bits [7:0], zero-extended (R142). -/
def execZxb (t : Thread) (d : GReg) (s : State) : Res :=
  issue s t 1 (writeG t d fun s => ((s.g t d).setWidth 8).setWidth 64)

/-- ZXH: bits [15:0], zero-extended (R142). -/
def execZxh (t : Thread) (d : GReg) (s : State) : Res :=
  issue s t 1 (writeG t d fun s => ((s.g t d).setWidth 16).setWidth 64)

/-- ZXW: bits [31:0], zero-extended (R142). -/
def execZxw (t : Thread) (d : GReg) (s : State) : Res :=
  issue s t 1 (writeG t d fun s => ((s.g t d).setWidth 32).setWidth 64)

/-- SXB: bits [7:0], sign-extended (R142). -/
def execSxb (t : Thread) (d : GReg) (s : State) : Res :=
  issue s t 1 (writeG t d fun s => ((s.g t d).setWidth 8).signExtend 64)

/-- SXH: bits [15:0], sign-extended (R142). -/
def execSxh (t : Thread) (d : GReg) (s : State) : Res :=
  issue s t 1 (writeG t d fun s => ((s.g t d).setWidth 16).signExtend 64)

/-- SXW: bits [31:0], sign-extended (R142). -/
def execSxw (t : Thread) (d : GReg) (s : State) : Res :=
  issue s t 1 (writeG t d fun s => ((s.g t d).setWidth 32).signExtend 64)

/-- CLZ: the number of leading zero bits (R142). -/
def execClz (t : Thread) (d : GReg) (s : State) : Res :=
  issue s t 1 (writeG t d fun s => leadingZeros (s.g t d))

/-- POPC: the number of one bits (R142). -/
def execPopc (t : Thread) (d : GReg) (s : State) : Res :=
  issue s t 1 (writeG t d fun s => popcount (s.g t d))

/-- MOVI (R143). -/
def execMovi (t : Thread) (d : GReg) (imm : BitVec 6) (s : State) : Res :=
  issue s t 1 (writeG t d fun _ => sext6 imm)

/-- ADDI, with overflow (R137, R143). -/
def execAddi (t : Thread) (d : GReg) (imm : BitVec 6) (s : State) : Res :=
  issue s t 1 (arith t d fun s => (s.g t d).toInt + (sext6 imm).toInt)

/-- SLLI (R143). -/
def execSlli (t : Thread) (d : GReg) (imm : BitVec 6) (s : State) : Res :=
  issue s t 1 (writeG t d fun s => s.g t d <<< imm.toNat)

/-- SRAI (R143). -/
def execSrai (t : Thread) (d : GReg) (imm : BitVec 6) (s : State) : Res :=
  issue s t 1 (writeG t d fun s => (s.g t d).sshiftRight imm.toNat)

/-- MOVL (R147). -/
def execMovl (t : Thread) (d : GReg) (imm : BitVec 28) (s : State) : Res :=
  issue s t 3 (writeG t d fun _ => sext28 imm)

/-- SHOL (R147). -/
def execShol (t : Thread) (d : GReg) (imm : BitVec 28) (s : State) : Res :=
  issue s t 3 (writeG t d fun s => sholV (s.g t d) imm)

/-- ADDL, with overflow (R137, R147). -/
def execAddl (t : Thread) (d : GReg) (imm : BitVec 28) (s : State) : Res :=
  issue s t 3 (arith t d fun s => (s.g t d).toInt + (sext28 imm).toInt)

/-- ANDL (R147). -/
def execAndl (t : Thread) (d : GReg) (imm : BitVec 28) (s : State) : Res :=
  issue s t 3 (writeG t d fun s => s.g t d &&& sext28 imm)

/-- DIV: the signed quotient, truncated toward zero (R137, R138, R148). -/
def execDiv (t : Thread) (d r : GReg) (s : State) : Res :=
  issue s t 2 (divide t d (fun s => s.g t d) (fun s => s.g t r) (fun x => if 0 ≤ x.toInt then 0x7FFFFFFFFFFFFFFF else 0x8000000000000000)
    (arith t d fun s => quotT (s.g t d).toInt (s.g t r).toInt))

/-- DIVU: the unsigned quotient (R138, R148). -/
def execDivu (t : Thread) (d r : GReg) (s : State) : Res :=
  issue s t 2 (divide t d (fun s => s.g t d) (fun s => s.g t r) (fun _ => 0xFFFFFFFFFFFFFFFF)
    (writeG t d fun s => s.g t d / s.g t r))

/-- REM: the signed remainder, with the sign of the dividend (R138, R148). -/
def execRem (t : Thread) (d r : GReg) (s : State) : Res :=
  issue s t 2 (divide t d (fun s => s.g t d) (fun s => s.g t r) (fun x => x)
    (writeG t d fun s => BitVec.ofInt 64 (remT (s.g t d).toInt (s.g t r).toInt)))

/-- REMU: the unsigned remainder (R138, R148). -/
def execRemu (t : Thread) (d r : GReg) (s : State) : Res :=
  issue s t 2 (divide t d (fun s => s.g t d) (fun s => s.g t r) (fun x => x)
    (writeG t d fun s => s.g t d % s.g t r))

/-- MSU: a := fit80(a - rnd(g g2 2^-62)) (R149). -/
def execMsu (t : Thread) (a : Fin 2) (g g2 : GReg) (s : State) : Res :=
  issue s t 2 (macc t a (-1) (fun s => s.g t g) (fun s => s.g t g2))

/-- AZERO (R149). -/
def execAzero (t : Thread) (a : Fin 2) (s : State) : Res :=
  issue s t 2 fun s => .done (s.setAcc t a 0) .nothing

/-- ALD: a := 2 signed(g) (R149). -/
def execAld (t : Thread) (a : Fin 2) (g : GReg) (s : State) : Res :=
  issue s t 2 fun s => .done (s.setAcc t a (2 * (s.g t g).toInt)) .nothing

/-- g := fit64(rnd(a / 2)) (R149). -/
def astBody (t : Thread) (a : Fin 2) (g : GReg) (s : State) : Ends :=
  let (s1, r) := s.round t (s.acc t a) 1
  let f := fitS 64 (s.th t).sat r
  .done ((s1.setG t g (BitVec.ofInt 64 f.1)).flgIf t flgQSAT f.2) .nothing

/-- AST: g := fit64(rnd(a / 2)) (R149). -/
def execAst (t : Thread) (a : Fin 2) (g : GReg) (s : State) : Res :=
  issue s t 2 (astBody t a g)

/-- ARDL: g := bits(a, 63, 0) (R149). -/
def execArdl (t : Thread) (a : Fin 2) (g : GReg) (s : State) : Res :=
  issue s t 2 (writeG t g fun s => ((s.th t).a[a]).setWidth 64)

/-- ARDH: g := bits(a, 79, 64), sign-extended (R149). -/
def execArdh (t : Thread) (a : Fin 2) (g : GReg) (s : State) : Res :=
  issue s t 2 (writeG t g fun s => (((s.th t).a[a] >>> 64).setWidth 16).signExtend 64)

/-- AWR: bits [79:64] from g2 and bits [63:0] from g (R149). -/
def execAwr (t : Thread) (a : Fin 2) (g g2 : GReg) (s : State) : Res :=
  issue s t 2 fun s =>
    .done (s.setAcc t a (signed 80 (wbits (s.g t g2) 15 0 * 2 ^ 64 + (s.g t g).toNat))) .nothing

/-- The shift of ASHL and ASHR: min(g mod 128, 80) (R149). -/
def accShift (x : Word) : Nat := min (x.toNat % 128) 80

/-- a := rnd(a 2^-n) (R149). -/
def ashrBody (t : Thread) (a : Fin 2) (g : GReg) (s : State) : Ends :=
  let (s1, r) := s.round t (s.acc t a) (accShift (s.g t g))
  .done (s1.setAcc t a r) .nothing

/-- ASHL: a := fit80(a 2^n) (R149). -/
def execAshl (t : Thread) (a : Fin 2) (g : GReg) (s : State) : Res :=
  issue s t 2 fun s => .done (s.setFit80 t a (s.acc t a * 2 ^ accShift (s.g t g))) .nothing

/-- ASHR: a := rnd(a 2^-n) (R149). -/
def execAshr (t : Thread) (a : Fin 2) (g : GReg) (s : State) : Res :=
  issue s t 2 (ashrBody t a g)

/-- AADD: a := fit80(a + the other accumulator) (R149). -/
def execAadd (t : Thread) (a : Fin 2) (s : State) : Res :=
  issue s t 2 fun s => .done (s.setFit80 t a (s.acc t a + s.acc t (1 - a))) .nothing

end Sys2Proof.Machine
end

