-- ==== Sys2Proof/Machine/Dispatch.lean ====
section
/-! DEFINITION. One arm per constructor of Instr. -/

namespace Sys2Proof.Machine

open Sys2Proof

/-- The effect of a command on everything but the queue. -/
def exec (i : Instr) (s : State) : Host.Outcome State Fault Refusal :=
  match i with
  | .mov t d rs => Sys2Proof.Machine.execMov t d rs s
  | .add t d rs => Sys2Proof.Machine.execAdd t d rs s
  | .sub t d rs => Sys2Proof.Machine.execSub t d rs s
  | .and t d rs => Sys2Proof.Machine.execAnd t d rs s
  | .or t d rs => Sys2Proof.Machine.execOr t d rs s
  | .xor t d rs => Sys2Proof.Machine.execXor t d rs s
  | .sll t d rs => Sys2Proof.Machine.execSll t d rs s
  | .srl t d rs => Sys2Proof.Machine.execSrl t d rs s
  | .sra t d rs => Sys2Proof.Machine.execSra t d rs s
  | .slt t d rs => Sys2Proof.Machine.execSlt t d rs s
  | .sltu t d rs => Sys2Proof.Machine.execSltu t d rs s
  | .mul t d rs => Sys2Proof.Machine.execMul t d rs s
  | .mulh t d rs => Sys2Proof.Machine.execMulh t d rs s
  | .mac0 t d rs => Sys2Proof.Machine.execMac0 t d rs s
  | .mac1 t d rs => Sys2Proof.Machine.execMac1 t d rs s
  | .not t d => Sys2Proof.Machine.execNot t d s
  | .neg t d => Sys2Proof.Machine.execNeg t d s
  | .abs t d => Sys2Proof.Machine.execAbs t d s
  | .zxb t d => Sys2Proof.Machine.execZxb t d s
  | .zxh t d => Sys2Proof.Machine.execZxh t d s
  | .zxw t d => Sys2Proof.Machine.execZxw t d s
  | .sxb t d => Sys2Proof.Machine.execSxb t d s
  | .sxh t d => Sys2Proof.Machine.execSxh t d s
  | .sxw t d => Sys2Proof.Machine.execSxw t d s
  | .clz t d => Sys2Proof.Machine.execClz t d s
  | .popc t d => Sys2Proof.Machine.execPopc t d s
  | .movi t d imm => Sys2Proof.Machine.execMovi t d imm s
  | .addi t d imm => Sys2Proof.Machine.execAddi t d imm s
  | .slli t d imm => Sys2Proof.Machine.execSlli t d imm s
  | .srai t d imm => Sys2Proof.Machine.execSrai t d imm s
  | .ldb t d b ext => Sys2Proof.Machine.execLdb t d b ext s
  | .ldh t d b ext => Sys2Proof.Machine.execLdh t d b ext s
  | .ldw t d b ext => Sys2Proof.Machine.execLdw t d b ext s
  | .ldd t d b ext => Sys2Proof.Machine.execLdd t d b ext s
  | .stb t d b ext => Sys2Proof.Machine.execStb t d b ext s
  | .sth t d b ext => Sys2Proof.Machine.execSth t d b ext s
  | .stw t d b ext => Sys2Proof.Machine.execStw t d b ext s
  | .std t d b ext => Sys2Proof.Machine.execStd t d b ext s
  | .jmp t target => Sys2Proof.Machine.execJmp t target s
  | .call t target => Sys2Proof.Machine.execCall t target s
  | .jr t rs => Sys2Proof.Machine.execJr t rs s
  | .callr t rs => Sys2Proof.Machine.execCallr t rs s
  | .beqz t r target => Sys2Proof.Machine.execBeqz t r target s
  | .bnez t r target => Sys2Proof.Machine.execBnez t r target s
  | .bltz t r target => Sys2Proof.Machine.execBltz t r target s
  | .bgez t r target => Sys2Proof.Machine.execBgez t r target s
  | .loop t rs lvl stop => Sys2Proof.Machine.execLoop t rs lvl stop s
  | .loopi t count lvl stop => Sys2Proof.Machine.execLoopi t count lvl stop s
  | .movl t d imm => Sys2Proof.Machine.execMovl t d imm s
  | .shol t d imm => Sys2Proof.Machine.execShol t d imm s
  | .addl t d imm => Sys2Proof.Machine.execAddl t d imm s
  | .andl t d imm => Sys2Proof.Machine.execAndl t d imm s
  | .div t d rs => Sys2Proof.Machine.execDiv t d rs s
  | .divu t d rs => Sys2Proof.Machine.execDivu t d rs s
  | .rem t d rs => Sys2Proof.Machine.execRem t d rs s
  | .remu t d rs => Sys2Proof.Machine.execRemu t d rs s
  | .msu t a g g2 => Sys2Proof.Machine.execMsu t a g g2 s
  | .azero t a => Sys2Proof.Machine.execAzero t a s
  | .ald t a g => Sys2Proof.Machine.execAld t a g s
  | .ast t a g => Sys2Proof.Machine.execAst t a g s
  | .ardl t a g => Sys2Proof.Machine.execArdl t a g s
  | .ardh t a g => Sys2Proof.Machine.execArdh t a g s
  | .awr t a g g2 => Sys2Proof.Machine.execAwr t a g g2 s
  | .ashl t a g => Sys2Proof.Machine.execAshl t a g s
  | .ashr t a g => Sys2Proof.Machine.execAshr t a g s
  | .aadd t a => Sys2Proof.Machine.execAadd t a s
  | .amoSwap t wide gd ga gs => Sys2Proof.Machine.execAmoSwap t wide gd ga gs s
  | .amoAdd t wide gd ga gs => Sys2Proof.Machine.execAmoAdd t wide gd ga gs s
  | .amoAnd t wide gd ga gs => Sys2Proof.Machine.execAmoAnd t wide gd ga gs s
  | .amoOr t wide gd ga gs => Sys2Proof.Machine.execAmoOr t wide gd ga gs s
  | .amoXor t wide gd ga gs => Sys2Proof.Machine.execAmoXor t wide gd ga gs s
  | .amoMin t wide gd ga gs => Sys2Proof.Machine.execAmoMin t wide gd ga gs s
  | .amoMax t wide gd ga gs => Sys2Proof.Machine.execAmoMax t wide gd ga gs s
  | .amoMinu t wide gd ga gs => Sys2Proof.Machine.execAmoMinu t wide gd ga gs s
  | .amoMaxu t wide gd ga gs => Sys2Proof.Machine.execAmoMaxu t wide gd ga gs s
  | .amoCas t wide gd ga gs => Sys2Proof.Machine.execAmoCas t wide gd ga gs s
  | .fence t sc => Sys2Proof.Machine.execFence t sc s
  | .csrr t g csr => Sys2Proof.Machine.execCsrr t g csr s
  | .csrw t g csr => Sys2Proof.Machine.execCsrw t g csr s
  | .csrs t g csr => Sys2Proof.Machine.execCsrs t g csr s
  | .csrc t g csr => Sys2Proof.Machine.execCsrc t g csr s
  | .pmw t ga gs => Sys2Proof.Machine.execPmw t ga gs s
  | .pmr t gd ga => Sys2Proof.Machine.execPmr t gd ga s
  | .trap t code => Sys2Proof.Machine.execTrap t code s
  | .rett t => Sys2Proof.Machine.execRett t s
  | .wait t => Sys2Proof.Machine.execWait t s
  | .xinvAddress t ga sc => Sys2Proof.Machine.execXinvAddress t ga sc s
  | .xinvNonglobal t ga sc => Sys2Proof.Machine.execXinvNonglobal t ga sc s
  | .xinvAll t ga sc => Sys2Proof.Machine.execXinvAll t ga sc s
  | .lsmClean t ga bySetWay => Sys2Proof.Machine.execLsmClean t ga bySetWay s
  | .lsmInvalidate t ga bySetWay => Sys2Proof.Machine.execLsmInvalidate t ga bySetWay s
  | .lsmCleanInvalidate t ga bySetWay => Sys2Proof.Machine.execLsmCleanInvalidate t ga bySetWay s
  | .tclaim t gd => Sys2Proof.Machine.execTclaim t gd s
  | .tclaimForce t gd => Sys2Proof.Machine.execTclaimForce t gd s
  | .tclaimForceDone t => Sys2Proof.Machine.execTclaimForceDone t s
  | .trelTray t tray => Sys2Proof.Machine.execTrelTray t tray s
  | .trelSlot t slot => Sys2Proof.Machine.execTrelSlot t slot s
  | .trelUnit t => Sys2Proof.Machine.execTrelUnit t s
  | .trelUnitDone t => Sys2Proof.Machine.execTrelUnitDone t s
  | .tcfg t tray rows len => Sys2Proof.Machine.execTcfg t tray rows len s
  | .tzero t slot gc gs => Sys2Proof.Machine.execTzero t slot gc gs s
  | .tld t tray ga gb => Sys2Proof.Machine.execTld t tray ga gb s
  | .tst t tray ga gb => Sys2Proof.Machine.execTst t tray ga gb s
  | .tmma t slot a b fa fb sa sb => Sys2Proof.Machine.execTmma t slot a b fa fb sa sb s
  | .tmms t slot a b fa fb sa sb mt => Sys2Proof.Machine.execTmms t slot a b fa fb sa sb mt s
  | .tdrain t slot gd => Sys2Proof.Machine.execTdrain t slot gd s
  | .tmovCopy t dst src => Sys2Proof.Machine.execTmovCopy t dst src s
  | .tmovTranspose t dst src op => Sys2Proof.Machine.execTmovTranspose t dst src op s
  | .tsyncWait t => Sys2Proof.Machine.execTsyncWait t s
  | .tsyncWaitDone t => Sys2Proof.Machine.execTsyncWaitDone t s
  | .tsyncResume t => Sys2Proof.Machine.execTsyncResume t s
  | .tsyncDiscard t => Sys2Proof.Machine.execTsyncDiscard t s
  | .tsave t ga => Sys2Proof.Machine.execTsave t ga s
  | .tsaveBlock t => Sys2Proof.Machine.execTsaveBlock t s
  | .trstr t ga => Sys2Proof.Machine.execTrstr t ga s
  | .trstrBlock t => Sys2Proof.Machine.execTrstrBlock t s
  | .tileEntryStart => Sys2Proof.Machine.execTileEntryStart s
  | .skilletStep => Sys2Proof.Machine.execSkilletStep s
  | .tileMemPage run => Sys2Proof.Machine.execTileMemPage run s
  | .tileMemLineDone run line => Sys2Proof.Machine.execTileMemLineDone run line s
  | .drainStreamRow => Sys2Proof.Machine.execDrainStreamRow s
  | .drainComplete => Sys2Proof.Machine.execDrainComplete s
  | .wadd t D A B T U BB RND SAT => Sys2Proof.Machine.execWadd t D A B T U BB RND SAT s
  | .waddSub t D A B T U BB RND SAT => Sys2Proof.Machine.execWaddSub t D A B T U BB RND SAT s
  | .wmul t D A B T U BB RND SAT => Sys2Proof.Machine.execWmul t D A B T U BB RND SAT s
  | .wfma t D A B C T U BB BC RND SAT => Sys2Proof.Machine.execWfma t D A B C T U BB BC RND SAT s
  | .wfmaNeg t D A B C T U BB BC RND SAT => Sys2Proof.Machine.execWfmaNeg t D A B C T U BB BC RND SAT s
  | .wmax t D A B T U BB RND SAT => Sys2Proof.Machine.execWmax t D A B T U BB RND SAT s
  | .wmin t D A B T U BB RND SAT => Sys2Proof.Machine.execWmin t D A B T U BB RND SAT s
  | .wsel t D A B C T U BB BC RND SAT => Sys2Proof.Machine.execWsel t D A B C T U BB BC RND SAT s
  | .wexp t D A T U RND SAT => Sys2Proof.Machine.execWexp t D A T U RND SAT s
  | .wrcp t D A T U RND SAT => Sys2Proof.Machine.execWrcp t D A T U RND SAT s
  | .wrsq t D A T U RND SAT => Sys2Proof.Machine.execWrsq t D A T U RND SAT s
  | .wcvt t D A SS DS SF DF SW DW SF4 DF4 RND SAT => Sys2Proof.Machine.execWcvt t D A SS DS SF DF SW DW SF4 DF4 RND SAT s
  | .wspl t D gA T U RND SAT => Sys2Proof.Machine.execWspl t D gA T U RND SAT s
  | .wredSum t D A T U RND SAT => Sys2Proof.Machine.execWredSum t D A T U RND SAT s
  | .wredMax t D A T U RND SAT => Sys2Proof.Machine.execWredMax t D A T U RND SAT s
  | .whiskRow => Sys2Proof.Machine.execWhiskRow s
  | .whiskComplete => Sys2Proof.Machine.execWhiskComplete s
  | .handlerEntry t => Sys2Proof.Machine.execHandlerEntry t s
  | .quietOverrun t => Sys2Proof.Machine.execQuietOverrun t s
  | .storeBufferLeave => Sys2Proof.Machine.execStoreBufferLeave s
  | .nocRequestSend idx => Sys2Proof.Machine.execNocRequestSend idx s
  | .rdRsp tag sts psn data bad => Sys2Proof.Machine.execRdRsp tag sts psn data bad s
  | .wrAck tag sts sc => Sys2Proof.Machine.execWrAck tag sts sc s
  | .atomRsp tag sts old => Sys2Proof.Machine.execAtomRsp tag sts old s
  | .xinvAck tag sts => Sys2Proof.Machine.execXinvAck tag sts s
  | .hold tag => Sys2Proof.Machine.execHold tag s
  | .holdEnd tag => Sys2Proof.Machine.execHoldEnd tag s
  | .linkfail tag => Sys2Proof.Machine.execLinkfail tag s
  | .requestTimeout idx => Sys2Proof.Machine.execRequestTimeout idx s
  | .holdExpiry idx => Sys2Proof.Machine.execHoldExpiry idx s
  | .quarantineEnd idx => Sys2Proof.Machine.execQuarantineEnd idx s
  | .nocRdIn h => Sys2Proof.Machine.execNocRdIn h s
  | .nocWrIn h data mask => Sys2Proof.Machine.execNocWrIn h data mask s
  | .nocAtomIn h gs gd => Sys2Proof.Machine.execNocAtomIn h gs gd s
  | .bcastIn h data mask => Sys2Proof.Machine.execBcastIn h data mask s
  | .xinvIn h => Sys2Proof.Machine.execXinvIn h s
  | .xinvAckSend => Sys2Proof.Machine.execXinvAckSend s
  | .doorbell h => Sys2Proof.Machine.execDoorbell h s
  | .budgetGrant h data => Sys2Proof.Machine.execBudgetGrant h data s
  | .badHeader h => Sys2Proof.Machine.execBadHeader h s
  | .chnHeadWrite w ch v => Sys2Proof.Machine.execChnHeadWrite w ch v s
  | .ladleDescriptorStart ch => Sys2Proof.Machine.execLadleDescriptorStart ch s
  | .ladleRun ch => Sys2Proof.Machine.execLadleRun ch s
  | .ladleDescriptorComplete ch => Sys2Proof.Machine.execLadleDescriptorComplete ch s
  | .resume w ch => Sys2Proof.Machine.execResume w ch s
  | .skip w ch => Sys2Proof.Machine.execSkip w ch s
  | .abort w ch => Sys2Proof.Machine.execAbort w ch s
  | .barArrive w => Sys2Proof.Machine.execBarArrive w s
  | .barSend => Sys2Proof.Machine.execBarSend s
  | .barRel => Sys2Proof.Machine.execBarRel s
  | .chipIrq n => Sys2Proof.Machine.execChipIrq n s
  | .scrubRead => Sys2Proof.Machine.execScrubRead s
  | .shelfGrowthDone => Sys2Proof.Machine.execShelfGrowthDone s
  | .tableWalk walk => Sys2Proof.Machine.execTableWalk walk s
  | .spanLoad w n rsv => Sys2Proof.Machine.execSpanLoad w n rsv s
  | .spanClear w n rsv => Sys2Proof.Machine.execSpanClear w n rsv s
  | .spanReadBack w n rsv => Sys2Proof.Machine.execSpanReadBack w n rsv s
  | .spanSetAAndD w n rsv => Sys2Proof.Machine.execSpanSetAAndD w n rsv s
  | .canaryFire g => Sys2Proof.Machine.execCanaryFire g s
  | .autoCalibration => Sys2Proof.Machine.execAutoCalibration s
  | .calCmdGroup w g => Sys2Proof.Machine.execCalCmdGroup w g s
  | .calCmdAll w => Sys2Proof.Machine.execCalCmdAll w s
  | .recalibrationDone m => Sys2Proof.Machine.execRecalibrationDone m s
  | .voltageMove => Sys2Proof.Machine.execVoltageMove s
  | .vack => Sys2Proof.Machine.execVack s
  | .vackFall => Sys2Proof.Machine.execVackFall s
  | .voltageAckTimeout => Sys2Proof.Machine.execVoltageAckTimeout s
  | .scalePolicyMove => Sys2Proof.Machine.execScalePolicyMove s
  | .retentionEntry => Sys2Proof.Machine.execRetentionEntry s
  | .retentionWake => Sys2Proof.Machine.execRetentionWake s
  | .retentionWakeDone => Sys2Proof.Machine.execRetentionWakeDone s
  | .oscTrimWindow cnt => Sys2Proof.Machine.execOscTrimWindow cnt s
  | .syncMarkLost => Sys2Proof.Machine.execSyncMarkLost s
  | .timerExpiry t => Sys2Proof.Machine.execTimerExpiry t s
  | .pllLock => Sys2Proof.Machine.execPllLock s
  | .pllCoast => Sys2Proof.Machine.execPllCoast s
  | .pllRelock => Sys2Proof.Machine.execPllRelock s
  | .muxSwitchDone => Sys2Proof.Machine.execMuxSwitchDone s
  | .muxHang => Sys2Proof.Machine.execMuxHang s
  | .threadStop t => Sys2Proof.Machine.execThreadStop t s
  | .threadWake t => Sys2Proof.Machine.execThreadWake t s
  | .tempReading temp => Sys2Proof.Machine.execTempReading temp s
  | .firmwareLineReadDone => Sys2Proof.Machine.execFirmwareLineReadDone s
  | .pfailAssert => Sys2Proof.Machine.execPfailAssert s
  | .pfailDeassert => Sys2Proof.Machine.execPfailDeassert s
  | .wcmd w line mc rsv => Sys2Proof.Machine.execWcmd w line mc rsv s
  | .wcmdRefresh w line mc rsv => Sys2Proof.Machine.execWcmdRefresh w line mc rsv s
  | .dwcmd w line mc rsv => Sys2Proof.Machine.execDwcmd w line mc rsv s
  | .drcmd w line rsv => Sys2Proof.Machine.execDrcmd w line rsv s
  | .driverReadDone => Sys2Proof.Machine.execDriverReadDone s
  | .crockLineWriteDone good => Sys2Proof.Machine.execCrockLineWriteDone good s
  | .wqResume w => Sys2Proof.Machine.execWqResume w s
  | .wqDiscard w => Sys2Proof.Machine.execWqDiscard w s
  | .moveCmd w lblk pblk retire => Sys2Proof.Machine.execMoveCmd w lblk pblk retire s
  | .mapCmd w => Sys2Proof.Machine.execMapCmd w s
  | .scanCmd w => Sys2Proof.Machine.execScanCmd w s
  | .crockScanRead => Sys2Proof.Machine.execCrockScanRead s
  | .verify w => Sys2Proof.Machine.execVerify w s
  | .vdone => Sys2Proof.Machine.execVdone s
  | .switch w => Sys2Proof.Machine.execSwitch w s
  | .switched => Sys2Proof.Machine.execSwitched s
  | .coldReset => Sys2Proof.Machine.execColdReset s
  | .coldResetRelease level => Sys2Proof.Machine.execColdResetRelease level s
  | .bootVerifyDone => Sys2Proof.Machine.execBootVerifyDone s
  | .warmReset => Sys2Proof.Machine.execWarmReset s
  | .warmResetRelease => Sys2Proof.Machine.execWarmResetRelease s
  | .timingDomainReset => Sys2Proof.Machine.execTimingDomainReset s
  | .trst w mask => Sys2Proof.Machine.execTrst w mask s
  | .threadResetEffect t => Sys2Proof.Machine.execThreadResetEffect t s
  | .wsBypass => Sys2Proof.Machine.execWsBypass s
  | .wsExtest => Sys2Proof.Machine.execWsExtest s
  | .wsIntestScan => Sys2Proof.Machine.execWsIntestScan s
  | .wsPreload => Sys2Proof.Machine.execWsPreload s
  | .wsClamp => Sys2Proof.Machine.execWsClamp s
  | .mmioAccess dr => Sys2Proof.Machine.execMmioAccess dr s
  | .ctrlEn w p v => Sys2Proof.Machine.execCtrlEn w p v s
  | .ctrlQuiesce w p v => Sys2Proof.Machine.execCtrlQuiesce w p v s
  | .quiesceComplete p => Sys2Proof.Machine.execQuiesceComplete p s
  | .ctrlCommit w p => Sys2Proof.Machine.execCtrlCommit w p s
  | .ctrlRevert w p => Sys2Proof.Machine.execCtrlRevert w p s
  | .registerWrite w off v => Sys2Proof.Machine.execRegisterWrite w off v s
  | .regDataRead w => Sys2Proof.Machine.execRegDataRead w s
  | .regDataWrite w v => Sys2Proof.Machine.execRegDataWrite w v s
  | .pendClr w v => Sys2Proof.Machine.execPendClr w v s
  | .pendSet w v => Sys2Proof.Machine.execPendSet w v s
  | .readySend w status => Sys2Proof.Machine.execReadySend w status s
  | .readyResend => Sys2Proof.Machine.execReadyResend s
  | .fatalRaise w reason => Sys2Proof.Machine.execFatalRaise w reason s
  | .fatalReportResend => Sys2Proof.Machine.execFatalReportResend s
  | .pmCmdRead w => Sys2Proof.Machine.execPmCmdRead w s
  | .pmCmdWrite w => Sys2Proof.Machine.execPmCmdWrite w s
  | .bistRow w n => Sys2Proof.Machine.execBistRow w n s
  | .bistColumn w n => Sys2Proof.Machine.execBistColumn w n s
  | .bistWay w n => Sys2Proof.Machine.execBistWay w n s
  | .bistWholeArray w => Sys2Proof.Machine.execBistWholeArray w s
  | .bistDone fails => Sys2Proof.Machine.execBistDone fails s
  | .migrationDone => Sys2Proof.Machine.execMigrationDone s
  | .waySweepDone => Sys2Proof.Machine.execWaySweepDone s
  | .tmovComplete => Sys2Proof.Machine.execTmovComplete s
  | .crockWindowReadDone t => Sys2Proof.Machine.execCrockWindowReadDone t s
  | .leakageCharge => Sys2Proof.Machine.execLeakageCharge s
  | .illegalInstruction t w0 e1 e2 => Sys2Proof.Machine.execIllegalInstruction t w0 e1 e2 s

end Sys2Proof.Machine
end

