-- ==== Sys2Proof/Machine/Tick.lean ====
section
/-! DEFINITION. What passes when no command waits: one 10 ns cycle of the local oscillator (log 3)
(06_privilege_traps.md R173; 07_local_store_caches.md R209; 08_ladle_noc_port.md R221, R227;
09_translation.md R256; 10_timing_energy.md R269, R279, R281, R284, R295; 12_live_service_modes.md R331, R338;
14_register_pages.md R390). -/

namespace Sys2Proof.Machine

open Sys2Proof

/-- A request's timer, suspension and quarantine advance by one cycle (R221, R227). -/
def RtEntry.tick (e : RtEntry) : RtEntry :=
  if !e.sent then e
  else if e.dead then { e with quar := e.quar + 1 }
  else if e.susp then { e with held := e.held + 1 }
  else { e with timer := e.timer + 1 }

/-- The QUIET count after `k` more steps: it stops at QLIM until the overrun is raised (R173). -/
def HThread.quietTick (h : HThread) (k : Nat) : HThread :=
  if h.quiet && h.pl ≠ 3 then
    let n := h.quietCnt + k
    { h with quietCnt :=
        if h.qlim ≠ 0 && !h.quietFired && h.qlim.toNat ≤ n then max h.quietCnt h.qlim.toNat else n }
  else h

/-- `k` steps of the sweeps: one set a step (R209, R338). -/
def State.sweepSteps (s : State) (k : Nat) : State :=
  match k with
  | 0 => s
  | n + 1 => (s.growthStep.waySweepStep).sweepSteps n

/-- TIME advances, but in retention (R281). -/
def State.timeTick (s : State) : State :=
  { s with
    tmg := { s.tmg with time := s.tmg.time + 1 }
    noc := { s.noc with rt := s.noc.rt.map fun e => (e.1, e.2.tick) } }

/-- The step monitor counts `k` cycles; at the end of a microsecond STEP_MON takes the count (R269).  A warm reset holds
STEP_MON at 0 (R18). -/
def Timing.monitor (x : Timing) (k : Nat) (held : Bool) : Timing :=
  let n := x.monAcc + k
  if held then { x with steps := x.steps + BitVec.ofNat 64 k, monAcc := 0 }
  else if x.time % cycUs = 0 then { x with steps := x.steps + BitVec.ofNat 64 k, stepMon := BitVec.ofNat 16 n, monAcc := 0 }
  else { x with steps := x.steps + BitVec.ofNat 64 k, monAcc := n }

/-- The monitor's cycles in this tick: none below a compute level (R269, R277, R279). -/
def State.monCycles (s : State) : Nat := if s.tmg.vlCur = 0 then 0 else Config.stepsPerCycle s.free

/-- The thread of the deferred entry, the first that has not started (R293, R390). -/
def State.deferredThread (s : State) : Option Thread := s.nextEntry.map (·.thr)

/-- `k` steps pass in which no thread issues. -/
def State.stepsPass (s : State) (k : Nat) : State :=
  let s1 : State := { s with
    tmg := s.tmg.monitor k false
    thr := s.thr.map fun h => h.quietTick k
    free := s.free + 1 }
  let s2 := s1.bump .pmc 17 k
  let s3 := if s2.tile.deferred then s2.bump .scl 11 k s2.deferredThread else s2
  s3.sweepSteps k

/-- The first span clear whose accesses have all been performed or have left is acknowledged (R256). -/
def State.clearAck (s : State) : State :=
  match s.noc.clears.find? fun x => s.flown x.toInFlight with
  | none => s
  | some x =>
    let s1 : State := { s with noc := { s.noc with clears := s.noc.clears.erase x } }
    match x.who with
    | .host h => s1.reply (answer h 9 0 (s1.ackScope h false) 0 [])
    | .thread t => s1.retryThread t
    | .tap => if s.wrap.wir = 0x10 then { s1 with wrap := { s1.wrap with dr := s1.wrap.dr ||| BitVec.ofNat _ (2 ^ 81) } } else s1

/-- The first command that waits in the port has its effect, once the core is awake and, unless it came through the
wrapper, the port runs (R279, R354). -/
def State.serveInbox (s : State) : State :=
  match s.noc.inbox with
  | [] => s
  | c :: r =>
    let tap : Bool := match c with | .mmioAccess _ => true | _ => false
    if s.served && (s.portRuns || tap) then
      match exec c { s with noc := { s.noc with inbox := [] } } with
      | .next t => { t with noc := { t.noc with inbox := r } }
      | _ => { s with noc := { s.noc with inbox := r } }
    else s

/-- One cycle of a core that runs: time and steps pass, clock sources come back, a queued calibration may start, the Crock and
the port go on, and what waits tries again. -/
def State.runTick (s : State) : State :=
  let s1 := s.timeTick.refReturns.muxPhase
  ((((s1.stepsPass s1.monCycles).nextCal).crockPump).clearAck).serveInbox.retryAll

/-- One oscillator cycle. -/
def State.tick (s : State) : State :=
  if s.phase = .coldReset ∨ s.phase = .testReset ∨ s.tmg.ret.isSome then s
  else if s.phase = .warmReset then
    let s1 := s.timeTick
    { s1 with tmg := s1.tmg.monitor s1.monCycles true, free := s1.free + 1 }
  else s.runTick

end Sys2Proof.Machine
end

