-- ==== Sys2Proof/WellFormed.lean ====
section
/-! DEFINITION. Which commands can occur: operands that an encoding or a header can carry
(01 to 14; R83, R140 for words; R220, R223 to R225 for headers; R335 for test results). -/

namespace Sys2Proof

/-- A tag names one of the 2,048 table entries (R220). -/
def tagOk (x : Tag) : Bool := x.idx < 2048

/-- A header of this type (R224, R225). -/
def hdrOk (h : Hdr) (typ : Nat) : Bool := tagOk h.tag && h.typ.toNat = typ

/-- The flits and masks that a write or broadcast carries (R223). -/
def flitsOk (h : Hdr) (data : List Byte) (mask : List Bool) : Bool :=
  h.size.toNat ≤ 5 && data.length = (if h.size = 5 then 128 else 64)
    && (if h.masked then 4 ≤ h.size.toNat && mask.length = data.length else mask.isEmpty)

/-- Can the command occur as written? -/
def Instr.wf (i : Instr) : Bool :=
  match i with
  | .mov _ _ _ => true
  | .add _ _ _ => true
  | .sub _ _ _ => true
  | .and _ _ _ => true
  | .or _ _ _ => true
  | .xor _ _ _ => true
  | .sll _ _ _ => true
  | .srl _ _ _ => true
  | .sra _ _ _ => true
  | .slt _ _ _ => true
  | .sltu _ _ _ => true
  | .mul _ _ _ => true
  | .mulh _ _ _ => true
  | .mac0 _ _ _ => true
  | .mac1 _ _ _ => true
  | .not _ _ => true
  | .neg _ _ => true
  | .abs _ _ => true
  | .zxb _ _ => true
  | .zxh _ _ => true
  | .zxw _ _ => true
  | .sxb _ _ => true
  | .sxh _ _ => true
  | .sxw _ _ => true
  | .clz _ _ => true
  | .popc _ _ => true
  | .movi _ _ _ => true
  | .addi _ _ _ => true
  | .slli _ _ _ => true
  | .srai _ _ _ => true
  | .ldb _ _ _ _ => true
  | .ldh _ _ _ _ => true
  | .ldw _ _ _ _ => true
  | .ldd _ _ _ _ => true
  | .stb _ _ _ _ => true
  | .sth _ _ _ _ => true
  | .stw _ _ _ _ => true
  | .std _ _ _ _ => true
  | .jmp _ _ => true
  | .call _ _ => true
  | .jr _ _ => true
  | .callr _ _ => true
  | .beqz _ _ _ => true
  | .bnez _ _ _ => true
  | .bltz _ _ _ => true
  | .bgez _ _ _ => true
  | .loop _ _ _ _ => true
  | .loopi _ _ _ _ => true
  | .movl _ _ _ => true
  | .shol _ _ _ => true
  | .addl _ _ _ => true
  | .andl _ _ _ => true
  | .div _ _ _ => true
  | .divu _ _ _ => true
  | .rem _ _ _ => true
  | .remu _ _ _ => true
  | .msu _ _ _ _ => true
  | .azero _ _ => true
  | .ald _ _ _ => true
  | .ast _ _ _ => true
  | .ardl _ _ _ => true
  | .ardh _ _ _ => true
  | .awr _ _ _ _ => true
  | .ashl _ _ _ => true
  | .ashr _ _ _ => true
  | .aadd _ _ => true
  | .amoSwap _ _ _ _ _ => true
  | .amoAdd _ _ _ _ _ => true
  | .amoAnd _ _ _ _ _ => true
  | .amoOr _ _ _ _ _ => true
  | .amoXor _ _ _ _ _ => true
  | .amoMin _ _ _ _ _ => true
  | .amoMax _ _ _ _ _ => true
  | .amoMinu _ _ _ _ _ => true
  | .amoMaxu _ _ _ _ _ => true
  | .amoCas _ _ _ _ _ => true
  | .fence _ _ => true
  | .csrr _ _ _ => true
  | .csrw _ _ _ => true
  | .csrs _ _ _ => true
  | .csrc _ _ _ => true
  | .pmw _ _ _ => true
  | .pmr _ _ _ => true
  | .trap _ _ => true
  | .rett _ => true
  | .wait _ => true
  | .xinvAddress _ _ _ => true
  | .xinvNonglobal _ _ _ => true
  | .xinvAll _ _ _ => true
  | .lsmClean _ _ _ => true
  | .lsmInvalidate _ _ _ => true
  | .lsmCleanInvalidate _ _ _ => true
  | .tclaim _ _ => true
  | .tclaimForce _ _ => true
  | .tclaimForceDone _ => true
  | .trelTray _ _ => true
  | .trelSlot _ _ => true
  | .trelUnit _ => true
  | .trelUnitDone _ => true
  | .tcfg _ _ _ _ => true
  | .tzero _ _ _ _ => true
  | .tld _ _ _ _ => true
  | .tst _ _ _ _ => true
  | .tmma _ _ _ _ _ _ _ _ => true
  | .tmms _ _ _ _ _ _ _ _ _ => true
  | .tdrain _ _ _ => true
  | .tmovCopy _ _ _ => true
  | .tmovTranspose _ _ _ op => op ≠ 0
  | .tsyncWait _ => true
  | .tsyncWaitDone _ => true
  | .tsyncResume _ => true
  | .tsyncDiscard _ => true
  | .tsave _ _ => true
  | .tsaveBlock _ => true
  | .trstr _ _ => true
  | .trstrBlock _ => true
  | .tileEntryStart => true
  | .skilletStep => true
  | .tileMemPage _ => true
  | .tileMemLineDone _ _ => true
  | .drainStreamRow => true
  | .drainComplete => true
  | .wadd _ _ _ _ _ _ _ _ _ => true
  | .waddSub _ _ _ _ _ _ _ _ _ => true
  | .wmul _ _ _ _ _ _ _ _ _ => true
  | .wfma _ _ _ _ _ _ _ _ _ _ _ => true
  | .wfmaNeg _ _ _ _ _ _ _ _ _ _ _ => true
  | .wmax _ _ _ _ _ _ _ _ _ => true
  | .wmin _ _ _ _ _ _ _ _ _ => true
  | .wsel _ _ _ _ _ _ _ _ _ _ _ => true
  | .wexp _ _ _ _ _ _ _ => true
  | .wrcp _ _ _ _ _ _ _ => true
  | .wrsq _ _ _ _ _ _ _ => true
  | .wcvt _ _ _ _ _ _ _ _ _ _ _ _ _ => true
  | .wspl _ _ _ _ _ _ _ => true
  | .wredSum _ _ _ _ _ _ _ => true
  | .wredMax _ _ _ _ _ _ _ => true
  | .whiskRow => true
  | .whiskComplete => true
  | .handlerEntry _ => true
  | .quietOverrun _ => true
  | .storeBufferLeave => true
  | .nocRequestSend idx => idx < 2048
  | .rdRsp tag _ _ data _ => tagOk tag && (data.length = 64 || data.length = 128)
  | .wrAck tag _ _ => tagOk tag
  | .atomRsp tag _ _ => tagOk tag
  | .xinvAck tag _ => tagOk tag
  | .hold tag => tagOk tag
  | .holdEnd tag => tagOk tag
  | .linkfail tag => tagOk tag
  | .requestTimeout idx => idx < 2048
  | .holdExpiry idx => idx < 2048
  | .quarantineEnd idx => idx < 2048
  | .nocRdIn h => hdrOk h 0 && h.size.toNat ≤ 5
  | .nocWrIn h data mask => hdrOk h 1 && flitsOk h data mask
  | .nocAtomIn h _ _ => hdrOk h 2 && (h.size = 2 || h.size = 3) && h.op.toNat ≤ 9
  | .bcastIn h data mask => hdrOk h 6 && 4 ≤ h.size.toNat && flitsOk h data mask
  | .xinvIn h => hdrOk h 4 && h.op.toNat < 12
  | .xinvAckSend => true
  | .doorbell h => hdrOk h 3 && h.mkind = 1
  | .budgetGrant h data => hdrOk h 3 && h.mkind = 2 && data.length = 64
  | .badHeader h => tagOk h.tag && (h.typ = 3 || h.typ = 5 || h.typ = 7 || h.typ = 15)
  | .chnHeadWrite _ _ _ => true
  | .ladleDescriptorStart _ => true
  | .ladleRun _ => true
  | .ladleDescriptorComplete _ => true
  | .resume _ _ => true
  | .skip _ _ => true
  | .abort _ _ => true
  | .barArrive _ => true
  | .barSend => true
  | .barRel => true
  | .chipIrq _ => true
  | .scrubRead => true
  | .shelfGrowthDone => true
  | .tableWalk _ => true
  | .spanLoad _ _ _ => true
  | .spanClear _ _ _ => true
  | .spanReadBack _ _ _ => true
  | .spanSetAAndD _ _ _ => true
  | .canaryFire _ => true
  | .autoCalibration => true
  | .calCmdGroup _ _ => true
  | .calCmdAll _ => true
  | .recalibrationDone _ => true
  | .voltageMove => true
  | .vack => true
  | .vackFall => true
  | .voltageAckTimeout => true
  | .scalePolicyMove => true
  | .retentionEntry => true
  | .retentionWake => true
  | .retentionWakeDone => true
  | .oscTrimWindow _ => true
  | .syncMarkLost => true
  | .timerExpiry _ => true
  | .pllLock => true
  | .pllCoast => true
  | .pllRelock => true
  | .muxSwitchDone => true
  | .muxHang => true
  | .threadStop _ => true
  | .threadWake _ => true
  | .tempReading _ => true
  | .firmwareLineReadDone => true
  | .pfailAssert => true
  | .pfailDeassert => true
  | .wcmd _ _ _ _ => true
  | .wcmdRefresh _ _ _ _ => true
  | .dwcmd _ _ _ _ => true
  | .drcmd _ _ _ => true
  | .driverReadDone => true
  | .crockLineWriteDone _ => true
  | .wqResume _ => true
  | .wqDiscard _ => true
  | .moveCmd _ _ _ _ => true
  | .mapCmd _ => true
  | .scanCmd _ => true
  | .crockScanRead => true
  | .verify _ => true
  | .vdone => true
  | .switch _ => true
  | .switched => true
  | .coldReset => true
  | .coldResetRelease _ => true
  | .bootVerifyDone => true
  | .warmReset => true
  | .warmResetRelease => true
  | .timingDomainReset => true
  | .trst _ _ => true
  | .threadResetEffect _ => true
  | .wsBypass => true
  | .wsExtest => true
  | .wsIntestScan => true
  | .wsPreload => true
  | .wsClamp => true
  | .mmioAccess _ => true
  | .ctrlEn _ _ _ => true
  | .ctrlQuiesce _ _ _ => true
  | .quiesceComplete _ => true
  | .ctrlCommit _ _ => true
  | .ctrlRevert _ _ => true
  | .registerWrite _ _ _ => true
  | .regDataRead _ => true
  | .regDataWrite _ _ => true
  | .pendClr _ _ => true
  | .pendSet _ _ => true
  | .readySend _ _ => true
  | .readyResend => true
  | .fatalRaise _ _ => true
  | .fatalReportResend => true
  | .pmCmdRead _ => true
  | .pmCmdWrite _ => true
  | .bistRow _ _ => true
  | .bistColumn _ _ => true
  | .bistWay _ _ => true
  | .bistWholeArray _ => true
  | .bistDone fails => Machine.placesRise fails
  | .migrationDone => true
  | .waySweepDone => true
  | .tmovComplete => true
  | .crockWindowReadDone _ => true
  | .leakageCharge => true
  | .illegalInstruction _ w0 e1 e2 => !Machine.legalWords w0 e1 e2

end Sys2Proof
end

