-- ==== Sys2Proof/Safety.lean ====
section
/-! DEFINITION. What claims are stated in: when an instruction issues and runs, what counting and charging may
change, the canonical form of every memory, and the invariant of the machine. -/

namespace Sys2Proof.Machine

open Sys2Proof

/-! ## When an instruction runs -/

/-- Thread `t` issues an instruction of `n` words that it can fetch (R152, R158, R243). -/
abbrev Goes (s : State) (t : Thread) (n : Nat) : Prop :=
  s.ready t = true ∧ s.fetched t n = true ∧ s.fetchFault t n = none

/-! ## Frames -/

/-- Everything is as before but what counting and charging change: the page counters, the Scale's balance and
energy counters, and EVENT of PMC and SCL (R288, R292, R373, R390).  A frame statement puts the old value back
into each part that the command may change and says this of the result. -/
structure Accounts (s u : State) : Prop where
  pos : u.pos = s.pos
  phase : u.phase = s.phase
  startAt : u.startAt = s.startAt
  crst : u.crst = s.crst
  thr : u.thr = s.thr
  pm : u.pm = s.pm
  tile : u.tile = s.tile
  ls : u.ls = s.ls
  noc : u.noc = s.noc
  ldl : u.ldl = s.ldl
  xl : u.xl = s.xl
  irq : u.irq = s.irq
  tmg : u.tmg = s.tmg
  crk : u.crk = s.crk
  shadow : u.shadow = s.shadow
  committed : u.committed = s.committed
  rpr : u.rpr = s.rpr
  ras : u.ras = s.ras
  wrap : u.wrap = s.wrap
  free : u.free = s.free
  pending : u.pending = s.pending
  scl : { u.scl with bal := s.scl.bal, e := s.scl.e } = s.scl
  frames : ∀ p, { u.frame p with event := 0 } = { s.frame p with event := 0 }
  events : ∀ p, p ≠ .pmc → p ≠ .scl → (u.frame p).event = (s.frame p).event

/-- Of the threads, only `t` may have changed. -/
def OtherThreads (s u : State) (t : Thread) : Prop := ∀ v, v ≠ t → u.th v = s.th v

/-- Nothing changed but thread `t` and the branch-target buffer of firmware execution (R157), counting and
charging apart. -/
def OnlyThread (s u : State) (t : Thread) : Prop :=
  OtherThreads s u t ∧ Accounts s { u with thr := s.thr, crk := { u.crk with btb := s.crk.btb } }

/-- The thread with a result in a general register, no wait left. -/
def HThread.wrote (h : HThread) (d : GReg) (v : Word) : HThread := { h with g := vset h.g d v, wait := .none }

/-! ## Results of scalar instructions, in the arithmetic of the manual's tables -/

/-- The number of one bits of the low `n` bits. -/
def onesOf (n : Nat) (x : Word) : Nat := (List.range n).countP fun i => x.getLsbD i

/-- Instructions that write one general register and cannot trap: thread, words, register and result
(R141 to R143, R147 to R149).  DIVU, REM and REMU stand here with a divisor other than zero. -/
def plainResult (i : Instr) (s : State) : Option (Thread × Nat × GReg × Word) :=
  match i with
  | .mov t d r => some (t, 1, d, s.g t r)
  | .and t d r => some (t, 1, d, s.g t d &&& s.g t r)
  | .or t d r => some (t, 1, d, s.g t d ||| s.g t r)
  | .xor t d r => some (t, 1, d, s.g t d ^^^ s.g t r)
  | .sll t d r => some (t, 1, d, BitVec.ofNat 64 ((s.g t d).toNat * 2 ^ ((s.g t r).toNat % 64)))
  | .srl t d r => some (t, 1, d, BitVec.ofNat 64 ((s.g t d).toNat / 2 ^ ((s.g t r).toNat % 64)))
  | .sra t d r => some (t, 1, d, BitVec.ofInt 64 ((s.g t d).toInt / 2 ^ ((s.g t r).toNat % 64)))
  | .slt t d r => some (t, 1, d, if (s.g t d).toInt < (s.g t r).toInt then 1 else 0)
  | .sltu t d r => some (t, 1, d, if (s.g t d).toNat < (s.g t r).toNat then 1 else 0)
  | .mulh t d r => some (t, 1, d, BitVec.ofInt 64 ((s.g t d).toInt * (s.g t r).toInt / 2 ^ 64))
  | .not t d => some (t, 1, d, BitVec.ofNat 64 (2 ^ 64 - 1 - (s.g t d).toNat))
  | .zxb t d => some (t, 1, d, BitVec.ofNat 64 ((s.g t d).toNat % 2 ^ 8))
  | .zxh t d => some (t, 1, d, BitVec.ofNat 64 ((s.g t d).toNat % 2 ^ 16))
  | .zxw t d => some (t, 1, d, BitVec.ofNat 64 ((s.g t d).toNat % 2 ^ 32))
  | .sxb t d => some (t, 1, d, BitVec.ofInt 64 (Int.bmod (s.g t d).toNat (2 ^ 8)))
  | .sxh t d => some (t, 1, d, BitVec.ofInt 64 (Int.bmod (s.g t d).toNat (2 ^ 16)))
  | .sxw t d => some (t, 1, d, BitVec.ofInt 64 (Int.bmod (s.g t d).toNat (2 ^ 32)))
  | .clz t d => some (t, 1, d, BitVec.ofNat 64 (64 - (s.g t d).toNat.size))
  | .popc t d => some (t, 1, d, BitVec.ofNat 64 (onesOf 64 (s.g t d)))
  | .movi t d m => some (t, 1, d, BitVec.ofInt 64 m.toInt)
  | .slli t d m => some (t, 1, d, BitVec.ofNat 64 ((s.g t d).toNat * 2 ^ m.toNat))
  | .srai t d m => some (t, 1, d, BitVec.ofInt 64 ((s.g t d).toInt / 2 ^ m.toNat))
  | .movl t d m => some (t, 3, d, BitVec.ofInt 64 m.toInt)
  | .shol t d m => some (t, 3, d, BitVec.ofNat 64 ((s.g t d).toNat * 2 ^ 28 + m.toNat))
  | .andl t d m => some (t, 3, d, s.g t d &&& BitVec.ofInt 64 m.toInt)
  | .divu t d r => if s.g t r = 0 then none
      else some (t, 2, d, BitVec.ofNat 64 ((s.g t d).toNat / (s.g t r).toNat))
  | .rem t d r => if s.g t r = 0 then none
      else some (t, 2, d, BitVec.ofInt 64 ((s.g t d).toInt.tmod (s.g t r).toInt))
  | .remu t d r => if s.g t r = 0 then none
      else some (t, 2, d, BitVec.ofNat 64 ((s.g t d).toNat % (s.g t r).toNat))
  | .ardl t a g => some (t, 2, g, BitVec.ofNat 64 (((s.th t).a[a]).toNat % 2 ^ 64))
  | .ardh t a g => some (t, 2, g, BitVec.ofInt 64 (Int.bmod (((s.th t).a[a]).toNat / 2 ^ 64) (2 ^ 16)))
  | _ => none

/-- The instructions that detect signed overflow, with their exact result (R137): thread, words, register, result. -/
def exactResult (i : Instr) (s : State) : Option (Thread × Nat × GReg × Int) :=
  match i with
  | .add t d r => some (t, 1, d, (s.g t d).toInt + (s.g t r).toInt)
  | .sub t d r => some (t, 1, d, (s.g t d).toInt - (s.g t r).toInt)
  | .mul t d r => some (t, 1, d, (s.g t d).toInt * (s.g t r).toInt)
  | .neg t d => some (t, 1, d, -(s.g t d).toInt)
  | .abs t d => some (t, 1, d, |(s.g t d).toInt|)
  | .addi t d m => some (t, 1, d, (s.g t d).toInt + m.toInt)
  | .addl t d m => some (t, 3, d, (s.g t d).toInt + m.toInt)
  | .div t d r => if s.g t r = 0 then none else some (t, 2, d, (s.g t d).toInt.tdiv (s.g t r).toInt)
  | _ => none

/-- Division by zero with MODE.DZE = 0: thread, register and result (R138). -/
def zeroDivision (i : Instr) (s : State) : Option (Thread × GReg × Word) :=
  match i with
  | .div t d r => if s.g t r = 0
      then some (t, d, BitVec.ofInt 64 (if 0 ≤ (s.g t d).toInt then 2 ^ 63 - 1 else -2 ^ 63)) else none
  | .divu t d r => if s.g t r = 0 then some (t, d, BitVec.ofNat 64 (2 ^ 64 - 1)) else none
  | .rem t d r => if s.g t r = 0 then some (t, d, s.g t d) else none
  | .remu t d r => if s.g t r = 0 then some (t, d, s.g t d) else none
  | _ => none

/-- Signed 64-bit range (R137). -/
abbrev fits64 (x : Int) : Prop := -2 ^ 63 ≤ x ∧ x ≤ 2 ^ 63 - 1

/-- rnd(num / 2^k) of a thread, with the draw of R134 (R136). -/
def HThread.rounded (h : HThread) (num : Int) (k : Nat) : Int :=
  rndPow2 h.rnd (draw h.seed 0 0 h.rcnt.toNat) num k

/-- The thread after one scalar rounding: RCNT counts under stochastic rounding, FLG.AINX is set where the value
changed (R134, R136). -/
def HThread.afterRounding (h : HThread) (num : Int) (k : Nat) : HThread :=
  { h with
    rcnt := if h.rnd = .stoch then h.rcnt + 1 else h.rcnt
    flg := if num % 2 ^ k ≠ 0 then setBit h.flg 4 true else h.flg
    wait := .none }

/-- The thread with fit80 of a value in an accumulator (R136). -/
def HThread.wroteAcc (h : HThread) (a : Fin 2) (x : Int) : HThread :=
  { h with
    a := vset h.a a (BitVec.ofInt 80 (fitS 80 h.sat x).1)
    flg := if -2 ^ 79 ≤ x ∧ x ≤ 2 ^ 79 - 1 then h.flg else setBit h.flg 2 true
    wait := .none }

/-- The accumulator operations that round nothing: thread, words, accumulator and the value that fit80 takes (R149). -/
def accExact (i : Instr) (s : State) : Option (Thread × Nat × Fin 2 × Int) :=
  match i with
  | .azero t a => some (t, 2, a, 0)
  | .ald t a g => some (t, 2, a, 2 * (s.g t g).toInt)
  | .awr t a g g2 => some (t, 2, a,
      Int.bmod ((s.g t g2).toNat % 2 ^ 16 * 2 ^ 64 + (s.g t g).toNat : Nat) (2 ^ 80))
  | .ashl t a g => some (t, 2, a, s.acc t a * 2 ^ min ((s.g t g).toNat % 128) 80)
  | .aadd t a => some (t, 2, a, s.acc t 0 + s.acc t 1)
  | _ => none

/-- The multiply-accumulate operations: thread, words, accumulator, sign and the exact product (R141, R149). -/
def accProduct (i : Instr) (s : State) : Option (Thread × Nat × Fin 2 × Int × Int) :=
  match i with
  | .mac0 t d r => some (t, 1, 0, 1, (s.g t d).toInt * (s.g t r).toInt)
  | .mac1 t d r => some (t, 1, 1, 1, (s.g t d).toInt * (s.g t r).toInt)
  | .msu t a g g2 => some (t, 2, a, -1, (s.g t g).toInt * (s.g t g2).toInt)
  | _ => none

/-- Branches and calls: thread, where they go where taken, whether they are taken, whether g15 takes the link (R146). -/
def branchOf (i : Instr) (s : State) : Option (Thread × PAddr × Bool × Bool) :=
  match i with
  | .jmp t p => some (t, p, true, false)
  | .call t p => some (t, p, true, true)
  | .jr t r => some (t, BitVec.ofNat 17 ((s.g t r).toNat % 2 ^ 17), true, false)
  | .callr t r => some (t, BitVec.ofNat 17 ((s.g t r).toNat % 2 ^ 17), true, true)
  | .beqz t r p => some (t, p, s.g t ⟨r.val, by omega⟩ = 0, false)
  | .bnez t r p => some (t, p, s.g t ⟨r.val, by omega⟩ ≠ 0, false)
  | .bltz t r p => some (t, p, (s.g t ⟨r.val, by omega⟩).toInt < 0, false)
  | .bgez t r p => some (t, p, 0 ≤ (s.g t ⟨r.val, by omega⟩).toInt, false)
  | _ => none

/-- LOOP and LOOPI: thread, count, level, end address and word 0 (R159, R139). -/
def loopOf (i : Instr) (s : State) : Option (Thread × Nat × Fin 2 × PAddr × Nat) :=
  match i with
  | .loop t r l e => some (t, (s.g t r).toNat % 2 ^ 32, l, e, 0x3000 + 0x08 * 0x40 + r.val + 16 * l.val)
  | .loopi t c l e => some (t, c.toNat, l, e, 0x3000 + 0x09 * 0x40 + c.toNat % 16 + 16 * l.val)
  | _ => none

/-- CSRs that read as a plain value of the machine (R150, R175, R281, R292): SWI reads 0. -/
def csrShows (s : State) (t : Thread) (n : Nat) : Option Word :=
  let h := s.th t
  match n with
  | 0x000 => some h.mode
  | 0x001 => some h.flg
  | 0x003 => some h.seed
  | 0x004 => some (h.rcnt.setWidth 64)
  | 0x005 => some s.tile.tprog
  | 0x006 => some (BitVec.ofNat 64 (t.val + 4 * s.pos.core.toNat + 64 * s.pos.cluster.toNat))
  | 0x008 => some (h.lc[0].setWidth 64)
  | 0x009 => some (h.ls[0].setWidth 64)
  | 0x00A => some (h.le[0].setWidth 64)
  | 0x00B => some (h.lc[1].setWidth 64)
  | 0x00C => some (h.ls[1].setWidth 64)
  | 0x00D => some (h.le[1].setWidth 64)
  | 0x010 => some h.stat
  | 0x011 => some h.tsbps
  | 0x012 => some h.tsbpm
  | 0x013 => some h.hdtb
  | 0x014 => some (h.qlim.setWidth 64)
  | 0x015 => some 0
  | 0x016 => some h.mshb
  | 0x017 => some h.mshl
  | 0x080 => some (BitVec.ofNat 64 s.tmg.time)
  | 0x081 => some s.tmg.steps
  | 0x082 => some h.tcmp
  | 0x090 => some (BitVec.ofInt 64 (s.scl.bal / 16))
  | 0x091 => some (BitVec.ofNat 64 (s.scl.rsv / 16))
  | 0x092 => some (if h.sresRefused then 1 else 0)
  | _ => none

/-- The CSR numbers that the manual assigns (R150, R175, R281, R292). -/
def csrAssigned (n : Nat) : Bool :=
  n ≤ 0x006 || (0x008 ≤ n && n ≤ 0x00D) || (0x010 ≤ n && n ≤ 0x018) || (0x080 ≤ n && n ≤ 0x082)
    || (0x090 ≤ n && n ≤ 0x092)

/-- The CSRs that are read only (R150, R175, R281, R292). -/
def csrReadOnly (n : Nat) : Bool :=
  n = 0x005 || n = 0x006 || n = 0x018 || n = 0x080 || n = 0x081 || n = 0x090 || n = 0x091

/-- Lowest level that reads a CSR (R150, R175, R281, R292). -/
def csrReadLevel (n : Nat) : Nat :=
  if n = 0x011 ∨ n = 0x015 ∨ n = 0x018 ∨ n = 0x082 ∨ n = 0x092 then 1
  else if 0x012 ≤ n ∧ n ≤ 0x017 then 3 else 0

/-- Lowest level that writes a CSR (R150, R171, R175, R281, R292). -/
def csrWriteLevel (n : Nat) : Nat := if n = 0x010 then 1 else csrReadLevel n

/-- CSRs that take their new value at once and without any rule on it, cut to the bits they have (R132, R150, R175). -/
def csrTakes (h : HThread) (n : Nat) (v : Word) : Option HThread :=
  match n with
  | 0x001 => some { h with flg := v &&& 0x1F }
  | 0x003 => some { h with seed := v }
  | 0x004 => some { h with rcnt := v.setWidth 47 }
  | 0x011 => some { h with tsbps := v &&& 0x7FFF00 }
  | 0x012 => some { h with tsbpm := v &&& 0x7FFF00 }
  | 0x013 => some { h with hdtb := v &&& 0x7FF000 }
  | 0x014 => some { h with
      qlim := v.setWidth 32, quietFired := h.quietFired && decide (v.toNat % 2 ^ 32 ≤ h.quietCnt) }
  | 0x016 => some { h with mshb := v &&& 0x7FF000 }
  | 0x017 => some { h with mshl := v &&& 0x7FF000 }
  | _ => none

/-- A CSR write, set or clear: thread, CSR, word 0 and the new value from the old (R139, R150). -/
def csrChange (i : Instr) (s : State) : Option (Thread × Nat × Nat × (Word → Word)) :=
  match i with
  | .csrw t g n => some (t, n.toNat, 0x3000 + 0x12 * 0x40 + 16 + g.val, fun _ => s.g t g)
  | .csrs t g n => some (t, n.toNat, 0x3000 + 0x12 * 0x40 + 32 + g.val, fun old => old ||| s.g t g)
  | .csrc t g n => some (t, n.toNat, 0x3000 + 0x12 * 0x40 + 48 + g.val, fun old => old &&& ~~~ s.g t g)
  | _ => none

/-- A MODE value that may be written: a rounding mode that is assigned, no reserved bit (R131). -/
abbrev modeLegal (v : Word) : Prop := v.toNat % 8 ≤ 4 ∧ v.toNat < 64

/-- A STAT value that may be written over another: PL, FS and ADV kept, IPL at most 16, no reserved bit (R171). -/
abbrev statLegal (old v : Word) : Prop :=
  v.toNat % 4 = old.toNat % 4 ∧ v.toNat / 8 % 2 = old.toNat / 8 % 2 ∧ v.toNat / 2 ^ 9 % 2 = old.toNat / 2 ^ 9 % 2 ∧
    v.toNat % 4 ≠ 2 ∧ v.toNat / 16 % 32 ≤ 16 ∧ v.toNat < 2 ^ 11

/-- Odd parity of the bits of a stored program-memory word whose numbers are listed (R158). -/
def oddOver (x : BitVec 16) (l : List Nat) : Bool := (l.countP fun i => x.getLsbD i) % 2 = 1

/-- The thread that an instruction command issues on (R152). -/
def issuesOn (i : Instr) : Option Thread :=
  match i with
  | .mov t _ _ => some t
  | .add t _ _ => some t
  | .sub t _ _ => some t
  | .and t _ _ => some t
  | .or t _ _ => some t
  | .xor t _ _ => some t
  | .sll t _ _ => some t
  | .srl t _ _ => some t
  | .sra t _ _ => some t
  | .slt t _ _ => some t
  | .sltu t _ _ => some t
  | .mul t _ _ => some t
  | .mulh t _ _ => some t
  | .mac0 t _ _ => some t
  | .mac1 t _ _ => some t
  | .not t _ => some t
  | .neg t _ => some t
  | .abs t _ => some t
  | .zxb t _ => some t
  | .zxh t _ => some t
  | .zxw t _ => some t
  | .sxb t _ => some t
  | .sxh t _ => some t
  | .sxw t _ => some t
  | .clz t _ => some t
  | .popc t _ => some t
  | .movi t _ _ => some t
  | .addi t _ _ => some t
  | .slli t _ _ => some t
  | .srai t _ _ => some t
  | .ldb t _ _ _ => some t
  | .ldh t _ _ _ => some t
  | .ldw t _ _ _ => some t
  | .ldd t _ _ _ => some t
  | .stb t _ _ _ => some t
  | .sth t _ _ _ => some t
  | .stw t _ _ _ => some t
  | .std t _ _ _ => some t
  | .jmp t _ => some t
  | .call t _ => some t
  | .jr t _ => some t
  | .callr t _ => some t
  | .beqz t _ _ => some t
  | .bnez t _ _ => some t
  | .bltz t _ _ => some t
  | .bgez t _ _ => some t
  | .loop t _ _ _ => some t
  | .loopi t _ _ _ => some t
  | .movl t _ _ => some t
  | .shol t _ _ => some t
  | .addl t _ _ => some t
  | .andl t _ _ => some t
  | .div t _ _ => some t
  | .divu t _ _ => some t
  | .rem t _ _ => some t
  | .remu t _ _ => some t
  | .msu t _ _ _ => some t
  | .azero t _ => some t
  | .ald t _ _ => some t
  | .ast t _ _ => some t
  | .ardl t _ _ => some t
  | .ardh t _ _ => some t
  | .awr t _ _ _ => some t
  | .ashl t _ _ => some t
  | .ashr t _ _ => some t
  | .aadd t _ => some t
  | .amoSwap t _ _ _ _ => some t
  | .amoAdd t _ _ _ _ => some t
  | .amoAnd t _ _ _ _ => some t
  | .amoOr t _ _ _ _ => some t
  | .amoXor t _ _ _ _ => some t
  | .amoMin t _ _ _ _ => some t
  | .amoMax t _ _ _ _ => some t
  | .amoMinu t _ _ _ _ => some t
  | .amoMaxu t _ _ _ _ => some t
  | .amoCas t _ _ _ _ => some t
  | .fence t _ => some t
  | .csrr t _ _ => some t
  | .csrw t _ _ => some t
  | .csrs t _ _ => some t
  | .csrc t _ _ => some t
  | .pmw t _ _ => some t
  | .pmr t _ _ => some t
  | .trap t _ => some t
  | .rett t => some t
  | .wait t => some t
  | .xinvAddress t _ _ => some t
  | .xinvNonglobal t _ _ => some t
  | .xinvAll t _ _ => some t
  | .lsmClean t _ _ => some t
  | .lsmInvalidate t _ _ => some t
  | .lsmCleanInvalidate t _ _ => some t
  | .tclaim t _ => some t
  | .tclaimForce t _ => some t
  | .trelTray t _ => some t
  | .trelSlot t _ => some t
  | .trelUnit t => some t
  | .tcfg t _ _ _ => some t
  | .tzero t _ _ _ => some t
  | .tld t _ _ _ => some t
  | .tst t _ _ _ => some t
  | .tmma t _ _ _ _ _ _ _ => some t
  | .tmms t _ _ _ _ _ _ _ _ => some t
  | .tdrain t _ _ => some t
  | .tmovCopy t _ _ => some t
  | .tmovTranspose t _ _ _ => some t
  | .tsyncWait t => some t
  | .tsyncResume t => some t
  | .tsyncDiscard t => some t
  | .tsave t _ => some t
  | .trstr t _ => some t
  | .wadd t _ _ _ _ _ _ _ _ => some t
  | .waddSub t _ _ _ _ _ _ _ _ => some t
  | .wmul t _ _ _ _ _ _ _ _ => some t
  | .wfma t _ _ _ _ _ _ _ _ _ _ => some t
  | .wfmaNeg t _ _ _ _ _ _ _ _ _ _ => some t
  | .wmax t _ _ _ _ _ _ _ _ => some t
  | .wmin t _ _ _ _ _ _ _ _ => some t
  | .wsel t _ _ _ _ _ _ _ _ _ _ => some t
  | .wexp t _ _ _ _ _ _ => some t
  | .wrcp t _ _ _ _ _ _ => some t
  | .wrsq t _ _ _ _ _ _ => some t
  | .wcvt t _ _ _ _ _ _ _ _ _ _ _ _ => some t
  | .wspl t _ _ _ _ _ _ => some t
  | .wredSum t _ _ _ _ _ _ => some t
  | .wredMax t _ _ _ _ _ _ => some t
  | _ => none

/-- A thread's registers right after the instruction in progress, in sequence (R154, R160, R163). -/
def HThread.next (h : HThread) (n : Nat) : HThread := h.complete n none .nothing

/-! ## Tile instructions -/

/-- A tile instruction with XOP below 0x2A that takes a queue entry: thread, XOP, OPFIELD, the operand number X of its
extension words, and the two register values it reads at issue (R83, R84, R91 to R94, R98 to R101). -/
def tileOperands (i : Instr) (s : State) : Option (Thread × Nat × Nat × Nat × Word × Word) :=
  match i with
  | .trelTray t T => some (t, 0x21, 0, T.val, 0, 0)
  | .trelSlot t n => some (t, 0x21, 0x10, n.toNat, 0, 0)
  | .tcfg t T r l => some (t, 0x22, T.val, r.toNat + 2 ^ 5 * l.toNat, 0, 0)
  | .tzero t n c d => some (t, 0x23, n.toNat, c.val + 2 ^ 4 * d.val, s.g t c, s.g t d)
  | .tld t T a b => some (t, 0x24, T.val, a.val + 2 ^ 4 * b.val, s.g t a, s.g t b)
  | .tst t T a b => some (t, 0x25, T.val, a.val + 2 ^ 4 * b.val, s.g t a, s.g t b)
  | .tmma t n A B fa fb sa sb => some (t, 0x26, n.toNat, A.val + 2 ^ 4 * B.val + 2 ^ 8 * fa.toNat + 2 ^ 12 * fb.toNat
      + 2 ^ 16 * sa.val + 2 ^ 20 * sb.val, 0, 0)
  | .tmms t n A B fa fb sa sb m => some (t, 0x27, n.toNat, A.val + 2 ^ 4 * B.val + 2 ^ 8 * fa.toNat + 2 ^ 12 * fb.toNat
      + 2 ^ 16 * sa.val + 2 ^ 20 * sb.val + 2 ^ 24 * m.val, 0, 0)
  | .tdrain t n d => some (t, 0x28, n.toNat, d.val, s.g t d, 0)
  | .tmovCopy t d a => some (t, 0x29, d.val, a.val, 0, 0)
  | .tmovTranspose t d a op => if op = 0 then none else some (t, 0x29, d.val, a.val + 2 ^ 4 * op.toNat, 0, 0)
  | _ => none

/-- The field X of a Whisk instruction: A, B, C, T, U, BB, BC, RND, SAT and VAR (R112). -/
def whiskField (A B C T U BB BC RND : Nat) (SAT VAR : Bool) : Nat :=
  A + 2 ^ 4 * B + 2 ^ 8 * C + 2 ^ 12 * T + 2 ^ 16 * U + 2 ^ 20 * BB + 2 ^ 22 * BC + 2 ^ 24 * RND
    + (if SAT then 2 ^ 26 else 0) + (if VAR then 2 ^ 27 else 0)

/-- A Whisk instruction: thread, XOP, D, X and the register value it reads at issue (R112, R113, R118, R121, R122). -/
def whiskOperands (i : Instr) (s : State) : Option (Thread × Nat × Nat × Nat × Word) :=
  match i with
  | .wadd t D A B T U bb r z =>
    some (t, 0x30, D.val, whiskField A.val B.val 0 T.toNat U.toNat bb.toNat 0 r.toNat z false, 0)
  | .waddSub t D A B T U bb r z =>
    some (t, 0x30, D.val, whiskField A.val B.val 0 T.toNat U.toNat bb.toNat 0 r.toNat z true, 0)
  | .wmul t D A B T U bb r z =>
    some (t, 0x31, D.val, whiskField A.val B.val 0 T.toNat U.toNat bb.toNat 0 r.toNat z false, 0)
  | .wfma t D A B C T U bb bc r z =>
    some (t, 0x32, D.val, whiskField A.val B.val C.val T.toNat U.toNat bb.toNat bc.toNat r.toNat z false, 0)
  | .wfmaNeg t D A B C T U bb bc r z =>
    some (t, 0x32, D.val, whiskField A.val B.val C.val T.toNat U.toNat bb.toNat bc.toNat r.toNat z true, 0)
  | .wmax t D A B T U bb r z =>
    some (t, 0x33, D.val, whiskField A.val B.val 0 T.toNat U.toNat bb.toNat 0 r.toNat z false, 0)
  | .wmin t D A B T U bb r z =>
    some (t, 0x34, D.val, whiskField A.val B.val 0 T.toNat U.toNat bb.toNat 0 r.toNat z false, 0)
  | .wsel t D A B C T U bb bc r z =>
    some (t, 0x35, D.val, whiskField A.val B.val C.val T.toNat U.toNat bb.toNat bc.toNat r.toNat z false, 0)
  | .wexp t D A T U r z => some (t, 0x36, D.val, whiskField A.val 0 0 T.toNat U.toNat 0 0 r.toNat z false, 0)
  | .wrcp t D A T U r z => some (t, 0x37, D.val, whiskField A.val 0 0 T.toNat U.toNat 0 0 r.toNat z false, 0)
  | .wrsq t D A T U r z => some (t, 0x38, D.val, whiskField A.val 0 0 T.toNat U.toNat 0 0 r.toNat z false, 0)
  | .wcvt t D A SS DS SF DF SW DW SF4 DF4 r z => some (t, 0x39, D.val,
      whiskField A.val SS.val DS.val SF.toNat DF.toNat 0 0 r.toNat z false + (if SW then 2 ^ 20 else 0)
        + (if DW then 2 ^ 21 else 0) + (if SF4 then 2 ^ 22 else 0) + (if DF4 then 2 ^ 23 else 0), 0)
  | .wspl t D g T U r z => some (t, 0x3A, D.val, whiskField g.val 0 0 T.toNat U.toNat 0 0 r.toNat z false, s.g t g)
  | .wredSum t D A T U r z => some (t, 0x3B, D.val, whiskField A.val 0 0 T.toNat U.toNat 0 0 r.toNat z false, 0)
  | .wredMax t D A T U r z => some (t, 0x3B, D.val, whiskField A.val 0 0 T.toNat U.toNat 0 0 r.toNat z true, 0)
  | _ => none

/-- A tile-queue instruction of either group: thread, its words, XOP, OPFIELD, X and register values. -/
def queuedOperands (i : Instr) (s : State) : Option (Thread × Nat × Nat × Nat × Nat × Word × Word) :=
  match tileOperands i s with
  | some (t, x, o, f, v, w) => some (t, if x = 0x26 ∨ x = 0x27 then 3 else 2, x, o, f, v, w)
  | none =>
    match whiskOperands i s with
    | some (t, x, d, f, v) => some (t, 3, x, d, f, v, 0)
    | none => none

/-- The entry that an instruction makes in the tile queue (R84, R89). -/
def entryMade (s : State) (t : Thread) (xop opf x : Nat) (v w : Word) : QEntry where
  id := s.tile.nextId
  w0 := BitVec.ofNat 14 (0x3000 + 0x40 * xop + opf)
  e1 := BitVec.ofNat 14 (x % 2 ^ 14)
  e2 := BitVec.ofNat 14 (x / 2 ^ 14)
  pc := (s.th t).pc
  v1 := v
  v2 := w
  lvl := BitVec.ofNat 2 (s.th t).pl
  thr := t
  prog := 0
  started := false
  safe := false
  sbMark := s.ls.sbSeq

/-- An instruction of a thread has ended in sequence after `n` words and changed nothing else but the parts that
`f` puts back. -/
abbrev HThread.done (h : HThread) (n : Nat) : HThread := ({ h with wait := .none } : HThread).next n

/-- Nothing changed but the tile unit and the Scale's reservation, counting and charging apart. -/
abbrev OnlyTile (s u : State) : Prop := Accounts s { u with tile := s.tile, scl := { u.scl with rsv := s.scl.rsv } }

/-- The Scale admits an entry whose estimate is `c` (R293). -/
abbrev admits (s : State) (c : Nat) : Prop := s.en .scl = false ∨ c ≤ s.scl.rsv ∨ -s.ovd ≤ s.scl.bal - c

/-- The queue without an entry. -/
abbrev queueWithout (s : State) (q : QEntry) : List QEntry := s.tile.queue.filter fun x => x.id ≠ q.id

/-- The queue with an entry marked as running; a TLD or TST has its fault point before it (R87, R88). -/
abbrev queueRuns (s : State) (q : QEntry) : List QEntry :=
  s.tile.queue.map fun x => if x.id = q.id then { q with started := true, safe := q.kind ≠ .mem } else x

/-- A TSAVE or TRSTR of which nothing has been done (R103, R104). -/
def ctxBegin (save : Bool) (a : Word) : CtxRun where
  save := save
  base := a
  checked := false
  xl := []
  done := 0
  total := 4
  image := []
  pois := []
  asked := []
  got := []

/-- The image that TSAVE writes, block after block. -/
def State.wholeImage (s : State) : List Byte :=
  (List.range ((s.imageLen + 511) / 512)).flatMap fun k => (s.imageBlock k).2

/-! ## Loads, stores and atomics -/

/-- A load: thread, destination, base, extension word and bytes (R144). -/
def loadOf (i : Instr) : Option (Thread × GReg × GReg × Option (BitVec 14) × Nat) :=
  match i with
  | .ldb t d b e => some (t, d, b, e, 1)
  | .ldh t d b e => some (t, d, b, e, 2)
  | .ldw t d b e => some (t, d, b, e, 4)
  | .ldd t d b e => some (t, d, b, e, 8)
  | _ => none

/-- A store: thread, source, base, extension word and bytes (R144). -/
def storeOf (i : Instr) : Option (Thread × GReg × GReg × Option (BitVec 14) × Nat) :=
  match i with
  | .stb t d b e => some (t, d, b, e, 1)
  | .sth t d b e => some (t, d, b, e, 2)
  | .stw t d b e => some (t, d, b, e, 4)
  | .std t d b e => some (t, d, b, e, 8)
  | _ => none

/-- An atomic: thread, operation code of the far atomic, whether it is 64 bits wide, gd, ga and gs (R168, R225). -/
def amoOf (i : Instr) : Option (Thread × Nat × Bool × GReg × GReg × GReg) :=
  match i with
  | .amoSwap t w d a r => some (t, 0, w, d, a, r)
  | .amoAdd t w d a r => some (t, 1, w, d, a, r)
  | .amoAnd t w d a r => some (t, 2, w, d, a, r)
  | .amoOr t w d a r => some (t, 3, w, d, a, r)
  | .amoXor t w d a r => some (t, 4, w, d, a, r)
  | .amoMin t w d a r => some (t, 5, w, d, a, r)
  | .amoMax t w d a r => some (t, 6, w, d, a, r)
  | .amoMinu t w d a r => some (t, 7, w, d, a, r)
  | .amoMaxu t w d a r => some (t, 8, w, d, a, r)
  | .amoCas t w d a r => some (t, 9, w, d, a, r)
  | _ => none

/-- Words of a load or store: two with an extension word (R139). -/
abbrev memLen (e : Option (BitVec 14)) : Nat := if e.isSome then 2 else 1

/-- The effective address: the base and the sign-extended offset of the extension word (R144, R165). -/
abbrev effAddr (s : State) (t : Thread) (b : GReg) (e : Option (BitVec 14)) : Word :=
  s.g t b + (match e with | none => 0 | some x => x.signExtend 64)

/-- What an atomic writes, with operands and old value as numbers below 2^n (R168). -/
def amoWrites (op n old gs gd : Nat) : Nat :=
  let sg (x : Nat) : Int := Int.bmod x (2 ^ n)
  match op with
  | 0 => gs
  | 1 => (old + gs) % 2 ^ n
  | 2 => old &&& gs
  | 3 => old ||| gs
  | 4 => old ^^^ gs
  | 5 => if sg old ≤ sg gs then old else gs
  | 6 => if sg old ≤ sg gs then gs else old
  | 7 => min old gs
  | 8 => max old gs
  | _ => if old = gd then gs else old

/-- A data access of thread `t` at `va`, `n` bytes within one 64-byte block, that is untranslated: its physical address
(R166, R246). -/
abbrev directAt (s : State) (t : Thread) (va : Word) (n pa : Nat) : Prop :=
  s.untranslated (s.th t).pl = true ∧ va.toNat < 2 ^ 40 ∧ va.toNat % 64 + n ≤ 64 ∧ pa = s.pos.chip.toNat * 2 ^ 40 + va.toNat

/-- A block of the own shelf can be read without an error: it lies in the configured shelf, and no symbol of it is wrong. -/
abbrev shelfClean (s : State) (o : Nat) : Prop :=
  o / 64 * 64 + 64 ≤ 393216 * s.ls.ways ∧ lookup s.ls.shelfErrs (o / 64) = none

/-- At most one way of its L1D set holds a block. -/
abbrev l1Once (s : State) (b : Nat) : Prop :=
  ∀ v w x y, v < 4 → w < 4 → lookup s.ls.l1 (4 * (b % 128) + v) = some x → x.blk = b →
    lookup s.ls.l1 (4 * (b % 128) + w) = some y → y.blk = b → v = w

/-- The entry of its L1 data TLB that an access of thread `t` at `va` finds, where no span translates the address
(R250, R255, R257). -/
abbrev tlbHolds (s : State) (t : Thread) (va : Word) (x : TlbEntry) : Prop :=
  s.untranslated (s.th t).pl = false ∧ va.toNat < 2 ^ 57 ∧
    (∀ y ∈ s.xl.spans, va.toNat / 2 ^ y.2.k = y.2.va.toNat / 2 ^ y.2.k → y.2.valid = false ∧ y.2.lost = false) ∧
    s.xl.l1tlb.find? (fun y => y.span.isNone && va.toNat / 2 ^ y.k = y.base / 2 ^ y.k) = some x

/-- No TLB and no span covers the address, and a walk can start for thread `t` (R250 to R252, R255, R257). -/
abbrev tlbMisses (s : State) (t : Thread) (va : Word) : Prop :=
  s.untranslated (s.th t).pl = false ∧ va.toNat < 2 ^ 57 ∧
    (∀ y ∈ s.xl.spans, va.toNat / 2 ^ y.2.k = y.2.va.toNat / 2 ^ y.2.k → y.2.valid = false ∧ y.2.lost = false) ∧
    (∀ y ∈ s.xl.l1tlb, va.toNat / 2 ^ y.k = y.base / 2 ^ y.k → y.span.isSome = true) ∧
    (∀ y ∈ s.xl.mtlb, va.toNat / 2 ^ y.2.k ≠ y.2.base / 2 ^ y.2.k) ∧
    s.xl.walks.length < 8 ∧ s.quiescing .xlt = false ∧ ∀ w ∈ s.xl.walks, w.who ≠ .thread t

/-- The physical address that an entry gives, and its policy (R248, R258). -/
abbrev tlbAddr (va : Word) (x : TlbEntry) : Nat :=
  x.leaf.toNat / 2 ^ 14 % 2 ^ 44 * 2 ^ 14 / 2 ^ x.k * 2 ^ x.k + va.toNat % 2 ^ x.k
abbrev tlbPol (s : State) (va : Word) (x : TlbEntry) : Nat := s.policyAt (tlbAddr va x) (x.leaf.toNat / 2 ^ 6 % 4)

/-- The lowest way that may take a line and holds none of its set (R200, R203). -/
abbrev emptyWay (s : State) (line w : Nat) : Prop :=
  w < 16 ∧ s.wayOk line w = true ∧ lookup s.ls.lines (s.cell (line % 3072) w) = none ∧
    ∀ v, v < w → s.wayOk line v = false ∨ lookup s.ls.lines (s.cell (line % 3072) v) ≠ none

/-- A line that the local store holds without an error, in way `w`, with no write of it still to leave. -/
abbrev soundLine (s : State) (line w : Nat) (l : LsLine) : Prop :=
  s.lsWay line = some w ∧ lookup s.ls.lines (s.cell (line % 3072) w) = some l ∧ l.errs = (0, 0) ∧ l.tagErr = 0 ∧
    l.data.length = 128 ∧ s.evicting line = false

/-- A line that is nowhere in the caches, with nothing of it in flight. -/
abbrev lineAbsent (s : State) (line : Nat) : Prop :=
  s.lsWay line = none ∧ s.fillOf line = none ∧ s.sideOf line = none ∧ s.evicting line = false

/-- What `put` into the request table and the port's queue makes of the port. -/
abbrev asks (s : State) (k : Nat) (x : RtEntry) : Noc :=
  { s.noc with rt := put s.noc.rt k x, queue := s.noc.queue ++ [k] }

/-- The port after a store of the buffer has put request `k` into its queue: what is to acknowledge the store, an XINV or a
span clear that found it in the buffer, waits for the request to leave too (R239, R256, R260). -/
abbrev storeAsks (s : State) (e : SbEntry) (k : Nat) (x : RtEntry) : Noc :=
  let more (sb : Nat) (l : List Nat) : List Nat := if e.seq < sb ∧ k ∉ s.noc.queue then l ++ [k] else l
  { asks s k x with
    xinvs := s.noc.xinvs.map fun y => { y with waitFor := more y.sb y.waitFor }
    clears := s.noc.clears.map fun y => { y with waitFor := more y.sb y.waitFor } }

/-! ## Commands from outside, records and frames -/

/-- Nothing in the core waits for an answer, so that none sets anything further going. -/
abbrev Calm (s : State) : Prop := (∀ t, (s.th t).wait = .none) ∧ (∀ c, (s.chan c).desc = none) ∧ s.tile.mem = []

/-- A register access of this writer is served: the window is, and nothing that came from outside waits in the port ahead
of one from there (R279, R354). -/
abbrev Serves (s : State) (w : Writer) : Prop :=
  s.served = true ∧ (w = .driver ∨ w = .otherCore → s.noc.inbox = [])

/-- The port takes requests in and serves them at once (R279, R284). -/
abbrev Hears (s : State) : Prop := s.hears = true ∧ s.noc.inbox = []

/-- A command has arrived at a port that holds it: it waits there behind the others, and a core in retention begins to wake
(R279). -/
abbrev Arrived (s : State) (c : Instr) (u : State) : Prop :=
  u.noc = { s.noc with inbox := s.noc.inbox ++ [c] } ∧ { u with noc := s.noc, tmg := s.tmg, crk := s.crk } = s ∧
  (s.tmg.ret = none → u.tmg = s.tmg ∧ u.crk = s.crk) ∧
  ∀ l, s.tmg.ret = some l →
    u.tmg = { s.tmg with ret := none, waking := some (l, s.tmg.time) } ∧ u.crk = { s.crk with woken := true }

/-- A wake condition of a thread holds (R287). -/
abbrev wakes (s : State) (t : Thread) : Prop :=
  (∃ n, n < 64 ∧ s.srcPending n = true ∧ s.srcEn n = true ∧ s.srcThr n = t.val ∧ (s.th t).ipl ≤ s.srcPri n) ∨
  (s.mcThread = t.val ∧ (s.irq.mcLatch = true ∨ s.irq.pfLatch = true)) ∨ (s.th t).quietOver.isSome = true ∨
  (s.tile.trap = true ∧ s.tile.owner = some t)

/-- A page's frame after an error record (R372): the first record since EVENT read zero is captured, and a fatal one
takes the place of one that is not. -/
def Frame.captures (f : Frame) (addr info : Nat) (fatal : Bool) : Frame :=
  if (f.event = 0 ∧ f.held = false) ∨ (fatal = true ∧ f.errFatal = false) then
    { f with errAddr := BitVec.ofNat 64 addr, errInfo := BitVec.ofNat 64 info, errFatal := fatal, held := true }
  else f

/-- A page's frame with an EVENT bit set. -/
abbrev Frame.noted (f : Frame) (i : Nat) : Frame := { f with event := setBit f.event i true }

/-- Nothing changed but the frame of a page, counting and charging apart. -/
abbrev OnlyFrame (s u : State) (p : Page) : Prop := Accounts s (u.setFrame p (s.frame p))

/-- A machine check of a page has been raised (R389). -/
abbrev checkRaised (s u : State) (p : Page) : Prop :=
  u.irq = { s.irq with mcLatch := true } ∧ u.ras = { s.ras with mcPages := setBit s.ras.mcPages (pageNo p).val true }

/-- A table entry has been freed: its generation has advanced, and no other entry has changed (R221). -/
abbrev freed (s u : State) (i : Nat) : Prop :=
  lookup u.noc.rt i = none ∧ u.genOf i = s.genOf i + 1 ∧
    ∀ j, j ≠ i → lookup u.noc.rt j = lookup s.noc.rt j ∧ u.genOf j = s.genOf j

/-- The answer that the port drives out names the request's tag and requester (R221, R224). -/
abbrev answers (u : State) (h : Hdr) (typ sts : Nat) (p : Packet) : Prop :=
  u.noc.out = some p ∧
    (p.typ, p.sts, p.tag, p.schip, p.sclu, p.score) = (typ, sts, h.tag, h.schip, h.sclu, h.score)

/-- Nothing changed but the port's output and the frame of a page, counting and charging apart. -/
abbrev OnlyReply (s u : State) (p : Page) : Prop :=
  Accounts s ({ u with noc := { u.noc with out := s.noc.out } }.setFrame p (s.frame p))

/-- Some of the accesses that were in flight have neither been performed nor left; for a span clear, data of loads under
way are awaited too (R256, R260, R265). -/
abbrev Unfinished (s : State) (x : InFlight) : Prop :=
  x.waitFor ≠ [] ∨ (∃ e ∈ s.ls.sb, e.seq < x.sb) ∨ (∃ l ∈ x.lines, s.lineFlies x.clear l = true) ∨
    (∃ r ∈ s.openRuns true, r ∈ x.runs) ∨ (∃ t ∈ x.thr, s.holdsPages t = true) ∨
    (x.clear = true ∧ ∃ t, (s.th t).heldLoad = true)

/-- A write of the register window that clears a span while accesses are in flight: it is acknowledged later
(R256). -/
abbrev ClearWaits (s : State) (off : Nat) (v : Word) : Prop :=
  pageOf (off / 0x1000) = .xlt ∧ off % 0x1000 = 0x78 ∧ wbits v 13 12 = 1 ∧ wbits v 63 14 = 0 ∧ Unfinished s.holdLoads (s.inFlight true)

/-- Bytes of a SIZE code (R224). -/
abbrev lenOf (h : Hdr) : Nat := if h.size = 5 then 128 else if h.size = 4 then 64 else 2 ^ h.size.toNat

/-- What may come from outside at the port: a header of the command's type with the flits and masks of its SIZE, aligned
unless it names this core's register window, which answers a misaligned one (R223 to R226, R354). -/
def fromOutside (s : State) (c : Instr) : Prop :=
  let aligned (h : Hdr) : Prop := h.addr.toNat % lenOf h = 0
  let window (h : Hdr) : Prop := ∃ o, s.window h.addr.toNat = .mmio o
  let carries (h : Hdr) (data : List Byte) (mask : List Bool) : Prop :=
    h.size.toNat ≤ 5 ∧ data.length = (if h.size = 5 then 128 else 64) ∧
      if h.masked then 4 ≤ h.size.toNat ∧ mask.length = data.length else mask = []
  match c with
  | .nocRdIn h => h.typ = 0 ∧ h.size.toNat ≤ 5 ∧ (aligned h ∨ window h)
  | .nocWrIn h data mask => h.typ = 1 ∧ carries h data mask ∧ (aligned h ∨ window h)
  | .nocAtomIn h _ _ => h.typ = 2 ∧ (h.size = 2 ∨ h.size = 3) ∧ h.op.toNat ≤ 9 ∧ (aligned h ∨ window h)
  | .bcastIn h data mask => h.typ = 6 ∧ 4 ≤ h.size.toNat ∧ carries h data mask ∧ aligned h
  | .xinvIn h => h.typ = 4 ∧ h.op.toNat < 12
  | .doorbell h => h.typ = 3 ∧ h.mkind = 1
  | .budgetGrant h data => h.typ = 3 ∧ h.mkind = 2 ∧ data.length = 64
  | .badHeader h => h.typ = 5 ∨ h.typ = 7 ∨ h.typ = 15 ∨
      (h.typ = 3 ∧ ((h.mkind ≠ 1 ∧ h.mkind ≠ 2) ∨ h.addr.toNat ≠ s.mmioBase))
  | _ => False

/-- A report goes into the table as a message: the entry it takes, its kind, address and padded payload (R225, R345,
R362). -/
abbrev reportSent (s : State) (rt : List (Nat × RtEntry)) (queue : List Nat) (k : Nat) (kind : ReqKind) (addr mkind : Nat)
    (payload : List Byte) : Prop :=
  queue = s.noc.queue ++ [k] ∧ ∃ x : RtEntry, rt = put s.noc.rt k x ∧
    (x.typ, x.addr, x.size, x.op, x.kind, x.src, x.sent, x.dead) = (3, addr, 4, mkind, kind, .msg, false, false) ∧
    x.data = payload ++ List.replicate (64 - payload.length) 0

/-- The position at the bit positions of a header (R224). -/
abbrev placeOf (s : State) : Nat :=
  s.pos.chip.toNat * 2 ^ 18 + s.pos.cluster.toNat * 2 ^ 36 + s.pos.core.toNat * 2 ^ 42

/-- Does a writer other than another core reach a register open to any writer (R367)? -/
abbrev ownWriter (w : Writer) : Prop := w = .driver ∨ w = .firmware ∨ w = .ownUS

/-! ## Register commands -/

/-- The writers that a command register accepts (R367, R368). -/
inductive Accepts where
  /-- All but other cores. -/
  | any
  /-- Firmware at M. -/
  | m
  /-- The driver. -/
  | d
  /-- Both. -/
  | md
  deriving DecidableEq, Repr

/-- Does a register take this writer's write (R367)? -/
abbrev Accepts.has (a : Accepts) (w : Writer) : Prop :=
  match a with
  | .any => w = .driver ∨ w = .firmware ∨ w = .ownUS
  | .m => w = .firmware
  | .d => w = .driver
  | .md => w = .driver ∨ w = .firmware

/-- A page's CTRL accepts the writers of the page's shadowed registers (R368, log 23). -/
def ctrlAccepts (p : Page) : Accepts := if p = .lst ∨ p = .scl ∨ p = .rpr then .md else .any

/-- A command by a register write: writer, page, whom the register accepts, and the row's mnemonic (R367). -/
def commandOf (i : Instr) : Option (Writer × Page × Accepts × String) :=
  match i with
  | .chnHeadWrite w _ _ => some (w, .ldl, .any, "CHN_HEAD_WRITE")
  | .resume w _ => some (w, .ldl, .any, "RESUME")
  | .skip w _ => some (w, .ldl, .any, "SKIP")
  | .abort w _ => some (w, .ldl, .any, "ABORT")
  | .barArrive w => some (w, .ldl, .any, "BAR_ARRIVE")
  | .spanLoad w _ _ => some (w, .xlt, .any, "SPAN_LOAD")
  | .spanClear w _ _ => some (w, .xlt, .any, "SPAN_CLEAR")
  | .spanReadBack w _ _ => some (w, .xlt, .any, "SPAN_READ_BACK")
  | .spanSetAAndD w _ _ => some (w, .xlt, .any, "SPAN_SET_A_AND_D")
  | .calCmdGroup w _ => some (w, .tmg, .md, "CAL_CMD_GROUP")
  | .calCmdAll w => some (w, .tmg, .md, "CAL_CMD_ALL")
  | .wcmd w _ _ _ => some (w, .crk, .m, "WCMD")
  | .wcmdRefresh w _ _ _ => some (w, .crk, .m, "WCMD_REFRESH")
  | .dwcmd w _ _ _ => some (w, .crk, .d, "DWCMD")
  | .drcmd w _ _ => some (w, .crk, .d, "DRCMD")
  | .wqResume w => some (w, .crk, .m, "WQ_RESUME")
  | .wqDiscard w => some (w, .crk, .m, "WQ_DISCARD")
  | .moveCmd w _ _ _ => some (w, .crk, .m, "MOVE_CMD")
  | .mapCmd w => some (w, .crk, .m, "MAP_CMD")
  | .scanCmd w => some (w, .crk, .m, "SCAN_CMD")
  | .verify w => some (w, .crk, .m, "VERIFY")
  | .switch w => some (w, .crk, .m, "SWITCH")
  | .trst w _ => some (w, .thr, .md, "TRST")
  | .ctrlEn w p _ => some (w, p, ctrlAccepts p, "CTRL_EN")
  | .ctrlQuiesce w p _ => some (w, p, ctrlAccepts p, "CTRL_QUIESCE")
  | .ctrlCommit w p => some (w, p, ctrlAccepts p, "CTRL_COMMIT")
  | .ctrlRevert w p => some (w, p, ctrlAccepts p, "CTRL_REVERT")
  | .regDataWrite w _ => some (w, .thr, .md, "REG_DATA_WRITE")
  | .pendClr w _ => some (w, .irq, .any, "PEND_CLR")
  | .pendSet w _ => some (w, .irq, .any, "PEND_SET")
  | .readySend w _ => some (w, .core, .m, "READY_SEND")
  | .fatalRaise w _ => some (w, .ras, .m, "FATAL_RAISE")
  | .pmCmdRead w => some (w, .dbg, .md, "PM_CMD_READ")
  | .pmCmdWrite w => some (w, .dbg, .md, "PM_CMD_WRITE")
  | .bistRow w _ => some (w, .rpr, .md, "BIST_ROW")
  | .bistColumn w _ => some (w, .rpr, .md, "BIST_COLUMN")
  | .bistWay w _ => some (w, .rpr, .md, "BIST_WAY")
  | .bistWholeArray w => some (w, .rpr, .md, "BIST_WHOLE_ARRAY")
  | _ => none

/-- Whom a register that holds a value accepts. -/
def acceptsOf (g : WTag) : Accepts :=
  match g with
  | .any => .any
  | .m => .m
  | .d => .d
  | .md => .md

/-- Bits [hi:lo] of a number. -/
abbrev fld (x hi lo : Nat) : Nat := x / 2 ^ lo % 2 ^ (hi + 1 - lo)

/-- The one bits of the low `n` bits of a number. -/
abbrev onesIn (n x : Nat) : Nat := (List.range n).countP fun i => x.testBit i

/-! ## Queue entries: their checks and their estimates (R68, R98, R100, R101, R124, R293, R393) -/

/-- A check of an entry: what must hold, then cause, detail, ARG and PROG of the fault where it does not. -/
abbrev EntryCheck := Prop × Nat × Nat × Nat × Nat

/-- Marked rows among those that are read: the first tray of the list with one, and its lowest. -/
def State.firstMarked (s : State) (l : List (TrayNo × Nat)) : Option (Nat × Nat) :=
  l.findSome? fun x => ((List.range x.2).find? fun r => (s.tray x.1).marks.getLsbD r).map fun r => (x.1.val, r)

/-- A tray field of an entry: four bits from bit `lo`. -/
abbrev trayBits (x lo : Nat) : TrayNo := ⟨x / 2 ^ lo % 16, by omega⟩

/-- An MX format code, and a code of 6-bit elements (R23). -/
abbrev mxCode (f : Nat) : Prop := 9 ≤ f ∧ f ≤ 14
abbrev sixCode (f : Nat) : Prop := f = 2 ∨ f = 3 ∨ f = 11 ∨ f = 12

/-- Bits of an element by format code (R23). -/
def codeBits (f : Nat) : Nat :=
  if f = 4 ∨ f = 13 then 4 else if sixCode f then 6 else if f = 6 ∨ f = 7 then 16 else if f = 8 ∨ f = 15 then 32 else 8

/-- Products of one PE in one step (R27), and the pairs that it allows. -/
abbrev pairAllowed (fa fb : Nat) : Prop :=
  (fa ≤ 5 ∧ fb ≤ 5) ∨ (mxCode fa ∧ mxCode fb) ∨ (fa = fb ∧ 6 ≤ fa ∧ fa ≤ 8)
def pairProducts (fa fb : Nat) : Nat :=
  if (fa = 4 ∧ fb = 4) ∨ (fa = 13 ∧ fb = 13) then 8 else if fa = 8 then 1 else if fa = 6 ∨ fa = 7 then 2 else 4

/-- K, chunk width and fold factor of a TMMA or TMMS (R29, R34). -/
def mmaK (s : State) (q : QEntry) : Nat := 8 * (s.tray (trayBits q.x 4)).bytes / codeBits (q.x / 2 ^ 12 % 16)
def mmaKw (q : QEntry) : Nat :=
  (if q.xop = 0x27 then 2 else 1) * pairProducts (q.x / 2 ^ 8 % 16) (q.x / 2 ^ 12 % 16)
def mmaFold (m : Nat) : Nat := if m ≤ 8 then 4 else if m ≤ 16 then 2 else 1

/-- A scale tray fits: the operand's rows, and ceil(K/32) bytes rounded up to a multiple of 4 (R26). -/
abbrev scaleFits (s : State) (T : TrayNo) (rows k : Nat) : Prop :=
  (s.tray T).rows = rows ∧ (s.tray T).bytes = ((k + 31) / 32 + 3) / 4 * 4

open Classical in
/-- TMMA and TMMS (R98). -/
def mmaChecks (s : State) (q : QEntry) : List EntryCheck :=
  let x := q.x
  let slot := q.opf
  let a := trayBits x 0
  let b := trayBits x 4
  let sa := trayBits x 16
  let sb := trayBits x 20
  let mt := trayBits x 24
  let fa := x / 2 ^ 8 % 16
  let fb := x / 2 ^ 12 % 16
  let A := s.tray a
  let B := s.tray b
  let sl := s.slot (Fin.ofNat 48 slot)
  let k := mmaK s q
  let na := 8 * A.bytes / codeBits fa
  let sparse := q.xop = 0x27
  let mark := s.firstMarked ([(a, A.rows), (b, B.rows)] ++ (if mxCode fa then [(sa, A.rows)] else [])
    ++ (if mxCode fb then [(sb, B.rows)] else []) ++ (if sparse then [(mt, A.rows)] else []))
  [(slot < 48, 1, 1, slot, 0), (sl.inuse = true, 1, 2, slot, 0), (fa ≠ 15 ∧ fb ≠ 15, 3, 1, a, 0),
   (mxCode fa ↔ mxCode fb, 3, 3, a, 0), (pairAllowed fa fb, 3, 2, a, 0), (sl.fp = true ∨ ¬ (6 ≤ fa ∧ fa ≤ 8), 3, 4, a, 0),
   (sparse → fa ∈ [0, 1, 4, 9, 10, 13], 3, 5, a, 0), ((if sparse then 2 * na else na) = k, 4, 1, a, 0),
   (k % mmaKw q = 0, 4, 2, b, 0),
   ((sixCode fa → A.bytes % 12 = 0) ∧ (sixCode fb → B.bytes % 12 = 0), 4, 3, if sixCode fa then a else b, 0),
   (mxCode fa → k % 32 = 0, 4, 4, a, 0),
   ((mxCode fa → scaleFits s sa A.rows k) ∧ (mxCode fb → scaleFits s sb B.rows k), 4, 5,
     if mxCode fa ∧ ¬ scaleFits s sa A.rows k then sa else sb, 0),
   (sparse → k % 32 = 0 ∧ (s.tray mt).rows = A.rows ∧ (s.tray mt).bytes = k / 8, 4, 6, mt, 0),
   (sl.fold = 0 ∨ sl.fold = mmaFold A.rows, 4, 7, slot, 0),
   (mark = none, 5, 1, (mark.getD (0, 0)).1, (mark.getD (0, 0)).2)]

open Classical in
/-- TDRAIN (R68, R100). -/
def drainChecks (s : State) (q : QEntry) : List EntryCheck :=
  let w := q.v1.toNat
  let slot := q.opf
  let sl := s.slot (Fin.ofNat 48 slot)
  let ofmt := w % 16
  let dst := trayBits w 4
  let fop := w / 2 ^ 8 % 4
  let ttr := trayBits w 10
  let tfmt := w / 2 ^ 14 % 16
  let cse := w / 2 ^ 18 % 2 = 1
  let ctr := trayBits w 19
  let mtr := trayBits w 23
  let t := fop ≠ 0
  let mx := mxCode ofmt
  let D := s.tray dst
  let nd := min 32 (8 * D.bytes / codeBits ofmt)
  let same : Option TrayNo := if cse ∧ ctr = dst then some ctr else if mx ∧ mtr = dst then some mtr
    else if t ∧ cse ∧ ctr = ttr then some ctr else if t ∧ mx ∧ mtr = ttr then some mtr
    else if cse ∧ mx ∧ mtr = ctr then some mtr else none
  let tm := s.firstMarked [(ttr, D.rows)]
  let cm := cse ∧ (s.tray ctr).marks.getLsbD 0 = true
  [(slot < 48, 1, 1, slot, 0), (sl.inuse = true, 1, 2, slot, 0), (w / 2 ^ 29 = 0, 2, 1, slot, 0),
   (ofmt ≠ 15 ∧ fop ≠ 3 ∧ (t → tfmt ≤ 8), 2, 2, slot, 0), (same = none, 2, 3, (same.getD 0).val, 0),
   (D.rows ≤ 32 / (if sl.fold = 0 then 1 else sl.fold), 4, 8, dst, 0),
   ((sixCode ofmt → D.bytes % 12 = 0) ∧ (mx → nd = 32), 4, 9, dst, 0),
   (t → (s.tray ttr).rows = D.rows ∧ nd ≤ 8 * (s.tray ttr).bytes / codeBits tfmt, 4, 10, ttr, 0),
   (cse → (s.tray ctr).bytes = 128, 4, 11, ctr, 0), (mx → (s.tray mtr).rows = D.rows, 4, 12, mtr, 0),
   (¬ cm, 5, 2, ctr, 0), (t → tm = none, 5, 2, ttr, (tm.getD (0, 0)).2)]

open Classical in
/-- TMOV (R101). -/
def movChecks (s : State) (q : QEntry) : List EntryCheck :=
  let dst := trayBits q.opf 0
  let src := trayBits q.x 0
  let op := q.x / 2 ^ 4 % 4
  let D := s.tray dst
  let S := s.tray src
  let e := if op = 1 then 1 else if op = 2 then 2 else 4
  let mark := s.firstMarked [(src, S.rows)]
  if op = 0 then [(D.rows = S.rows ∧ D.bytes = S.bytes, 4, 13, dst, 0)]
  else [(dst ≠ src, 2, 3, dst, 0), (D.rows * e = S.bytes, 4, 13, dst, 0), (D.bytes = S.rows * e, 4, 13, dst, 0),
    (mark = none, 5, 3, src, (mark.getD (0, 0)).2)]

open Classical in
/-- The Whisk instructions (R124); which tray is named where several fail is log 90. -/
def whiskChecks (s : State) (q : QEntry) : List EntryCheck :=
  let x := q.x
  let op := q.xop
  let d := trayBits q.opf 0
  let a := trayBits x 0
  let b := trayBits x 4
  let c := trayBits x 8
  let ty := x / 2 ^ 12 % 16
  let u := x / 2 ^ 16 % 16
  let bb := x / 2 ^ 20 % 4
  let bc := x / 2 ^ 22 % 4
  let D := s.tray d
  let A := s.tray a
  let cvt := op = 0x39
  let useB := 0x30 ≤ op ∧ op ≤ 0x35
  let useC := op = 0x32 ∨ op = 0x35
  let elem := op ≠ 0x39 ∧ op ≠ 0x3B
  let qBits (i : Nat) : Nat := if x / 2 ^ i % 2 = 1 then 16 else 32
  let sbits := if ty = 15 then qBits 20 else codeBits ty
  let dbits := if u = 15 then qBits 21 else codeBits u
  let n := 8 * A.bytes / sbits
  let len := if sixCode u then (n * 6 + 95) / 96 * 12 else (n * dbits + 31) / 32 * 4
  let same (T : TrayNo) := (s.tray T).rows = D.rows ∧ (s.tray T).bytes = D.bytes
  let fits (T : TrayNo) (code : Nat) := (code = 1 → (s.tray T).bytes = D.bytes) ∧ (code = 2 → (s.tray T).rows = D.rows)
  let mxs := mxCode ty
  let mxd := mxCode u
  let read (T : TrayNo) (code : Nat) : TrayNo × Nat := (T, if code % 2 = 1 then 1 else (s.tray T).rows)
  let mark := s.firstMarked ([(a, A.rows)] ++ (if cvt then (if mxs then [read b 0] else [])
    else (if useB then [read b bb] else []) ++ (if useC then [read c bc] else [])))
  let ssOk := mxs → b ≠ a ∧ b ≠ d ∧ (mxd → b ≠ c)
  let types : List EntryCheck :=
    if cvt then [((ty = 15 ∧ qBits 20 = 16 → x / 2 ^ 22 % 2 = 0) ∧ (u = 15 ∧ qBits 21 = 16 → x / 2 ^ 23 % 2 = 0), 8, 3, d, 0)]
    else [(ty ≤ 5, 8, 1, d, 0), (0x36 ≤ op ∧ op ≤ 0x38 → ty ≤ 2, 8, 2, d, 0), (ty ≤ 2 → u = 0, 8, 3, d, 0)]
  let rest : List EntryCheck :=
    [(cvt → ssOk ∧ (mxd → c ≠ a ∧ c ≠ d), 8, 4, (if ssOk then c else b).val, 0),
     (elem → same a ∧ (useB → bb = 0 → same b) ∧ (useC → bc = 0 → same c), 9, 1,
       (if ¬ same a then a else if useB ∧ bb = 0 ∧ ¬ same b then b else c).val, 0),
     (elem → (useB → fits b bb) ∧ (useC → fits c bc), 9, 2, (if useB ∧ ¬ fits b bb then b else c).val, 0),
     (op = 0x3B → D.rows = A.rows ∧ (if ty = 0 ∨ ty = 3 ∨ ty = 4 then 4 else 2) ≤ D.bytes, 9, 3, d, 0),
     (cvt → D.rows = A.rows ∧ D.bytes = len, 9, 4, d, 0),
     (cvt → (mxs ∨ mxd → n % 32 = 0) ∧ (mxs → scaleFits s b A.rows n) ∧ (mxd → scaleFits s c A.rows n) ∧
         (sixCode ty → A.bytes % 12 = 0), 9, 5,
       (if (mxs ∨ mxd) ∧ n % 32 ≠ 0 then a else if mxs ∧ ¬ scaleFits s b A.rows n then b
         else if mxd ∧ ¬ scaleFits s c A.rows n then c else a).val, 0),
     (mark = none, 10, 1, (mark.getD (0, 0)).1, (mark.getD (0, 0)).2)]
  if op = 0x3A then types else types ++ rest

/-- The checks that an entry faces at its start, in order, by its instruction (R63, R92 to R94, R393). -/
def entryChecks (s : State) (q : QEntry) : List EntryCheck :=
  let n := q.x % 64
  match q.xop with
  | 0x21 => if q.opf = 0x10 then [(n < 48, 1, 1, n, 0)] else []
  | 0x22 => []
  | 0x23 => [(q.opf < 48, 1, 1, q.opf, 0), (q.v1.toNat / 2 ^ 13 = 0, 2, 1, q.opf, 0)]
  | 0x24 => [(q.v1.toNat % 4 = 0, 2, 4, q.opf % 16, 0), (q.v2.toNat % 4 = 0, 2, 5, q.opf % 16, 0)]
  | 0x25 => [(q.v1.toNat % 4 = 0, 2, 4, q.opf % 16, 0), (q.v2.toNat % 4 = 0, 2, 5, q.opf % 16, 0)]
  | 0x26 => mmaChecks s q
  | 0x27 => mmaChecks s q
  | 0x28 => drainChecks s q
  | 0x29 => movChecks s q
  | _ => whiskChecks s q

/-- The virtual address of byte `i` of row `r` of a TLD or TST entry (R94). -/
abbrev rowByte (q : QEntry) (r i : Nat) : Nat := (q.v1.toNat + r * q.v2.toNat + i) % 2 ^ 64

/-- What an entry's estimate charges, in units of the class weights (R289, R293). -/
def entryEstimate (s : State) (q : QEntry) : Nat :=
  let W := s.weight
  let x := q.x
  let fa := x / 2 ^ 8 % 16
  let fb := x / 2 ^ 12 % 16
  let T := s.tray (trayBits q.opf 0)
  let X := s.tray (trayBits x 0)
  let lines := ((List.range T.rows).flatMap fun r =>
    [rowByte q r 0 / 128, rowByte q r (T.bytes - 1) / 128]).toFinset.card
  let chunks := mmaK s q / mmaKw q
  let cls := if fa = 4 ∧ fb = 4 then 0 else if fa ≤ 5 then 1 else if fa = 13 ∧ fb = 13 then 2 else if fa = 8 then 5
    else if fa = 6 ∨ fa = 7 then 4 else 3
  let w := q.v1.toNat
  let rd := (s.tray (trayBits w 4)).rows
  match q.xop with
  | 0x21 => if q.opf = 0x10 then W 7 else X.rows * W 0x0C
  | 0x22 => T.rows * W 0x0C
  | 0x23 => W 7
  | 0x24 => lines * W 0x12 + T.rows * W 0x0C
  | 0x25 => lines * W 0x13 + T.rows * W 0x0B
  | 0x26 => if pairAllowed fa fb then X.rows * chunks * W cls else 0
  | 0x27 => if pairAllowed fa fb then X.rows * chunks * (W cls + W 6) else 0
  | 0x28 => W 8 + rd * (W 9 + (w / 2 ^ 18 % 2 + (if w / 2 ^ 8 % 4 = 0 then 0 else 1)) * W 0x0A)
  | 0x29 => X.rows * (W 0x0B + W 0x0C)
  | _ => T.rows * W (if q.xop = 0x3B then 15 else if 0x36 ≤ q.xop ∧ q.xop ≤ 0x38 then 14 else 13)

/-! ## Numbers (R23 to R26, R51 to R53, R69 to R71, R116 to R122) -/

/-- The number that a finite value stands for; 0 for NaN and the infinities. -/
def Val.rat (v : Val) : ℚ :=
  match v with
  | .fin n m e => (if n then -1 else 1) * m * (2 : ℚ) ^ e
  | _ => 0

/-- A finite value, and its sign. -/
abbrev Val.isFin (v : Val) : Prop := v ≠ .nan ∧ ∀ n, v ≠ .inf n
def Val.sign (v : Val) : Bool := match v with | .nan => false | .inf n => n | .fin n _ _ => n

/-- A float format by code: exponent bits, fraction bits, bias (R23). -/
def floatShape (code : Nat) : Option (Nat × Nat × Nat) :=
  match code with
  | 0 => some (4, 3, 7)
  | 1 => some (5, 2, 15)
  | 2 => some (3, 2, 3)
  | 3 => some (2, 3, 1)
  | 4 => some (2, 1, 1)
  | 6 => some (8, 7, 127)
  | 7 => some (5, 10, 15)
  | 8 => some (8, 23, 127)
  | _ => none

/-- Bits of the largest finite magnitude, of an infinity (E4M3: its NaN), and of the NaN that a conversion writes, sign 0
(R25, R70). -/
def codeMax (code : Nat) : Nat :=
  match code with
  | 0 => 0x7E | 1 => 0x7B | 2 => 0x1F | 3 => 0x1F | 4 => 7 | 5 => 0x7F | 6 => 0x7F7F | 7 => 0x7BFF | _ => 0x7F7F_FFFF
def codeInf (code : Nat) : Nat :=
  match code with
  | 0 => 0x7F | 1 => 0x7C | 6 => 0x7F80 | 7 => 0x7C00 | 8 => 0x7F80_0000 | c => codeMax c
def codeNan (code : Nat) : Nat :=
  match code with
  | 0 => 0x7F | 1 => 0x7E | 6 => 0x7FC0 | 7 => 0x7E00 | 8 => 0x7FC0_0000 | _ => 0

/-- The number that the encoding `x` of a float format stands for, where it is finite (R25). -/
def encoded (code x : Nat) : Option ℚ :=
  match floatShape code with
  | none => none
  | some (eb, mb, bias) =>
    let ef := x / 2 ^ mb % 2 ^ eb
    let m := x % 2 ^ mb
    let special := if code = 0 then ef = 15 ∧ m = 7 else if 2 ≤ code ∧ code ≤ 4 then False else ef = 2 ^ eb - 1
    if special then none
    else some ((if x / 2 ^ (eb + mb) % 2 = 1 then -1 else 1) *
      (if ef = 0 then m * (2 : ℚ) ^ (1 - (bias : ℤ) - mb) else (2 ^ mb + m : ℕ) * (2 : ℚ) ^ ((ef : ℤ) - bias - mb)))

/-- num 2^e rounded to a multiple of 2^g, in units of 2^g (R45, R70). -/
def inUnits (r : Rnd) (u : Nat) (num : ℤ) (e g : ℤ) : ℤ :=
  if g ≤ e then num * 2 ^ (e - g).toNat else rndPow2 r u num (g - e).toNat

/-- rne(v, 2^-k): the nearest multiple of 2^-k, ties to even (R119). -/
def rneQ (v : ℚ) (k : ℕ) : ℚ :=
  let f := ⌊v * 2 ^ k⌋
  let r := v * 2 ^ k - f
  (if r < 1 / 2 then f else if 1 / 2 < r then f + 1 else if f % 2 = 0 then f else f + 1 : ℤ) / 2 ^ k

/-- The exact sum of addends, with NaN and infinities as R52 and the sign of a zero sum as R52 and R69 have it. -/
def SumIs (l : List Val) (v : Val) : Prop :=
  let bad := .nan ∈ l ∨ (.inf false ∈ l ∧ .inf true ∈ l)
  (bad → v = .nan) ∧ (∀ n, ¬ bad → .inf n ∈ l → v = .inf n) ∧
  (¬ bad → (∀ n, .inf n ∉ l) → v.isFin ∧ v.rat = (l.map Val.rat).sum ∧
    v.sign = if (l.map Val.rat).sum = 0 then l.all Val.sign else decide ((l.map Val.rat).sum < 0))

/-- The exact product (R52, R69); the sign of a zero product in a sum of R52 is log 87. -/
def ProductIs (a b v : Val) : Prop :=
  let bad := a = .nan ∨ b = .nan ∨ ((∃ n, a = .inf n) ∧ b.isFin ∧ b.rat = 0) ∨ ((∃ n, b = .inf n) ∧ a.isFin ∧ a.rat = 0)
  (bad → v = .nan) ∧ (¬ bad → (∃ n, a = .inf n ∨ b = .inf n) → v = .inf (a.sign != b.sign)) ∧
  (a.isFin → b.isFin → v.isFin ∧ v.rat = a.rat * b.rat ∧ v.sign = (a.sign != b.sign))

/-- convert(v, code, r, sat, u): the bits, and whether the result overflowed and whether rounding changed it (R70; log 89). -/
def ConvertIs (code : Nat) (v : Val) (r : Rnd) (sat : Bool) (u bits : Nat) (ovf inexact : Bool) : Prop :=
  let w := codeBits code
  let neg (n : Bool) (x : Nat) : Nat := if code = 5 then (if n then 0x80 else x) else x + (if n then 2 ^ (w - 1) else 0)
  let beyond (n : Bool) : Nat := neg n (if sat then codeMax code else codeInf code)
  (v = .nan → bits = codeNan code ∧ ovf = false ∧ inexact = false) ∧
  (∀ n, v = .inf n → bits = beyond n ∧ ovf = true ∧ inexact = false) ∧
  (∀ n e, v = .fin n 0 e → bits = (if code = 5 then 0 else neg n 0) ∧ ovf = false ∧ inexact = false) ∧
  (∀ n m e, v = .fin n m e → m ≠ 0 →
    (∀ eb mb bias, floatShape code = some (eb, mb, bias) →
      let g : ℤ := max ((Nat.log2 m : ℤ) + e) (1 - bias) - mb
      let y : ℚ := inUnits r u (if n then -m else m) e g * (2 : ℚ) ^ g
      (|y| ≤ (encoded code (codeMax code)).getD 0 → encoded code bits = some y ∧ bits / 2 ^ (w - 1) = b2n n ∧ ovf = false ∧
        (inexact = true ↔ y ≠ v.rat)) ∧
      ((encoded code (codeMax code)).getD 0 < |y| → bits = beyond n ∧ ovf = true ∧ inexact = true)) ∧
    (code = 5 →
      let y := inUnits r u (if n then -m else m) e 0
      (-128 ≤ y → y ≤ 127 → bits = (y % 256).toNat ∧ ovf = false ∧ (inexact = true ↔ (y : ℚ) ≠ v.rat)) ∧
      (y < -128 ∨ 127 < y → bits = beyond (decide (y < 0)) ∧ ovf = true ∧ inexact = true)))

/-- The larger or smaller of two elements by value, -0 below +0 (R118): `x` wins. -/
def beats (big : Bool) (a b : Val) : Prop :=
  let le (p q : Val) : Prop := p = .inf true ∨ q = .inf false ∨
    (p.isFin ∧ q.isFin ∧ (p.rat < q.rat ∨ (p.rat = q.rat ∧ (p.rat = 0 → q.sign = true → p.sign = true))))
  if big then le b a else le a b

/-- The element `bits` of a format stands for `v`; an MX code stands for its element format (R25). -/
def ElementIs (code bits : Nat) (v : Val) : Prop :=
  let base := if mxCode code then code - 9 else code
  let neg := bits.testBit (codeBits base - 1)
  if base = 5 then v.isFin ∧ v.rat = Int.bmod bits 256 ∧ v.sign = neg
  else (∀ y, encoded base bits = some y → v.isFin ∧ v.rat = y ∧ v.sign = neg) ∧
    (encoded base bits = none → v = if base = 0 ∨ bits % 2 ^ ((floatShape base).getD (0, 0, 0)).2.1 ≠ 0 then .nan else .inf neg)

/-- Element `e` of an operand's row stands for `v`, under the scale of position `pos` where its format is MX (R24, R26). -/
def OperandIs (code row scales e pos : Nat) (v : Val) : Prop :=
  let x := row / 2 ^ (codeBits code * e) % 2 ^ codeBits code
  let k := scales / 256 ^ (pos / 32) % 256
  if mxCode code then
    if k = 255 then v = .nan
    else ∃ y, ElementIs code x y ∧ v = y.scale ((k : ℤ) - 127 - if code = 14 then 6 else 0)
  else ElementIs code x v

/-- The draw of R72. -/
def drawOf (seed row col pos : Nat) : Nat :=
  let a := (seed + pos * 0x9E37_79B9_7F4A_7C15 + (row * 32 + col) * 0xD1B5_4A32_D192_ED03) % 2 ^ 64
  let b := (a ^^^ a / 2 ^ 30) * 0xBF58_476D_1CE4_E5B9 % 2 ^ 64
  let c := (b ^^^ b / 2 ^ 27) * 0x94D0_49BB_1331_11EB % 2 ^ 64
  (c ^^^ c / 2 ^ 31) / 2 ^ 40

/-- emax of an MX code (R71). -/
def blockTop (code : Nat) : ℤ :=
  match code with
  | 9 => 8 | 10 => 15 | 11 => 4 | 12 => 2 | 13 => 2 | _ => 0

/-- A block of an MX format: its scale, and each element with its flags, overflow and rounding (R71). -/
def BlockIs (code : Nat) (vs : List Val) (r : Rnd) (sat : Bool) (us : Nat → Nat) (sc : Nat)
    (out : Nat → Nat × Bool × Bool) : Prop :=
  let mag (v : Val) : ℚ := if v = .inf false ∨ v = .inf true then (2 ^ 24 - 1) * 2 ^ 104 else |v.rat|
  (.nan ∈ vs → sc = 255 ∧ ∀ j, j < vs.length → out j = (0, false, false)) ∧
  (.nan ∉ vs → (∀ v ∈ vs, mag v = 0) → sc = 0 ∧ ∀ j, j < vs.length → out j = (0, false, false)) ∧
  (.nan ∉ vs → (∃ v ∈ vs, mag v ≠ 0) → ∃ top : ℤ,
    (∃ v ∈ vs, (2 : ℚ) ^ top ≤ mag v) ∧ (∀ v ∈ vs, mag v < (2 : ℚ) ^ (top + 1)) ∧
    let X := max (-127) (min 127 (top - blockTop code))
    (sc : ℤ) = X + 127 ∧ ∀ j v, vs[j]? = some v →
      ConvertIs (code - 9) (v.scale (-X + if code = 14 then 6 else 0)) r sat (us j) (out j).1 (out j).2.1 (out j).2.2)

/-! ## Whisk elements (R114 to R122, R127) -/

/-- Format code and width of a Whisk type (R111). -/
def typeCode (ty : Nat) : Nat := if ty = 0 then 8 else if ty = 1 then 6 else 7
def typeBits (ty : Nat) : Nat := if ty = 0 ∨ ty = 3 ∨ ty = 4 then 32 else 16

/-- round(v, T, RND, SAT) with its flags (R116, R127, log 89). -/
def RoundedTo (code : Nat) (v : Val) (r : Rnd) (sat : Bool) (nans : Prop) (o : WOut) : Prop :=
  ∃ ovf inx, ConvertIs code v r sat 0 o.bits ovf inx ∧ o.inx = inx ∧
    (o.sat = true ↔ ovf = true ∧ (sat = true ∨ v.isFin)) ∧ (o.inv = true ↔ v = .nan ∧ ¬ nans)

/-- An integer fitted to `w` bits (R117). -/
def FittedTo (w : Nat) (sat : Bool) (t : ℤ) (inx : Bool) (o : WOut) : Prop :=
  let lo : ℤ := -2 ^ (w - 1)
  let hi : ℤ := 2 ^ (w - 1) - 1
  o.inx = inx ∧ o.inv = false ∧ (o.sat = true ↔ t < lo ∨ hi < t) ∧
    (o.bits : ℤ) = (if sat then max lo (min hi t) else t) % 2 ^ w

/-- wexp, wrcp and wrsq before the final rounding; log2 e and the coefficients as log 29 has them (R119). -/
def wexpQ (x : ℚ) : ℚ :=
  let t := min (max x (-160)) 128
  let y := rneQ (t * (log2eUnits / 2 ^ 256)) 32
  let n := ⌊y⌋
  let i := ⌊(y - n) * 64⌋
  let u := y - n - i / 64
  let p := rneQ (1 + u * (expC1 / 2 ^ 30) + u ^ 2 * (expC2 / 2 ^ 30) + u ^ 3 * (expC3 / 2 ^ 30)) 30
  rneQ (expTab i.toNat / 2 ^ 30 * p) 30 * (2 : ℚ) ^ n

/-- The reciprocal of x > 0 is `v`. -/
def WrcpIs (x v : ℚ) : Prop :=
  ∃ e : ℤ, let m := x / (2 : ℚ) ^ e
    1 ≤ m ∧ m < 2 ∧
    let i := ⌊(m - 1) * 128⌋
    let y0 := rneQ (1 / (1 + (2 * i + 1) / 256)) 10
    let y1 := rneQ (y0 * (2 - m * y0)) 30
    v = rneQ (y1 * (2 - m * y1)) 30 * (2 : ℚ) ^ (-e)

/-- The reciprocal square root of x > 0 is `v`; the seed y0 = n / 2^10 is the nearest one to its square root. -/
def WrsqIs (x v : ℚ) : Prop :=
  ∃ (k : ℤ) (n : ℕ), let m := x / (2 : ℚ) ^ (2 * k)
    1 ≤ m ∧ m < 4 ∧
    let i := ⌊(m - 1) * 64⌋
    (2 * n - 1 : ℤ) ^ 2 * (129 + 2 * i) ≤ 2 ^ 29 ∧ 2 ^ 29 ≤ (2 * n + 1 : ℤ) ^ 2 * (129 + 2 * i) ∧
    let y0 : ℚ := n / 2 ^ 10
    let y1 := rneQ (y0 * (3 - m * y0 * y0) / 2) 30
    v = rneQ (y1 * (3 - m * y1 * y1) / 2) 30 * (2 : ℚ) ^ (-k)

/-- WEXP, WRCP and WRSQ of one element; any finite input but zero counts as rounded (R119, R127, log 89). -/
def ApproxIs (op code : Nat) (v : Val) (r : Rnd) (sat : Bool) (o : WOut) : Prop :=
  let signed (n : Bool) (x : Nat) : Nat := x + if n then 2 ^ (codeBits code - 1) else 0
  let nan := codeNan code
  let ends (x : ℚ) (neg : Bool) : Prop := ∃ (y : Val) (p : WOut), y.isFin ∧ y.rat = x ∧ y.sign = neg ∧
    RoundedTo code y r sat False p ∧ o = { p with inx := p.inx || decide (v.rat ≠ 0) }
  (v = .nan → o = { bits := nan }) ∧
  (op = 0x36 → (v = .inf true → o = { bits := 0 }) ∧ (v = .inf false → RoundedTo code (.inf false) r sat False o) ∧
    (v.isFin → ends (wexpQ v.rat) false)) ∧
  (op = 0x37 → (∀ n, v = .inf n → o = { bits := signed n 0 }) ∧
    (v.isFin → v.rat = 0 → o = { bits := signed v.sign (codeInf code) }) ∧
    (v.isFin → v.rat ≠ 0 → ∃ x, WrcpIs |v.rat| x ∧ ends (if v.rat < 0 then -x else x) v.sign)) ∧
  (op = 0x38 → (v = .inf true → o = { bits := nan, inv := true }) ∧ (v = .inf false → o = { bits := 0 }) ∧
    (v.isFin → v.rat = 0 → o = { bits := signed v.sign (codeInf code) }) ∧
    (v.isFin → v.rat < 0 → o = { bits := nan, inv := true }) ∧
    (v.isFin → 0 < v.rat → ∃ x, WrsqIs v.rat x ∧ ends x false))

/-- One element of an element-wise Whisk instruction (R113, R116 to R119). -/
def WhiskElement (op ty u : Nat) (var : Bool) (r : Rnd) (sat : Bool) (x y z : Nat) (o : WOut) : Prop :=
  let w := typeBits ty
  let code := typeCode ty
  let f := if ty = 4 then u + 16 else u
  let q (n : Nat) : ℤ := Int.bmod n (2 ^ w)
  let sg (t : ℤ) : ℤ := if var then -t else t
  let fits (num : ℤ) (k : Nat) : Prop := FittedTo w sat (rndPow2 r 0 num k) (decide (num % 2 ^ k ≠ 0)) o
  (ty ≤ 2 → ∃ a b c, ElementIs code x a ∧ ElementIs code y b ∧ ElementIs code z c ∧
    (op = 0x30 → ∃ v, SumIs [a, if var then b.negate else b] v ∧ RoundedTo code v r sat (a = .nan ∨ b = .nan) o) ∧
    (op = 0x31 → ∃ v, ProductIs a b v ∧ RoundedTo code v r sat (a = .nan ∨ b = .nan) o) ∧
    (op = 0x32 → ∃ p v, ProductIs a b p ∧ SumIs [if var then p.negate else p, c] v ∧
      RoundedTo code v r sat (a = .nan ∨ b = .nan ∨ c = .nan) o) ∧
    (op = 0x33 ∨ op = 0x34 → (a = .nan ∨ b = .nan → o = { bits := codeNan code }) ∧
      (a ≠ .nan → b ≠ .nan → (beats (op = 0x33) a b → o = { bits := x }) ∧ (¬ beats (op = 0x33) a b → o = { bits := y }))) ∧
    (0x36 ≤ op → op ≤ 0x38 → ApproxIs op code a r sat o)) ∧
  (3 ≤ ty → (op = 0x30 → fits (q x + sg (q y)) 0) ∧ (op = 0x31 → fits (q x * q y) f) ∧
    (op = 0x32 → fits (sg (q x * q y) + q z * 2 ^ f) f) ∧
    (op = 0x33 → o = { bits := if q x < q y then y else x }) ∧ (op = 0x34 → o = { bits := if q y < q x then y else x })) ∧
  (op = 0x35 → o = { bits := if (if ty ≤ 2 then z % 2 ^ (w - 1) else z) = 0 then y else x })

/-- A node of the tree of a floating row sum, with the flags of the nodes below it (R122, R127). -/
structure SumNode where
  v : Val
  sat : Bool := false
  inx : Bool := false
  inv : Bool := false

/-- comb of two nodes (R122). -/
def NodeIs (a b c : SumNode) : Prop :=
  ∃ t bits ovf inx, SumIs [a.v, b.v] t ∧ ConvertIs 8 t .rne false 0 bits ovf inx ∧ ElementIs 8 bits c.v ∧
    (c.sat = true ↔ a.sat = true ∨ b.sat = true ∨ (ovf = true ∧ t.isFin)) ∧ c.inx = (a.inx || b.inx || inx) ∧
    (c.inv = true ↔ a.inv = true ∨ b.inv = true ∨ (t = .nan ∧ a.v ≠ .nan ∧ b.v ≠ .nan))

/-- The pairwise tree of `k` levels over a row (R122). -/
def SumTree (k : Nat) (l : List SumNode) (r : SumNode) : Prop :=
  match k with
  | 0 => l = [r]
  | j + 1 => ∃ m : List SumNode, m.length = (l.length + 1) / 2 ∧
      (∀ i a b, l[2 * i]? = some a → l[2 * i + 1]? = some b → ∃ c, m[i]? = some c ∧ NodeIs a b c) ∧
      (∀ i a, l[2 * i]? = some a → l[2 * i + 1]? = none → m[i]? = some a) ∧ SumTree j m r

/-- The reduction of a row (R122). -/
def ReductionIs (ty : Nat) (big : Bool) (r : Rnd) (sat : Bool) (xs : List Nat) (o : WOut) : Prop :=
  let w := typeBits ty
  let code := typeCode ty
  let q (n : Nat) : ℤ := Int.bmod n (2 ^ w)
  (ty ≤ 2 → big = false → ∃ (l : List SumNode) (top : SumNode) (p : WOut), l.length = xs.length ∧
    (∀ (i : Nat) (x : Nat), xs[i]? = some x → ∃ v, ElementIs code x v ∧ l[i]? = some (⟨v, false, false, false⟩ : SumNode)) ∧
    SumTree 7 l top ∧
    RoundedTo code top.v r sat (top.v = .nan) p ∧
    o = { p with sat := p.sat || top.sat, inx := p.inx || top.inx, inv := p.inv || top.inv }) ∧
  (ty ≤ 2 → big = true → (∃ x ∈ xs, ElementIs code x .nan) → o = { bits := codeNan code }) ∧
  (ty ≤ 2 → big = true → (∀ x ∈ xs, ¬ ElementIs code x .nan) → ∃ x ∈ xs, ∃ v, ElementIs code x v ∧
    (∀ y ∈ xs, ∀ z, ElementIs code y z → beats true v z) ∧ RoundedTo code v r sat False o) ∧
  (3 ≤ ty → big = false → FittedTo w sat (xs.map q).sum false o) ∧
  (3 ≤ ty → big = true → ∃ x ∈ xs, o = { bits := x } ∧ ∀ y ∈ xs, q y ≤ q x)

/-- WCVT of a value into a format that is no MX format; code 15 is a Q type of `w` bits and fraction `f` (R121, R127). -/
def ConvertedTo (code w f : Nat) (r : Rnd) (sat : Bool) (v : Val) (o : WOut) : Prop :=
  (code ≠ 15 → ∃ ovf inx, ConvertIs code v r sat 0 o.bits ovf inx ∧ o.sat = ovf ∧ o.inx = inx ∧
    (o.inv = true ↔ (¬ v.isFin ∧ code ∈ [2, 3, 4, 5]) ∨ (v ≠ .nan ∧ ElementIs code o.bits .nan))) ∧
  (code = 15 → (v = .nan → o = { bits := 0, inv := true }) ∧
    (∀ n, v = .inf n → o = if sat then { bits := if n then 2 ^ (w - 1) else 2 ^ (w - 1) - 1, sat := true, inv := true }
      else { bits := 0, inv := true }) ∧
    (∀ n m e, v = .fin n m e → let t := inUnits r 0 (if n then -m else m) e (-f)
      FittedTo w sat t (decide (v.rat ≠ t / 2 ^ f)) o))

/-- WCVT of 32 values into an MX block (R71, R121, R127, log 30). -/
def BlockConverted (code : Nat) (r : Rnd) (sat : Bool) (vs : List Val) (sc : Nat) (os : Nat → Option WOut) : Prop :=
  ∃ out, BlockIs code vs r sat (fun _ => 0) sc out ∧ ∀ (j : Nat) (v : Val), vs[j]? = some v → ∃ o, os j = some o ∧
    (o.bits, o.sat, o.inx) = out j ∧
    (o.inv = true ↔ if .nan ∈ vs then v ≠ .nan
      else (¬ v.isFin ∧ code ∈ [11, 12, 13, 14]) ∨ ElementIs code o.bits .nan)

/-- The row that a Whisk entry computes from row `k` of its sources: element width, elements, and scale bytes where the
destination is MX (R112 to R122). -/
def WhiskRowIs (s : State) (run : WhiskRun) (k : Nat) (out : Nat × List WOut × List Nat) : Prop :=
  let x := run.e1.toNat + run.e2.toNat * 2 ^ 14
  let op := run.w0.toNat / 64 % 64
  let D := s.tray (trayBits run.w0.toNat 0)
  let a := trayBits x 0
  let b := trayBits x 4
  let c := trayBits x 8
  let ty := x / 2 ^ 12 % 16
  let u := x / 2 ^ 16 % 16
  let bb := x / 2 ^ 20 % 4
  let bc := x / 2 ^ 22 % 4
  let r : Rnd := if x / 2 ^ 24 % 4 = 0 then .rne else if x / 2 ^ 24 % 4 = 1 then .rtz else if x / 2 ^ 24 % 4 = 2 then .odd else .up
  let sat := x.testBit 26
  let var := x.testBit 27
  let w := typeBits ty
  let row (T : TrayNo) : Nat := ofBytes (s.rowBytes T k)
  let el (y j : Nat) : Nat := y / 2 ^ (w * j) % 2 ^ w
  let rowB := if bb % 2 = 1 then ofBytes run.latchB else row b
  let rowC := if bc % 2 = 1 then ofBytes run.latchC else row c
  let n := 8 * (s.tray a).bytes
  let qBits (i : Nat) : Nat := if x.testBit i then 16 else 32
  let sw := if ty = 15 then qBits 20 else codeBits ty
  let dw := if u = 15 then qBits 21 else codeBits u
  let value (j : Nat) (v : Val) : Prop :=
    if ty = 15 then
      let t := Int.bmod (row a / 2 ^ (sw * j) % 2 ^ sw) (2 ^ sw)
      v.isFin ∧ v.rat = t / 2 ^ (x / 2 ^ 4 % 16 + 16 * (x / 2 ^ 22 % 2)) ∧ v.sign = decide (t < 0)
    else OperandIs ty (row a) (row b) j j v
  (0x30 ≤ op → op ≤ 0x38 → out.1 = w ∧ out.2.1.length = 8 * D.bytes / w ∧ out.2.2 = [] ∧ ∀ j, j < 8 * D.bytes / w →
    ∃ o, out.2.1[j]? = some o ∧
      WhiskElement op ty u var r sat (el (row a) j) (el rowB (if 2 ≤ bb then 0 else j)) (el rowC (if 2 ≤ bc then 0 else j)) o) ∧
  (op = 0x39 → ∃ vs : List Val, vs.length = n / sw ∧ (∀ j v, vs[j]? = some v → value j v) ∧ out.1 = dw ∧
    (¬ mxCode u → out.2.1.length = n / sw ∧ out.2.2 = [] ∧ ∀ (j : Nat) (v : Val), vs[j]? = some v → ∃ o, out.2.1[j]? = some o ∧
      ConvertedTo u dw (x / 2 ^ 8 % 16 + 16 * (x / 2 ^ 23 % 2)) r sat v o) ∧
    (mxCode u → n / sw % 32 = 0 → out.2.1.length = n / sw ∧ out.2.2.length = n / sw / 32 ∧ ∀ i, i < n / sw / 32 →
      BlockConverted u r sat ((vs.drop (32 * i)).take 32) (out.2.2.getD i 0) fun j => out.2.1[32 * i + j]?)) ∧
  (op = 0x3A → out = (w, List.replicate (8 * D.bytes / w) { bits := run.v1.toNat % 2 ^ w }, [])) ∧
  (op = 0x3B → ∃ o, out = (w, [o], []) ∧
    ReductionIs ty var r sat ((List.range (n / w)).map fun j => el (row a) j) o)

/-! ## Bytes and lines of a TLD or TST (R94, R97) -/

/-- The virtual address of byte `i` of row `r`. -/
abbrev MemRun.byteAt (m : MemRun) (r i : Nat) : Nat := (m.va.toNat + r * m.st.toNat + i) % 2 ^ 64

/-- Row `r` has a byte in the unit of `n` bytes numbered `k`: a line of 128, a page of 2^14. -/
abbrev MemRun.touches (m : MemRun) (n r k : Nat) : Prop := ∃ i, i < m.bt ∧ m.byteAt r i / n = k

/-- Unit `a` has a byte, of a row from `row0` on, before every byte of unit `b`. -/
abbrev MemRun.before (m : MemRun) (n a b : Nat) : Prop :=
  ∃ r i, m.row0 ≤ r ∧ r < m.rt ∧ i < m.bt ∧ m.byteAt r i / n = a ∧
    ∀ r' i', m.row0 ≤ r' → r' < m.rt → i' < m.bt → m.byteAt r' i' / n = b → r < r' ∨ (r = r' ∧ i < i')

/-- Every page of row `r` has translated. -/
abbrev MemRun.translated (m : MemRun) (r : Nat) : Prop := ∀ p, m.touches (2 ^ 14) r p → ∃ x ∈ m.xl, x.1 = p

/-- A line that can be issued: it has not been, and every row with a byte in it has translated in full, as has every row
below such a row (R94, R97, log 91). -/
abbrev MemRun.readyLine (m : MemRun) (l : Nat) : Prop :=
  l ∉ m.issued ∧ (∃ r, m.row0 ≤ r ∧ r < m.rt ∧ m.touches 128 r l) ∧
    ∀ r, m.row0 ≤ r → r < m.rt → m.touches 128 r l → ∀ r', m.row0 ≤ r' → r' ≤ r → m.translated r'

/-- A line held back with bytes of a row below `r` (R94, R97). -/
abbrev MemRun.heldLine (m : MemRun) (r l : Nat) : Prop :=
  l ∉ m.issued ∧ ∃ r', m.row0 ≤ r' ∧ r' < r ∧ r' < m.rt ∧ m.touches 128 r' l

/-- A run with lines issued for the rows below `stop`: each has a record with its physical base and policy. -/
abbrev MemRun.issues (m m' : MemRun) (ls : List Nat) (stop : Nat) : Prop :=
  m'.issued = m.issued ++ ls ∧ m'.lines.map (·.line) = m.lines.map (·.line) ++ ls ∧
    ∀ l ∈ ls, ∃ x ∈ m'.lines, ∃ y ∈ m'.xl, x.line = l ∧ x.rowEnd = stop ∧ x.fin = false ∧ y.1 = l * 128 / 2 ^ 14 ∧
      x.pa = y.2.1 + BitVec.ofNat 58 (l * 128 % 2 ^ 14) ∧ x.pol = y.2.2

/-- The records of a run's lines are those of lines issued, one for each; a fault ends its translation. -/
abbrev MemRun.sound (m : MemRun) : Prop :=
  (m.lines.map (·.line)).Nodup ∧ (∀ x ∈ m.lines, x.line ∈ m.issued) ∧ (m.pages ≠ [] → m.flt = none)

/-! ## The machine's invariant -/

/-- Every sparse memory stands in its canonical form: keys rising, nothing listed that an unlisted key reads as. -/
def State.canonical (s : State) : Bool :=
  canon pmEmpty s.pm && canon regReset s.shadow && canon regReset s.committed && canon zero48 s.counters
    && canon (fun _ => (0 : Byte)) s.ls.shelf && canon (fun _ => (0 : Byte)) s.tile.data
    && canon zero256 s.crk.media && canon zero32 s.crk.wcount && canon zero3 s.noc.gens
    && keysRise s.noc.rt && keysRise s.ls.lines && keysRise s.ls.l1 && keysRise s.crk.wmap && keysRise s.crk.errs

/-- The core stands in a cluster of the chip (R5), every command that waits can occur, every sparse memory is canonical,
the tile queue, the store buffer and the Crock's write queue hold no more than they have room for (R84, R167, R302), and
every tile memory run is sound. -/
structure Inv (s : State) : Prop where
  place : s.pos.cluster.toNat < 48
  commands : ∀ c ∈ s.pending, c.wf = true
  canonical : s.canonical = true
  entries : s.tile.queue.length ≤ 32
  stores : s.ls.sb.length ≤ 32
  writes : s.crk.queue.length ≤ 8
  runs : ∀ m ∈ s.tile.mem, m.sound

end Sys2Proof.Machine
end

