-- ==== Sys2Proof/Laws/State.lean ====
section
/-! SUPPORT. What each update of the state leaves in every field: the lemmas that let a proof never unfold a
record update. -/

namespace Sys2Proof.Machine

open Sys2Proof

variable (s : State)

/-! ### setTh -/

@[simp] theorem State.setTh_pos (t : Thread) (h : HThread) : (s.setTh t h).pos = s.pos := rfl
@[simp] theorem State.setTh_phase (t : Thread) (h : HThread) : (s.setTh t h).phase = s.phase := rfl
@[simp] theorem State.setTh_startAt (t : Thread) (h : HThread) : (s.setTh t h).startAt = s.startAt := rfl
@[simp] theorem State.setTh_crst (t : Thread) (h : HThread) : (s.setTh t h).crst = s.crst := rfl
theorem State.setTh_thr (t : Thread) (h : HThread) : (s.setTh t h).thr = vset s.thr t h := rfl
@[simp] theorem State.setTh_pm (t : Thread) (h : HThread) : (s.setTh t h).pm = s.pm := rfl
@[simp] theorem State.setTh_tile (t : Thread) (h : HThread) : (s.setTh t h).tile = s.tile := rfl
@[simp] theorem State.setTh_ls (t : Thread) (h : HThread) : (s.setTh t h).ls = s.ls := rfl
@[simp] theorem State.setTh_noc (t : Thread) (h : HThread) : (s.setTh t h).noc = s.noc := rfl
@[simp] theorem State.setTh_ldl (t : Thread) (h : HThread) : (s.setTh t h).ldl = s.ldl := rfl
@[simp] theorem State.setTh_xl (t : Thread) (h : HThread) : (s.setTh t h).xl = s.xl := rfl
@[simp] theorem State.setTh_irq (t : Thread) (h : HThread) : (s.setTh t h).irq = s.irq := rfl
@[simp] theorem State.setTh_scl (t : Thread) (h : HThread) : (s.setTh t h).scl = s.scl := rfl
@[simp] theorem State.setTh_tmg (t : Thread) (h : HThread) : (s.setTh t h).tmg = s.tmg := rfl
@[simp] theorem State.setTh_crk (t : Thread) (h : HThread) : (s.setTh t h).crk = s.crk := rfl
@[simp] theorem State.setTh_frames (t : Thread) (h : HThread) : (s.setTh t h).frames = s.frames := rfl
@[simp] theorem State.setTh_shadow (t : Thread) (h : HThread) : (s.setTh t h).shadow = s.shadow := rfl
@[simp] theorem State.setTh_committed (t : Thread) (h : HThread) : (s.setTh t h).committed = s.committed := rfl
@[simp] theorem State.setTh_counters (t : Thread) (h : HThread) : (s.setTh t h).counters = s.counters := rfl
@[simp] theorem State.setTh_rpr (t : Thread) (h : HThread) : (s.setTh t h).rpr = s.rpr := rfl
@[simp] theorem State.setTh_ras (t : Thread) (h : HThread) : (s.setTh t h).ras = s.ras := rfl
@[simp] theorem State.setTh_wrap (t : Thread) (h : HThread) : (s.setTh t h).wrap = s.wrap := rfl
@[simp] theorem State.setTh_free (t : Thread) (h : HThread) : (s.setTh t h).free = s.free := rfl
@[simp] theorem State.setTh_pending (t : Thread) (h : HThread) : (s.setTh t h).pending = s.pending := rfl

/-! ### setG -/

@[simp] theorem State.setG_pos (t : Thread) (d : GReg) (v : Word) : (s.setG t d v).pos = s.pos := rfl
@[simp] theorem State.setG_phase (t : Thread) (d : GReg) (v : Word) : (s.setG t d v).phase = s.phase := rfl
@[simp] theorem State.setG_startAt (t : Thread) (d : GReg) (v : Word) : (s.setG t d v).startAt = s.startAt := rfl
@[simp] theorem State.setG_crst (t : Thread) (d : GReg) (v : Word) : (s.setG t d v).crst = s.crst := rfl
theorem State.setG_thr (t : Thread) (d : GReg) (v : Word) : (s.setG t d v).thr = vset s.thr t { s.th t with g := vset (s.th t).g d v } := rfl
@[simp] theorem State.setG_pm (t : Thread) (d : GReg) (v : Word) : (s.setG t d v).pm = s.pm := rfl
@[simp] theorem State.setG_tile (t : Thread) (d : GReg) (v : Word) : (s.setG t d v).tile = s.tile := rfl
@[simp] theorem State.setG_ls (t : Thread) (d : GReg) (v : Word) : (s.setG t d v).ls = s.ls := rfl
@[simp] theorem State.setG_noc (t : Thread) (d : GReg) (v : Word) : (s.setG t d v).noc = s.noc := rfl
@[simp] theorem State.setG_ldl (t : Thread) (d : GReg) (v : Word) : (s.setG t d v).ldl = s.ldl := rfl
@[simp] theorem State.setG_xl (t : Thread) (d : GReg) (v : Word) : (s.setG t d v).xl = s.xl := rfl
@[simp] theorem State.setG_irq (t : Thread) (d : GReg) (v : Word) : (s.setG t d v).irq = s.irq := rfl
@[simp] theorem State.setG_scl (t : Thread) (d : GReg) (v : Word) : (s.setG t d v).scl = s.scl := rfl
@[simp] theorem State.setG_tmg (t : Thread) (d : GReg) (v : Word) : (s.setG t d v).tmg = s.tmg := rfl
@[simp] theorem State.setG_crk (t : Thread) (d : GReg) (v : Word) : (s.setG t d v).crk = s.crk := rfl
@[simp] theorem State.setG_frames (t : Thread) (d : GReg) (v : Word) : (s.setG t d v).frames = s.frames := rfl
@[simp] theorem State.setG_shadow (t : Thread) (d : GReg) (v : Word) : (s.setG t d v).shadow = s.shadow := rfl
@[simp] theorem State.setG_committed (t : Thread) (d : GReg) (v : Word) : (s.setG t d v).committed = s.committed := rfl
@[simp] theorem State.setG_counters (t : Thread) (d : GReg) (v : Word) : (s.setG t d v).counters = s.counters := rfl
@[simp] theorem State.setG_rpr (t : Thread) (d : GReg) (v : Word) : (s.setG t d v).rpr = s.rpr := rfl
@[simp] theorem State.setG_ras (t : Thread) (d : GReg) (v : Word) : (s.setG t d v).ras = s.ras := rfl
@[simp] theorem State.setG_wrap (t : Thread) (d : GReg) (v : Word) : (s.setG t d v).wrap = s.wrap := rfl
@[simp] theorem State.setG_free (t : Thread) (d : GReg) (v : Word) : (s.setG t d v).free = s.free := rfl
@[simp] theorem State.setG_pending (t : Thread) (d : GReg) (v : Word) : (s.setG t d v).pending = s.pending := rfl

/-! ### setAcc -/

@[simp] theorem State.setAcc_pos (t : Thread) (a : Fin 2) (v : Int) : (s.setAcc t a v).pos = s.pos := rfl
@[simp] theorem State.setAcc_phase (t : Thread) (a : Fin 2) (v : Int) : (s.setAcc t a v).phase = s.phase := rfl
@[simp] theorem State.setAcc_startAt (t : Thread) (a : Fin 2) (v : Int) : (s.setAcc t a v).startAt = s.startAt := rfl
@[simp] theorem State.setAcc_crst (t : Thread) (a : Fin 2) (v : Int) : (s.setAcc t a v).crst = s.crst := rfl
theorem State.setAcc_thr (t : Thread) (a : Fin 2) (v : Int) : (s.setAcc t a v).thr = vset s.thr t { s.th t with a := vset (s.th t).a a (BitVec.ofInt 80 v) } := rfl
@[simp] theorem State.setAcc_pm (t : Thread) (a : Fin 2) (v : Int) : (s.setAcc t a v).pm = s.pm := rfl
@[simp] theorem State.setAcc_tile (t : Thread) (a : Fin 2) (v : Int) : (s.setAcc t a v).tile = s.tile := rfl
@[simp] theorem State.setAcc_ls (t : Thread) (a : Fin 2) (v : Int) : (s.setAcc t a v).ls = s.ls := rfl
@[simp] theorem State.setAcc_noc (t : Thread) (a : Fin 2) (v : Int) : (s.setAcc t a v).noc = s.noc := rfl
@[simp] theorem State.setAcc_ldl (t : Thread) (a : Fin 2) (v : Int) : (s.setAcc t a v).ldl = s.ldl := rfl
@[simp] theorem State.setAcc_xl (t : Thread) (a : Fin 2) (v : Int) : (s.setAcc t a v).xl = s.xl := rfl
@[simp] theorem State.setAcc_irq (t : Thread) (a : Fin 2) (v : Int) : (s.setAcc t a v).irq = s.irq := rfl
@[simp] theorem State.setAcc_scl (t : Thread) (a : Fin 2) (v : Int) : (s.setAcc t a v).scl = s.scl := rfl
@[simp] theorem State.setAcc_tmg (t : Thread) (a : Fin 2) (v : Int) : (s.setAcc t a v).tmg = s.tmg := rfl
@[simp] theorem State.setAcc_crk (t : Thread) (a : Fin 2) (v : Int) : (s.setAcc t a v).crk = s.crk := rfl
@[simp] theorem State.setAcc_frames (t : Thread) (a : Fin 2) (v : Int) : (s.setAcc t a v).frames = s.frames := rfl
@[simp] theorem State.setAcc_shadow (t : Thread) (a : Fin 2) (v : Int) : (s.setAcc t a v).shadow = s.shadow := rfl
@[simp] theorem State.setAcc_committed (t : Thread) (a : Fin 2) (v : Int) : (s.setAcc t a v).committed = s.committed := rfl
@[simp] theorem State.setAcc_counters (t : Thread) (a : Fin 2) (v : Int) : (s.setAcc t a v).counters = s.counters := rfl
@[simp] theorem State.setAcc_rpr (t : Thread) (a : Fin 2) (v : Int) : (s.setAcc t a v).rpr = s.rpr := rfl
@[simp] theorem State.setAcc_ras (t : Thread) (a : Fin 2) (v : Int) : (s.setAcc t a v).ras = s.ras := rfl
@[simp] theorem State.setAcc_wrap (t : Thread) (a : Fin 2) (v : Int) : (s.setAcc t a v).wrap = s.wrap := rfl
@[simp] theorem State.setAcc_free (t : Thread) (a : Fin 2) (v : Int) : (s.setAcc t a v).free = s.free := rfl
@[simp] theorem State.setAcc_pending (t : Thread) (a : Fin 2) (v : Int) : (s.setAcc t a v).pending = s.pending := rfl

/-! ### setFlg -/

@[simp] theorem State.setFlg_pos (t : Thread) (i : Nat) : (s.setFlg t i).pos = s.pos := rfl
@[simp] theorem State.setFlg_phase (t : Thread) (i : Nat) : (s.setFlg t i).phase = s.phase := rfl
@[simp] theorem State.setFlg_startAt (t : Thread) (i : Nat) : (s.setFlg t i).startAt = s.startAt := rfl
@[simp] theorem State.setFlg_crst (t : Thread) (i : Nat) : (s.setFlg t i).crst = s.crst := rfl
theorem State.setFlg_thr (t : Thread) (i : Nat) : (s.setFlg t i).thr = vset s.thr t { s.th t with flg := setBit (s.th t).flg i true } := rfl
@[simp] theorem State.setFlg_pm (t : Thread) (i : Nat) : (s.setFlg t i).pm = s.pm := rfl
@[simp] theorem State.setFlg_tile (t : Thread) (i : Nat) : (s.setFlg t i).tile = s.tile := rfl
@[simp] theorem State.setFlg_ls (t : Thread) (i : Nat) : (s.setFlg t i).ls = s.ls := rfl
@[simp] theorem State.setFlg_noc (t : Thread) (i : Nat) : (s.setFlg t i).noc = s.noc := rfl
@[simp] theorem State.setFlg_ldl (t : Thread) (i : Nat) : (s.setFlg t i).ldl = s.ldl := rfl
@[simp] theorem State.setFlg_xl (t : Thread) (i : Nat) : (s.setFlg t i).xl = s.xl := rfl
@[simp] theorem State.setFlg_irq (t : Thread) (i : Nat) : (s.setFlg t i).irq = s.irq := rfl
@[simp] theorem State.setFlg_scl (t : Thread) (i : Nat) : (s.setFlg t i).scl = s.scl := rfl
@[simp] theorem State.setFlg_tmg (t : Thread) (i : Nat) : (s.setFlg t i).tmg = s.tmg := rfl
@[simp] theorem State.setFlg_crk (t : Thread) (i : Nat) : (s.setFlg t i).crk = s.crk := rfl
@[simp] theorem State.setFlg_frames (t : Thread) (i : Nat) : (s.setFlg t i).frames = s.frames := rfl
@[simp] theorem State.setFlg_shadow (t : Thread) (i : Nat) : (s.setFlg t i).shadow = s.shadow := rfl
@[simp] theorem State.setFlg_committed (t : Thread) (i : Nat) : (s.setFlg t i).committed = s.committed := rfl
@[simp] theorem State.setFlg_counters (t : Thread) (i : Nat) : (s.setFlg t i).counters = s.counters := rfl
@[simp] theorem State.setFlg_rpr (t : Thread) (i : Nat) : (s.setFlg t i).rpr = s.rpr := rfl
@[simp] theorem State.setFlg_ras (t : Thread) (i : Nat) : (s.setFlg t i).ras = s.ras := rfl
@[simp] theorem State.setFlg_wrap (t : Thread) (i : Nat) : (s.setFlg t i).wrap = s.wrap := rfl
@[simp] theorem State.setFlg_free (t : Thread) (i : Nat) : (s.setFlg t i).free = s.free := rfl
@[simp] theorem State.setFlg_pending (t : Thread) (i : Nat) : (s.setFlg t i).pending = s.pending := rfl

/-! ### setFrame -/

@[simp] theorem State.setFrame_pos (p : Page) (f : Frame) : (s.setFrame p f).pos = s.pos := rfl
@[simp] theorem State.setFrame_phase (p : Page) (f : Frame) : (s.setFrame p f).phase = s.phase := rfl
@[simp] theorem State.setFrame_startAt (p : Page) (f : Frame) : (s.setFrame p f).startAt = s.startAt := rfl
@[simp] theorem State.setFrame_crst (p : Page) (f : Frame) : (s.setFrame p f).crst = s.crst := rfl
@[simp] theorem State.setFrame_thr (p : Page) (f : Frame) : (s.setFrame p f).thr = s.thr := rfl
@[simp] theorem State.setFrame_pm (p : Page) (f : Frame) : (s.setFrame p f).pm = s.pm := rfl
@[simp] theorem State.setFrame_tile (p : Page) (f : Frame) : (s.setFrame p f).tile = s.tile := rfl
@[simp] theorem State.setFrame_ls (p : Page) (f : Frame) : (s.setFrame p f).ls = s.ls := rfl
@[simp] theorem State.setFrame_noc (p : Page) (f : Frame) : (s.setFrame p f).noc = s.noc := rfl
@[simp] theorem State.setFrame_ldl (p : Page) (f : Frame) : (s.setFrame p f).ldl = s.ldl := rfl
@[simp] theorem State.setFrame_xl (p : Page) (f : Frame) : (s.setFrame p f).xl = s.xl := rfl
@[simp] theorem State.setFrame_irq (p : Page) (f : Frame) : (s.setFrame p f).irq = s.irq := rfl
@[simp] theorem State.setFrame_scl (p : Page) (f : Frame) : (s.setFrame p f).scl = s.scl := rfl
@[simp] theorem State.setFrame_tmg (p : Page) (f : Frame) : (s.setFrame p f).tmg = s.tmg := rfl
@[simp] theorem State.setFrame_crk (p : Page) (f : Frame) : (s.setFrame p f).crk = s.crk := rfl
theorem State.setFrame_frames (p : Page) (f : Frame) : (s.setFrame p f).frames = vset s.frames (pageNo p) f := rfl
@[simp] theorem State.setFrame_shadow (p : Page) (f : Frame) : (s.setFrame p f).shadow = s.shadow := rfl
@[simp] theorem State.setFrame_committed (p : Page) (f : Frame) : (s.setFrame p f).committed = s.committed := rfl
@[simp] theorem State.setFrame_counters (p : Page) (f : Frame) : (s.setFrame p f).counters = s.counters := rfl
@[simp] theorem State.setFrame_rpr (p : Page) (f : Frame) : (s.setFrame p f).rpr = s.rpr := rfl
@[simp] theorem State.setFrame_ras (p : Page) (f : Frame) : (s.setFrame p f).ras = s.ras := rfl
@[simp] theorem State.setFrame_wrap (p : Page) (f : Frame) : (s.setFrame p f).wrap = s.wrap := rfl
@[simp] theorem State.setFrame_free (p : Page) (f : Frame) : (s.setFrame p f).free = s.free := rfl
@[simp] theorem State.setFrame_pending (p : Page) (f : Frame) : (s.setFrame p f).pending = s.pending := rfl

/-! ### event -/

@[simp] theorem State.event_pos (p : Page) (i : Nat) : (s.event p i).pos = s.pos := rfl
@[simp] theorem State.event_phase (p : Page) (i : Nat) : (s.event p i).phase = s.phase := rfl
@[simp] theorem State.event_startAt (p : Page) (i : Nat) : (s.event p i).startAt = s.startAt := rfl
@[simp] theorem State.event_crst (p : Page) (i : Nat) : (s.event p i).crst = s.crst := rfl
@[simp] theorem State.event_thr (p : Page) (i : Nat) : (s.event p i).thr = s.thr := rfl
@[simp] theorem State.event_pm (p : Page) (i : Nat) : (s.event p i).pm = s.pm := rfl
@[simp] theorem State.event_tile (p : Page) (i : Nat) : (s.event p i).tile = s.tile := rfl
@[simp] theorem State.event_ls (p : Page) (i : Nat) : (s.event p i).ls = s.ls := rfl
@[simp] theorem State.event_noc (p : Page) (i : Nat) : (s.event p i).noc = s.noc := rfl
@[simp] theorem State.event_ldl (p : Page) (i : Nat) : (s.event p i).ldl = s.ldl := rfl
@[simp] theorem State.event_xl (p : Page) (i : Nat) : (s.event p i).xl = s.xl := rfl
@[simp] theorem State.event_irq (p : Page) (i : Nat) : (s.event p i).irq = s.irq := rfl
@[simp] theorem State.event_scl (p : Page) (i : Nat) : (s.event p i).scl = s.scl := rfl
@[simp] theorem State.event_tmg (p : Page) (i : Nat) : (s.event p i).tmg = s.tmg := rfl
@[simp] theorem State.event_crk (p : Page) (i : Nat) : (s.event p i).crk = s.crk := rfl
theorem State.event_frames (p : Page) (i : Nat) : (s.event p i).frames = vset s.frames (pageNo p) { s.frame p with event := setBit (s.frame p).event i true } := rfl
@[simp] theorem State.event_shadow (p : Page) (i : Nat) : (s.event p i).shadow = s.shadow := rfl
@[simp] theorem State.event_committed (p : Page) (i : Nat) : (s.event p i).committed = s.committed := rfl
@[simp] theorem State.event_counters (p : Page) (i : Nat) : (s.event p i).counters = s.counters := rfl
@[simp] theorem State.event_rpr (p : Page) (i : Nat) : (s.event p i).rpr = s.rpr := rfl
@[simp] theorem State.event_ras (p : Page) (i : Nat) : (s.event p i).ras = s.ras := rfl
@[simp] theorem State.event_wrap (p : Page) (i : Nat) : (s.event p i).wrap = s.wrap := rfl
@[simp] theorem State.event_free (p : Page) (i : Nat) : (s.event p i).free = s.free := rfl
@[simp] theorem State.event_pending (p : Page) (i : Nat) : (s.event p i).pending = s.pending := rfl

/-! ### refuse -/

@[simp] theorem State.refuse_pos (p : Page) (c : Nat) : (s.refuse p c).pos = s.pos := rfl
@[simp] theorem State.refuse_phase (p : Page) (c : Nat) : (s.refuse p c).phase = s.phase := rfl
@[simp] theorem State.refuse_startAt (p : Page) (c : Nat) : (s.refuse p c).startAt = s.startAt := rfl
@[simp] theorem State.refuse_crst (p : Page) (c : Nat) : (s.refuse p c).crst = s.crst := rfl
@[simp] theorem State.refuse_thr (p : Page) (c : Nat) : (s.refuse p c).thr = s.thr := rfl
@[simp] theorem State.refuse_pm (p : Page) (c : Nat) : (s.refuse p c).pm = s.pm := rfl
@[simp] theorem State.refuse_tile (p : Page) (c : Nat) : (s.refuse p c).tile = s.tile := rfl
@[simp] theorem State.refuse_ls (p : Page) (c : Nat) : (s.refuse p c).ls = s.ls := rfl
@[simp] theorem State.refuse_noc (p : Page) (c : Nat) : (s.refuse p c).noc = s.noc := rfl
@[simp] theorem State.refuse_ldl (p : Page) (c : Nat) : (s.refuse p c).ldl = s.ldl := rfl
@[simp] theorem State.refuse_xl (p : Page) (c : Nat) : (s.refuse p c).xl = s.xl := rfl
@[simp] theorem State.refuse_irq (p : Page) (c : Nat) : (s.refuse p c).irq = s.irq := rfl
@[simp] theorem State.refuse_scl (p : Page) (c : Nat) : (s.refuse p c).scl = s.scl := rfl
@[simp] theorem State.refuse_tmg (p : Page) (c : Nat) : (s.refuse p c).tmg = s.tmg := rfl
@[simp] theorem State.refuse_crk (p : Page) (c : Nat) : (s.refuse p c).crk = s.crk := rfl
theorem State.refuse_frames (p : Page) (c : Nat) : (s.refuse p c).frames = vset s.frames (pageNo p) { s.frame p with refuse := BitVec.ofNat 8 c } := rfl
@[simp] theorem State.refuse_shadow (p : Page) (c : Nat) : (s.refuse p c).shadow = s.shadow := rfl
@[simp] theorem State.refuse_committed (p : Page) (c : Nat) : (s.refuse p c).committed = s.committed := rfl
@[simp] theorem State.refuse_counters (p : Page) (c : Nat) : (s.refuse p c).counters = s.counters := rfl
@[simp] theorem State.refuse_rpr (p : Page) (c : Nat) : (s.refuse p c).rpr = s.rpr := rfl
@[simp] theorem State.refuse_ras (p : Page) (c : Nat) : (s.refuse p c).ras = s.ras := rfl
@[simp] theorem State.refuse_wrap (p : Page) (c : Nat) : (s.refuse p c).wrap = s.wrap := rfl
@[simp] theorem State.refuse_free (p : Page) (c : Nat) : (s.refuse p c).free = s.free := rfl
@[simp] theorem State.refuse_pending (p : Page) (c : Nat) : (s.refuse p c).pending = s.pending := rfl

/-! ### setReg -/

@[simp] theorem State.setReg_pos (p : Page) (o : Nat) (v : Word) : (s.setReg p o v).pos = s.pos := rfl
@[simp] theorem State.setReg_phase (p : Page) (o : Nat) (v : Word) : (s.setReg p o v).phase = s.phase := rfl
@[simp] theorem State.setReg_startAt (p : Page) (o : Nat) (v : Word) : (s.setReg p o v).startAt = s.startAt := rfl
@[simp] theorem State.setReg_crst (p : Page) (o : Nat) (v : Word) : (s.setReg p o v).crst = s.crst := rfl
@[simp] theorem State.setReg_thr (p : Page) (o : Nat) (v : Word) : (s.setReg p o v).thr = s.thr := rfl
@[simp] theorem State.setReg_pm (p : Page) (o : Nat) (v : Word) : (s.setReg p o v).pm = s.pm := rfl
@[simp] theorem State.setReg_tile (p : Page) (o : Nat) (v : Word) : (s.setReg p o v).tile = s.tile := rfl
@[simp] theorem State.setReg_ls (p : Page) (o : Nat) (v : Word) : (s.setReg p o v).ls = s.ls := rfl
@[simp] theorem State.setReg_noc (p : Page) (o : Nat) (v : Word) : (s.setReg p o v).noc = s.noc := rfl
@[simp] theorem State.setReg_ldl (p : Page) (o : Nat) (v : Word) : (s.setReg p o v).ldl = s.ldl := rfl
@[simp] theorem State.setReg_xl (p : Page) (o : Nat) (v : Word) : (s.setReg p o v).xl = s.xl := rfl
@[simp] theorem State.setReg_irq (p : Page) (o : Nat) (v : Word) : (s.setReg p o v).irq = s.irq := rfl
@[simp] theorem State.setReg_scl (p : Page) (o : Nat) (v : Word) : (s.setReg p o v).scl = s.scl := rfl
@[simp] theorem State.setReg_tmg (p : Page) (o : Nat) (v : Word) : (s.setReg p o v).tmg = s.tmg := rfl
@[simp] theorem State.setReg_crk (p : Page) (o : Nat) (v : Word) : (s.setReg p o v).crk = s.crk := rfl
@[simp] theorem State.setReg_frames (p : Page) (o : Nat) (v : Word) : (s.setReg p o v).frames = s.frames := rfl
theorem State.setReg_shadow (p : Page) (o : Nat) (v : Word) : (s.setReg p o v).shadow = setD regReset s.shadow (poff p o) v := rfl
@[simp] theorem State.setReg_committed (p : Page) (o : Nat) (v : Word) : (s.setReg p o v).committed = s.committed := rfl
@[simp] theorem State.setReg_counters (p : Page) (o : Nat) (v : Word) : (s.setReg p o v).counters = s.counters := rfl
@[simp] theorem State.setReg_rpr (p : Page) (o : Nat) (v : Word) : (s.setReg p o v).rpr = s.rpr := rfl
@[simp] theorem State.setReg_ras (p : Page) (o : Nat) (v : Word) : (s.setReg p o v).ras = s.ras := rfl
@[simp] theorem State.setReg_wrap (p : Page) (o : Nat) (v : Word) : (s.setReg p o v).wrap = s.wrap := rfl
@[simp] theorem State.setReg_free (p : Page) (o : Nat) (v : Word) : (s.setReg p o v).free = s.free := rfl
@[simp] theorem State.setReg_pending (p : Page) (o : Nat) (v : Word) : (s.setReg p o v).pending = s.pending := rfl

/-! ### setCom -/

@[simp] theorem State.setCom_pos (p : Page) (o : Nat) (v : Word) : (s.setCom p o v).pos = s.pos := rfl
@[simp] theorem State.setCom_phase (p : Page) (o : Nat) (v : Word) : (s.setCom p o v).phase = s.phase := rfl
@[simp] theorem State.setCom_startAt (p : Page) (o : Nat) (v : Word) : (s.setCom p o v).startAt = s.startAt := rfl
@[simp] theorem State.setCom_crst (p : Page) (o : Nat) (v : Word) : (s.setCom p o v).crst = s.crst := rfl
@[simp] theorem State.setCom_thr (p : Page) (o : Nat) (v : Word) : (s.setCom p o v).thr = s.thr := rfl
@[simp] theorem State.setCom_pm (p : Page) (o : Nat) (v : Word) : (s.setCom p o v).pm = s.pm := rfl
@[simp] theorem State.setCom_tile (p : Page) (o : Nat) (v : Word) : (s.setCom p o v).tile = s.tile := rfl
@[simp] theorem State.setCom_ls (p : Page) (o : Nat) (v : Word) : (s.setCom p o v).ls = s.ls := rfl
@[simp] theorem State.setCom_noc (p : Page) (o : Nat) (v : Word) : (s.setCom p o v).noc = s.noc := rfl
@[simp] theorem State.setCom_ldl (p : Page) (o : Nat) (v : Word) : (s.setCom p o v).ldl = s.ldl := rfl
@[simp] theorem State.setCom_xl (p : Page) (o : Nat) (v : Word) : (s.setCom p o v).xl = s.xl := rfl
@[simp] theorem State.setCom_irq (p : Page) (o : Nat) (v : Word) : (s.setCom p o v).irq = s.irq := rfl
@[simp] theorem State.setCom_scl (p : Page) (o : Nat) (v : Word) : (s.setCom p o v).scl = s.scl := rfl
@[simp] theorem State.setCom_tmg (p : Page) (o : Nat) (v : Word) : (s.setCom p o v).tmg = s.tmg := rfl
@[simp] theorem State.setCom_crk (p : Page) (o : Nat) (v : Word) : (s.setCom p o v).crk = s.crk := rfl
@[simp] theorem State.setCom_frames (p : Page) (o : Nat) (v : Word) : (s.setCom p o v).frames = s.frames := rfl
@[simp] theorem State.setCom_shadow (p : Page) (o : Nat) (v : Word) : (s.setCom p o v).shadow = s.shadow := rfl
theorem State.setCom_committed (p : Page) (o : Nat) (v : Word) : (s.setCom p o v).committed = setD regReset s.committed (poff p o) v := rfl
@[simp] theorem State.setCom_counters (p : Page) (o : Nat) (v : Word) : (s.setCom p o v).counters = s.counters := rfl
@[simp] theorem State.setCom_rpr (p : Page) (o : Nat) (v : Word) : (s.setCom p o v).rpr = s.rpr := rfl
@[simp] theorem State.setCom_ras (p : Page) (o : Nat) (v : Word) : (s.setCom p o v).ras = s.ras := rfl
@[simp] theorem State.setCom_wrap (p : Page) (o : Nat) (v : Word) : (s.setCom p o v).wrap = s.wrap := rfl
@[simp] theorem State.setCom_free (p : Page) (o : Nat) (v : Word) : (s.setCom p o v).free = s.free := rfl
@[simp] theorem State.setCom_pending (p : Page) (o : Nat) (v : Word) : (s.setCom p o v).pending = s.pending := rfl

/-! ### commitRegs -/

@[simp] theorem State.commitRegs_pos (p : Page) : (s.commitRegs p).pos = s.pos := rfl
@[simp] theorem State.commitRegs_phase (p : Page) : (s.commitRegs p).phase = s.phase := rfl
@[simp] theorem State.commitRegs_startAt (p : Page) : (s.commitRegs p).startAt = s.startAt := rfl
@[simp] theorem State.commitRegs_crst (p : Page) : (s.commitRegs p).crst = s.crst := rfl
@[simp] theorem State.commitRegs_thr (p : Page) : (s.commitRegs p).thr = s.thr := rfl
@[simp] theorem State.commitRegs_pm (p : Page) : (s.commitRegs p).pm = s.pm := rfl
@[simp] theorem State.commitRegs_tile (p : Page) : (s.commitRegs p).tile = s.tile := rfl
@[simp] theorem State.commitRegs_ls (p : Page) : (s.commitRegs p).ls = s.ls := rfl
@[simp] theorem State.commitRegs_noc (p : Page) : (s.commitRegs p).noc = s.noc := rfl
@[simp] theorem State.commitRegs_ldl (p : Page) : (s.commitRegs p).ldl = s.ldl := rfl
@[simp] theorem State.commitRegs_xl (p : Page) : (s.commitRegs p).xl = s.xl := rfl
@[simp] theorem State.commitRegs_irq (p : Page) : (s.commitRegs p).irq = s.irq := rfl
@[simp] theorem State.commitRegs_scl (p : Page) : (s.commitRegs p).scl = s.scl := rfl
@[simp] theorem State.commitRegs_tmg (p : Page) : (s.commitRegs p).tmg = s.tmg := rfl
@[simp] theorem State.commitRegs_crk (p : Page) : (s.commitRegs p).crk = s.crk := rfl
@[simp] theorem State.commitRegs_frames (p : Page) : (s.commitRegs p).frames = s.frames := rfl
@[simp] theorem State.commitRegs_shadow (p : Page) : (s.commitRegs p).shadow = s.shadow := rfl
theorem State.commitRegs_committed (p : Page) : (s.commitRegs p).committed = takeSh p s.shadow s.committed := rfl
@[simp] theorem State.commitRegs_counters (p : Page) : (s.commitRegs p).counters = s.counters := rfl
@[simp] theorem State.commitRegs_rpr (p : Page) : (s.commitRegs p).rpr = s.rpr := rfl
@[simp] theorem State.commitRegs_ras (p : Page) : (s.commitRegs p).ras = s.ras := rfl
@[simp] theorem State.commitRegs_wrap (p : Page) : (s.commitRegs p).wrap = s.wrap := rfl
@[simp] theorem State.commitRegs_free (p : Page) : (s.commitRegs p).free = s.free := rfl
@[simp] theorem State.commitRegs_pending (p : Page) : (s.commitRegs p).pending = s.pending := rfl

/-! ### revertRegs -/

@[simp] theorem State.revertRegs_pos (p : Page) : (s.revertRegs p).pos = s.pos := rfl
@[simp] theorem State.revertRegs_phase (p : Page) : (s.revertRegs p).phase = s.phase := rfl
@[simp] theorem State.revertRegs_startAt (p : Page) : (s.revertRegs p).startAt = s.startAt := rfl
@[simp] theorem State.revertRegs_crst (p : Page) : (s.revertRegs p).crst = s.crst := rfl
@[simp] theorem State.revertRegs_thr (p : Page) : (s.revertRegs p).thr = s.thr := rfl
@[simp] theorem State.revertRegs_pm (p : Page) : (s.revertRegs p).pm = s.pm := rfl
@[simp] theorem State.revertRegs_tile (p : Page) : (s.revertRegs p).tile = s.tile := rfl
@[simp] theorem State.revertRegs_ls (p : Page) : (s.revertRegs p).ls = s.ls := rfl
@[simp] theorem State.revertRegs_noc (p : Page) : (s.revertRegs p).noc = s.noc := rfl
@[simp] theorem State.revertRegs_ldl (p : Page) : (s.revertRegs p).ldl = s.ldl := rfl
@[simp] theorem State.revertRegs_xl (p : Page) : (s.revertRegs p).xl = s.xl := rfl
@[simp] theorem State.revertRegs_irq (p : Page) : (s.revertRegs p).irq = s.irq := rfl
@[simp] theorem State.revertRegs_scl (p : Page) : (s.revertRegs p).scl = s.scl := rfl
@[simp] theorem State.revertRegs_tmg (p : Page) : (s.revertRegs p).tmg = s.tmg := rfl
@[simp] theorem State.revertRegs_crk (p : Page) : (s.revertRegs p).crk = s.crk := rfl
@[simp] theorem State.revertRegs_frames (p : Page) : (s.revertRegs p).frames = s.frames := rfl
theorem State.revertRegs_shadow (p : Page) : (s.revertRegs p).shadow = takeSh p s.committed s.shadow := rfl
@[simp] theorem State.revertRegs_committed (p : Page) : (s.revertRegs p).committed = s.committed := rfl
@[simp] theorem State.revertRegs_counters (p : Page) : (s.revertRegs p).counters = s.counters := rfl
@[simp] theorem State.revertRegs_rpr (p : Page) : (s.revertRegs p).rpr = s.rpr := rfl
@[simp] theorem State.revertRegs_ras (p : Page) : (s.revertRegs p).ras = s.ras := rfl
@[simp] theorem State.revertRegs_wrap (p : Page) : (s.revertRegs p).wrap = s.wrap := rfl
@[simp] theorem State.revertRegs_free (p : Page) : (s.revertRegs p).free = s.free := rfl
@[simp] theorem State.revertRegs_pending (p : Page) : (s.revertRegs p).pending = s.pending := rfl

/-! ### setCounter -/

@[simp] theorem State.setCounter_pos (p : Page) (k : Nat) (v : BitVec 48) : (s.setCounter p k v).pos = s.pos := rfl
@[simp] theorem State.setCounter_phase (p : Page) (k : Nat) (v : BitVec 48) : (s.setCounter p k v).phase = s.phase := rfl
@[simp] theorem State.setCounter_startAt (p : Page) (k : Nat) (v : BitVec 48) : (s.setCounter p k v).startAt = s.startAt := rfl
@[simp] theorem State.setCounter_crst (p : Page) (k : Nat) (v : BitVec 48) : (s.setCounter p k v).crst = s.crst := rfl
@[simp] theorem State.setCounter_thr (p : Page) (k : Nat) (v : BitVec 48) : (s.setCounter p k v).thr = s.thr := rfl
@[simp] theorem State.setCounter_pm (p : Page) (k : Nat) (v : BitVec 48) : (s.setCounter p k v).pm = s.pm := rfl
@[simp] theorem State.setCounter_tile (p : Page) (k : Nat) (v : BitVec 48) : (s.setCounter p k v).tile = s.tile := rfl
@[simp] theorem State.setCounter_ls (p : Page) (k : Nat) (v : BitVec 48) : (s.setCounter p k v).ls = s.ls := rfl
@[simp] theorem State.setCounter_noc (p : Page) (k : Nat) (v : BitVec 48) : (s.setCounter p k v).noc = s.noc := rfl
@[simp] theorem State.setCounter_ldl (p : Page) (k : Nat) (v : BitVec 48) : (s.setCounter p k v).ldl = s.ldl := rfl
@[simp] theorem State.setCounter_xl (p : Page) (k : Nat) (v : BitVec 48) : (s.setCounter p k v).xl = s.xl := rfl
@[simp] theorem State.setCounter_irq (p : Page) (k : Nat) (v : BitVec 48) : (s.setCounter p k v).irq = s.irq := rfl
@[simp] theorem State.setCounter_scl (p : Page) (k : Nat) (v : BitVec 48) : (s.setCounter p k v).scl = s.scl := rfl
@[simp] theorem State.setCounter_tmg (p : Page) (k : Nat) (v : BitVec 48) : (s.setCounter p k v).tmg = s.tmg := rfl
@[simp] theorem State.setCounter_crk (p : Page) (k : Nat) (v : BitVec 48) : (s.setCounter p k v).crk = s.crk := rfl
@[simp] theorem State.setCounter_frames (p : Page) (k : Nat) (v : BitVec 48) : (s.setCounter p k v).frames = s.frames := rfl
@[simp] theorem State.setCounter_shadow (p : Page) (k : Nat) (v : BitVec 48) : (s.setCounter p k v).shadow = s.shadow := rfl
@[simp] theorem State.setCounter_committed (p : Page) (k : Nat) (v : BitVec 48) : (s.setCounter p k v).committed = s.committed := rfl
theorem State.setCounter_counters (p : Page) (k : Nat) (v : BitVec 48) : (s.setCounter p k v).counters = setD zero48 s.counters (32 * (pageNo p).val + k) v := rfl
@[simp] theorem State.setCounter_rpr (p : Page) (k : Nat) (v : BitVec 48) : (s.setCounter p k v).rpr = s.rpr := rfl
@[simp] theorem State.setCounter_ras (p : Page) (k : Nat) (v : BitVec 48) : (s.setCounter p k v).ras = s.ras := rfl
@[simp] theorem State.setCounter_wrap (p : Page) (k : Nat) (v : BitVec 48) : (s.setCounter p k v).wrap = s.wrap := rfl
@[simp] theorem State.setCounter_free (p : Page) (k : Nat) (v : BitVec 48) : (s.setCounter p k v).free = s.free := rfl
@[simp] theorem State.setCounter_pending (p : Page) (k : Nat) (v : BitVec 48) : (s.setCounter p k v).pending = s.pending := rfl

/-! ### setReq -/

@[simp] theorem State.setReq_pos (i : Nat) (e : RtEntry) : (s.setReq i e).pos = s.pos := rfl
@[simp] theorem State.setReq_phase (i : Nat) (e : RtEntry) : (s.setReq i e).phase = s.phase := rfl
@[simp] theorem State.setReq_startAt (i : Nat) (e : RtEntry) : (s.setReq i e).startAt = s.startAt := rfl
@[simp] theorem State.setReq_crst (i : Nat) (e : RtEntry) : (s.setReq i e).crst = s.crst := rfl
@[simp] theorem State.setReq_thr (i : Nat) (e : RtEntry) : (s.setReq i e).thr = s.thr := rfl
@[simp] theorem State.setReq_pm (i : Nat) (e : RtEntry) : (s.setReq i e).pm = s.pm := rfl
@[simp] theorem State.setReq_tile (i : Nat) (e : RtEntry) : (s.setReq i e).tile = s.tile := rfl
@[simp] theorem State.setReq_ls (i : Nat) (e : RtEntry) : (s.setReq i e).ls = s.ls := rfl
theorem State.setReq_noc (i : Nat) (e : RtEntry) : (s.setReq i e).noc = { s.noc with rt := put s.noc.rt i e } := rfl
@[simp] theorem State.setReq_ldl (i : Nat) (e : RtEntry) : (s.setReq i e).ldl = s.ldl := rfl
@[simp] theorem State.setReq_xl (i : Nat) (e : RtEntry) : (s.setReq i e).xl = s.xl := rfl
@[simp] theorem State.setReq_irq (i : Nat) (e : RtEntry) : (s.setReq i e).irq = s.irq := rfl
@[simp] theorem State.setReq_scl (i : Nat) (e : RtEntry) : (s.setReq i e).scl = s.scl := rfl
@[simp] theorem State.setReq_tmg (i : Nat) (e : RtEntry) : (s.setReq i e).tmg = s.tmg := rfl
@[simp] theorem State.setReq_crk (i : Nat) (e : RtEntry) : (s.setReq i e).crk = s.crk := rfl
@[simp] theorem State.setReq_frames (i : Nat) (e : RtEntry) : (s.setReq i e).frames = s.frames := rfl
@[simp] theorem State.setReq_shadow (i : Nat) (e : RtEntry) : (s.setReq i e).shadow = s.shadow := rfl
@[simp] theorem State.setReq_committed (i : Nat) (e : RtEntry) : (s.setReq i e).committed = s.committed := rfl
@[simp] theorem State.setReq_counters (i : Nat) (e : RtEntry) : (s.setReq i e).counters = s.counters := rfl
@[simp] theorem State.setReq_rpr (i : Nat) (e : RtEntry) : (s.setReq i e).rpr = s.rpr := rfl
@[simp] theorem State.setReq_ras (i : Nat) (e : RtEntry) : (s.setReq i e).ras = s.ras := rfl
@[simp] theorem State.setReq_wrap (i : Nat) (e : RtEntry) : (s.setReq i e).wrap = s.wrap := rfl
@[simp] theorem State.setReq_free (i : Nat) (e : RtEntry) : (s.setReq i e).free = s.free := rfl
@[simp] theorem State.setReq_pending (i : Nat) (e : RtEntry) : (s.setReq i e).pending = s.pending := rfl

/-! ### edge -/

@[simp] theorem State.edge_pos (n : Nat) : (s.edge n).pos = s.pos := rfl
@[simp] theorem State.edge_phase (n : Nat) : (s.edge n).phase = s.phase := rfl
@[simp] theorem State.edge_startAt (n : Nat) : (s.edge n).startAt = s.startAt := rfl
@[simp] theorem State.edge_crst (n : Nat) : (s.edge n).crst = s.crst := rfl
@[simp] theorem State.edge_thr (n : Nat) : (s.edge n).thr = s.thr := rfl
@[simp] theorem State.edge_pm (n : Nat) : (s.edge n).pm = s.pm := rfl
@[simp] theorem State.edge_tile (n : Nat) : (s.edge n).tile = s.tile := rfl
@[simp] theorem State.edge_ls (n : Nat) : (s.edge n).ls = s.ls := rfl
@[simp] theorem State.edge_noc (n : Nat) : (s.edge n).noc = s.noc := rfl
@[simp] theorem State.edge_ldl (n : Nat) : (s.edge n).ldl = s.ldl := rfl
@[simp] theorem State.edge_xl (n : Nat) : (s.edge n).xl = s.xl := rfl
theorem State.edge_irq (n : Nat) : (s.edge n).irq = { s.irq with edge := setBit s.irq.edge n true } := rfl
@[simp] theorem State.edge_scl (n : Nat) : (s.edge n).scl = s.scl := rfl
@[simp] theorem State.edge_tmg (n : Nat) : (s.edge n).tmg = s.tmg := rfl
@[simp] theorem State.edge_crk (n : Nat) : (s.edge n).crk = s.crk := rfl
@[simp] theorem State.edge_frames (n : Nat) : (s.edge n).frames = s.frames := rfl
@[simp] theorem State.edge_shadow (n : Nat) : (s.edge n).shadow = s.shadow := rfl
@[simp] theorem State.edge_committed (n : Nat) : (s.edge n).committed = s.committed := rfl
@[simp] theorem State.edge_counters (n : Nat) : (s.edge n).counters = s.counters := rfl
@[simp] theorem State.edge_rpr (n : Nat) : (s.edge n).rpr = s.rpr := rfl
@[simp] theorem State.edge_ras (n : Nat) : (s.edge n).ras = s.ras := rfl
@[simp] theorem State.edge_wrap (n : Nat) : (s.edge n).wrap = s.wrap := rfl
@[simp] theorem State.edge_free (n : Nat) : (s.edge n).free = s.free := rfl
@[simp] theorem State.edge_pending (n : Nat) : (s.edge n).pending = s.pending := rfl

/-! ### setPm -/

@[simp] theorem State.setPm_pos (w : Nat) (x : BitVec 16) : (s.setPm w x).pos = s.pos := rfl
@[simp] theorem State.setPm_phase (w : Nat) (x : BitVec 16) : (s.setPm w x).phase = s.phase := rfl
@[simp] theorem State.setPm_startAt (w : Nat) (x : BitVec 16) : (s.setPm w x).startAt = s.startAt := rfl
@[simp] theorem State.setPm_crst (w : Nat) (x : BitVec 16) : (s.setPm w x).crst = s.crst := rfl
@[simp] theorem State.setPm_thr (w : Nat) (x : BitVec 16) : (s.setPm w x).thr = s.thr := rfl
theorem State.setPm_pm (w : Nat) (x : BitVec 16) : (s.setPm w x).pm = setD pmEmpty s.pm w x := rfl
@[simp] theorem State.setPm_tile (w : Nat) (x : BitVec 16) : (s.setPm w x).tile = s.tile := rfl
@[simp] theorem State.setPm_ls (w : Nat) (x : BitVec 16) : (s.setPm w x).ls = s.ls := rfl
@[simp] theorem State.setPm_noc (w : Nat) (x : BitVec 16) : (s.setPm w x).noc = s.noc := rfl
@[simp] theorem State.setPm_ldl (w : Nat) (x : BitVec 16) : (s.setPm w x).ldl = s.ldl := rfl
@[simp] theorem State.setPm_xl (w : Nat) (x : BitVec 16) : (s.setPm w x).xl = s.xl := rfl
@[simp] theorem State.setPm_irq (w : Nat) (x : BitVec 16) : (s.setPm w x).irq = s.irq := rfl
@[simp] theorem State.setPm_scl (w : Nat) (x : BitVec 16) : (s.setPm w x).scl = s.scl := rfl
@[simp] theorem State.setPm_tmg (w : Nat) (x : BitVec 16) : (s.setPm w x).tmg = s.tmg := rfl
@[simp] theorem State.setPm_crk (w : Nat) (x : BitVec 16) : (s.setPm w x).crk = s.crk := rfl
@[simp] theorem State.setPm_frames (w : Nat) (x : BitVec 16) : (s.setPm w x).frames = s.frames := rfl
@[simp] theorem State.setPm_shadow (w : Nat) (x : BitVec 16) : (s.setPm w x).shadow = s.shadow := rfl
@[simp] theorem State.setPm_committed (w : Nat) (x : BitVec 16) : (s.setPm w x).committed = s.committed := rfl
@[simp] theorem State.setPm_counters (w : Nat) (x : BitVec 16) : (s.setPm w x).counters = s.counters := rfl
@[simp] theorem State.setPm_rpr (w : Nat) (x : BitVec 16) : (s.setPm w x).rpr = s.rpr := rfl
@[simp] theorem State.setPm_ras (w : Nat) (x : BitVec 16) : (s.setPm w x).ras = s.ras := rfl
@[simp] theorem State.setPm_wrap (w : Nat) (x : BitVec 16) : (s.setPm w x).wrap = s.wrap := rfl
@[simp] theorem State.setPm_free (w : Nat) (x : BitVec 16) : (s.setPm w x).free = s.free := rfl
@[simp] theorem State.setPm_pending (w : Nat) (x : BitVec 16) : (s.setPm w x).pending = s.pending := rfl

/-! ### fresh -/

@[simp] theorem State.fresh_pos : s.fresh.pos = s.pos := rfl
@[simp] theorem State.fresh_phase : s.fresh.phase = s.phase := rfl
@[simp] theorem State.fresh_startAt : s.fresh.startAt = s.startAt := rfl
@[simp] theorem State.fresh_crst : s.fresh.crst = s.crst := rfl
@[simp] theorem State.fresh_thr : s.fresh.thr = s.thr := rfl
@[simp] theorem State.fresh_pm : s.fresh.pm = s.pm := rfl
@[simp] theorem State.fresh_tile : s.fresh.tile = s.tile := rfl
@[simp] theorem State.fresh_ls : s.fresh.ls = s.ls := rfl
@[simp] theorem State.fresh_noc : s.fresh.noc = s.noc := rfl
@[simp] theorem State.fresh_ldl : s.fresh.ldl = s.ldl := rfl
@[simp] theorem State.fresh_xl : s.fresh.xl = s.xl := rfl
@[simp] theorem State.fresh_irq : s.fresh.irq = s.irq := rfl
@[simp] theorem State.fresh_scl : s.fresh.scl = s.scl := rfl
@[simp] theorem State.fresh_tmg : s.fresh.tmg = s.tmg := rfl
@[simp] theorem State.fresh_crk : s.fresh.crk = s.crk := rfl
@[simp] theorem State.fresh_frames : s.fresh.frames = s.frames := rfl
@[simp] theorem State.fresh_shadow : s.fresh.shadow = s.shadow := rfl
@[simp] theorem State.fresh_committed : s.fresh.committed = s.committed := rfl
@[simp] theorem State.fresh_counters : s.fresh.counters = s.counters := rfl
@[simp] theorem State.fresh_rpr : s.fresh.rpr = s.rpr := rfl
@[simp] theorem State.fresh_ras : s.fresh.ras = s.ras := rfl
@[simp] theorem State.fresh_wrap : s.fresh.wrap = s.wrap := rfl
theorem State.fresh_free : s.fresh.free = s.free + 1 := rfl
@[simp] theorem State.fresh_pending : s.fresh.pending = s.pending := rfl

/-! ### setChan -/

@[simp] theorem State.setChan_pos (c : Fin 4) (x : Chan) : (s.setChan c x).pos = s.pos := rfl
@[simp] theorem State.setChan_phase (c : Fin 4) (x : Chan) : (s.setChan c x).phase = s.phase := rfl
@[simp] theorem State.setChan_startAt (c : Fin 4) (x : Chan) : (s.setChan c x).startAt = s.startAt := rfl
@[simp] theorem State.setChan_crst (c : Fin 4) (x : Chan) : (s.setChan c x).crst = s.crst := rfl
@[simp] theorem State.setChan_thr (c : Fin 4) (x : Chan) : (s.setChan c x).thr = s.thr := rfl
@[simp] theorem State.setChan_pm (c : Fin 4) (x : Chan) : (s.setChan c x).pm = s.pm := rfl
@[simp] theorem State.setChan_tile (c : Fin 4) (x : Chan) : (s.setChan c x).tile = s.tile := rfl
@[simp] theorem State.setChan_ls (c : Fin 4) (x : Chan) : (s.setChan c x).ls = s.ls := rfl
@[simp] theorem State.setChan_noc (c : Fin 4) (x : Chan) : (s.setChan c x).noc = s.noc := rfl
theorem State.setChan_ldl (c : Fin 4) (x : Chan) : (s.setChan c x).ldl = vset s.ldl c x := rfl
@[simp] theorem State.setChan_xl (c : Fin 4) (x : Chan) : (s.setChan c x).xl = s.xl := rfl
@[simp] theorem State.setChan_irq (c : Fin 4) (x : Chan) : (s.setChan c x).irq = s.irq := rfl
@[simp] theorem State.setChan_scl (c : Fin 4) (x : Chan) : (s.setChan c x).scl = s.scl := rfl
@[simp] theorem State.setChan_tmg (c : Fin 4) (x : Chan) : (s.setChan c x).tmg = s.tmg := rfl
@[simp] theorem State.setChan_crk (c : Fin 4) (x : Chan) : (s.setChan c x).crk = s.crk := rfl
@[simp] theorem State.setChan_frames (c : Fin 4) (x : Chan) : (s.setChan c x).frames = s.frames := rfl
@[simp] theorem State.setChan_shadow (c : Fin 4) (x : Chan) : (s.setChan c x).shadow = s.shadow := rfl
@[simp] theorem State.setChan_committed (c : Fin 4) (x : Chan) : (s.setChan c x).committed = s.committed := rfl
@[simp] theorem State.setChan_counters (c : Fin 4) (x : Chan) : (s.setChan c x).counters = s.counters := rfl
@[simp] theorem State.setChan_rpr (c : Fin 4) (x : Chan) : (s.setChan c x).rpr = s.rpr := rfl
@[simp] theorem State.setChan_ras (c : Fin 4) (x : Chan) : (s.setChan c x).ras = s.ras := rfl
@[simp] theorem State.setChan_wrap (c : Fin 4) (x : Chan) : (s.setChan c x).wrap = s.wrap := rfl
@[simp] theorem State.setChan_free (c : Fin 4) (x : Chan) : (s.setChan c x).free = s.free := rfl
@[simp] theorem State.setChan_pending (c : Fin 4) (x : Chan) : (s.setChan c x).pending = s.pending := rfl

/-! ### setTray -/

@[simp] theorem State.setTray_pos (T : TrayNo) (x : Tray) : (s.setTray T x).pos = s.pos := rfl
@[simp] theorem State.setTray_phase (T : TrayNo) (x : Tray) : (s.setTray T x).phase = s.phase := rfl
@[simp] theorem State.setTray_startAt (T : TrayNo) (x : Tray) : (s.setTray T x).startAt = s.startAt := rfl
@[simp] theorem State.setTray_crst (T : TrayNo) (x : Tray) : (s.setTray T x).crst = s.crst := rfl
@[simp] theorem State.setTray_thr (T : TrayNo) (x : Tray) : (s.setTray T x).thr = s.thr := rfl
@[simp] theorem State.setTray_pm (T : TrayNo) (x : Tray) : (s.setTray T x).pm = s.pm := rfl
theorem State.setTray_tile (T : TrayNo) (x : Tray) : (s.setTray T x).tile = { s.tile with trays := vset s.tile.trays T x } := rfl
@[simp] theorem State.setTray_ls (T : TrayNo) (x : Tray) : (s.setTray T x).ls = s.ls := rfl
@[simp] theorem State.setTray_noc (T : TrayNo) (x : Tray) : (s.setTray T x).noc = s.noc := rfl
@[simp] theorem State.setTray_ldl (T : TrayNo) (x : Tray) : (s.setTray T x).ldl = s.ldl := rfl
@[simp] theorem State.setTray_xl (T : TrayNo) (x : Tray) : (s.setTray T x).xl = s.xl := rfl
@[simp] theorem State.setTray_irq (T : TrayNo) (x : Tray) : (s.setTray T x).irq = s.irq := rfl
@[simp] theorem State.setTray_scl (T : TrayNo) (x : Tray) : (s.setTray T x).scl = s.scl := rfl
@[simp] theorem State.setTray_tmg (T : TrayNo) (x : Tray) : (s.setTray T x).tmg = s.tmg := rfl
@[simp] theorem State.setTray_crk (T : TrayNo) (x : Tray) : (s.setTray T x).crk = s.crk := rfl
@[simp] theorem State.setTray_frames (T : TrayNo) (x : Tray) : (s.setTray T x).frames = s.frames := rfl
@[simp] theorem State.setTray_shadow (T : TrayNo) (x : Tray) : (s.setTray T x).shadow = s.shadow := rfl
@[simp] theorem State.setTray_committed (T : TrayNo) (x : Tray) : (s.setTray T x).committed = s.committed := rfl
@[simp] theorem State.setTray_counters (T : TrayNo) (x : Tray) : (s.setTray T x).counters = s.counters := rfl
@[simp] theorem State.setTray_rpr (T : TrayNo) (x : Tray) : (s.setTray T x).rpr = s.rpr := rfl
@[simp] theorem State.setTray_ras (T : TrayNo) (x : Tray) : (s.setTray T x).ras = s.ras := rfl
@[simp] theorem State.setTray_wrap (T : TrayNo) (x : Tray) : (s.setTray T x).wrap = s.wrap := rfl
@[simp] theorem State.setTray_free (T : TrayNo) (x : Tray) : (s.setTray T x).free = s.free := rfl
@[simp] theorem State.setTray_pending (T : TrayNo) (x : Tray) : (s.setTray T x).pending = s.pending := rfl

/-! ### setSlot -/

@[simp] theorem State.setSlot_pos (i : Fin 48) (x : Slot) : (s.setSlot i x).pos = s.pos := rfl
@[simp] theorem State.setSlot_phase (i : Fin 48) (x : Slot) : (s.setSlot i x).phase = s.phase := rfl
@[simp] theorem State.setSlot_startAt (i : Fin 48) (x : Slot) : (s.setSlot i x).startAt = s.startAt := rfl
@[simp] theorem State.setSlot_crst (i : Fin 48) (x : Slot) : (s.setSlot i x).crst = s.crst := rfl
@[simp] theorem State.setSlot_thr (i : Fin 48) (x : Slot) : (s.setSlot i x).thr = s.thr := rfl
@[simp] theorem State.setSlot_pm (i : Fin 48) (x : Slot) : (s.setSlot i x).pm = s.pm := rfl
theorem State.setSlot_tile (i : Fin 48) (x : Slot) : (s.setSlot i x).tile = { s.tile with slots := vset s.tile.slots i x } := rfl
@[simp] theorem State.setSlot_ls (i : Fin 48) (x : Slot) : (s.setSlot i x).ls = s.ls := rfl
@[simp] theorem State.setSlot_noc (i : Fin 48) (x : Slot) : (s.setSlot i x).noc = s.noc := rfl
@[simp] theorem State.setSlot_ldl (i : Fin 48) (x : Slot) : (s.setSlot i x).ldl = s.ldl := rfl
@[simp] theorem State.setSlot_xl (i : Fin 48) (x : Slot) : (s.setSlot i x).xl = s.xl := rfl
@[simp] theorem State.setSlot_irq (i : Fin 48) (x : Slot) : (s.setSlot i x).irq = s.irq := rfl
@[simp] theorem State.setSlot_scl (i : Fin 48) (x : Slot) : (s.setSlot i x).scl = s.scl := rfl
@[simp] theorem State.setSlot_tmg (i : Fin 48) (x : Slot) : (s.setSlot i x).tmg = s.tmg := rfl
@[simp] theorem State.setSlot_crk (i : Fin 48) (x : Slot) : (s.setSlot i x).crk = s.crk := rfl
@[simp] theorem State.setSlot_frames (i : Fin 48) (x : Slot) : (s.setSlot i x).frames = s.frames := rfl
@[simp] theorem State.setSlot_shadow (i : Fin 48) (x : Slot) : (s.setSlot i x).shadow = s.shadow := rfl
@[simp] theorem State.setSlot_committed (i : Fin 48) (x : Slot) : (s.setSlot i x).committed = s.committed := rfl
@[simp] theorem State.setSlot_counters (i : Fin 48) (x : Slot) : (s.setSlot i x).counters = s.counters := rfl
@[simp] theorem State.setSlot_rpr (i : Fin 48) (x : Slot) : (s.setSlot i x).rpr = s.rpr := rfl
@[simp] theorem State.setSlot_ras (i : Fin 48) (x : Slot) : (s.setSlot i x).ras = s.ras := rfl
@[simp] theorem State.setSlot_wrap (i : Fin 48) (x : Slot) : (s.setSlot i x).wrap = s.wrap := rfl
@[simp] theorem State.setSlot_free (i : Fin 48) (x : Slot) : (s.setSlot i x).free = s.free := rfl
@[simp] theorem State.setSlot_pending (i : Fin 48) (x : Slot) : (s.setSlot i x).pending = s.pending := rfl

/-! ### setGroup -/

@[simp] theorem State.setGroup_pos (g : Fin 40) (x : Group) : (s.setGroup g x).pos = s.pos := rfl
@[simp] theorem State.setGroup_phase (g : Fin 40) (x : Group) : (s.setGroup g x).phase = s.phase := rfl
@[simp] theorem State.setGroup_startAt (g : Fin 40) (x : Group) : (s.setGroup g x).startAt = s.startAt := rfl
@[simp] theorem State.setGroup_crst (g : Fin 40) (x : Group) : (s.setGroup g x).crst = s.crst := rfl
@[simp] theorem State.setGroup_thr (g : Fin 40) (x : Group) : (s.setGroup g x).thr = s.thr := rfl
@[simp] theorem State.setGroup_pm (g : Fin 40) (x : Group) : (s.setGroup g x).pm = s.pm := rfl
@[simp] theorem State.setGroup_tile (g : Fin 40) (x : Group) : (s.setGroup g x).tile = s.tile := rfl
@[simp] theorem State.setGroup_ls (g : Fin 40) (x : Group) : (s.setGroup g x).ls = s.ls := rfl
@[simp] theorem State.setGroup_noc (g : Fin 40) (x : Group) : (s.setGroup g x).noc = s.noc := rfl
@[simp] theorem State.setGroup_ldl (g : Fin 40) (x : Group) : (s.setGroup g x).ldl = s.ldl := rfl
@[simp] theorem State.setGroup_xl (g : Fin 40) (x : Group) : (s.setGroup g x).xl = s.xl := rfl
@[simp] theorem State.setGroup_irq (g : Fin 40) (x : Group) : (s.setGroup g x).irq = s.irq := rfl
@[simp] theorem State.setGroup_scl (g : Fin 40) (x : Group) : (s.setGroup g x).scl = s.scl := rfl
theorem State.setGroup_tmg (g : Fin 40) (x : Group) : (s.setGroup g x).tmg = { s.tmg with groups := vset s.tmg.groups g x } := rfl
@[simp] theorem State.setGroup_crk (g : Fin 40) (x : Group) : (s.setGroup g x).crk = s.crk := rfl
@[simp] theorem State.setGroup_frames (g : Fin 40) (x : Group) : (s.setGroup g x).frames = s.frames := rfl
@[simp] theorem State.setGroup_shadow (g : Fin 40) (x : Group) : (s.setGroup g x).shadow = s.shadow := rfl
@[simp] theorem State.setGroup_committed (g : Fin 40) (x : Group) : (s.setGroup g x).committed = s.committed := rfl
@[simp] theorem State.setGroup_counters (g : Fin 40) (x : Group) : (s.setGroup g x).counters = s.counters := rfl
@[simp] theorem State.setGroup_rpr (g : Fin 40) (x : Group) : (s.setGroup g x).rpr = s.rpr := rfl
@[simp] theorem State.setGroup_ras (g : Fin 40) (x : Group) : (s.setGroup g x).ras = s.ras := rfl
@[simp] theorem State.setGroup_wrap (g : Fin 40) (x : Group) : (s.setGroup g x).wrap = s.wrap := rfl
@[simp] theorem State.setGroup_free (g : Fin 40) (x : Group) : (s.setGroup g x).free = s.free := rfl
@[simp] theorem State.setGroup_pending (g : Fin 40) (x : Group) : (s.setGroup g x).pending = s.pending := rfl

/-! ### setWalk -/

@[simp] theorem State.setWalk_pos (w : Walk) : (s.setWalk w).pos = s.pos := rfl
@[simp] theorem State.setWalk_phase (w : Walk) : (s.setWalk w).phase = s.phase := rfl
@[simp] theorem State.setWalk_startAt (w : Walk) : (s.setWalk w).startAt = s.startAt := rfl
@[simp] theorem State.setWalk_crst (w : Walk) : (s.setWalk w).crst = s.crst := rfl
@[simp] theorem State.setWalk_thr (w : Walk) : (s.setWalk w).thr = s.thr := rfl
@[simp] theorem State.setWalk_pm (w : Walk) : (s.setWalk w).pm = s.pm := rfl
@[simp] theorem State.setWalk_tile (w : Walk) : (s.setWalk w).tile = s.tile := rfl
@[simp] theorem State.setWalk_ls (w : Walk) : (s.setWalk w).ls = s.ls := rfl
@[simp] theorem State.setWalk_noc (w : Walk) : (s.setWalk w).noc = s.noc := rfl
@[simp] theorem State.setWalk_ldl (w : Walk) : (s.setWalk w).ldl = s.ldl := rfl
theorem State.setWalk_xl (w : Walk) : (s.setWalk w).xl = { s.xl with walks := s.xl.walks.map fun x => if x.id = w.id then w else x } := rfl
@[simp] theorem State.setWalk_irq (w : Walk) : (s.setWalk w).irq = s.irq := rfl
@[simp] theorem State.setWalk_scl (w : Walk) : (s.setWalk w).scl = s.scl := rfl
@[simp] theorem State.setWalk_tmg (w : Walk) : (s.setWalk w).tmg = s.tmg := rfl
@[simp] theorem State.setWalk_crk (w : Walk) : (s.setWalk w).crk = s.crk := rfl
@[simp] theorem State.setWalk_frames (w : Walk) : (s.setWalk w).frames = s.frames := rfl
@[simp] theorem State.setWalk_shadow (w : Walk) : (s.setWalk w).shadow = s.shadow := rfl
@[simp] theorem State.setWalk_committed (w : Walk) : (s.setWalk w).committed = s.committed := rfl
@[simp] theorem State.setWalk_counters (w : Walk) : (s.setWalk w).counters = s.counters := rfl
@[simp] theorem State.setWalk_rpr (w : Walk) : (s.setWalk w).rpr = s.rpr := rfl
@[simp] theorem State.setWalk_ras (w : Walk) : (s.setWalk w).ras = s.ras := rfl
@[simp] theorem State.setWalk_wrap (w : Walk) : (s.setWalk w).wrap = s.wrap := rfl
@[simp] theorem State.setWalk_free (w : Walk) : (s.setWalk w).free = s.free := rfl
@[simp] theorem State.setWalk_pending (w : Walk) : (s.setWalk w).pending = s.pending := rfl

end Sys2Proof.Machine
end

