-- ==== Sys2Proof/Laws/Accounts.lean ====
section
/-! SUPPORT. Counting and charging: everything they can do (R288, R292, R373, R390). -/

namespace Sys2Proof.Machine

open Sys2Proof

/-! ## Reading what was set -/

@[simp] theorem State.th_setTh (s : State) (t : Thread) (h : HThread) : (s.setTh t h).th t = h := by
  simp [State.th, State.setTh, vset]

theorem State.th_setTh_ne (s : State) {t v : Thread} (h : HThread) (ne : v ≠ t) : (s.setTh t h).th v = s.th v := by
  have : t.val ≠ v.val := fun e => ne (Fin.ext e.symm)
  simp [State.th, State.setTh, vset, this]

@[simp] theorem State.setTh_setTh (s : State) (t : Thread) (h k : HThread) :
    (s.setTh t h).setTh t k = s.setTh t k := by
  simp [State.setTh, vset]

@[simp] theorem State.setTh_th (s : State) (t : Thread) : s.setTh t (s.th t) = s := by
  cases s
  simp [State.setTh, State.th, vset]

theorem pageNo_inj {p q : Page} (h : pageNo p = pageNo q) : p = q := by
  cases p <;> cases q <;> first | rfl | (exact absurd h (by decide))

@[simp] theorem State.frame_setFrame (s : State) (p : Page) (f : Frame) : (s.setFrame p f).frame p = f := by
  simp [State.frame, State.setFrame, vset]

theorem State.frame_setFrame_ne (s : State) {p q : Page} (f : Frame) (ne : q ≠ p) :
    (s.setFrame p f).frame q = s.frame q := by
  have : (pageNo p).val ≠ (pageNo q).val := fun e => ne (pageNo_inj (Fin.ext e.symm))
  simp [State.frame, State.setFrame, vset, this]

/-! ## The relation -/

theorem Accounts.refl (s : State) : Accounts s s := by
  constructor <;> intros <;> rfl

theorem Accounts.trans {s u v : State} (a : Accounts s u) (b : Accounts u v) : Accounts s v where
  pos := b.pos.trans a.pos
  phase := b.phase.trans a.phase
  startAt := b.startAt.trans a.startAt
  crst := b.crst.trans a.crst
  thr := b.thr.trans a.thr
  pm := b.pm.trans a.pm
  tile := b.tile.trans a.tile
  ls := b.ls.trans a.ls
  noc := b.noc.trans a.noc
  ldl := b.ldl.trans a.ldl
  xl := b.xl.trans a.xl
  irq := b.irq.trans a.irq
  tmg := b.tmg.trans a.tmg
  crk := b.crk.trans a.crk
  shadow := b.shadow.trans a.shadow
  committed := b.committed.trans a.committed
  rpr := b.rpr.trans a.rpr
  ras := b.ras.trans a.ras
  wrap := b.wrap.trans a.wrap
  free := b.free.trans a.free
  pending := b.pending.trans a.pending
  scl := by
    have h := b.scl
    have k := a.scl
    cases hs : s.scl
    cases hu : u.scl
    cases hv : v.scl
    simp_all
  frames := fun p => (b.frames p).trans (a.frames p)
  events := fun p h k => (b.events p h k).trans (a.events p h k)

theorem Accounts.event {s : State} {p : Page} (h : p = .pmc ∨ p = .scl) (i : Nat) : Accounts s (s.event p i) := by
  refine { pos := rfl, phase := rfl, startAt := rfl, crst := rfl, thr := rfl, pm := rfl, tile := rfl, ls := rfl, noc := rfl,
           ldl := rfl, xl := rfl, irq := rfl, tmg := rfl, crk := rfl, shadow := rfl, committed := rfl, rpr := rfl,
           ras := rfl, wrap := rfl, free := rfl, pending := rfl, scl := rfl, frames := ?_, events := ?_ }
  · intro q
    by_cases e : q = p
    · subst e; simp [State.event]
    · simp [State.event, State.frame_setFrame_ne _ _ e]
  · intro q h1 h2
    have e : q ≠ p := by rintro rfl; rcases h with h | h <;> contradiction
    simp [State.event, State.frame_setFrame_ne _ _ e]

theorem Accounts.setCounter (s : State) (p : Page) (k : Nat) (v : BitVec 48) : Accounts s (s.setCounter p k v) := by
  constructor <;> intros <;> rfl

theorem Accounts.pmcAdd (s : State) (n k : Nat) : Accounts s (pmcAdd s n k) := by
  simp only [Machine.pmcAdd]
  split
  · exact (Accounts.setCounter ..).trans (Accounts.event (.inl rfl) n)
  · exact Accounts.setCounter ..

theorem Accounts.either {s u v : State} (c : Prop) [Decidable c] (h : Accounts s u) (k : Accounts s v) :
    Accounts s (if c then u else v) := by
  split <;> assumption

/-- A fold of steps that each only count only counts. -/
theorem Accounts.foldl {α : Type} (f : State → α → State) (hf : ∀ s a, Accounts s (f s a)) (l : List α) :
    ∀ s, Accounts s (l.foldl f s) := by
  induction l with
  | nil => exact Accounts.refl
  | cons a l ih => exact fun s => (hf s a).trans (ih _)

theorem Accounts.pmc (s : State) (p : Page) (slot k : Nat) (who : Option Thread) : Accounts s (s.pmc p slot k who) := by
  simp only [State.pmc]
  split
  · refine Accounts.foldl _ (fun s n => ?_) _ s
    split
    · exact Accounts.pmcAdd ..
    · exact Accounts.refl _
  · exact Accounts.refl _

/-- A fixed counter counts. -/
theorem Accounts.bump (s : State) (p : Page) (slot k : Nat) (who : Option Thread) :
    Accounts s (s.bump p slot k who) :=
  (Accounts.setCounter ..).trans (Accounts.pmc ..)

theorem Accounts.withScl (s : State) (b : Int) (e : Vector (BitVec 52) 8) :
    Accounts s { s with scl := { s.scl with bal := b, e := e } } := by
  constructor <;> intros <;> rfl

theorem Accounts.setBal (s : State) (b : Int) : Accounts s (s.setBal b) := by
  have h2 := Accounts.either (s.lowat ≤ s.scl.bal ∧ (if b < balMin then balMin else b) < s.lowat)
    ((Accounts.withScl s (if b < balMin then balMin else b) s.scl.e).trans (Accounts.event (.inr rfl) 0))
    (Accounts.withScl s (if b < balMin then balMin else b) s.scl.e)
  exact Accounts.either _ (h2.trans (Accounts.event (.inr rfl) 1)) h2

theorem Accounts.addEnergy (s : State) (i : Fin 8) (n : Nat) (who : Option Thread) :
    Accounts s (s.addEnergy i n who) :=
  (Accounts.withScl s s.scl.bal _).trans (Accounts.pmc ..)

theorem Accounts.countEnergy (s : State) (c n : Nat) (who : Option Thread) : Accounts s (s.countEnergy c n who) :=
  (Accounts.addEnergy ..).trans (Accounts.addEnergy ..)

/-- A charge. -/
theorem Accounts.charge (s : State) (c n : Nat) (who : Option Thread) : Accounts s (s.charge c n who) := by
  simp only [State.charge]
  split
  · exact Accounts.refl _
  · exact (Accounts.setBal ..).trans (Accounts.countEnergy ..)

theorem Accounts.th {s u : State} (h : Accounts s u) (t : Thread) : u.th t = s.th t := by
  simp [State.th, h.thr]

theorem Accounts.g {s u : State} (h : Accounts s u) (t : Thread) (r : GReg) : u.g t r = s.g t r := by
  simp [State.g, h.th]

theorem Accounts.acc {s u : State} (h : Accounts s u) (t : Thread) (a : Fin 2) : u.acc t a = s.acc t a := by
  simp [State.acc, h.th]

end Sys2Proof.Machine
end

