-- ==== Sys2Proof/Laws/Issue.lean ====
section
/-! SUPPORT. Issue and completion of an instruction: everything the shared operations can do (R152, R160 to R163). -/

namespace Sys2Proof.Machine

open Sys2Proof

/-- The instruction issues: its thread waits no more, the rest is counting and charging. -/
theorem State.issued_accounts (s : State) (t : Thread) :
    Accounts (s.setTh t { s.th t with wait := .none, entered := false }) (s.issued t) :=
  (Accounts.bump ..).trans (Accounts.charge ..)

@[simp] theorem State.issued_th (s : State) (t : Thread) : (s.issued t).th t = { s.th t with wait := .none, entered := false } := by
  simp [(s.issued_accounts t).th]

theorem State.issued_th_ne (s : State) {t v : Thread} (ne : v ≠ t) : (s.issued t).th v = s.th v := by
  simp [(s.issued_accounts t).th, State.th_setTh_ne _ _ ne]

@[simp] theorem State.issued_g (s : State) (t : Thread) (r : GReg) : (s.issued t).g t r = s.g t r := by
  simp [State.g]

@[simp] theorem State.issued_acc (s : State) (t : Thread) (a : Fin 2) : (s.issued t).acc t a = s.acc t a := by
  simp [State.acc]

/-- An instruction that issues and can be fetched ends as its body says. -/
theorem issue_goes {s : State} {t : Thread} {n : Nat} (h : Goes s t n) (body : State → Ends) :
    issue s t n body = .next (s.sealed ((body (s.issued t)).finish s t n)) := by
  obtain ⟨h1, h2, h3⟩ := h
  simp [issue, h1, h2, h3, keep]

/-! ## Only one thread changes -/

theorem OnlyThread.refl (s : State) (t : Thread) : OnlyThread s s t := ⟨fun _ _ => rfl, Accounts.refl s⟩

/-- A change of the thread itself. -/
theorem OnlyThread.setTh {s u : State} {t : Thread} (h : OnlyThread s u t) (k : HThread) :
    OnlyThread s (u.setTh t k) t :=
  ⟨fun v ne => (State.th_setTh_ne u k ne).trans (h.1 v ne), h.2⟩

/-- Counting and charging. -/
theorem OnlyThread.accounts {s u v : State} {t : Thread} (h : OnlyThread s u t) (a : Accounts u v) :
    OnlyThread s v t := by
  refine ⟨fun w ne => (a.th w).trans (h.1 w ne), h.2.trans ?_⟩
  exact { a with thr := rfl, crk := by simp [a.crk] }

theorem OnlyThread.issued (s : State) (t : Thread) : OnlyThread s (s.issued t) t :=
  ((OnlyThread.refl s t).setTh _).accounts (s.issued_accounts t)

/-- Writing the branch-target buffer (R157). -/
theorem OnlyThread.btbPush {s u : State} {t : Thread} (h : OnlyThread s u t) (x : PAddr) :
    OnlyThread s (u.btbPush t x) t := by
  simp only [State.btbPush]
  split
  · exact h
  · exact h

theorem OnlyThread.complete {s u : State} {t : Thread} (h : OnlyThread s u t) (n : Nat) (j : Option PAddr) (o : Opens) :
    OnlyThread s (u.complete t n j o) t :=
  (h.setTh _).btbPush _

theorem OnlyThread.sealed {s u : State} {t : Thread} (h : OnlyThread s u t) : OnlyThread s (s.sealed u) t :=
  ⟨h.1, { h.2 with pos := rfl, pending := rfl }⟩

@[simp] theorem State.btbPush_thr (s : State) (t : Thread) (x : PAddr) : (s.btbPush t x).thr = s.thr := by
  simp only [State.btbPush]
  split <;> rfl

/-- The thread after its completion. -/
@[simp] theorem State.complete_th (s : State) (t : Thread) (n : Nat) (j : Option PAddr) (o : Opens) :
    (s.complete t n j o).th t = (s.th t).complete n j o := by
  have h := State.th_setTh s t ((s.th t).complete n j o)
  simpa [State.complete, State.th] using h

@[simp] theorem State.sealed_th (s u : State) (t : Thread) : (s.sealed u).th t = u.th t := rfl

/-- An instruction that completes after a change of its thread to `h`. -/
theorem issue_done {s : State} {t : Thread} {n : Nat} (g : Goes s t n) {body : State → Ends} {h : HThread} {o : Opens}
    (e : body (s.issued t) = .done ((s.issued t).setTh t h) o) :
    ∃ u, issue s t n body = .next u ∧ u.th t = h.complete n none o ∧ OnlyThread s u t := by
  refine ⟨_, issue_goes g body, ?_, ?_⟩
  · simp [e, Ends.finish]
  · rw [e]
    exact (((OnlyThread.issued s t).setTh h).complete n none o).sealed

end Sys2Proof.Machine
end

