-- ==== Sys2Proof/Certificates/Slice0/Obligations.lean ====
section
/-! DEFINITION. The statements about the model, in the terms of Safety.lean.  Every docstring names the rules that it
formalises; where a clause is the model's own choice, it names the log entry. -/

open Sys2Proof Sys2Proof.Machine

/-! ## The machine as a whole -/

/-- A step with a command at the front of the queue is that command's effect on the state with the queue's rest. -/
def Obligations.StepRunsTheFrontCommand : Prop :=
  ∀ (c : Instr) (rest : List Instr) (s : State), s.pending = c :: rest → step s = exec c { s with pending := rest }

/-! ## Scalar registers -/

/-- MOV, the logical operations, shifts, comparisons, MULH, the unary operations without overflow, MOVI, SLLI, SRAI, MOVL,
SHOL, ANDL, DIVU, REM and REMU with a divisor other than zero, ARDL and ARDH complete with the result that the manual's
tables give, and change nothing but their thread (R141 to R143, R147 to R149). -/
def Obligations.RegisterResults : Prop :=
  ∀ (i : Instr) (s : State) (t : Thread) (n : Nat) (d : GReg) (v : Word),
    plainResult i s = some (t, n, d, v) → Goes s t n →
    ∃ u, exec i s = .next u ∧ u.th t = ((s.th t).wrote d v).next n ∧ OnlyThread s u t

/-- ADD, SUB, MUL, NEG, ABS, ADDI, ADDL, and DIV with a divisor other than zero: within the signed range they complete with
the exact result; outside it, with OVE = 0 they complete with the result modulo 2^64 and FLG.OV, and with OVE = 1 they
raise the overflow trap, cause 0x05, with no register written (R137). -/
def Obligations.SignedOverflow : Prop :=
  ∀ (i : Instr) (s : State) (t : Thread) (n : Nat) (d : GReg) (x : Int),
    exactResult i s = some (t, n, d, x) → Goes s t n →
    (fits64 x → ∃ u, exec i s = .next u ∧
      u.th t = ((s.th t).wrote d (BitVec.ofInt 64 x)).next n ∧ OnlyThread s u t) ∧
    (¬ fits64 x → wbit (s.th t).mode 5 = false → ∃ u, exec i s = .next u ∧
      u.th t = (({ s.th t with flg := setBit (s.th t).flg 1 true }).wrote d (BitVec.ofInt 64 x)).next n ∧
      OnlyThread s u t) ∧
    (¬ fits64 x → wbit (s.th t).mode 5 = true →
      exec i s = .next (s.sealed ((s.issued t).trap t 0x05 0 0)))

/-- DIV, DIVU, REM and REMU by zero: with DZE = 0 they complete with the results of R138 and FLG.DZ; with DZE = 1 they
raise the divide-by-zero trap, cause 0x04, with no register written (R138). -/
def Obligations.DivisionByZero : Prop :=
  ∀ (i : Instr) (s : State) (t : Thread) (d : GReg) (v : Word),
    zeroDivision i s = some (t, d, v) → Goes s t 2 →
    (wbit (s.th t).mode 4 = false → ∃ u, exec i s = .next u ∧
      u.th t = (({ s.th t with flg := setBit (s.th t).flg 0 true }).wrote d v).next 2 ∧ OnlyThread s u t) ∧
    (wbit (s.th t).mode 4 = true → exec i s = .next (s.sealed ((s.issued t).trap t 0x04 0 0)))

/-- The rounding of R136: RNE is nearest with ties to even, RTZ truncates, round-up is the ceiling, round-to-odd gives the
value where it is an integer and else the odd neighbour, stochastic rounding adds the draw below the 24th fraction bit.

fit80 and fit64 of R136: a value in range is itself; outside it saturation takes the nearer end, and wrapping the value
congruent modulo 2^n in range; the second component tells whether the value was outside. -/
def Obligations.RoundingAndFit : Prop :=
  (∀ (u : Nat) (x : Int) (k : Nat),
    (2 * |rndPow2 .rne u x k * 2 ^ k - x| ≤ 2 ^ k ∧
      (2 * |rndPow2 .rne u x k * 2 ^ k - x| = 2 ^ k → rndPow2 .rne u x k % 2 = 0)) ∧
    rndPow2 .rtz u x k = x.tdiv (2 ^ k) ∧
    (x ≤ rndPow2 .up u x k * 2 ^ k ∧ (rndPow2 .up u x k - 1) * 2 ^ k < x) ∧
    (x % 2 ^ k = 0 → rndPow2 .odd u x k * 2 ^ k = x) ∧
    (x % 2 ^ k ≠ 0 → rndPow2 .odd u x k % 2 = 1 ∧ |rndPow2 .odd u x k * 2 ^ k - x| < 2 ^ k) ∧
    (u < 2 ^ 24 → rndPow2 .stoch u x k = (x * 2 ^ 24 / 2 ^ k + u) / 2 ^ 24)) ∧
  (∀ (n : Nat) (sat : Bool) (x : Int), 0 < n →
    ((fitS n sat x).2 = true ↔ x < -2 ^ (n - 1) ∨ 2 ^ (n - 1) - 1 < x) ∧
    ((fitS n sat x).2 = false → (fitS n sat x).1 = x) ∧
    (x < -2 ^ (n - 1) → sat = true → (fitS n sat x).1 = -2 ^ (n - 1)) ∧
    (2 ^ (n - 1) - 1 < x → sat = true → (fitS n sat x).1 = 2 ^ (n - 1) - 1) ∧
    (sat = false → -2 ^ (n - 1) ≤ (fitS n sat x).1 ∧ (fitS n sat x).1 ≤ 2 ^ (n - 1) - 1 ∧
      ((fitS n sat x).1 - x) % 2 ^ n = 0))

/-- AZERO, ALD, AWR, ASHL and AADD complete with fit80 of their value, without rounding; MAC0, MAC1 and MSU add or subtract
the product scaled by 2^-62 and rounded; ASHR rounds a / 2^n; AST writes fit64 of a / 2 rounded and sets FLG.QSAT where it
had to be substituted (R134, R136, R141, R149). -/
def Obligations.AccumulatorResults : Prop :=
  (∀ (i : Instr) (s : State) (t : Thread) (n : Nat) (a : Fin 2) (x : Int),
    accExact i s = some (t, n, a, x) → Goes s t n →
    ∃ u, exec i s = .next u ∧ u.th t = ((s.th t).wroteAcc a x).next n ∧ OnlyThread s u t) ∧
  (∀ (i : Instr) (s : State) (t : Thread) (n : Nat) (a : Fin 2) (sign x : Int),
    accProduct i s = some (t, n, a, sign, x) → Goes s t n →
    ∃ u, exec i s = .next u ∧
      u.th t = (((s.th t).afterRounding x 62).wroteAcc a (s.acc t a + sign * (s.th t).rounded x 62)).next n ∧
      OnlyThread s u t) ∧
  (∀ (s : State) (t : Thread) (a : Fin 2) (g : GReg), Goes s t 2 →
    ∃ u, exec (.ashr t a g) s = .next u ∧
      u.th t = ({ (s.th t).afterRounding (s.acc t a) (min ((s.g t g).toNat % 128) 80) with
        a := vset (s.th t).a a (BitVec.ofInt 80
          ((s.th t).rounded (s.acc t a) (min ((s.g t g).toNat % 128) 80))) }).next 2 ∧
      OnlyThread s u t) ∧
  (∀ (s : State) (t : Thread) (a : Fin 2) (g : GReg), Goes s t 2 →
    ∃ u, exec (.ast t a g) s = .next u ∧
      u.th t = ({ (s.th t).afterRounding (s.acc t a) 1 with
        g := vset (s.th t).g g (BitVec.ofInt 64 (fitS 64 (wbit (s.th t).mode 3) ((s.th t).rounded (s.acc t a) 1)).1)
        flg := if (fitS 64 (wbit (s.th t).mode 3) ((s.th t).rounded (s.acc t a) 1)).2
          then setBit ((s.th t).afterRounding (s.acc t a) 1).flg 3 true
          else ((s.th t).afterRounding (s.acc t a) 1).flg }).next 2 ∧
      OnlyThread s u t)

/-! ## Completion -/

/-- The loop-end decision of R160, level 1 first (the address after the instruction, for the pc and for the comparison
with LE, wraps at 2^17, which is the model's choice, log 86): a transfer of control leaves every count; a count above 1
falls by one and the thread goes to the loop's start; a count of 1 ends the level and the other level is tested; else
the thread goes on.

Load delay slot and MODE shadow: a load or a MODE write that is no second of a pair changes neither its register nor
MODE at its own completion; both change at the completion of the thread's next instruction, where the first load's value
wins, and an instruction in the second slot opens no pair (R154, R163).

Single step: with SS = 1 at its completion an instruction leaves the trap due, but the first of a pair leaves it to the
second (R174). -/
def Obligations.InstructionCompletion : Prop :=
  (∀ (h : HThread) (n : Nat) (o : Opens),
    let nxt := h.pc + BitVec.ofNat 17 n
    let here := fun l : Fin 2 => h.lc[l] ≠ 0 ∧ nxt = h.le[l]
    let u := h.complete n none o
    (∀ p, (h.complete n (some p) o).pc = p ∧ (h.complete n (some p) o).lc = h.lc) ∧
    (here 1 → 1 < (h.lc[1]).toNat → u.pc = h.ls[1] ∧ u.lc = h.lc.set 1 (h.lc[1] - 1)) ∧
    (here 1 → h.lc[1] = 1 → ¬ here 0 → u.pc = nxt ∧ u.lc = h.lc.set 1 0) ∧
    (here 1 → h.lc[1] = 1 → here 0 → 1 < (h.lc[0]).toNat →
      u.pc = h.ls[0] ∧ u.lc = (h.lc.set 1 0).set 0 (h.lc[0] - 1)) ∧
    (here 1 → h.lc[1] = 1 → here 0 → h.lc[0] = 1 → u.pc = nxt ∧ u.lc = (h.lc.set 1 0).set 0 0) ∧
    (¬ here 1 → here 0 → 1 < (h.lc[0]).toNat → u.pc = h.ls[0] ∧ u.lc = h.lc.set 0 (h.lc[0] - 1)) ∧
    (¬ here 1 → here 0 → h.lc[0] = 1 → u.pc = nxt ∧ u.lc = h.lc.set 0 0) ∧
    (¬ here 1 → ¬ here 0 → u.pc = nxt ∧ u.lc = h.lc)) ∧
  (∀ (h : HThread) (n : Nat) (j : Option PAddr) (o : Opens) (d : GReg) (v m : Word) (p : Pair),
    (h.pair = none → (h.complete n j (.load d v)).g = h.g ∧
      (h.complete n j (.load d v)).pair.map (fun q => (q.first, q.ld, q.mode)) = some (h.pc, some (d, v), none)) ∧
    (h.pair = none → (h.complete n j (.mode m)).mode = h.mode ∧
      (h.complete n j (.mode m)).pair.map (fun q => (q.first, q.ld, q.mode)) = some (h.pc, none, some m)) ∧
    (h.pair = some p → (h.complete n j o).pair = none) ∧
    (h.pair = some p → p.ld = some (d, v) → (h.complete n j o).g[d] = v) ∧
    (h.pair = some p → (∀ x, p.ld ≠ some (d, x)) → (h.complete n j (.load d v)).g[d] = v) ∧
    (h.pair = some p → p.mode = some m → (h.complete n j .nothing).mode = m) ∧
    (h.pair = some p → (h.complete n j (.mode m)).mode = m) ∧
    (h.pair = none → (h.complete n j .nothing).stepTrap = (h.stepTrap || h.ss)) ∧
    (h.pair = none → o ≠ .nothing → (h.complete n j o).stepTrap = h.stepTrap ∧
      (h.complete n j o).pair.map (·.step) = some h.ss) ∧
    (h.pair = some p → (h.complete n j o).stepTrap = (h.stepTrap || p.step || h.ss)))

/-! ## Control flow -/

/-- JMP, CALL, JR, CALLR and the conditional branches: g15 takes the address of word 0 plus 2 in CALL and CALLR, after gs
has been read; a taken branch goes to its target and one that is not taken goes on (R146).

LOOP and LOOPI: an end not above the word after the instruction raises the illegal-instruction trap with word 0 as fault
information; a count of 0 clears LC and goes to the end; else LC, LS and LE of the level are armed (R159). -/
def Obligations.ControlFlow : Prop :=
  (∀ (i : Instr) (s : State) (t : Thread) (target : PAddr) (taken link : Bool),
    branchOf i s = some (t, target, taken, link) → Goes s t 2 →
    ∃ u, exec i s = .next u ∧ OnlyThread s u t ∧
      u.th t = ({ s.th t with
        g := if link then vset (s.th t).g 15 (BitVec.ofNat 64 ((s.th t).pc.toNat + 2)) else (s.th t).g
        wait := .none }).complete 2 (if taken then some target else none) .nothing) ∧
  (∀ (i : Instr) (s : State) (t : Thread) (c : Nat) (l : Fin 2) (e : PAddr) (w0 : Nat),
    loopOf i s = some (t, c, l, e, w0) → Goes s t 3 →
    let h : HThread := { s.th t with wait := .none }
    (e.toNat ≤ (s.th t).pc.toNat + 3 →
      exec i s = .next (s.sealed ((s.issued t).trap t 0x01 0 (BitVec.ofNat 64 w0)))) ∧
    ((s.th t).pc.toNat + 3 < e.toNat → c = 0 → ∃ u, exec i s = .next u ∧ OnlyThread s u t ∧
      u.th t = ({ h with lc := vset h.lc l 0 }).complete 3 (some e) .nothing) ∧
    ((s.th t).pc.toNat + 3 < e.toNat → c ≠ 0 → ∃ u, exec i s = .next u ∧ OnlyThread s u t ∧
      u.th t = ({ h with
        lc := vset h.lc l (BitVec.ofNat 32 c), ls := vset h.ls l (h.pc + 3), le := vset h.le l e }).next 3))

/-! ## CSRs and program memory -/

/-- CSRR: at a level that may read the CSR it completes with the CSR's value; TSTAT reads its flags, of which those raised
since the last TSYNC wait may or may not show (a free value, log 6); EVPEND reads the highest priority, plus 1, among the
pending enabled sources that name the thread (those pending once the issue itself has been counted and charged), 0 where
there is none, and the pending machine check and warning.  An unassigned number raises illegal instruction, a level too
low the privilege trap with the CSR number (R150, R175, R181). -/
def Obligations.CsrReads : Prop :=
  ∀ (s : State) (t : Thread) (g : GReg) (n : BitVec 12), Goes s t 2 →
    let w0 : Nat := 0x3000 + 0x12 * 0x40 + g.val
    (∀ v, csrShows s t n.toNat = some v → csrReadLevel n.toNat ≤ (s.th t).pl →
      ∃ u, exec (.csrr t g n) s = .next u ∧ u.th t = ((s.th t).wrote g v).next 2 ∧ OnlyThread s u t) ∧
    (n = 0x002 → ∃ u v, exec (.csrr t g n) s = .next u ∧ u.th t = ((s.th t).wrote g v).next 2 ∧
      OnlyThread { s with free := s.free + 1 } u t ∧
      v &&& (s.th t).tstatSync = (s.th t).tstat &&& (s.th t).tstatSync ∧ v &&& ~~~ (s.th t).tstat = 0) ∧
    (n = 0x018 → 1 ≤ (s.th t).pl → ∃ u v, exec (.csrr t g n) s = .next u ∧
      u.th t = ((s.th t).wrote g v).next 2 ∧ OnlyThread s u t ∧
      v.toNat / 32 % 2 = b2n (s.mcThread = t.val && s.irq.mcLatch) ∧
      v.toNat / 64 = b2n (s.mcThread = t.val && s.irq.pfLatch) ∧
      let waits (k : Nat) : Prop := k < 64 ∧ (s.issued t).srcPending k = true ∧ s.srcEn k = true ∧ s.srcThr k = t.val
      ((∀ k, ¬ waits k) → v.toNat % 32 = 0) ∧
      ∀ k, waits k → (∀ j, waits j → s.srcPri j ≤ s.srcPri k) → v.toNat % 32 = s.srcPri k + 1) ∧
    (csrAssigned n.toNat = false →
      exec (.csrr t g n) s = .next (s.sealed ((s.issued t).trap t 0x01 0 (BitVec.ofNat 64 w0)))) ∧
    (csrAssigned n.toNat = true → (s.th t).pl < csrReadLevel n.toNat →
      exec (.csrr t g n) s =
        .next (s.sealed ((s.issued t).trap t 0x02 0 (BitVec.ofNat 64 (w0 + n.toNat * 2 ^ 16)))))

/-- CSRW, CSRS and CSRC at a level that may write the CSR: the plain CSRs take the new value cut to their bits; a loop
register takes it after the loop-end decision of this instruction; MODE takes a legal value one instruction later; STAT
takes a legal value at once, and restarts the QUIET count where it sets QUIET; TSTAT, SWI and TCMP act as their rules say;
a limit above the QUIET count arms its overrun again (R173); SRES moves its operand between the balance, as the charge of
the issue leaves it, and the reserve, or is refused and moves nothing (R131, R150, R154, R171, R173, R175, R281, R292). -/
def Obligations.CsrWrites : Prop :=
  ∀ (i : Instr) (s : State) (t : Thread) (n w0 : Nat) (f : Word → Word),
    csrChange i s = some (t, n, w0, f) → Goes s t 2 → csrWriteLevel n ≤ (s.th t).pl →
    let h : HThread := { s.th t with wait := .none }
    (∀ old h', csrShows s t n = some old → csrTakes h n (f old) = some h' →
      ∃ u, exec i s = .next u ∧ u.th t = h'.next 2 ∧ OnlyThread s u t) ∧
    (∀ old, 0x008 ≤ n → n ≤ 0x00D → csrShows s t n = some old →
      ∃ u, exec i s = .next u ∧ u.th t = (h.next 2).setLoopReg n (f old) ∧ OnlyThread s u t) ∧
    (n = 0x000 → modeLegal (f h.mode) →
      ∃ u, exec i s = .next u ∧ u.th t = h.complete 2 none (.mode (f h.mode)) ∧ OnlyThread s u t) ∧
    (n = 0x010 → statLegal h.stat (f h.stat) → ∃ u, exec i s = .next u ∧ OnlyThread s u t ∧
      u.th t = ({ h with
        stat := f h.stat
        quietCnt := if wbit h.stat 2 = false ∧ wbit (f h.stat) 2 = true then 0 else h.quietCnt
        quietFired := if wbit h.stat 2 = false ∧ wbit (f h.stat) 2 = true then false else h.quietFired }).next 2) ∧
    (n = 0x002 → ∃ u, exec i s = .next u ∧ OnlyThread s u t ∧
      u.th t = ({ h with tstat := f h.tstat &&& 0x3F, tstatSync := f h.tstat &&& 0x3F }).next 2) ∧
    (n = 0x015 → ∃ u, exec i s = .next u ∧ u.th t = h.next 2 ∧ OnlyThread { s with irq := u.irq } u t ∧
      u.irq.mcLatch = s.irq.mcLatch ∧ u.irq.pfLatch = s.irq.pfLatch ∧
      ∀ k, wbit u.irq.edge k = (wbit s.irq.edge k || (24 ≤ k && k ≤ 27 && wbit (f 0) (k - 24)))) ∧
    (n = 0x082 → (f h.tcmp = 0 ∨ s.tmg.time < (f h.tcmp).toNat) →
      ∃ u, exec i s = .next u ∧ u.th t = ({ h with tcmp := f h.tcmp }).next 2 ∧ OnlyThread s u t) ∧
    (n = 0x082 → f h.tcmp ≠ 0 → (f h.tcmp).toNat ≤ s.tmg.time →
      ∃ u, exec i s = .next u ∧ u.th t = ({ h with tcmp := 0 }).next 2 ∧ OnlyThread { s with irq := u.irq } u t ∧
      u.irq = { s.irq with edge := setBit s.irq.edge (20 + t.val) true }) ∧
    (n = 0x092 → w0 / 16 % 4 = 1 →
      let x := 16 * (f 0).toInt
      let bal := (s.issued t).scl.bal
      let back : Nat := min (-x).toNat s.scl.rsv
      let ends (refused : Bool) (b : Int) (r : Nat) : Prop := ∃ u, exec i s = .next u ∧
        u.th t = ({ h with sresRefused := refused }).next 2 ∧ u.scl.bal = b ∧ u.scl.rsv = r ∧
        OnlyThread s { u with scl := { u.scl with rsv := s.scl.rsv } } t
      (0 < x → x ≤ bal → s.scl.rsv + x.toNat < 16 * 2 ^ 47 → ends false (bal - x) (s.scl.rsv + x.toNat)) ∧
      (0 < x → bal < x → ends true bal s.scl.rsv) ∧
      (x ≤ 0 → bal + back < 16 * 2 ^ 47 → ends false (bal + back) (s.scl.rsv - back)))

/-- What a CSR write, set or clear traps on: an unassigned number or a read-only CSR, illegal instruction; a level too
low, privilege, with the CSR number; a set or clear of SRES, illegal instruction; a MODE or STAT value that is not
allowed, illegal instruction, with the CSR unchanged (R131, R150, R171, R181, R292). -/
def Obligations.CsrTraps : Prop :=
  ∀ (i : Instr) (s : State) (t : Thread) (n w0 : Nat) (f : Word → Word),
    csrChange i s = some (t, n, w0, f) → Goes s t 2 →
    let illegal := exec i s = .next (s.sealed ((s.issued t).trap t 0x01 0 (BitVec.ofNat 64 w0)))
    (csrAssigned n = false → illegal) ∧ (csrReadOnly n = true → illegal) ∧
    (n = 0x092 → w0 / 16 % 4 ≠ 1 → illegal) ∧
    (csrAssigned n = true → csrReadOnly n = false → (n = 0x092 → w0 / 16 % 4 = 1) → (s.th t).pl < csrWriteLevel n →
      exec i s = .next (s.sealed ((s.issued t).trap t 0x02 0 (BitVec.ofNat 64 (w0 + n * 2 ^ 16))))) ∧
    (n = 0x000 → ¬ modeLegal (f (s.th t).mode) → illegal) ∧
    (n = 0x010 → 1 ≤ (s.th t).pl → ¬ statLegal (s.th t).stat (f (s.th t).stat) → illegal)

/-- PMW stores the low 14 bits of gs with odd parity over each half, and changes no other word; PMR reads a word without
its parity bits; at U both raise the privilege trap, and outside the level's bounds the bound fault with the word address
(R151, R158, R243). -/
def Obligations.ProgramMemoryAccess : Prop :=
  ∀ (s : State) (t : Thread) (ga r : GReg), Goes s t 2 →
    let a := (s.g t ga).toNat % 2 ^ 17
    let pl := (s.th t).pl
    (pl ≠ 0 → s.pmAllowed pl a = true → ∃ u, exec (.pmw t ga r) s = .next u ∧
      (u.pmWord a).toNat % 2 ^ 14 = (s.g t r).toNat % 2 ^ 14 ∧
      oddOver (u.pmWord a) [0, 1, 2, 3, 4, 5, 6, 14] = true ∧
      oddOver (u.pmWord a) [7, 8, 9, 10, 11, 12, 13, 15] = true ∧
      (∀ w, w ≠ a → u.pmWord w = s.pmWord w) ∧
      u.th t = ({ s.th t with wait := .none } : HThread).next 2 ∧ OnlyThread { s with pm := u.pm } u t) ∧
    (pl ≠ 0 → s.pmAllowed pl a = true → ∃ u, exec (.pmr t r ga) s = .next u ∧
      u.th t = ((s.th t).wrote r (BitVec.ofNat 64 ((s.pmWord a).toNat % 2 ^ 14))).next 2 ∧ OnlyThread s u t) ∧
    (pl = 0 → exec (.pmw t ga r) s =
        .next (s.sealed ((s.issued t).trap t 0x02 0 (BitVec.ofNat 64 (0x3000 + 0x13 * 0x40 + ga.val)))) ∧
      exec (.pmr t r ga) s =
        .next (s.sealed ((s.issued t).trap t 0x02 0 (BitVec.ofNat 64 (0x3000 + 0x14 * 0x40 + r.val))))) ∧
    (pl ≠ 0 → s.pmAllowed pl a = false →
      exec (.pmw t ga r) s = .next (s.sealed ((s.issued t).trap t 0x08 0 (BitVec.ofNat 64 a))) ∧
      exec (.pmr t r ga) s = .next (s.sealed ((s.issued t).trap t 0x08 0 (BitVec.ofNat 64 a))))

/-! ## Traps and their return -/

/-- Handler entry: with a descriptor that can be read, a handler level not below the thread's, and a TSB that lies in the
shelf, is not protected from S and can be written, the thread's registers go to the TSB, LC0 and LC1 become 0, STAT and g14
change as the descriptor says, the pc goes to the handler, and nothing else of the thread, no other shelf byte and no other
thread changes (R135, R177 to R180, R183).

The fallback entry: with TSBPM in the shelf and writable the thread enters M at word 0x10 of the firmware slot with
FS, QUIET and ADV set, SS clear and IPL kept, TSBPM moves on by 256, g14 stays, and the TSB names the reason; where the
TSB cannot be written the thread halts, issues no more, and a fatal condition is raised (R184). -/
def Obligations.HandlerAndFallbackEntry : Prop :=
  (∀ (s s1 : State) (t : Thread) (e : Event) (d : Desc), s.readDesc t e.cause = (s1, .inr d) →
    let h := s.th t
    let forced : Prop := 0xC0 ≤ e.cause ∧ e.cause ≤ 0xC4
    let nl := if 0xC0 ≤ e.cause ∧ e.cause ≤ 0xC4 then 3 else d.lvl
    let b := if nl = 1 then h.tsbps.toNat % 2 ^ 23 else h.tsbpm.toNat % 2 ^ 23
    h.pl ≤ nl → b + 256 ≤ 393216 * s.ls.ways → (nl = 1 → h.protects b 256 = false) → s1.tsbFails b = false →
    let u := s.enter t e
    let k := u.th t
    (nl = 1 ∨ nl = 3) ∧ k.pc = d.hpc ∧ k.lc = Vector.replicate 2 0 ∧
    k.pl = nl ∧ k.fs = d.fs ∧ k.adv = d.adv ∧ k.ss = false ∧
    (k.quiet = true ↔ h.quiet = true ∨ d.mask = 2 ∨ forced) ∧
    (d.mask = 3 → k.ipl = 16) ∧ (d.mask = 1 → ∀ p, e.pri = some p → p < 16 → k.ipl = p + 1) ∧
    (d.mask ≠ 3 → d.mask ≠ 1 ∨ e.pri = none → k.ipl = h.ipl) ∧
    (∀ r : GReg, r ≠ 14 → k.g[r] = h.g[r]) ∧
    (d.spm = 1 → k.g[14] = d.spbase) ∧ (d.spm = 0 → k.g[14] = h.g[14]) ∧
    (d.spm = 2 → k.g[14] = d.spbase - BitVec.ofNat 64 (t.val * 2 ^ (12 + d.ssh))) ∧
    (k.a, k.mode, k.flg, k.tstat, k.seed, k.rcnt, k.ls, k.le) =
      (h.a, h.mode, h.flg, h.tstat, h.seed, h.rcnt, h.ls, h.le) ∧
    (d.adv = true → (if nl = 1 then k.tsbps else k.tsbpm) = BitVec.ofNat 64 ((b + 256) % 2 ^ 23)) ∧
    (d.adv = false → (k.tsbps, k.tsbpm) = (h.tsbps, h.tsbpm)) ∧
    u.shelfBytes b 256 = tsbBytes h e 0 s.tile.tprog ∧
    (∀ o, o < b ∨ b + 256 ≤ o → getD zero8 u.ls.shelf o = getD zero8 s.ls.shelf o) ∧ OtherThreads s u t) ∧
  (∀ (s : State) (t : Thread) (e : Event) (reason : Nat),
    let h := s.th t
    let b := h.tsbpm.toNat % 2 ^ 23
    let u := s.fallback t e reason
    let k := u.th t
    (b + 256 ≤ 393216 * s.ls.ways → s.tsbFails b = false →
      k.pc = 0x10 ∧ k.pl = 3 ∧ k.fs = true ∧ k.quiet = true ∧ k.adv = true ∧ k.ss = false ∧ k.ipl = h.ipl ∧
      k.g = h.g ∧ k.lc = Vector.replicate 2 0 ∧ k.tsbpm = BitVec.ofNat 64 ((b + 256) % 2 ^ 23) ∧
      k.halted = h.halted ∧ u.shelfBytes b 256 = tsbBytes h e reason s.tile.tprog ∧ OtherThreads s u t) ∧
    (393216 * s.ls.ways < b + 256 ∨ s.tsbFails b = true →
      k = { h with halted := true } ∧ u.ready t = false ∧ u.ras.fatal = true ∧
      (s.ras.fatal = false → u.ras.reason = 4) ∧ u.ls.shelf = s.ls.shelf ∧ OtherThreads s u t))

/-- The layout of the TSB gives back what it saved: restoring a thread from the bytes that an entry wrote for another yields
that thread's registers, accumulators, pc, STAT, MODE and loop registers, and leaves FLG, TSTAT, SEED and RCNT as they are
(R135, R179, R187).

A descriptor is invalid with V = 0, a reserved bit, a level other than S and M, MASK above 3, SPM of 3, or FS at S; else
its fields are those of the layout (R177, R178). -/
def Obligations.TsbAndDescriptorLayout : Prop :=
  (∀ (h k : HThread) (e : Event) (reason : Nat) (w : Word), h.mode.toNat < 64 →
    let r := k.restore (tsbBytes h e reason w)
    (tsbBytes h e reason w).length = 256 ∧ (r.g, r.a, r.pc, r.stat, r.mode, r.lc, r.ls, r.le) =
      (h.g, h.a, h.pc, h.stat, h.mode, h.lc, h.ls, h.le) ∧
    (r.flg, r.tstat, r.seed, r.rcnt) = (k.flg, k.tstat, k.seed, k.rcnt)) ∧
  (∀ w0 w1 : Word,
    let v := w0.toNat
    let ok := v / 2 ^ 30 = 1 ∧ (v / 2 ^ 18 % 4 = 1 ∨ v / 2 ^ 18 % 4 = 3) ∧ v / 2 ^ 21 % 8 ≤ 3 ∧ v / 2 ^ 24 % 4 ≠ 3 ∧
      (v / 2 ^ 17 % 2 = 1 → v / 2 ^ 18 % 4 = 3)
    (¬ ok → decodeDesc w0 w1 = none) ∧
    (ok → decodeDesc w0 w1 = some
      { hpc := BitVec.ofNat 17 v
        fs := v / 2 ^ 17 % 2 = 1
        lvl := v / 2 ^ 18 % 4
        adv := v / 2 ^ 20 % 2 = 1
        mask := v / 2 ^ 21 % 8
        spm := v / 2 ^ 24 % 4
        ssh := v / 2 ^ 26 % 16
        spbase := w1 }))

/-- TRAP takes cause 0x80 + code with the next instruction's address; RETT at U raises the privilege trap; RETT with a
TSB outside the shelf, or one whose read finds poison or an uncorrectable error, raises cause 0xC4 with all ones, and
one with a STAT that may not be restored with that STAT, the TSB pointer unchanged (R180, R181, R187).

RETT with a readable, allowed TSB reads it past the stores that are still in the store buffer (log 83) and moves the
pointer back where ADV is set.  Where no asynchronous event waits that the restored STAT would let the thread take, or
the waiting one's handler is not one of this level and ADV, the thread is restored from the TSB, and a load that the
instruction before left pending still writes its register; else the new handler starts over the same TSB, of which only
the four words of the event change, and every register but STAT, g14 and the loop counts stays (R154, R187, R188).  The
level compared is the descriptor's; a cause that always enters M chains to M, whose pointer then follows that TSB (log
88).  A step trap that the first of a pair has left due goes with a restore or a chain, the model's choice (log 82). -/
def Obligations.TrapAndReturn : Prop :=
  ∀ (s : State) (t : Thread) (code : BitVec 6), Goes s t 2 →
    let h := s.th t
    let pl := h.pl
    let p := if pl = 1 then h.tsbps.toNat % 2 ^ 23 else h.tsbpm.toNat % 2 ^ 23
    let b := if h.adv then p - 256 else p
    let tsb := s.sbSeen b (s.shelfBytes b 256)
    exec (.trap t code) s = .next (s.sealed ((s.issued t).trapNext t 2 (0x80 + code.toNat))) ∧
    (pl = 0 → exec (.rett t) s = .next (s.sealed ((s.issued t).trap t 0x02 0 0x3580))) ∧
    let held := (h.adv = true → 256 ≤ p) ∧ b + 256 ≤ 393216 * s.ls.ways
    let clean := ∀ k, b / 64 ≤ k → k < b / 64 + 5 → lookup s.ls.shelfErrs k = none ∧ s.ls.shelfPois.contains k = false
    let st := word64At tsb 0xA8
    let allowed := statOk st = true ∧ wbits st 1 0 ≤ pl ∧ (wbit st 3 = true → wbits st 1 0 = 3)
    let fails (info : Word) : Prop := ∃ v, exec (.rett t) s = .next (s.sealed (v.trap t 0xC4 (BitVec.ofNat 64 b) info)) ∧
      OnlyThread s v t ∧ ((v.th t).stat, (v.th t).tsbps, (v.th t).tsbpm, (v.th t).pc) = (h.stat, h.tsbps, h.tsbpm, h.pc)
    let charged := (s.issued t).charge 0x1E 1 (some t)
    let waits (e : Event) : Prop := s.tileTrap t = false ∧
      (charged.setTh t { charged.th t with stat := st, stepTrap := false }).boundaryEv t = some e
    let base := h.hdtb.toNat % 2 ^ 23
    let table := h.mshb.toNat % 2 ^ 23 ≤ base ∧ base + 4096 ≤ h.mshl.toNat % 2 ^ 23 ∧ base + 4096 ≤ 393216 * s.ls.ways
    let handler (e : Event) (d : Desc) : Prop := table ∧
      (let w := s.sbSeen (base + 16 * e.cause) (s.shelfBytes (base + 16 * e.cause) 16)
       decodeDesc (word64At w 0) (word64At w 8) = some d) ∧
      d.lvl = pl ∧ d.adv = h.adv
    let restores : Prop := ∃ u, exec (.rett t) s = .next u ∧ OnlyThread s u t ∧
      let k := (if h.adv then h.setTsbp pl b else h).restore tsb
      (h.pair.bind (·.ld) = none → u.th t = k) ∧
      ∀ d v, h.pair.bind (·.ld) = some (d, v) → u.th t = { k with g := vset k.g d v }
    (pl ≠ 0 → ¬ held → fails 0xFFFF_FFFF) ∧
    let on (k : Nat) : Prop := b / 64 ≤ k ∧ k ≤ (b + 255) / 64
    (pl ≠ 0 → held → (∀ k, on k → lookup s.ls.shelfErrs k = none) → (∃ k, on k ∧ s.ls.shelfPois.contains k = true) →
      fails 0xFFFF_FFFF) ∧
    (pl ≠ 0 → held → ∀ k n, on k → lookup s.ls.shelfErrs k = some n → 3 ≤ n →
      (∀ j, on j → j ≠ k → lookup s.ls.shelfErrs j = none) →
      ∃ v, exec (.rett t) s = .next (s.sealed (v.trap t 0xC4 (BitVec.ofNat 64 b) 0xFFFF_FFFF)) ∧ OtherThreads s v t ∧
        ((v.th t).stat, (v.th t).tsbps, (v.th t).tsbpm, (v.th t).pc) = (h.stat, h.tsbps, h.tsbpm, h.pc) ∧
        v.ls = { s.ls with shelfErrs := drop s.ls.shelfErrs k, shelfPois := insertNat s.ls.shelfPois k } ∧
        checkRaised s v .lst ∧ v.frame .lst = ((s.frame .lst).captures (s.shelfBase + 64 * k)
          (6 + (15 - 64 * k / 393216) * 2 ^ 8 + k % 2 * 2 ^ 12 + t.val * 2 ^ 16) false).noted 2) ∧
    (pl ≠ 0 → held → clean → ¬ allowed → fails ((st.setWidth 32).setWidth 64)) ∧
    (pl ≠ 0 → held → clean → allowed → (∀ e, ¬ waits e) → restores) ∧
    (pl ≠ 0 → held → allowed → s.ls.shelfErrs = [] → s.ls.shelfPois = [] →
      ∀ e, waits e → (∀ d, ¬ handler e d) → restores) ∧
    (pl ≠ 0 → held → allowed → s.ls.shelfErrs = [] → s.ls.shelfPois = [] → ∀ e d, waits e → handler e d →
      let l := h.deliver
      let nl := if 0xC0 ≤ e.cause then 3 else pl
      ∃ u, exec (.rett t) s = .next u ∧ OtherThreads s u t ∧
        let k := u.th t
        k.pc = d.hpc ∧ k.lc = Vector.replicate 2 0 ∧ k.pl = nl ∧ k.fs = d.fs ∧ k.adv = d.adv ∧ k.ss = false ∧
        (k.quiet = true ↔ wbit st 2 = true ∨ d.mask = 2 ∨ 0xC0 ≤ e.cause) ∧
        (d.mask = 3 → k.ipl = 16) ∧ (d.mask = 1 → ∀ q, e.pri = some q → q < 16 → k.ipl = q + 1) ∧
        (d.mask ≠ 3 → d.mask ≠ 1 ∨ e.pri = none → k.ipl = wbits st 8 4) ∧
        (∀ r : GReg, r ≠ 14 → k.g[r] = l.g[r]) ∧ (d.spm = 1 → k.g[14] = d.spbase) ∧ (d.spm = 0 → k.g[14] = l.g[14]) ∧
        (d.spm = 2 → k.g[14] = d.spbase - BitVec.ofNat 64 (t.val * 2 ^ (12 + d.ssh))) ∧
        (k.a, k.mode, k.flg, k.tstat, k.seed, k.rcnt, k.ls, k.le) =
          (l.a, l.mode, l.flg, l.tstat, l.seed, l.rcnt, l.ls, l.le) ∧
        (d.adv = true → (if nl = 1 then k.tsbps else k.tsbpm) = BitVec.ofNat 64 ((b + 256) % 2 ^ 23) ∧
          (nl ≠ pl → k.tsbps = BitVec.ofNat 64 b)) ∧
        (d.adv = false → (k.tsbps, k.tsbpm) = (h.tsbps, h.tsbpm)) ∧
        u.shelfBytes (b + 0xD0) 32 = bytesOf 8 (e.cause + e.pri.getD 0 * 2 ^ 8) ++ bytesOf 8 e.addr.toNat
          ++ bytesOf 8 e.info.toNat ++ bytesOf 8 s.tile.tprog.toNat ∧
        (∀ o, o < b + 0xD0 ∨ b + 0xF0 ≤ o → getD zero8 u.ls.shelf o = getD zero8 s.ls.shelf o))

/-- The event taken at a boundary: the tile-fault trap, but not in a TSAVE that waits and saves the frozen queue (R192),
then single step, then QUIET overrun, then, with QUIET = 0, a machine check, the power-fail warning, and with
IRQ.CTRL.EN the interrupt of the pending enabled source that names the thread, of the highest priority of at least IPL
and, of those, the lowest number: cause 0x40 + n with its priority.  With no such source, or with EN = 0, there is none
(R172, R182, R184, R185, R384).

The events of a thread: HANDLER_ENTRY takes the event that waits, where the thread stands at a boundary of the running
core and has neither to stop nor to be reset, nor has just entered a handler (log 22); QUIET_OVERRUN notes level and
count, at once where QLIM is at or below the count (log 116) (R173, R183, R185, R286, R358).  Which waits are a boundary
is R164's table, with XINV's wait for earlier stores among them (log 115).  An instruction of a thread that is not ready
does not issue (log 1); where an event waits at a boundary at which none has been taken, or the thread is to stop or to
be reset, it is not ready; a first word outside the level's bounds raises cause 0x08, and with every word within them
one whose parity fails 0xC0 (R152, R158, R172, R185, R243). -/
def Obligations.ThreadEvents : Prop :=
  (∀ (s : State) (t : Thread),
    let h := s.th t
    let tile : Prop := s.tile.trap = true ∧ s.tile.owner = some t ∧ ∀ r, h.wait = .ctx r → r.save = false
    (tile → s.boundaryEv t = some { cause := 0x0C, pri := none, addr := s.tile.faultAddr, info := 0 }) ∧
    (¬ tile → h.stepTrap = true → s.boundaryEv t = some { cause := 0x0F, pri := none, addr := 0, info := 0 }) ∧
    (¬ tile → h.stepTrap = false → ∀ p n, h.quietOver = some (p, n) →
      s.boundaryEv t = some { cause := 0xC3, pri := none, addr := 0, info := BitVec.ofNat 64 (p.toNat + n * 2 ^ 32) }) ∧
    (¬ tile → h.stepTrap = false → h.quietOver = none → h.quiet = true → s.boundaryEv t = none) ∧
    (¬ tile → h.stepTrap = false → h.quietOver = none → h.quiet = false → s.mcThread = t.val →
      (s.irq.mcLatch = true → s.boundaryEv t = some { cause := 0xC1, pri := none, addr := 0, info := 0 }) ∧
      (s.irq.mcLatch = false → s.irq.pfLatch = true →
        s.boundaryEv t = some { cause := 0xC2, pri := none, addr := 0, info := 0 })) ∧
    (¬ tile → h.stepTrap = false → h.quietOver = none → h.quiet = false →
      (s.mcThread = t.val → s.irq.mcLatch = false ∧ s.irq.pfLatch = false) →
      let names (m : Nat) : Prop := m < 64 ∧ s.srcPending m = true ∧ s.srcEn m = true ∧ s.srcThr m = t.val ∧ h.ipl ≤ s.srcPri m
      (s.en .irq = true → ∀ n, names n → (∀ m, names m → s.srcPri m < s.srcPri n ∨ (s.srcPri m = s.srcPri n ∧ n ≤ m)) →
        s.boundaryEv t = some { cause := 0x40 + n, pri := some (s.srcPri n), addr := 0, info := 0 }) ∧
      (s.en .irq = false ∨ (∀ m, ¬ names m) → s.boundaryEv t = none)) ∧
    (∀ n p, s.bestSource t h.ipl = some (n, p) →
      s.srcPending n = true ∧ s.srcEn n = true ∧ s.srcThr n = t.val ∧ p = s.srcPri n ∧ h.ipl ≤ p ∧
      ∀ m, m < 64 → s.srcPending m = true → s.srcEn m = true → s.srcThr m = t.val →
        s.srcPri m < p ∨ (s.srcPri m = p ∧ n ≤ m))) ∧
  (∀ (s : State) (t : Thread),
    let h := s.th t
    (∀ e, s.boundaryEv t = some e → s.running = true → h.boundary = true → h.stopped = false → h.halted = false →
      h.sleep = .awake ∨ h.stepTrap = true → s.runBit t = true → h.resetReq = false → h.entered = false →
      exec (.handlerEntry t) s = .next (s.sealed
        (((s.abandon t).setTh t { (s.abandon t).th t with sleep := .awake }).enter t e))) ∧
    (s.running = false ∨ h.boundary = false ∨ h.stopped = true ∨ h.halted = true ∨ s.runBit t = false ∨
        h.resetReq = true ∨ h.entered = true →
      exec (.handlerEntry t) s = .next s) ∧
    (s.boundaryEv t = none → exec (.handlerEntry t) s = .next s) ∧
    (h.quiet = true → h.pl ≠ 3 → h.qlim ≠ 0 → h.quietFired = false → h.qlim.toNat ≤ h.quietCnt →
      exec (.quietOverrun t) s = .next (s.setTh t
        { h with quietFired := true, quietOver := some (BitVec.ofNat 2 h.pl, h.quietCnt) })) ∧
    (h.quiet = false ∨ h.pl = 3 ∨ h.qlim = 0 ∨ h.quietFired = true ∨ h.quietCnt < h.qlim.toNat →
      exec (.quietOverrun t) s = .next s) ∧
    (∀ i : Instr, i.wf = true → issuesOn i = some t →
      let w := h.pc.toNat
      let sound := oddOver (s.pmWord w) [0, 1, 2, 3, 4, 5, 6, 14] = true ∧ oddOver (s.pmWord w) [7, 8, 9, 10, 11, 12, 13, 15] = true
      (s.ready t = false → exec i s = .refused .threadNotReady) ∧
      (h.pair = none → (h.entered = false ∧ s.boundaryEv t ≠ none) ∨ s.runBit t = false ∨ h.resetReq = true →
        s.ready t = false) ∧
      (s.ready t = true → h.fs = false → s.pmAllowed h.pl w = false →
        exec i s = .next (s.sealed (s.fetchTrap t 0x08 w))) ∧
      (s.ready t = true → h.fs = false → (∀ k, k < 3 → s.pmAllowed h.pl ((w + k) % 2 ^ 17) = true) → ¬ sound →
        exec i s = .next (s.sealed (s.fetchTrap t 0xC0 w)))))

/-! ## Tile unit -/

/-- Every tile and Whisk instruction that takes an entry of the queue: the issue checks in the order of R85, then the stall
on a quiescing unit or a full queue; else the entry, with its words and the register values of this moment, joins the end of
the queue and the thread goes on (R83 to R85, R112). -/
def Obligations.QueuedInstructions : Prop :=
  ∀ (i : Instr) (s : State) (t : Thread) (n xop opf x : Nat) (v w : Word),
    queuedOperands i s = some (t, n, xop, opf, x, v, w) → Goes s t n →
    let mine := s.tile.owner = some t
    let room := s.quiescing .til = false ∧ s.tile.queue.length < 32
    (¬ mine → exec i s = .next (s.sealed ((s.issued t).trap t 0x09 0 0))) ∧
    (mine → s.en .til = false → exec i s = .next (s.sealed ((s.issued t).trap t 0x0A 0 0))) ∧
    (mine → s.en .til = true → s.tile.frozen = true →
      exec i s = .next (s.sealed ((s.issued t).trap t 0x0B 0 0))) ∧
    (mine → s.en .til = true → s.tile.frozen = false → ¬ room →
      exec i s = .next (s.setTh t { s.th t with wait := .stall, entered := false })) ∧
    (mine → s.en .til = true → s.tile.frozen = false → room → ∃ u, exec i s = .next u ∧
      u.th t = (s.th t).done n ∧ OnlyThread { s with tile := u.tile } u t ∧
      u.tile = { s.tile with
        queue := s.tile.queue ++ [entryMade s t xop opf x v w]
        nextId := s.tile.nextId + 1 })

/-- TCLAIM gives 1 and the unit where it is free or the thread's own, and 0 otherwise; with FORCE at U it raises the
privilege trap, and else takes the unit at once where the queue is empty or frozen with its trap delivered, or waits for
that (R81, R85). -/
def Obligations.TileClaim : Prop :=
  ∀ (s : State) (t : Thread) (gd : GReg),
    let h := s.th t
    let free := s.tile.owner = none ∨ s.tile.owner = some t
    let spare := s.tile.queue = [] ∨ (s.tile.frozen = true ∧ s.tile.trap = false)
    let takes (i : Instr) : Prop := ∃ u, exec i s = .next u ∧ u.th t = (h.wrote gd 1).next 2 ∧
      u.tile = { s.tile with owner := some t } ∧ OnlyThread { s with tile := u.tile } u t
    (Goes s t 2 → free → takes (.tclaim t gd)) ∧
    (Goes s t 2 → ¬ free → ∃ u, exec (.tclaim t gd) s = .next u ∧
      u.th t = (h.wrote gd 0).next 2 ∧ OnlyThread s u t) ∧
    (Goes s t 2 → h.pl = 0 → exec (.tclaimForce t gd) s =
      .next (s.sealed ((s.issued t).trap t 0x02 0 (BitVec.ofNat 64 (0x3000 + 0x20 * 0x40 + gd.val + 16))))) ∧
    (Goes s t 2 → h.pl ≠ 0 → free ∨ spare → takes (.tclaimForce t gd)) ∧
    (Goes s t 2 → h.pl ≠ 0 → ¬ free → ¬ spare → ∃ u, exec (.tclaimForce t gd) s = .next u ∧
      u.th t = { h with wait := .tclaimForce gd, entered := false } ∧ OnlyThread s u t) ∧
    (h.wait = .tclaimForce gd → spare → takes (.tclaimForceDone t)) ∧
    (h.wait = .tclaimForce gd → ¬ spare → exec (.tclaimForceDone t) s = .next s)

/-- TREL of the unit and the TSYNC wait end at once where the queue is empty (and, for TSYNC, no drain runs), and else
when that has come; TSYNC resume thaws a frozen queue; TSYNC discard thaws it and removes the entries that have not
started; both clear a tile-fault trap that has not been delivered, which for resume is the model's choice (log 56), as
is that a TREL of the unit which a forced claim has overtaken releases it all the same (log 113);
neither changes a queue that is not frozen (R81, R102, R106, R133).  Each faces the checks of R85 before: a thread that
does not own the unit, a disabled unit, and for the first two a frozen queue trap, and a quiescing unit holds the
thread. -/
def Obligations.TileSync : Prop :=
  ∀ (s : State) (t : Thread),
    let h := s.th t
    let able := s.tile.owner = some t ∧ s.en .til = true
    let go := able ∧ s.tile.frozen = false ∧ s.quiescing .til = false
    let idle := s.tile.queue = [] ∧ s.tile.drains = []
    let ends (i : Instr) (k : HThread) (T : Tile) : Prop := ∃ u, exec i s = .next u ∧
      u.th t = k.done 2 ∧ u.tile = T ∧ OnlyThread { s with tile := u.tile } u t
    let waits (i : Instr) (w : Wait) : Prop := ∃ u, exec i s = .next u ∧
      u.th t = { h with wait := w, entered := false } ∧ OnlyThread s u t
    let free : Tile := { s.tile with owner := none }
    let thawed : Tile := { s.tile with frozen := false, trap := false, tprog := setBit s.tile.tprog 63 false }
    let seen : HThread := { h with tstatSync := h.tstat }
    let each (p : Instr → Prop) : Prop := p (.trelUnit t) ∧ p (.tsyncWait t)
    let four (p : Instr → Prop) : Prop := each p ∧ p (.tsyncResume t) ∧ p (.tsyncDiscard t)
    let traps (c : Nat) (i : Instr) : Prop := exec i s = .next (s.sealed ((s.issued t).trap t c 0 0))
    let stalls (i : Instr) : Prop := exec i s = .next (s.setTh t { h with wait := .stall, entered := false })
    (Goes s t 2 → s.tile.owner ≠ some t → four (traps 0x09)) ∧
    (Goes s t 2 → s.tile.owner = some t → s.en .til = false → four (traps 0x0A)) ∧
    (Goes s t 2 → able → s.tile.frozen = true → each (traps 0x0B)) ∧
    (Goes s t 2 → able → s.quiescing .til = true → (s.tile.frozen = false → each stalls) ∧
      stalls (.tsyncResume t) ∧ stalls (.tsyncDiscard t)) ∧
    (Goes s t 2 → go → s.tile.queue = [] → ends (.trelUnit t) h free) ∧
    (Goes s t 2 → go → s.tile.queue ≠ [] → waits (.trelUnit t) .trelUnit) ∧
    (h.wait = .trelUnit → s.tile.queue = [] → ends (.trelUnitDone t) h free) ∧
    (h.wait ≠ .trelUnit ∨ s.tile.queue ≠ [] → exec (.trelUnitDone t) s = .next s) ∧
    (Goes s t 2 → go → idle → ends (.tsyncWait t) seen s.tile) ∧
    (Goes s t 2 → go → ¬ idle → waits (.tsyncWait t) .tsync) ∧
    (h.wait = .tsync → idle → ends (.tsyncWaitDone t) seen s.tile) ∧
    (h.wait ≠ .tsync ∨ ¬ idle → exec (.tsyncWaitDone t) s = .next s) ∧
    (Goes s t 2 → able → s.quiescing .til = false → s.tile.frozen = false →
      ends (.tsyncResume t) h s.tile ∧ ends (.tsyncDiscard t) h s.tile) ∧
    (Goes s t 2 → able → s.quiescing .til = false → s.tile.frozen = true → ends (.tsyncResume t) h thawed ∧
      ends (.tsyncDiscard t) h { thawed with queue := s.tile.queue.filter (·.started), deferred := false })

/-- TILE_ENTRY_START: an entry that the Scale does not admit is deferred with EVENT.DEFER; one whose checks fail freezes the
queue, with the trap pending, TPROG and the fault address set, and is not started; TZERO, TREL and TCFG complete in the
step (R62, R63, R81, R87, R91 to R93, R106, R107, R293, R295).  That admission and deferral come before the entry's checks,
also of an entry whose checks would fail, is the model's reading (log 50).

The checks and their order, with cause, detail, ARG and PROG of the first that fails, are those of R68, R98, R100, R101,
R124 and R393; where several trays fail one check of R124, the tray named is the model's choice (log 90).  The estimate is
that of R293; it is taken from RSV where that covers it and else from BAL, which does not fall below its least value. -/
def Obligations.EntryStarts : Prop :=
  (∀ (s : State) (q : QEntry), (q.xop = 0x21 → q.opf = 0 ∨ q.opf = 0x10) →
    ((∀ c ∈ entryChecks s q, c.1) → s.entryFault q = none) ∧
    (∀ (before after : List EntryCheck) (ok : Prop) (c d a p : Nat), entryChecks s q = before ++ (ok, c, d, a, p) :: after →
      (∀ x ∈ before, x.1) → ¬ ok → s.entryFault q = some { cause := c, detail := d, arg := a, prog := p }) ∧
    s.estimate (s.entryItems q) = entryEstimate s q) ∧
  (∀ (s : State) (q : QEntry), s.nextEntry = some q → s.mayStart q = true →
    let c := s.estimate (s.entryItems q)
    ∃ u, exec .tileEntryStart s = .next u ∧
      (s.en .scl = true ∧ c ≤ s.scl.rsv → u.scl.rsv = s.scl.rsv - c ∧ u.scl.bal = s.scl.bal) ∧
      (s.en .scl = false ∨ (s.scl.rsv < c ∧ -s.ovd ≤ s.scl.bal - c) →
        u.scl.rsv = s.scl.rsv ∧ u.scl.bal = max (-(16 * 2 ^ 47)) (s.scl.bal - c)) ∧
      (¬ admits s c → u.scl.rsv = s.scl.rsv ∧ u.scl.bal = s.scl.bal)) ∧
  ∀ (s : State) (q : QEntry), s.nextEntry = some q →
    let go := s.mayStart q = true ∧ admits s (s.estimate (s.entryItems q))
    let T : TrayNo := ⟨q.opf % 16, by omega⟩
    let T' : TrayNo := ⟨q.x % 16, by omega⟩
    let ends (tile : Tile) : Prop := ∃ u, exec .tileEntryStart s = .next u ∧ u.tile = tile ∧ OnlyTile s u
    let zeroed (X : TrayNo) (y : Tray) : Tile := { s.tile with
      queue := queueWithout s q
      deferred := false
      trays := vset s.tile.trays X y
      data := s.tile.data.filter fun c => c.1 / 4096 ≠ X.val
      badRow := s.tile.badRow.filter fun k => k / 32 ≠ X.val }
    (s.mayStart q = false → exec .tileEntryStart s = .next s) ∧
    (s.mayStart q = true → ¬ admits s (s.estimate (s.entryItems q)) →
      exec .tileEntryStart s = .next (({ s with tile := { s.tile with deferred := true } }).event .scl 4)) ∧
    (go → ∀ f, s.entryFault q = some f → ∃ u, exec .tileEntryStart s = .next u ∧
      OnlyTile s (u.setFrame .til { u.frame .til with event := (s.frame .til).event }) ∧
      wbit (u.frame .til).event 0 = true ∧
      u.tile = { s.tile with
        queue := s.tile.queue.map fun x => if x.id = q.id
          then { q with started := false, safe := false, prog := if q.xop = 0x24 ∨ q.xop = 0x25 then f.prog else 0 } else x
        frozen := true
        trap := true
        tprog := BitVec.ofNat 64 (q.pc.toNat + q.xop % 16 * 2 ^ 20 + f.prog % 4096 * 2 ^ 24 + f.cause * 2 ^ 36
          + f.detail * 2 ^ 44 + f.arg % 64 * 2 ^ 52 + 2 ^ 63)
        faultAddr := f.addr
        deferred := false }) ∧
    (go → q.xop = 0x23 → wbits q.v1 63 13 = 0 → ∀ h : q.opf < 48, ends { s.tile with
      queue := queueWithout s q
      deferred := false
      elems := s.tile.elems.filter fun e => e.1 / 1024 ≠ q.opf
      badElem := s.tile.badElem.filter fun k => k / 1024 ≠ q.opf
      slots := s.tile.slots.set q.opf
        { fp := wbit q.v1 10
          anchor := BitVec.ofNat 10 q.v1.toNat
          rnd := BitVec.ofNat 2 (q.v1.toNat / 2 ^ 11)
          seed := q.v2
          fold := 0
          p := 0
          d := 0
          inuse := true
          sat := false
          inx := false } h }) ∧
    (go → q.xop = 0x21 → q.opf = 0x10 → ∀ h : q.x % 64 < 48, ends { s.tile with
      queue := queueWithout s q
      deferred := false
      slots := s.tile.slots.set (q.x % 64) { s.tile.slots[q.x % 64] with inuse := false } h }) ∧
    (go → q.xop = 0x21 → q.opf = 0 → (s.tile.trays[T']).inuse = true →
      ends (zeroed T' { s.tile.trays[T'] with inuse := false, marks := 0 })) ∧
    (go → q.xop = 0x21 → q.opf = 0 → (s.tile.trays[T']).inuse = false →
      ends { s.tile with queue := queueWithout s q, deferred := false }) ∧
    (go → q.xop = 0x22 → ends (zeroed T
      { rows := q.x % 32 + 1, bytes := 4 * (q.x / 32 % 32 + 1), inuse := false, marks := 0 }))

/-- TILE_ENTRY_START of an entry that runs over time and passes its checks: a TMMA or TMMS takes the array with the slot's
fold factor set; a TLD or TST joins the memory path with its pages in the order in which rows first touch them; a TMOV takes
the tray path; a Whisk instruction with its broadcast rows latched takes the Whisk (R34, R36, R86, R94, R99, R101, R123).

The run of a TLD or TST holds each page of the rows from PROG on, with the first row that touches it, in the order of the
bytes of those rows; one with no row left leaves the queue at once (R94, R109). -/
def Obligations.EntryRuns : Prop :=
  (∀ (s : State) (q : QEntry),
    let m := s.newRun q
    let T : TrayNo := ⟨q.opf % 16, by omega⟩
    (m.id, m.load, m.tray, m.va, m.st, m.lvl, m.thr, m.row0, m.rt, m.bt) =
      (q.id, decide (q.xop = 0x24), T, q.v1, q.v2, q.lvl, q.thr, q.prog, (s.tray T).rows, (s.tray T).bytes) ∧
    (m.xl, m.issued, m.lines, m.touched, m.flt) = ([], [], [], [], none) ∧
    (1 ≤ m.bt → m.bt ≤ 128 →
      (∀ p r, (p, r) ∈ m.pages ↔ m.row0 ≤ r ∧ r < m.rt ∧ m.touches (2 ^ 14) r p ∧
        ∀ r', m.row0 ≤ r' → m.touches (2 ^ 14) r' p → r ≤ r') ∧
      (m.pages.map (·.1)).Pairwise (m.before (2 ^ 14)))) ∧
  ∀ (s : State) (q : QEntry), s.nextEntry = some q → s.mayStart q = true →
    admits s (s.estimate (s.entryItems q)) → s.entryFault q = none →
    let T : Tile := { s.tile with queue := queueRuns s q, deferred := false }
    let ends (tile : Tile) : Prop := ∃ u, exec .tileEntryStart s = .next u ∧ u.tile = tile ∧ OnlyTile s u
    (q.xop = 0x26 ∨ q.xop = 0x27 →
      let i := s.mmaOf q
      let F := if i.m ≤ 8 then 4 else if i.m ≤ 16 then 2 else 1
      let n : Fin 48 := ⟨q.opf % 48, by omega⟩
      ends { T with
        slots := vset s.tile.slots n { s.tile.slots[n] with fold := F }
        array := some
          { id := q.id
            slot := n
            fa := BitVec.ofNat 4 (q.x / 2 ^ 8)
            fb := BitVec.ofNat 4 (q.x / 2 ^ 12)
            a := ⟨q.x % 16, by omega⟩
            b := ⟨q.x / 2 ^ 4 % 16, by omega⟩
            sa := ⟨q.x / 2 ^ 16 % 16, by omega⟩
            sb := ⟨q.x / 2 ^ 20 % 16, by omega⟩
            mt := ⟨q.x / 2 ^ 24 % 16, by omega⟩
            sparse := q.xop = 0x27
            m := i.m
            n := i.n
            k := i.k
            fold := F
            step := 0
            steps := (if q.x / 2 ^ 8 % 16 = 8 then 2 else 1) * ((i.k / i.kw + F - 1) / F) } }) ∧
    (q.xop = 0x24 ∨ q.xop = 0x25 → (s.newRun q).pages ≠ [] → ends { T with mem := s.tile.mem ++ [s.newRun q] }) ∧
    (q.xop = 0x24 ∨ q.xop = 0x25 → (s.newRun q).pages = [] → (∀ x ∈ s.tile.mem, x.id ≠ q.id) →
      ends { s.tile with queue := queueWithout s q, deferred := false }) ∧
    (q.xop = 0x29 → ends { T with
      mov := some
        { id := q.id
          dst := ⟨q.opf % 16, by omega⟩
          src := ⟨q.x % 16, by omega⟩
          op := BitVec.ofNat 2 (q.x / 2 ^ 4) } }) ∧
    (0x30 ≤ q.xop → q.xop ≤ 0x3B → s.tile.badRow = [] →
      let B : TrayNo := ⟨q.x / 2 ^ 4 % 16, by omega⟩
      let C : TrayNo := ⟨q.x / 2 ^ 8 % 16, by omega⟩
      let b : Bool := q.xop ≤ 0x35 && q.x / 2 ^ 20 % 2 = 1
      let c : Bool := (q.xop = 0x32 || q.xop = 0x35) && q.x / 2 ^ 22 % 2 = 1
      ends { T with
        whisk := some
          { id := q.id
            w0 := q.w0
            e1 := q.e1
            e2 := q.e2
            v1 := q.v1
            rel := 0
            rows := (s.tile.trays[q.opf % 16]).rows
            lat := if q.xop = 0x39 then (if 9 ≤ q.x / 2 ^ 16 % 16 ∧ q.x / 2 ^ 16 % 16 ≤ 14 then 3 else 2)
              else if q.xop = 0x3B then 7 else if 0x36 ≤ q.xop ∧ q.xop ≤ 0x38 then 5 else 2
            latchB := if b then s.rowBytes B 0 else []
            latchC := if c then s.rowBytes C 0 else []
            latchPois := (b && s.mark B 0) || (c && s.mark C 0)
            pipe := []
            sat := false
            inx := false
            inv := false } })

/-- Writing a tray row of the tray's length: the row reads back, its mark is the one given, the tray is in use, its shape,
the other marks and every other row of every tray stay, and the storage keeps its canonical form (R77 to R79).

TMOV_COMPLETE: a copy gives the destination every row, mark and the in-use flag of the source; a transpose puts element r
of source row c at column c of destination row r; no other tray changes and the entry leaves (R101). -/
def Obligations.TrayRowsAndMoves : Prop :=
  (∀ (s : State) (T : TrayNo) (r : Nat) (bs : List Byte) (m : Bool),
    let x := s.tray T
    bs.length = x.bytes → (r + 1) * x.bytes ≤ 4096 → r < 32 →
    let u := s.putRow T r bs m
    u.rowBytes T r = bs ∧ (u.tray T).inuse = true ∧ (u.tray T).rows = x.rows ∧ (u.tray T).bytes = x.bytes ∧
    (∀ k, k < 32 → u.mark T k = if k = r then m else s.mark T k) ∧
    (∀ X, X ≠ T → u.tray X = s.tray X) ∧
    (∀ X k, (k + 1) * (s.tray X).bytes ≤ 4096 → X ≠ T ∨ k ≠ r → u.rowBytes X k = s.rowBytes X k) ∧
    (canon zero8 s.tile.data = true → canon zero8 u.tile.data = true)) ∧
  (∀ (s : State) (m : MovRun), s.tile.mov = some m → s.running = true → s.tile.badRow = [] → m.dst ≠ m.src →
    let S := s.tray m.src
    let D := s.tray m.dst
    let e := if m.op = 1 then 1 else if m.op = 2 then 2 else 4
    S.rows ≤ 32 → S.bytes ≤ 128 → D.rows ≤ 32 → D.bytes ≤ 128 →
    ∃ u, exec .tmovComplete s = .next u ∧ OnlyTile s u ∧ u.tile.mov = none ∧
      u.tile.queue = s.tile.queue.filter (fun x => x.id ≠ m.id) ∧ u.tile.slots = s.tile.slots ∧
      u.tile.elems = s.tile.elems ∧ u.tile.shadow = s.tile.shadow ∧
      (∀ X, X ≠ m.dst → u.tray X = s.tray X ∧
        ∀ r, (r + 1) * (s.tray X).bytes ≤ 4096 → u.rowBytes X r = s.rowBytes X r) ∧
      (m.op = 0 → D.rows = S.rows → D.bytes = S.bytes →
        (u.tray m.dst).inuse = S.inuse ∧ (u.tray m.dst).rows = D.rows ∧ (u.tray m.dst).bytes = D.bytes ∧
        ∀ r, r < S.rows → u.rowBytes m.dst r = s.rowBytes m.src r ∧ u.mark m.dst r = s.mark m.src r) ∧
      (m.op ≠ 0 → D.rows * e = S.bytes → D.bytes = S.rows * e → (∀ r, r < S.rows → s.mark m.src r = false) →
        (u.tray m.dst).rows = D.rows ∧ (u.tray m.dst).bytes = D.bytes ∧
        ∀ r c k, r < D.rows → c < S.rows → k < e → u.mark m.dst r = false ∧
          (u.rowBytes m.dst r)[c * e + k]? = (s.rowBytes m.src c)[r * e + k]?))

/-- SKILLET_STEP: each busy PE adds the products of its chunk to its element of the slot, by the slot's mode; no other
element changes; the slot's sticky flags gain those of the elements (an INT8 zero counts as +0 among them, log 87); the last
step advances P by K and lets the entry leave (R30, R33, R35, R44, R51, R99).

The products are those of R29 (dense) and R40 (sparse) at their reduction positions, of element values under R25 and R26,
NaN where a row is marked; the sign of a zero product of an INT8 zero is the model's choice (log 87).  One step of an
FP-mode element is the exact sum of R52 rounded by rne32, with the flags of R53.

One step of an exact-mode element: a NaN marker stays; a NaN product, or infinities of both signs, make it the marker;
an infinity makes it the greatest magnitude of its sign; else the rounded products are added exactly and the sum is clamped
to that magnitude, with the sticky flags of R43 and R44; a product rounds by the slot's mode in units of the anchor, with
the draw of R72 at the element's row and column and the position P + p (R44, R45, R72). -/
def Obligations.ArraySteps : Prop :=
  (∀ (s : State) (r : ArrayRun), s.tile.array = some r → s.running = true → s.tile.badRow = [] → s.tile.badElem = [] →
    r.fold = 1 ∨ r.fold = 2 ∨ r.fold = 4 → r.m ≤ 32 / r.fold → r.n ≤ 32 →
    let sl := s.tile.slots[r.slot]
    let H := 32 / r.fold
    let st := if r.fa = 8 then r.step / 2 else r.step
    let adds := r.fa ≠ 8 ∨ r.step % 2 = 1
    let key (i j : Nat) := 1024 * r.slot.val + 32 * i + j
    let prods (c row col : Nat) := chunkProds r.sparse r.fa.toNat r.fb.toNat r.kw c (s.opRow r.a r.sa r.fa.toNat row)
      (s.opRow r.b r.sb r.fb.toNat col) (ofBytes (s.rowBytes r.mt row)) (r.sparse && s.mark r.mt row)
    let busy (k : Nat) : Prop := adds ∧ ∃ g row col, g < r.fold ∧ row < r.m ∧ col < r.n ∧
      st * r.fold + g < r.k / r.kw ∧ k = key (g * H + row) col
    ∃ u, exec .skilletStep s = .next u ∧ OnlyTile s u ∧
      u.tile.trays = s.tile.trays ∧ u.tile.data = s.tile.data ∧ u.tile.shadow = s.tile.shadow ∧
      (adds → ∀ g row col, g < r.fold → row < r.m → col < r.n → st * r.fold + g < r.k / r.kw →
        u.elem (key (g * H + row) col) =
          (slotStep sl row col (s.elem (key (g * H + row) col)) (prods (st * r.fold + g) row col)).n) ∧
      (∀ k, ¬ busy k → u.elem k = s.elem k) ∧
      (∀ i, i ≠ r.slot → u.slot i = s.slot i) ∧
      (let v := u.slot r.slot
       let step (g row col : Nat) := slotStep sl row col (s.elem (key (g * H + row) col)) (prods (st * r.fold + g) row col)
       let some' (p : Nat → Nat → Nat → Prop) : Prop :=
         adds ∧ ∃ g row col, g < r.fold ∧ row < r.m ∧ col < r.n ∧ st * r.fold + g < r.k / r.kw ∧ p g row col
       (v.fp, v.anchor, v.rnd, v.seed, v.fold, v.d, v.inuse) =
         (sl.fp, sl.anchor, sl.rnd, sl.seed, sl.fold, sl.d, sl.inuse) ∧
       (v.sat = true ↔ sl.sat = true ∨ some' fun g row col => (step g row col).sat = true) ∧
       (v.inx = true ↔ sl.inx = true ∨ some' fun g row col => (step g row col).inx = true)) ∧
      (r.step + 1 < r.steps → u.tile.array = some { r with step := r.step + 1 } ∧ u.tile.queue = s.tile.queue ∧
        (u.slot r.slot).p = sl.p) ∧
      (r.steps ≤ r.step + 1 → u.tile.array = none ∧ u.tile.queue = s.tile.queue.filter (fun x => x.id ≠ r.id) ∧
        (u.slot r.slot).p = sl.p + BitVec.ofNat 47 r.k)) ∧
  (∀ (sl : Slot) (row col : Nat) (n : BitVec 96) (ps : List (Nat × Val)),
    let o := exactStep sl row col n ps
    let big : Int := 2 ^ 95 - 1
    let nan : BitVec 96 := BitVec.intMin 96
    let units := ps.map (windowUnits sl row col)
    let sum := n.toInt + (units.map (·.1)).sum
    (n = nan → o = { n := nan }) ∧
    (n ≠ nan → (∃ p ∈ ps, p.2 = .nan) ∨ ((∃ p ∈ ps, p.2 = .inf true) ∧ ∃ p ∈ ps, p.2 = .inf false) →
      o = { n := nan, sat := true }) ∧
    (n ≠ nan → (∀ p ∈ ps, p.2 ≠ .nan ∧ p.2 ≠ .inf true) → (∃ p ∈ ps, p.2 = .inf false) →
      o = { n := BitVec.ofInt 96 big, sat := true }) ∧
    (n ≠ nan → (∀ p ∈ ps, p.2 ≠ .nan ∧ p.2 ≠ .inf false) → (∃ p ∈ ps, p.2 = .inf true) →
      o = { n := BitVec.ofInt 96 (-big), sat := true }) ∧
    (n ≠ nan → (∀ p ∈ ps, p.2 ≠ .nan ∧ p.2 ≠ .inf true ∧ p.2 ≠ .inf false) →
      o.n.toInt = max (-big) (min big sum) ∧ (o.sat = true ↔ big < sum ∨ sum < -big) ∧
      (o.inx = true ↔ ∃ x ∈ units, x.2 = true))) ∧
  (∀ (sl : Slot) (row col p : Nat) (neg : Bool) (m : Nat) (e : Int),
    let r : Rnd := if sl.rnd = 0 then .rne else if sl.rnd = 1 then .rtz else if sl.rnd = 2 then .odd else .stoch
    let g := sl.anchor.toInt - 64
    let y := windowUnits sl row col (p, .fin neg m e)
    y.1 = inUnits r (drawOf sl.seed.toNat row col ((sl.p.toNat + p) % 2 ^ 47)) (if neg then -m else m) e g ∧
      (y.2 = true ↔ (y.1 : ℚ) * 2 ^ g ≠ (Val.fin neg m e).rat)) ∧
  (∀ (sl : Slot) (row col : Nat) (n : BitVec 96) (ps : List (Nat × Val)), sl.fp = true →
    let o := slotStep sl row col n ps
    ∃ x v ovf, ElementIs 8 (n.toNat % 2 ^ 32) x ∧ SumIs (x :: ps.map (·.2)) v ∧
      ConvertIs 8 v .rne false 0 o.n.toNat ovf o.inx ∧ (o.sat = true ↔ ¬ v.isFin ∨ ovf = true)) ∧
  (∀ (fa fb kw c mt : Nat) (bad : Bool) (a b : OpRow), fa < 15 → fb < 15 →
    let value (x : OpRow) (code e pos : Nat) (v : Val) : Prop :=
      if x.bad = true then v = .nan else OperandIs code x.row x.scales e pos v
    let dense := chunkProds false fa fb kw c a b mt bad
    let sparse := chunkProds true fa fb kw c a b mt bad
    (dense.length = kw ∧ ∀ i, i < kw → ∃ x y v, value a fa (c * kw + i) (c * kw + i) x ∧
      value b fb (c * kw + i) (c * kw + i) y ∧ ProductIs x y v ∧ dense[i]? = some (c * kw + i, v)) ∧
    (kw % 4 = 0 → sparse.length = kw / 2 ∧ ∀ i j, i < kw / 4 → j < 2 →
      let q := c * (kw / 4) + i
      let pos := 4 * q + mt / 16 ^ q % 16 / 4 ^ j % 4
      ∃ x y v, (if bad = true then x = .nan else value a fa (2 * q + j) (4 * q) x) ∧ value b fb pos pos y ∧
        ProductIs x y v ∧ sparse[2 * i + j]? = some (pos, v))) ∧
  (∀ (s : State) (T S : TrayNo) (code r : Nat),
    let x := s.opRow T S code r
    x.row = ofBytes (s.rowBytes T r) ∧ (mxCode code → x.scales = ofBytes (s.rowBytes S r)) ∧
    (x.bad = true ↔ s.mark T r = true ∨ (mxCode code ∧ s.mark S r = true)))

/-- A drain: its copy step combines the slot's partial elements into the shadow set, ORs the combine's flags into the
slot's, counts D and, with REL, frees the slot; each DRAIN_STREAM_ROW writes the row in the latch and converts the next
one; DRAIN_COMPLETE writes the last, ORs the sticky flags into DRAIN_FLAGS and the owner's TSTAT, and lets the entry
leave (R54, R63 to R65, R69, R73, R133).

The combine: one partial is the element; two or four partials of an FP-mode element add in pairs, each sum exact and
rounded by rne32, with the saturation flag of an overflow, a NaN or an infinity and the inexact flag of a rounding;
those of an exact-mode element add exactly and the sum is clamped once, and a NaN marker among them makes the marker;
either outcome sets the saturation flag, for a single partial as well (R52 to R55, R65).

A converted row: each value is the shadow element, scaled and fused exactly (R69; NaN from a marked tray row), converted
by R70, or as an MX block by R71, with the draws of R72 and the flags of R73 (a value beyond the largest finite one
counts as rounded: log 89); the elements lie side by side from bit 0 of the row, the rest of which is zero (R24, R65,
R69). -/
def Obligations.DrainSteps : Prop :=
  (∀ (s : State) (d : DrainRun) (r : Nat), r < 32 → 1 ≤ d.d.toNat →
    let c := drainCw d.cw
    let rnd : Rnd := if d.rnd = 0 then .rne else if d.rnd = 1 then .rtz else if d.rnd = 2 then .odd else .stoch
    let out := s.convertRow d c r
    let word (T : TrayNo) (code i j : Nat) (v : Val) : Prop :=
      if s.mark T i = true then v = .nan else OperandIs code (ofBytes (s.rowBytes T i)) 0 j j v
    let us (j : Nat) := drawOf d.seed.toNat r j (2 ^ 47 + (d.d.toNat - 1))
    c.ofmt < 15 → c.fop ≠ 3 → (c.fop ≠ 0 → c.tfmt ≤ 8) →
    ∃ vs : List Val, vs.length = d.nd ∧ out.2.2.length = d.nd ∧
      (∀ j v, vs[j]? = some v →
        let x := getD zero96 s.tile.shadow (32 * r + j)
        ∃ a b, (d.fp = true → ElementIs 8 (x.toNat % 2 ^ 32) a) ∧ (d.fp = false → x = BitVec.intMin 96 → a = .nan) ∧
          (d.fp = false → x ≠ BitVec.intMin 96 → a.isFin ∧ a.rat = x.toInt * (2 : ℚ) ^ (d.anchor.toInt - 64) ∧
            a.sign = decide (x.toInt < 0)) ∧
          (c.cse = false → b = a) ∧ (c.cse = true → ∃ y, word c.ctr 8 0 j y ∧ ProductIs a y b) ∧
          (c.fop = 0 → v = b) ∧ (c.fop = 1 → ∃ y, word c.ttr c.tfmt r j y ∧ SumIs [b, y] v) ∧
          (c.fop = 2 → ∃ y, word c.ttr c.tfmt r j y ∧ ProductIs b y v)) ∧
      (¬ mxCode c.ofmt → out.2.1 = 0 ∧ ∀ j v, vs[j]? = some v → ∃ o, out.2.2[j]? = some o ∧
        ConvertIs c.ofmt v rnd c.sat (us j) o.bits o.sat o.inx ∧ (o.nan = true ↔ v = .nan)) ∧
      (mxCode c.ofmt → ∃ el, BlockIs c.ofmt vs rnd c.sat us out.2.1.toNat el ∧
        ∀ j v, vs[j]? = some v → ∃ o, out.2.2[j]? = some o ∧ (o.bits, o.sat, o.inx) = el j ∧ (o.nan = true ↔ v = .nan)) ∧
      out.1 = packRow (codeBits c.ofmt) (s.tray c.dst).bytes (out.2.2.map (·.bits))) ∧
  (∀ (w b : Nat) (es : List Nat), (∀ e ∈ es, e < 2 ^ w) → es.length * w ≤ 8 * b →
    (packRow w b es).length = b ∧ ofBytes (packRow w b es) < 2 ^ (w * es.length) ∧
    ∀ j e, es[j]? = some e → ofBytes (packRow w b es) / 2 ^ (w * j) % 2 ^ w = e) ∧
  (∀ a b c d : BitVec 96,
    let value (x : BitVec 96) (v : Val) : Prop := ElementIs 8 (x.toNat % 2 ^ 32) v
    let pair (x y : BitVec 96) (o : StepOut) : Prop := ∃ p q v ovf, value x p ∧ value y q ∧ SumIs [p, q] v ∧
      ConvertIs 8 v .rne false 0 o.n.toNat ovf o.inx ∧ (o.sat = true ↔ ¬ v.isFin ∨ ovf = true)
    let one := combine true [a]
    one.n = a ∧ one.inx = false ∧ (one.sat = true ↔ ∃ v, value a v ∧ ¬ v.isFin) ∧ pair a b (combine true [a, b]) ∧
    ∃ x y z, pair a b x ∧ pair c d y ∧ pair x.n y.n z ∧
      combine true [a, b, c, d] = { n := z.n, sat := z.sat || x.sat || y.sat, inx := z.inx || x.inx || y.inx }) ∧
  (∀ ps : List (BitVec 96), ps.length = 1 ∨ ps.length = 2 ∨ ps.length = 4 →
    let o := combine false ps
    let big : Int := 2 ^ 95 - 1
    let sum := (ps.map (·.toInt)).sum
    o.inx = false ∧ (BitVec.intMin 96 ∈ ps → o.n = BitVec.intMin 96 ∧ o.sat = true) ∧
    (BitVec.intMin 96 ∉ ps → o.n.toInt = max (-big) (min big sum) ∧ (o.sat = true ↔ big < sum ∨ sum < -big))) ∧
  ∀ (s : State), s.tile.badRow = [] → s.tile.badElem = [] →
    (∀ (q : QEntry) (h : q.opf < 48), s.nextEntry = some q → s.mayStart q = true →
      admits s (s.estimate (s.entryItems q)) → q.xop = 0x28 → s.entryFault q = none →
      let sl := s.tile.slots[q.opf]
      let c := drainCw q.v1
      let F := if sl.fold = 0 then 1 else sl.fold
      ∃ u, exec .tileEntryStart s = .next u ∧ OnlyTile s u ∧ u.tile.elems = s.tile.elems ∧
        u.tile.queue = queueRuns s q ∧ u.tile.trays = s.tile.trays ∧ u.tile.data = s.tile.data ∧
        u.tile.drains = s.tile.drains ++
          [{ id := q.id, cw := q.v1, fp := sl.fp, anchor := sl.anchor, rnd := sl.rnd, seed := sl.seed, d := sl.d + 1,
             rd := (s.tray c.dst).rows, nd := min 32 (8 * (s.tray c.dst).bytes / elemBits c.ofmt), rel := 0, latch := none,
             sat := false, inx := false, inv := false }] ∧
        (let comb (r j : Nat) := combine sl.fp ((List.range F).map fun g => s.elem (1024 * q.opf + 32 * (g * (32 / F) + r) + j))
         (∀ r j, r < 32 → j < 32 →
           getD zero96 u.tile.shadow (32 * r + j) = if r < 32 / F then (comb r j).n else 0) ∧
         ((u.slot ⟨q.opf, h⟩).sat = true ↔ sl.sat = true ∨ ∃ r j, r < 32 / F ∧ j < 32 ∧ (comb r j).sat = true) ∧
         ((u.slot ⟨q.opf, h⟩).inx = true ↔ sl.inx = true ∨ ∃ r j, r < 32 / F ∧ j < 32 ∧ (comb r j).inx = true)) ∧
        (u.slot ⟨q.opf, h⟩).d = sl.d + 1 ∧ (u.slot ⟨q.opf, h⟩).inuse = (sl.inuse && !c.rel) ∧
        (u.slot ⟨q.opf, h⟩).p = sl.p ∧ (∀ i, i.val ≠ q.opf → u.slot i = s.slot i)) ∧
    (∀ d, s.tile.drains.find? (fun d => d.rel < 32) = some d → s.running = true →
      let c := drainCw d.cw
      let s1 := s.writeLatch d c
      let out := s1.convertRow d c d.rel
      ∃ u, exec .drainStreamRow s = .next u ∧ OnlyTile s u ∧
        u.tile.trays = s1.tile.trays ∧ u.tile.data = s1.tile.data ∧ u.tile.elems = s.tile.elems ∧
        u.tile.slots = s.tile.slots ∧ u.tile.queue = s.tile.queue ∧
        (∀ k, getD zero96 u.tile.shadow k = if k / 32 = d.rel then 0 else getD zero96 s.tile.shadow k) ∧
        (d.rel < d.rd → u.tile.drains = s.tile.drains.map fun x => if x.id = d.id then
          { d with
            rel := d.rel + 1
            latch := some (d.rel, out.1, out.2.1)
            sat := d.sat || out.2.2.any (·.sat)
            inx := d.inx || out.2.2.any (·.inx)
            inv := d.inv || out.2.2.any (·.nan) } else x) ∧
        (d.rd ≤ d.rel → u.tile.drains = s.tile.drains.map fun x => if x.id = d.id then
          { d with rel := d.rel + 1, latch := none } else x)) ∧
    (∀ d, s.tile.drains.find? (fun d => 32 ≤ d.rel) = some d → s.running = true →
      let s1 := s.writeLatch d (drainCw d.cw)
      let f := BitVec.ofNat 64 (b2n d.sat + 2 * b2n d.inx + 4 * b2n d.inv)
      ∃ u, exec .drainComplete s = .next u ∧
        u.tile = { s1.tile with
          drains := s.tile.drains.filter fun x => x.id ≠ d.id
          queue := s.tile.queue.filter fun x => x.id ≠ d.id } ∧
        u.reg .stk 0x58 = s.reg .stk 0x58 ||| f ∧ (∀ p o, poff p o ≠ poff .stk 0x58 → u.reg p o = s.reg p o) ∧
        (∀ t, u.th t = if s.tile.owner = some t then { s.th t with tstat := (s.th t).tstat ||| f } else s.th t) ∧
        Accounts s { u with tile := s.tile, shadow := s.shadow, thr := s.thr }) ∧
    (s.tile.drains = [] → exec .drainStreamRow s = .next s ∧
      exec .drainComplete s = .next s)

/-- A Whisk entry in time: WHISK_ROW reads and computes the row of its relative step while rows are left and writes the
row computed L steps before; WHISK_COMPLETE writes the last row, ORs the sticky flags into WSK.FLAGS and the owner's
TSTAT, and lets the entry leave (R115, R123, R125, R127, R133).

The row computed is that of R114 to R122, element by element, with the flags of R127; the numbers that stand for log2 e
and the coefficients of WEXP are the model's reading of R119 (log 29), and what counts as overflow, as rounding and as
invalid at the edges of R127 is its choice (logs 30, 89).  Entry i of the exponential's table is the multiple of 2^-30
nearest 2^(i/64). -/
def Obligations.WhiskSteps : Prop :=
  (∀ (s : State) (r : WhiskRun) (k : Nat), (∀ T, 4 ≤ (s.tray T).bytes ∧ (s.tray T).bytes ≤ 128) →
    WhiskRowIs s r k (s.whiskRow (wFields r.w0 r.e1 r.e2) r k)) ∧
  (∀ i, i < 64 → (2 * expTab i - 1) ^ 64 ≤ 2 ^ (1984 + i) ∧ (2 : ℤ) ^ (1984 + i) ≤ (2 * expTab i + 1) ^ 64) ∧
  ∀ (s : State) (r : WhiskRun), s.tile.whisk = some r → s.tile.badRow = [] →
    let w := wFields r.w0 r.e1 r.e2
    let row := s.whiskRow w r r.rel
    let item := (r.rel, packRow row.1 (s.tray w.d).bytes (row.2.1.map (·.bits)), row.2.2.map (BitVec.ofNat 8),
      r.latchPois || w.rowSources.any fun T => s.mark T r.rel)
    let r1 := if r.rel < r.rows then
      { r with
        pipe := r.pipe ++ [item]
        sat := r.sat || row.2.1.any (·.sat)
        inx := r.inx || row.2.1.any (·.inx)
        inv := r.inv || row.2.1.any (·.inv) } else r
    let written (x : Nat × List Byte × List Byte × Bool) : Tile :=
      (if w.xop = 0x39 ∧ isMx w.df = true then (s.putRow w.d x.1 x.2.1 x.2.2.2).putRow w.ds x.1 x.2.2.1 x.2.2.2
        else s.putRow w.d x.1 x.2.1 x.2.2.2).tile
    (s.running = true → r.rel + 1 < r.rows + r.lat →
      (r1.pipe = [] ∨ (∃ x, r1.pipe.head? = some x ∧ r.rel ≠ x.1 + r.lat) → ∃ u, exec .whiskRow s = .next u ∧
        u.tile = { s.tile with whisk := some { r1 with rel := r.rel + 1 } } ∧ OnlyTile s u) ∧
      (∀ x rest, r1.pipe = x :: rest → r.rel = x.1 + r.lat → ∃ u, exec .whiskRow s = .next u ∧
        u.tile = { written x with whisk := some { r1 with pipe := rest, rel := r.rel + 1 } } ∧ OnlyTile s u)) ∧
    (s.running = true → r.rel + 1 = r.rows + r.lat → 1 ≤ r.lat → ∀ x, r.pipe = [x] → r.rel = x.1 + r.lat →
      let f := b2n r.sat + 2 * b2n r.inx + 4 * b2n r.inv
      ∃ u, exec .whiskComplete s = .next u ∧
        u.tile = { written x with whisk := none, queue := s.tile.queue.filter fun y => y.id ≠ r.id } ∧
        u.reg .wsk 0x40 = s.reg .wsk 0x40 ||| BitVec.ofNat 64 f ∧
        (∀ p o, poff p o ≠ poff .wsk 0x40 → u.reg p o = s.reg p o) ∧
        (∀ t, u.th t = if s.tile.owner = some t
          then { s.th t with tstat := (s.th t).tstat ||| BitVec.ofNat 64 (8 * f) } else s.th t) ∧
        Accounts s { u with tile := s.tile, shadow := s.shadow, thr := s.thr }) ∧
    (s.running = false ∨ r.rel + 1 ≠ r.rows + r.lat → 1 ≤ r.rows + r.lat →
      exec .whiskComplete s = .next s)

/-- TLD and TST: TILE_MEM_PAGE translates the next page in order.  A page that translates, is no device page and, for a
TST, not protected, joins those translated, and the lines whose rows have then all translated are issued, in the order
of the rows' bytes; with the last page the entry has passed its fault point (R87, R94).  A fault notes the cause and
detail of R108, the row and the first byte of that row on the page, ends the translation and issues the lines held back
for the rows below; the queue freezes with it at once where every line is served, else with the last of them, also where
the fault is the end of a walk that the page waited for (R94 to R97, R107, R254).  That a line of a row above one that
has not translated is held back with it is the model's choice (log 91); which lines of a run that faults are issued and
waited for before the queue freezes is its reading (log 51).

TILE_MEM_LINE_DONE serves a line, writes the rows of a TLD that have all their lines, and with the last line the entry
leaves, or its fault freezes the queue.  A row read consists of its bytes in the lines, and is marked where one comes
from a poisoned half; a line written carries, for each byte, that of the highest row, and poisons a half with a byte of
a marked row (R79, R94, R97).  That a line is read once, for all its rows, is its reading (log 80), and that a device
page is told from a protected one first its choice (log 104). -/
def Obligations.TileMemorySteps : Prop :=
  (∀ (s : State) (m : MemRun), s.memRun m.id = some m → s.running = true →
    (∀ x ∈ s.tile.mem, x.id = m.id → x = m) → m.sound → 1 ≤ m.bt → m.bt ≤ 128 →
    let without := s.tile.mem.filter fun x => x.id ≠ m.id
    let frozen (u : State) (q : QEntry) (cause detail r : Nat) (va : Word) : Prop :=
      u.tile.mem = without ∧ u.tile.frozen = true ∧ u.tile.trap = true ∧ u.tile.faultAddr = va ∧
      u.tile.tprog = BitVec.ofNat 64 (q.pc.toNat + q.xop % 16 * 2 ^ 20 + r % 4096 * 2 ^ 24 + cause % 256 * 2 ^ 36
        + detail % 256 * 2 ^ 44 + m.tray.val * 2 ^ 52 + 2 ^ 63) ∧ wbit (u.frame .til).event 0 = true ∧
      u.tile.queue = s.tile.queue.map (fun x => if x.id = m.id then { q with started := false, safe := false, prog := r } else x)
    (∀ p r rest, m.pages = (p, r) :: rest →
      let va := if m.rowVa r / 2 ^ 14 = p then m.rowVa r else p * 2 ^ 14
      let xlate := s.translate (BitVec.ofNat 64 va) m.lvl.toNat m.load (!m.load) (.tile m.id m.thr)
      let served := (∀ x ∈ m.lines, x.fin = true ∧ x.asked = true) ∧ ∀ l, ¬ m.heldLine r l
      let noted (cause detail : Nat) : MemRun :=
        { m with pages := [], flt := some (BitVec.ofNat 8 cause, BitVec.ofNat 8 detail, r, BitVec.ofNat 64 va) }
      let faults (i : Instr) (s1 : State) (cause detail : Nat) : Prop :=
        (served → ∀ q, s.tile.queue.find? (fun q => q.id = m.id) = some q → q.xop = 0x24 ∨ q.xop = 0x25 →
          ∃ u, exec i s = .next u ∧ frozen u q cause detail r (BitVec.ofNat 64 va) ∧
            u.tile.trays = s.tile.trays ∧ u.tile.data = s.tile.data ∧ u.ls = s1.ls ∧ u.noc = s1.noc ∧ u.thr = s1.thr) ∧
        ((∃ x ∈ m.lines, x.fin = false) ∨ (∃ l, m.heldLine r l) → (∀ r', m.row0 ≤ r' → r' < r → m.translated r') →
          r ≤ m.rt → ∃ u m2 ls, exec i s = .next u ∧ u.memRun m.id = some m2 ∧
            m2 = { noted cause detail with issued := m2.issued, lines := m2.lines } ∧ m.issues m2 ls r ∧ ls.Nodup ∧
            (∀ l, l ∈ ls ↔ m.heldLine r l) ∧ ls.Pairwise (m.before 128) ∧ u.tile.queue = s.tile.queue ∧
            u.tile.frozen = s.tile.frozen)
      (s.runWalks m.id = true → exec (.tileMemPage m.id) s = .next s) ∧
      (s.runWalks m.id = false → (∀ s1 kind level span, xlate = (s1, .fault kind level span) → s1.tile = s.tile → faults (.tileMemPage m.id) s1 6 kind) ∧
      (∀ s1 pa, xlate = (s1, .ok pa 3) → s1.tile = s.tile → faults (.tileMemPage m.id) s1 7 1) ∧
      (∀ s1 pa pol, xlate = (s1, .ok pa pol) → pol ≠ 3 → s1.tile = s.tile → s1.thr = s.thr → s1.pos = s.pos →
        s.tstProtected m p (pa / 2 ^ 14 * 2 ^ 14) = true → faults (.tileMemPage m.id) s1 0x10 1) ∧
      (∀ s1 pa pol, xlate = (s1, .ok pa pol) → pol ≠ 3 → s1.tile = s.tile → s1.thr = s.thr → s1.pos = s.pos →
        s.tstProtected m p (pa / 2 ^ 14 * 2 ^ 14) = false →
        let m1 := { m with
          pages := rest, xl := m.xl ++ [(p, BitVec.ofNat 58 (pa / 2 ^ 14 * 2 ^ 14), BitVec.ofNat 2 pol)] }
        let queue := if rest = [] then s.tile.queue.map (fun x => if x.id = m.id then { x with safe := true } else x)
          else s.tile.queue
        let more := rest ≠ [] ∨ (∃ x ∈ m.lines, x.fin = false) ∨ ∃ l, m1.readyLine l
        ∃ u, exec (.tileMemPage m.id) s = .next u ∧ u.tile.frozen = s.tile.frozen ∧
          (m.load = true ∨ s.tile.badRow = [] → u.tile.trays = s.tile.trays ∧ u.tile.data = s.tile.data) ∧
          (more → u.tile.queue = queue ∧ ∃ m2 ls, u.memRun m.id = some m2 ∧
            m2 = { m1 with issued := m2.issued, lines := m2.lines } ∧ m1.issues m2 ls m.rt ∧ ls.Nodup ∧
            (∀ l, l ∈ ls ↔ m1.readyLine l) ∧ ls.Pairwise (m.before 128)) ∧
          (¬ more → m.flt = none → u.tile.mem = without ∧ u.tile.queue = s.tile.queue.filter fun x => x.id ≠ m.id)) ∧
      (∀ s1, xlate = (s1, .walking) → s1.tile = s.tile → exec (.tileMemPage m.id) s = .next (s.sealed s1)) ∧
      (∀ s1, xlate = (s1, .busy) → exec (.tileMemPage m.id) s = .next (s.sealed s))) ∧
      (∀ k, s.xl.walks.find? (fun x => x.id = k.id) = some k → k.who = .tile m.id m.thr → k.again = false → k.level ≤ 4 →
        (k.ph = .value none → faults (.tableWalk k.id) s 6 9) ∧
        (∀ v, k.ph = .value (some v) → wbit v 0 = false → faults (.tableWalk k.id) s 6 2))) ∧
    (m.pages = [] → exec (.tileMemPage m.id) s = .next s) ∧
    (∀ l, m.lines.find? (fun x => x.line = l.line && !x.fin) = some l → l.asked = true → l.need = 0 →
      let m1 := m.setLine { l with fin := true }
      let rows := if m.load then m.rows.filter fun r => !m.touched.contains r && m1.rowServed r else []
      let s1 := rows.foldl (fun s r => s.putRow m.tray r (m1.gather r).1 (m1.gather r).2) s
      let last := m.pages = [] ∧ ∀ x ∈ m.lines, x.fin = true ∨ (x.line = l.line ∧ x.rowEnd = l.rowEnd)
      ∃ u, exec (.tileMemLineDone m.id l.line) s = .next u ∧
        (¬ last → OnlyTile s u ∧ u.tile = { s1.tile with
          mem := s.tile.mem.map fun x => if x.id = m.id then { m1 with touched := m.touched ++ rows } else x }) ∧
        (last → m.flt = none → OnlyTile s u ∧ u.tile = { s1.tile with
          mem := without, queue := s.tile.queue.filter fun x => x.id ≠ m.id }) ∧
        (last → ∀ c d r a q, m.flt = some (c, d, r, a) → s.tile.queue.find? (fun q => q.id = m.id) = some q →
          q.xop = 0x24 ∨ q.xop = 0x25 → frozen u q c.toNat d.toNat r a ∧ u.tile.trays = s1.tile.trays ∧
            u.tile.data = s1.tile.data ∧ OnlyTile s (u.setFrame .til { u.frame .til with event := (s.frame .til).event }))) ∧
    (∀ l, m.lines.find? (fun x => x.line = l.line && !x.fin) = some l → l.asked = false ∨ l.need ≠ 0 →
      exec (.tileMemLineDone m.id l.line) s = .next s)) ∧
  (∀ (m : MemRun) (r : Nat), 1 ≤ m.bt → m.bt ≤ 128 →
    let from' (i : Nat) (l : MemLine) (d : List Byte) (k : BitVec 2) : Prop :=
      m.lines.find? (fun l => l.line = m.byteAt r i / 128 && r < l.rowEnd) = some l ∧ l.got = some (d, k)
    (∀ i, i < m.bt → ∃ l d k, from' i l d k ∧ d.length = 128) →
    (m.gather r).1.length = m.bt ∧
    (∀ i l d k, i < m.bt → from' i l d k → (m.gather r).1[i]? = d[m.byteAt r i % 128]?) ∧
    ((m.gather r).2 = true ↔ ∃ i l d k, i < m.bt ∧ from' i l d k ∧ wbit k (m.byteAt r i % 128 / 64) = true)) ∧
  (∀ (s : State) (m : MemRun) (l : MemLine), 1 ≤ m.bt → m.bt ≤ 128 → m.bt = (s.tray m.tray).bytes →
    let out := s.tstBytes m l
    let puts (k r i : Nat) : Prop := m.row0 ≤ r ∧ r < m.rt ∧ r < l.rowEnd ∧ i < m.bt ∧
      m.byteAt r i / 128 = l.line ∧ m.byteAt r i % 128 = k
    out.1.length = 128 ∧
    (∀ k r i, puts k r i → (∀ r' i', puts k r' i' → r' ≤ r) →
      out.1[k]? = ((s.rowBytes m.tray r)[i]?).map fun b => (b, true)) ∧
    (∀ k, k < 128 → (∀ r i, ¬ puts k r i) → out.1[k]? = some (0, false)) ∧
    ∀ h, h < 2 → (wbit out.2 h = true ↔ ∃ k r i, puts k r i ∧ k / 64 = h ∧ s.mark m.tray r = true))

/-! ## The tile context (R103 to R105, R193, R194) -/

/-- TSAVE and TRSTR: at U the privilege trap; then the issue checks of R85, of which a frozen queue passes; an image that is
not aligned to 512 bytes raises the alignment trap; else the transfer begins, with nothing moved (R85, R103, R104). -/
def Obligations.ContextIssue : Prop :=
  ∀ (s : State) (t : Thread) (ga : GReg), Goes s t 2 →
    let h := s.th t
    let a := s.g t ga
    let both (p : Instr → Nat → Bool → Prop) : Prop := p (.tsave t ga) 0x2B true ∧ p (.trstr t ga) 0x2C false
    let traps (i : Instr) (c : Nat) (addr info : Word) : Prop := exec i s = .next (s.sealed ((s.issued t).trap t c addr info))
    both fun i xop save =>
      (h.pl = 0 → traps i 0x02 0 (BitVec.ofNat 64 (0x3000 + xop * 0x40 + ga.val))) ∧
      (h.pl ≠ 0 → s.tile.owner ≠ some t → traps i 0x09 0 0) ∧
      (h.pl ≠ 0 → s.tile.owner = some t → s.en .til = false → traps i 0x0A 0 0) ∧
      (h.pl ≠ 0 → s.tile.owner = some t → s.en .til = true → s.quiescing .til = true →
        exec i s = .next (s.setTh t { h with wait := .stall, entered := false })) ∧
      (h.pl ≠ 0 → s.tile.owner = some t → s.en .til = true → s.quiescing .til = false →
        (a.toNat % 512 ≠ 0 → traps i 0x03 a 0) ∧
        (a.toNat % 512 = 0 → ∃ u, exec i s = .next u ∧ OnlyThread s u t ∧
          u.th t = { h with wait := .ctx (ctxBegin save a), entered := false }))

/-- One TSAVE_BLOCK with the image in the own shelf: the block's 512 bytes go to their place and no other shelf byte
changes; the last block ends the instruction and cancels an undelivered trap of a frozen queue; a block that is not due
changes nothing, and one that an earlier store of the thread in the store buffer reaches waits, the model's reading of
R240 (log 83) (R103, R105, R193). -/
def Obligations.ContextSaveBlock : Prop :=
  ∀ (s : State) (t : Thread) (r : CtxRun) (o pol : Nat), (s.th t).wait = .ctx r → r.save = true →
    let k := if r.done < r.total - 4 then r.done + 4 else r.done - (r.total - 4)
    let bs := (s.imageBlock k).2
    (s.ctxDue t = false → exec (.tsaveBlock t) s = .next s) ∧
    (s.ctxDue t = true → r.checked = true → r.asked = [] → s.tile.badRow = [] → bs.length = 512 →
      (∀ i, i < 4 → r.phys (r.base.toNat + 512 * k + 128 * i) = some (s.shelfBase + o + 128 * i, pol)) →
      o % 128 = 0 → o + 512 ≤ s.shelfSize → s.shelfSize ≤ 0x80_0000 →
      (s.sbHolds t (s.shelfBase + o) 128 = true →
        ∃ u, exec (.tsaveBlock t) s = .next u ∧ u.th t = s.th t ∧ OtherThreads s u t ∧ u.ls = s.ls ∧ u.tile = s.tile) ∧
      (s.sbHolds t (s.shelfBase + o) 512 = false → ∃ u, exec (.tsaveBlock t) s = .next u ∧ u.shelfBytes o 512 = bs ∧
        (∀ x, x < o ∨ o + 512 ≤ x → getD zero8 u.ls.shelf x = getD zero8 s.ls.shelf x) ∧ OtherThreads s u t ∧
        (∀ b, o / 64 ≤ b → b < o / 64 + 8 → s.ls.shelfPois.contains b = true → u.ls.shelfPois.contains b = false) ∧
        (r.done + 1 < r.total → u.th t = { s.th t with wait := .ctx { r with done := r.done + 1, asked := [] } } ∧
          u.tile = s.tile) ∧
        (r.total ≤ r.done + 1 → u.th t = (s.th t).done 2 ∧
          u.tile = if s.tile.frozen then { s.tile with trap := false } else s.tile)))

/-- The fourth TRSTR_BLOCK checks the header: the first check of R194 that fails raises cause 0x0D with its reason and
the tile unit keeps its state; a good header sets the image's length.  The last TRSTR_BLOCK, with the whole image read
and checked: a bad record of a frozen entry raises 0x0D with reason 5 and the tile unit keeps its state; else the tile
unit takes the image's trays, slots, TPROG, fault address and queue, and the instruction ends.  A block that is not due
changes nothing. A TRSTR that an event abandons, or that a translation fault stops, leaves the tile unit as it was
before its header check has passed, and after it leaves every in-use flag 0, every tray zeroed and the queue empty
(R104, R105, R193, R194).  What of a record is looked at is the model's reading (log 111), and so is that the tile state is
written with the last block, that a bad record found after the header check keeps it, and that the shapes stay where the
trays are zeroed (log 63). -/
def Obligations.ContextRestoreBlock : Prop :=
  ∀ (s : State) (t : Thread) (r : CtxRun) (d : List Byte) (x : Nat × Nat),
    (s.th t).wait = .ctx r → r.save = false →
    let emptied (u : State) : Prop := (∀ T : TrayNo, (u.tray T).inuse = false ∧ (u.tray T).marks = 0 ∧
      ∀ k, k < 4096 → getD zero8 u.tile.data (4096 * T.val + k) = 0) ∧ (∀ i, (u.slot i).inuse = false) ∧ u.tile.queue = []
    let at512 := (r.base.toNat + 512 * r.done) % 2 ^ 64
    (s.ctxDue t = false → exec (.trstrBlock t) s = .next s) ∧
    (∀ e, s.boundaryEv t = some e → s.mayEnter t = true → ∃ u, exec (.handlerEntry t) s = .next u ∧
      (r.checked = true → emptied u) ∧
      (r.checked = false → u.tile = { s.tile with trap := u.tile.trap } ∧ (e.cause ≠ 0x0C → u.tile.trap = s.tile.trap))) ∧
    (s.ctxDue t = true → r.phys at512 = none → 2 ^ 57 ≤ at512 → ∃ u v, exec (.trstrBlock t) s = .next u ∧
      u = s.sealed (v.trap t 0x06 (BitVec.ofNat 64 at512) 1) ∧ v.th t = s.th t ∧
      (r.checked = true → emptied u) ∧ (r.checked = false → v = s ∧ u.tile = s.tile)) ∧
    (∀ ps, s.ctxDue t = true → r.checked = false → r.done = 3 → r.phys at512 = some x →
      (∀ b ∈ blocks64 3 2048, b ∈ r.asked) → r.blockOf (blocks64 3 2048) = some (d, ps) →
      let im := (r.image ++ d).take 2048
      let c := headerCode im (r.pois ++ ps)
      (c ≠ 0 → ∃ u, exec (.trstrBlock t) s = .next u ∧ u = s.sealed (s.trap t 0x0D r.base (BitVec.ofNat 64 c)) ∧
        u.tile = s.tile) ∧
      (c = 0 → 4 < blocksOf512 (hdrLen im) → ∃ u, exec (.trstrBlock t) s = .next u ∧ OtherThreads s u t ∧ u.tile = s.tile ∧
        u.th t = { s.th t with wait := .ctx { r with
          checked := true, done := 4, total := blocksOf512 (hdrLen im), image := im, pois := r.pois ++ ps, asked := [], got := [] } })) ∧
    (∀ im : List Byte, im.length = 2048 →
      let w (o : Nat) : Word := word64At im o
      let used (i : Nat) : Prop := i < 48 ∧ wbit (w 0x010) i = true
      let magic := wbits (w 0) 47 0 = 0x0001_7C74_0740
      let crc := (crc32c (im.take 0x7FC)).toNat = ofBytes ((im.drop 0x7FC).take 4)
      let zeros := (∀ i, i < 256 → w (8 * i) &&& ~~~ BitVec.ofNat 64 (hdrMask (hdrSlots im) (8 * i)) = 0) ∧
        ∀ i, used i → wbits (w (0x100 + 32 * i)) 15 13 ∈ [0, 1, 2, 4]
      let frozen := (wbit (w 0x018) 6 = true ↔ 0 < wbits (w 0x018) 5 0) ∧ wbits (w 0x018) 5 0 ≤ 32 ∧
        wbit (w 0x020) 63 = wbit (w 0x018) 6 ∧ (wbit (w 0x018) 6 = false → w 0x028 = 0)
      (¬ magic → headerCode im [] = 1) ∧ (magic → ¬ crc → headerCode im [] = 2) ∧
      (magic → crc → ¬ zeros → headerCode im [] = 3) ∧ (magic → crc → zeros → ¬ frozen → headerCode im [] = 4) ∧
      (magic → crc → zeros → frozen → headerCode im [] = 0)) ∧
    (s.ctxDue t = true → r.checked = true → r.done ≠ 3 → r.total = r.done + 1 → r.phys at512 = some x →
      (∀ b ∈ blocks64 r.done (hdrLen r.image), b ∈ r.asked) → r.blockOf (blocks64 r.done (hdrLen r.image)) = some (d, []) →
      r.pois = [] → 2048 ≤ r.image.length → hdrLen r.image ≤ (r.image ++ d).length →
      let im := (r.image ++ d).take (hdrLen r.image)
      ((∃ k, k < hdrE im ∧ recordOk (recordAt im k) (s.th t).pl = false) → ∃ u, exec (.trstrBlock t) s = .next u ∧
        u = s.sealed (s.trap t 0x0D r.base 5) ∧ u.tile = s.tile) ∧
      ((∀ k, k < hdrE im → recordOk (recordAt im k) (s.th t).pl = true) →
      let nt := hdrNt im
      ∃ u, exec (.trstrBlock t) s = .next u ∧ u.th t = (s.th t).done 2 ∧ OtherThreads s u t ∧ u.ls = s.ls ∧
        u.tile.tprog = word64At im 0x020 ∧ u.tile.faultAddr = word64At im 0x028 ∧
        u.tile.frozen = hdrFrozen im ∧ u.tile.trap = hdrFrozen im ∧ u.tile.owner = s.tile.owner ∧
        u.tile.queue.length = min 32 (hdrE im) ∧
        (∀ T : TrayNo, (u.tray T).rows = hdrShape im T.val % 32 + 1 ∧
          (u.tray T).bytes = 4 * (hdrShape im T.val / 32 % 32 + 1) ∧ (u.tray T).inuse = nbit (hdrTrays im) T.val ∧
          (nbit (hdrTrays im) T.val = true → (u.tray T).marks = BitVec.ofNat 32 (hdrMarks im T.val) ∧
            getN zero8 u.tile.data (4096 * T.val) 4096 =
              (im.drop (2048 + 4096 * popBelow T.val (hdrTrays im))).take 4096) ∧
          (nbit (hdrTrays im) T.val = false → (u.tray T).marks = 0 ∧
            ∀ k, k < 4096 → getD zero8 u.tile.data (4096 * T.val + k) = 0)) ∧
        (∀ i : Fin 48, (u.slot i).inuse = nbit (hdrSlots im) i.val ∧
          (nbit (hdrSlots im) i.val = true → ∀ k, k < 1024 → u.elem (1024 * i.val + k) = imgElem im []
            (2048 + 4096 * nt + 12288 * popBelow i.val (hdrSlots im) + 12 * k) (u.slot i).fp))))

/-- What TSAVE wrote, TRSTR accepts and restores: the header check passes, and trays and slots in use, their elements, marks
and shapes, and the frozen state come back on any core (R103, R104, R193, R194). -/
def Obligations.ContextRoundTrip : Prop :=
  ∀ (s k : State) (t : Thread), s.tile.badRow = [] →
    (∀ T, 1 ≤ (s.tray T).rows ∧ (s.tray T).rows ≤ 32 ∧ 4 ≤ (s.tray T).bytes ∧ (s.tray T).bytes ≤ 128 ∧
      (s.tray T).bytes % 4 = 0) →
    (∀ i, (s.slot i).fold = 0 ∨ (s.slot i).fold = 1 ∨ (s.slot i).fold = 2 ∨ (s.slot i).fold = 4) →
    (∀ i, (s.slot i).fp = true → ∀ e, e < 1024 → (s.elem (1024 * i.val + e)).toNat < 2 ^ 32) →
    s.tile.tprog &&& 0x7C00_0000_000E_0000 = 0 → wbit s.tile.tprog 63 = s.tile.frozen →
    (s.tile.frozen = true → 0 < s.tile.queue.length ∧ s.tile.queue.length ≤ 32) →
    let im := s.wholeImage
    let u := k.restore t im []
    headerCode im [] = 0 ∧ hdrLen im = s.imageLen ∧ im.length = s.imageLen ∧
    (∀ T, (s.tray T).inuse = true → u.tray T = s.tray T ∧
      getN zero8 u.tile.data (4096 * T.val) 4096 = getN zero8 s.tile.data (4096 * T.val) 4096) ∧
    (∀ T, (s.tray T).inuse = false → u.tray T = { s.tray T with marks := 0 }) ∧
    (∀ i, (s.slot i).inuse = true → u.slot i = s.slot i ∧
      ∀ e, e < 1024 → u.elem (1024 * i.val + e) = s.elem (1024 * i.val + e)) ∧
    (∀ i, (s.slot i).inuse = false → (u.slot i).inuse = false) ∧
    u.tile.frozen = s.tile.frozen ∧ u.tile.tprog = s.tile.tprog ∧
    (s.tile.frozen = true → u.tile.faultAddr = s.tile.faultAddr ∧ u.tile.queue.length = s.tile.queue.length ∧
      ∀ j, j < s.tile.queue.length → ∃ a b, s.tile.queue[j]? = some a ∧ u.tile.queue[j]? = some b ∧
        (b.w0, b.e1, b.e2, b.pc, b.v1, b.v2, b.lvl) = (a.w0, a.e1, a.e2, a.pc, a.v1, a.v2, a.lvl))

/-! ## Memory -/

/-- Loads: an address outside the architectural range raises the translation fault; from the own shelf a load gives the
sign-extended bytes and makes them available after the next instruction, or raises the poison trap; a load that finds all
its bytes in the store buffer takes them from there, and one that finds some of them waits; a block in the L1D is read
from there (R144, R154, R165 to R167, R195, R207, R215, R254).

A load across a 64-byte border reads both blocks, and its poison trap names its first byte in a poisoned block.  A load that
misses the L1D reads its line of the local store, or asks for the line and waits; one of an uncached page asks for the
64-byte block, one of a device page for its own bytes.  A load of a translated address goes by the entry of the L1 data TLB,
whose permissions it faces; one that no TLB covers starts a walk and waits (R165, R195, R200, R201, R250 to R254). -/
def Obligations.Loads : Prop :=
  ∀ (i : Instr) (s : State) (t : Thread) (d b : GReg) (e : Option (BitVec 14)) (n : Nat),
    loadOf i = some (t, d, b, e, n) → Goes s t (memLen e) →
    let va := effAddr s t b e
    let h := s.th t
    let sext (bs : List Byte) : Word := BitVec.ofInt 64 (Int.bmod (ofBytes bs) (2 ^ (8 * n)))
    let loaded (v : Word) : HThread := h.complete (memLen e) none (.load d v)
    (2 ^ 57 ≤ va.toNat → exec i s = .next (s.sealed ((s.issued t).trap t 0x06 va 1))) ∧
    (∀ pa o, directAt s t va n pa → s.shelfOff pa = some o → s.ls.sb = [] → s.l1Way (pa / 64) = none → shelfClean s o →
      (s.ls.shelfPois.contains (o / 64) = false → ∃ u, exec i s = .next u ∧
        u.th t = loaded (sext (s.shelfBytes o n)) ∧ OnlyThread { s with ls := u.ls } u t ∧
        u.ls = { s.ls with l1 := u.ls.l1, l1lru := u.ls.l1lru }) ∧
      (s.ls.shelfPois.contains (o / 64) = true → ∃ v, exec i s = .next (s.sealed (v.trap t 0x07 va 0)) ∧
        v.th t = { h with wait := .none, entered := false } ∧ OnlyThread s v t)) ∧
    (∀ pa, directAt s t va n pa → s.window pa = .mem → s.policyAt pa (wbits (s.com .xlt 0x50) 2 1) ≠ 3 →
      (∀ bs : List Byte, bs.length = n → (∀ k, k < n → s.sbByte (pa + k) = bs[k]?) → ∃ u, exec i s = .next u ∧
        u.th t = loaded (sext bs) ∧ OnlyThread s u t) ∧
      ((∃ k, k < n ∧ s.sbByte (pa + k) ≠ none) → (∃ k, k < n ∧ s.sbByte (pa + k) = none) → ∃ u p, exec i s = .next u ∧
        u.th t = { h with wait := .load p, entered := false } ∧ p.d = d ∧ OnlyThread s u t)) ∧
    (∀ pa w x, directAt s t va n pa → s.window pa = .mem → s.policyAt pa (wbits (s.com .xlt 0x50) 2 1) < 2 →
      s.ls.sb = [] → s.l1Way (pa / 64) = some w → lookup s.ls.l1 (4 * (pa / 64 % 128) + w) = some x → x.bad = false →
      64 ≤ x.data.length → ∃ u, exec i s = .next u ∧ u.th t = loaded (sext ((x.data.drop (pa % 64)).take n)) ∧
        OnlyThread { s with ls := u.ls } u t ∧ u.ls = { s.ls with l1lru := u.ls.l1lru }) ∧
    (∀ pa o k, s.untranslated h.pl = true → va.toNat + n ≤ 2 ^ 40 → pa = s.pos.chip.toNat * 2 ^ 40 + va.toNat →
      k = 64 - va.toNat % 64 → k < n → s.shelfOff pa = some o → s.shelfOff (pa + k) = some (o + k) → s.ls.sb = [] →
      s.l1Way (pa / 64) = none → s.l1Way (pa / 64 + 1) = none → shelfClean s o → shelfClean s (o + k) →
      let bad (b : Nat) := s.ls.shelfPois.contains (b / 64) = true
      (¬ bad o → ¬ bad (o + k) → ∃ u, exec i s = .next u ∧ u.th t = loaded (sext (s.shelfBytes o n)) ∧
        OnlyThread { s with ls := u.ls } u t ∧ u.ls = { s.ls with l1 := u.ls.l1, l1lru := u.ls.l1lru }) ∧
      ∀ a : Word, (bad o ∧ a = va) ∨ (¬ bad o ∧ bad (o + k) ∧ a = va + BitVec.ofNat 64 k) →
        ∃ v, exec i s = .next (s.sealed (v.trap t 0x07 a 0)) ∧ v.th t = { h with wait := .none, entered := false } ∧
          OnlyThread { s with ls := v.ls } v t ∧ v.ls = { s.ls with l1 := v.ls.l1, l1lru := v.ls.l1lru }) ∧
    (∀ pa, directAt s t va n pa → s.window pa = .mem → s.ls.sb = [] →
      let cp := s.policyAt pa (wbits (s.com .xlt 0x50) 2 1)
      let line := pa / 128
      let awaited : HThread := { h with
        wait := .load { d := d, size := n, words := memLen e, held := false,
                        parts := [{ va := va, len := n, pa := some (pa, cp), asked := true, got := none }] }
        entered := false }
      let asksFor (k a size : Nat) (kind : ReqKind) (dev : Bool) : Prop := ∃ u x, exec i s = .next u ∧ u.th t = awaited ∧
        OnlyThread { s with noc := u.noc } u t ∧ u.noc = asks s k x ∧
        (x.typ, x.addr, x.size, x.kind, x.src, x.dev, x.after, x.sent) = (0, a, size, kind, .thread t, dev, none, false)
      (∀ w l, cp < 2 → s.l1Way (pa / 64) = none → soundLine s line w l →
        (wbit l.pois (pa % 128 / 64) = false → ∃ u, exec i s = .next u ∧
          u.th t = loaded (sext ((l.data.drop (pa % 128)).take n)) ∧ OnlyThread { s with ls := u.ls } u t ∧
          u.ls = { s.ls with l1 := u.ls.l1, l1lru := u.ls.l1lru, plru := u.ls.plru }) ∧
        (wbit l.pois (pa % 128 / 64) = true → ∃ v, exec i s = .next (s.sealed (v.trap t 0x07 va 0)) ∧
          v.th t = { h with wait := .none, entered := false } ∧ OnlyThread { s with ls := v.ls } v t ∧
          v.ls = { s.ls with plru := v.ls.plru })) ∧
      (∀ w k, cp < 2 → s.l1Way (pa / 64) = none → lineAbsent s line → emptyWay s line w → s.freeIdx true = some k →
        asksFor k (128 * line) 5 (.fill line (some w) false [.load t]) false) ∧
      (∀ k, s.lsWay line = none → s.evicting line = false → s.freeIdx true = some k →
        (cp = 2 → asksFor k (pa / 64 * 64) 4 (.uncRead (.load t)) false) ∧
        (cp = 3 → pa % n = 0 → asksFor k pa (Nat.log2 n) (.uncRead (.load t)) true))) ∧
    (∀ x, tlbHolds s t va x → va.toNat % 64 + n ≤ 64 →
      let faults (kind : Nat) := exec i s = .next (s.sealed ((s.issued t).trap t 0x06 va (BitVec.ofNat 64 kind)))
      (h.pl = 0 → wbit x.leaf 5 = false → faults 4) ∧
      ((h.pl = 0 → wbit x.leaf 5 = true) → wbit x.leaf 2 = false → faults 5) ∧
      ∀ v y, (h.pl = 0 → wbit x.leaf 5 = true) → wbit x.leaf 2 = true →
        let pa := tlbAddr va x
        s.window pa = .mem → tlbPol s va x < 2 → s.ls.sb = [] → pa % 64 = va.toNat % 64 → s.l1Way (pa / 64) = some v →
        lookup s.ls.l1 (4 * (pa / 64 % 128) + v) = some y → y.bad = false → 64 ≤ y.data.length →
        ∃ u, exec i s = .next u ∧ u.th t = loaded (sext ((y.data.drop (pa % 64)).take n)) ∧
          OnlyThread { s with ls := u.ls, xl := u.xl } u t ∧ u.ls = { s.ls with l1lru := u.ls.l1lru } ∧
          u.xl = { s.xl with l1tlb := u.xl.l1tlb } ∧ u.xl.l1tlb.head? = some x ∧ ∀ z ∈ u.xl.l1tlb, z ∈ s.xl.l1tlb) ∧
    (tlbMisses s t va → va.toNat % 64 + n ≤ 64 → ∃ u w, exec i s = .next u ∧
      u.th t = { h with
        wait := .load { d := d, size := n, words := memLen e, held := false,
                        parts := [{ va := va, len := n, pa := none, asked := false, got := none }] }
        entered := false } ∧ OnlyThread { s with xl := u.xl } u t ∧
      u.xl = { s.xl with walks := s.xl.walks ++ [w], nextWalk := s.xl.nextWalk + 1 } ∧
      (w.id, w.va, w.pl, w.who, w.rd, w.wr, w.level, w.table, w.ph) =
        (s.xl.nextWalk, va, h.pl, .thread t, true, false, 1, s.comN .xlt 0x58 / 2 ^ 14 % 2 ^ 44, .ready))

/-- Stores: one within a 64-byte block, and one across a block border as two parts in one step, lower address first,
enter the store buffer with address, bytes, policy and level, and change nothing else; with the buffer full the thread
waits; in the protected shelf range at U or S the store-protection trap is raised; an address outside the range faults.
The head of the buffer leaves: to the own shelf its bytes are written, at its address and nowhere else; of an uncached
page it becomes a write request (R144, R165 to R167, R176, R201, R207, R223).  That the trap gives the effective address
as the fault address is the model's reading (log 61).

A store to a translated address enters by the entry of the L1 data TLB, faces its permissions, and starts a walk where
the entry's D flag is 0 (R251, R253).  A head of a write-through page becomes a write request and updates a copy in the
local store, which stays clean, and in the L1D; one of a write-back page is merged into its line, which becomes dirty,
and into the L1D's copy, or asks for the line where it is absent, and stays (R167, R196, R200, R201).  What a head that
leaves puts into the port's queue is waited for by an XINV or a span clear that found the head in the buffer (R239,
R256, R260, log 67). That the update of a copy in the L1D leaves its recency alone is log 117, and that a store of an
uncached page leaves the side buffer alone log 118. -/
def Obligations.Stores : Prop :=
  (∀ (i : Instr) (s : State) (t : Thread) (d b : GReg) (e : Option (BitVec 14)) (n : Nat),
    storeOf i = some (t, d, b, e, n) → Goes s t (memLen e) →
    let va := effAddr s t b e
    let h := s.th t
    let bytes := bytesOf n (s.g t d).toNat
    let pol (pa : Nat) := s.policyAt pa (wbits (s.com .xlt 0x50) 2 1)
    let entry (k pa : Nat) (bs : List Byte) : SbEntry :=
      { seq := s.ls.sbSeq + k, thr := t, pa := pa, bytes := bs, pol := pol pa, lvl := h.pl, asked := false }
    let enters (l : List SbEntry) : Prop := ∃ u, exec i s = .next u ∧ u.th t = h.done (memLen e) ∧
      u.ls = { s.ls with sb := s.ls.sb ++ l, sbSeq := s.ls.sbSeq + l.length } ∧ OnlyThread { s with ls := u.ls } u t
    let shut (pa k : Nat) : Prop := h.pl ≠ 3 ∧ ∃ o, s.shelfOff pa = some o ∧ h.protects o k = true
    (2 ^ 57 ≤ va.toNat → exec i s = .next (s.sealed ((s.issued t).trap t 0x06 va (1 + 512)))) ∧
    (∀ pa, directAt s t va n pa → ¬ shut pa n → s.ls.sb.length < 32 → enters [entry 0 pa bytes]) ∧
    (∀ pa, directAt s t va n pa → ¬ shut pa n → 32 ≤ s.ls.sb.length → ∃ u p, exec i s = .next u ∧
      u.th t = { h with wait := .store p, entered := false } ∧ p.bytes = bytes ∧ OnlyThread s u t) ∧
    (∀ pa, directAt s t va n pa → shut pa n → exec i s = .next (s.sealed ((s.issued t).trap t 0x0E va 0))) ∧
    (∀ pa k, s.untranslated h.pl = true → va.toNat + n ≤ 2 ^ 40 → pa = s.pos.chip.toNat * 2 ^ 40 + va.toNat →
      k = 64 - va.toNat % 64 → k < n → ¬ shut pa k → ¬ shut (pa + k) (n - k) → s.ls.sb.length < 31 →
      enters [entry 0 pa (bytes.take k), entry 1 (pa + k) (bytes.drop k)]) ∧
    (∀ x, tlbHolds s t va x → va.toNat % 64 + n ≤ 64 →
      let pa := tlbAddr va x
      let user := h.pl = 0 → wbit x.leaf 5 = true
      let faults (kind : Nat) := exec i s = .next (s.sealed ((s.issued t).trap t 0x06 va (BitVec.ofNat 64 (kind + 512))))
      (wbit x.leaf 9 = true → ¬ user → faults 4) ∧ (wbit x.leaf 9 = true → user → wbit x.leaf 3 = false → faults 6) ∧
      (wbit x.leaf 9 = true → user → wbit x.leaf 3 = true → ¬ shut pa n → s.ls.sb.length < 32 → ∃ u, exec i s = .next u ∧
        u.th t = h.done (memLen e) ∧ OnlyThread { s with ls := u.ls, xl := u.xl } u t ∧
        u.ls = { s.ls with sb := s.ls.sb ++ [{ entry 0 pa bytes with pol := tlbPol s va x }], sbSeq := s.ls.sbSeq + 1 } ∧
        u.xl = { s.xl with l1tlb := u.xl.l1tlb } ∧ u.xl.l1tlb.head? = some x ∧ ∀ z ∈ u.xl.l1tlb, z ∈ s.xl.l1tlb) ∧
      (wbit x.leaf 9 = false → s.xl.walks.length < 8 → s.quiescing .xlt = false → (∀ w ∈ s.xl.walks, w.who ≠ .thread t) →
        ∃ u p w, exec i s = .next u ∧ u.th t = { h with wait := .store p, entered := false } ∧ p.bytes = bytes ∧
          OnlyThread { s with xl := u.xl } u t ∧
          u.xl = { s.xl with walks := s.xl.walks ++ [w], nextWalk := s.xl.nextWalk + 1 } ∧
          (w.id, w.va, w.pl, w.who, w.rd, w.wr, w.level) = (s.xl.nextWalk, va, h.pl, .thread t, false, true, 1)))) ∧
  (∀ (s : State) (e : SbEntry) (rest : List SbEntry), s.ls.sb = e :: rest →
    (∀ v, (s.th v).wait = .none) → (∀ c, (s.chan c).desc = none) → s.tile.mem = [] → s.released = true →
    s.tmg.ret = none → (e.asked = true → s.fillOf (e.pa / 128) = none) →
    (∀ o, s.shelfOff e.pa = some o → o + e.bytes.length ≤ 393216 * s.ls.ways → o % 64 + e.bytes.length ≤ 64 →
      0 < e.bytes.length → shelfClean s o → ∃ u, exec .storeBufferLeave s = .next u ∧ u.ls.sb = rest ∧
      u.shelfBytes o e.bytes.length = e.bytes ∧
      (∀ x, x < o ∨ o + e.bytes.length ≤ x → getD zero8 u.ls.shelf x = getD zero8 s.ls.shelf x) ∧
      u.ls.lines = s.ls.lines ∧ Accounts s { u with ls := s.ls }) ∧
    (s.window e.pa = .mem → s.window (128 * (e.pa / 128)) = .mem → e.pa % 64 + e.bytes.length ≤ 64 → 0 < e.bytes.length →
      let line := e.pa / 128
      let o := e.pa % 128
      let leaves (p : State → Prop) : Prop := ∃ u, exec .storeBufferLeave s = .next u ∧ u.ls.sb = rest ∧
        Accounts s { u with ls := s.ls, noc := s.noc } ∧ p u
      let writes (k : Nat) (u : State) : Prop := ∃ x, u.noc = storeAsks s e k x ∧
        (x.typ, x.addr, x.size, x.kind, x.src) = (1, e.pa / 64 * 64, 4, .write, .thread e.thr) ∧ x.sent = false ∧
        (∀ j, j < 64 → x.mask[j]? = some (e.pa % 64 ≤ j && j < e.pa % 64 + e.bytes.length)) ∧
        (∀ j, j < e.bytes.length → x.data[e.pa % 64 + j]? = e.bytes[j]?)
      let inL1 (u : State) : Prop := (s.l1Way (e.pa / 64) = none → u.ls.l1 = s.ls.l1) ∧
        ∀ v y, s.l1Way (e.pa / 64) = some v → lookup s.ls.l1 (4 * (e.pa / 64 % 128) + v) = some y →
          u.ls.l1 = put s.ls.l1 (4 * (e.pa / 64 % 128) + v)
            { y with data := y.data.take (e.pa % 64) ++ e.bytes ++ y.data.drop (e.pa % 64 + e.bytes.length) }
      let merged (w : Nat) (l : LsLine) (dirty : Bool) (u : State) : Prop := ∃ l' : LsLine,
        u.ls = { s.ls with
          sb := rest, lines := put s.ls.lines (s.cell (line % 3072) w) l', plru := u.ls.plru, l1 := u.ls.l1 } ∧
        (l'.line, l'.dirty, l'.errs, l'.tagErr, l'.pois) = (l.line, dirty, l.errs, l.tagErr, l.pois) ∧
        ∀ j, j < 128 → l'.data[j]? = if o ≤ j ∧ j < o + e.bytes.length then e.bytes[j - o]? else l.data[j]?
      (∀ k, e.pol = 2 → s.evicting line = false → s.lsWay line = none → s.freeIdx true = some k →
        leaves fun u => writes k u ∧ u.ls = { s.ls with sb := rest }) ∧
      (∀ k, e.pol = 0 → lineAbsent s line → s.freeIdx false = some k →
        leaves fun u => writes k u ∧ inL1 u ∧ u.ls = { s.ls with sb := rest, l1 := u.ls.l1 }) ∧
      (∀ k w l, e.pol = 0 → soundLine s line w l → l.dirty = false → e.bytes.length < 64 → s.fillOf line = none →
        s.sideOf line = none → s.freeIdx false = some k → leaves fun u => writes k u ∧ inL1 u ∧ merged w l false u) ∧
      (∀ w l, e.pol = 1 → soundLine s line w l → e.bytes.length < 64 → s.fillOf line = none → s.sideOf line = none →
        leaves fun u => u.noc = s.noc ∧ inL1 u ∧ merged w l true u) ∧
      (∀ k w, e.pol = 1 → e.asked = false → lineAbsent s line → emptyWay s line w → s.freeIdx true = some k →
        ∃ u x, exec .storeBufferLeave s = .next u ∧ u.ls = { s.ls with sb := { e with asked := true } :: rest } ∧
          u.noc = asks s k x ∧ Accounts s { u with ls := s.ls, noc := s.noc } ∧
          (x.typ, x.addr, x.size, x.kind, x.src) = (0, 128 * line, 5, .fill line (some w) false [.sb], .thread e.thr) ∧
          x.sent = false)))

/-- Atomics: a misaligned address raises the alignment trap; on the own shelf the new value is written, gd takes the old one
sign-extended, and nothing else changes; in the protected range at U or S the store-protection trap is raised; on memory
past the caches an atomic request joins the table and the thread waits for its answer (R168, R176, R207, R225, R242).  That
it counts as sent, so that no event abandons it (R164), from when it joins the table, before it has left, is the model's
choice (log 65); that the store-protection trap gives the effective address as the fault address is its reading (log 61). -/
def Obligations.Atomics : Prop :=
  ∀ (i : Instr) (s : State) (t : Thread) (op : Nat) (wide : Bool) (gd ga gs : GReg),
    amoOf i = some (t, op, wide, gd, ga, gs) → Goes s t 2 →
    let va := s.g t ga
    let h := s.th t
    let n := if wide then 8 else 4
    let bit := 8 * n
    let cut (x : Word) : Nat := x.toNat % 2 ^ bit
    let shut (pa : Nat) : Prop := h.pl ≠ 3 ∧ ∃ o, s.shelfOff pa = some o ∧ h.protects o n = true
    (va.toNat % n ≠ 0 → exec i s = .next (s.sealed ((s.issued t).trap t 0x03 va 0))) ∧
    (∀ pa, va.toNat % n = 0 → directAt s t va n pa → shut pa →
      exec i s = .next (s.sealed ((s.issued t).trap t 0x0E va 0))) ∧
    (∀ pa o, va.toNat % n = 0 → directAt s t va n pa → ¬ shut pa → s.sbHas t = false → s.shelfOff pa = some o →
      shelfClean s o → s.ls.shelfPois.contains (o / 64) = false →
      let old := ofBytes (s.shelfBytes o n)
      ∃ u, exec i s = .next u ∧ u.th t = (h.wrote gd (BitVec.ofInt 64 (Int.bmod old (2 ^ bit)))).next 2 ∧
        u.shelfBytes o n = bytesOf n (amoWrites op bit old (cut (s.g t gs)) (cut (s.g t gd))) ∧
        (∀ x, x < o ∨ o + n ≤ x → getD zero8 u.ls.shelf x = getD zero8 s.ls.shelf x) ∧
        OnlyThread { s with ls := u.ls } u t ∧ u.ls = { s.ls with l1 := u.ls.l1, shelf := u.ls.shelf }) ∧
    (∀ pa k, va.toNat % n = 0 → directAt s t va n pa → s.sbHas t = false → s.window pa = .mem →
      s.fillOf (pa / 128) = none → s.evicting (pa / 128) = false → s.lsWay (pa / 128) = none →
      s.sideOf (pa / 128) = none → s.freeIdx true = some k → ∃ u x p, exec i s = .next u ∧
        u.th t = { h with wait := .amo p, entered := false } ∧ p.sent = true ∧ p.gd = gd ∧ p.wide = wide ∧
        u.noc = { s.noc with rt := put s.noc.rt k x, queue := s.noc.queue ++ [k] } ∧
        (x.typ, x.addr, x.size, x.op, x.kind, x.src) = (2, pa, if wide then 3 else 2, op, .atom t, .thread t) ∧
        x.data = bytesOf 8 (cut (s.g t gs)) ++ bytesOf 8 (cut (s.g t gd)) ++ List.replicate 48 0 ∧ x.sent = false ∧
        OnlyThread { s with ls := u.ls, noc := u.noc } u t ∧ u.ls = { s.ls with l1 := u.ls.l1 })

/-- FENCE completes when the thread's earlier stores, atomics and maintenance operations are performed at its scope, its
span clears are acknowledged and its earlier XINVs, whatever their scope, are acknowledged, and waits otherwise.  XINV at
U raises the privilege trap; at core scope it removes the entries it names from the translation caches, spans apart, and
empties the walk cache; at a wider scope it also puts a request into the table.  LSM by set and way at U raises the
privilege trap; it cleans, invalidates, or cleans and invalidates the line there, and waits while an earlier store of its
thread to the line is in the store buffer.  That a FENCE waits for span clears and an LSM for such stores is the model's
reading (log 47, log 83) (R211, R212, R239, R241, R256, R259, R261). -/
def Obligations.FencesAndMaintenance : Prop :=
  ∀ (s : State) (t : Thread) (ga : GReg) (sc : Scope), Goes s t 2 →
    let h := s.th t
    let rank := scopeRank sc
    let mine (e : RtEntry) : Prop := e.src = .thread t ∨ e.src = .tileMem (some t) ∨ e.src = .maint t
    let stores (k : ReqKind) : Prop := k = .write ∨ (∃ w, k = .writeBack false w) ∨ ∃ v, k = .atom v
    let stored := (∀ e ∈ s.ls.sb, e.thr ≠ t) ∧ (∀ x ∈ s.noc.clears, x.who ≠ .thread t) ∧ (rank = 0 ∨ ∀ x ∈ s.noc.rt, mine x.2 → stores x.2.kind →
      x.2.dead = true ∨ (x.2.sent = true ∧ rank < s.homeScope x.2.addr))
    let xinvs := ∀ x ∈ s.noc.rt, ∀ c, x.2.kind = .xinv t c → x.2.dead = true
    let hit (kind : Nat) (e : TlbEntry) : Bool := e.span.isNone && (if kind = 0 then
      (s.g t ga).toNat / 2 ^ e.k = e.base / 2 ^ e.k else if kind = 1 then !wbit e.leaf 10 else true)
    let xl (kind : Nat) : Xlate := { s.xl with
      l1tlb := s.xl.l1tlb.filter fun e => !hit kind e
      ldlTlb := s.xl.ldlTlb.filter fun e => !hit kind e
      mtlb := s.xl.mtlb.filter fun e => !hit kind e.2
      wcache := []
      walks := s.xl.walks.map fun w => { w with again := true } }
    let each (p : Instr → Nat → Prop) : Prop :=
      p (.xinvAddress t ga sc) 0 ∧ p (.xinvNonglobal t ga sc) 1 ∧ p (.xinvAll t ga sc) 2
    let both (b : Bool) (p : Instr → BitVec 2 → Prop) : Prop :=
      p (.lsmClean t ga b) 0 ∧ p (.lsmInvalidate t ga b) 1 ∧ p (.lsmCleanInvalidate t ga b) 2
    (stored → xinvs → ∃ u, exec (.fence t sc) s = .next u ∧ u.th t = h.done 2 ∧ OnlyThread s u t) ∧
    (¬ stored ∨ ¬ xinvs → ∃ u, exec (.fence t sc) s = .next u ∧ u.th t = { h with wait := .fence sc, entered := false } ∧ OnlyThread s u t) ∧
    each (fun i kind =>
      (h.pl = 0 → exec i s = .next (s.sealed ((s.issued t).trap t 0x02 0
        (BitVec.ofNat 64 (0x3000 + 0x18 * 0x40 + ga.val + 16 * rank))))) ∧
      (h.pl ≠ 0 → ¬ stored → ∃ u, exec i s = .next u ∧
        u.th t = { h with wait := .xinv (BitVec.ofNat 2 kind) (s.g t ga) sc, entered := false } ∧ OnlyThread s u t) ∧
      (h.pl ≠ 0 → stored → sc = .core → ∃ u, exec i s = .next u ∧ u.th t = h.done 2 ∧
        OnlyThread { s with xl := u.xl } u t ∧ u.xl = xl kind) ∧
      (h.pl ≠ 0 → stored → sc ≠ .core → ∀ k, s.freeIdx false = some k → ∃ u x, exec i s = .next u ∧
        u.th t = h.done 2 ∧ OnlyThread { s with xl := u.xl, noc := u.noc } u t ∧ u.xl = xl kind ∧
        u.noc = { s.noc with rt := put s.noc.rt k x, queue := s.noc.queue ++ [k] } ∧
        (x.typ, x.addr, x.op, x.kind) = (4, (s.g t ga).toNat % 2 ^ 58, rank + 4 * kind, .xinv t sc) ∧ x.sent = false)) ∧
    both true (fun i op =>
      let set := (s.g t ga).toNat % 2 ^ 12
      let w := (s.g t ga).toNat / 2 ^ 16 % 16
      let k0 := s.cell set w
      let none' := 3072 ≤ set ∨ 16 ≤ w + s.ls.ways ∨ wbit (s.com .rpr 0x50) w = false ∨
        lookup s.ls.lines k0 = none
      (h.pl = 0 → exec i s = .next (s.sealed ((s.issued t).trap t 0x02 0
        (BitVec.ofNat 64 (0x3000 + 0x19 * 0x40 + ga.val))))) ∧
      (h.pl ≠ 0 → none' → ∃ u, exec i s = .next u ∧ u.th t = h.done 2 ∧ OnlyThread s u t) ∧
      (∀ l, h.pl ≠ 0 → ¬ none' → lookup s.ls.lines k0 = some l → s.sbHolds t (128 * l.line) 128 = true →
        ∃ u, exec i s = .next u ∧ u.th t = { h with wait := .lsm op (s.g t ga) true, entered := false } ∧ OnlyThread s u t) ∧
      (∀ l, h.pl ≠ 0 → ¬ none' → lookup s.ls.lines k0 = some l → s.sbHolds t (128 * l.line) 128 = false → l.line % 3072 = set → l.errs = (0, 0) →
        l.tagErr = 0 → s.sideOf l.line = none → l.dirty = false ∨ op = 1 → ∃ u, exec i s = .next u ∧ u.th t = h.done 2 ∧
        OnlyThread { s with ls := u.ls } u t ∧
        u.ls = { s.ls with l1 := u.ls.l1, lines := if op = 0 then s.ls.lines else drop s.ls.lines k0 } ∧
        (l1Once s (2 * l.line) → u.l1Way (2 * l.line) = none) ∧
        (l1Once s (2 * l.line + 1) → u.l1Way (2 * l.line + 1) = none)) ∧
      (∀ l k, h.pl ≠ 0 → ¬ none' → lookup s.ls.lines k0 = some l → s.sbHolds t (128 * l.line) 128 = false →
        l.line % 3072 = set → l.errs = (0, 0) → l.tagErr = 0 → s.sideOf l.line = none → l.dirty = true → op ≠ 1 → s.freeIdx true = some k →
        ∃ u x, exec i s = .next u ∧ u.th t = h.done 2 ∧ OnlyThread { s with ls := u.ls, noc := u.noc } u t ∧
        u.noc = { s.noc with rt := put s.noc.rt k x, queue := s.noc.queue ++ [k] } ∧
        (x.typ, x.addr, x.size, x.kind, x.data, x.psn) = (1, 128 * l.line, 5, .writeBack false w, l.data, l.pois.toNat) ∧
        lookup u.ls.lines k0 = if op = 0 then some { l with dirty := false } else none)) ∧
    both false (fun i op =>
      (2 ^ 57 ≤ (s.g t ga).toNat → exec i s = .next (s.sealed ((s.issued t).trap t 0x06 (s.g t ga)
        (if op = 0 then 1 else 1 + 512)))) ∧
      (∀ pa, directAt s t (s.g t ga) 0 pa → s.window pa = .mem → s.policyAt pa (wbits (s.com .xlt 0x50) 2 1) < 2 →
        s.fillOf (pa / 128) = none → s.evicting (pa / 128) = false → s.sideOf (pa / 128) = none → s.lsWay (pa / 128) = none →
        s.sbHolds t (128 * (pa / 128)) 128 = false →
        ∃ u, exec i s = .next u ∧ u.th t = h.done 2 ∧ OnlyThread { s with ls := u.ls } u t ∧
          u.ls = { s.ls with l1 := u.ls.l1 } ∧ (l1Once s (2 * (pa / 128)) → u.l1Way (2 * (pa / 128)) = none) ∧
          (l1Once s (2 * (pa / 128) + 1) → u.l1Way (2 * (pa / 128) + 1) = none)))

/-! ## Run, sleep and reset of threads, and the Scale -/

/-- WAIT completes and then sleeps, unless SLE is 0, a wake condition holds or a single-step trap is due.  THREAD_WAKE ends
sleep on a wake condition where RUN is 1; THREAD_STOP stops a thread with RUN = 0 at a boundary; TRST abandons an
interruptible wait of each thread it names and asks for its reset, which a halted thread takes at once where the tile unit
can be given up; THREAD_RESET_EFFECT gives the thread its reset values with the pc at 0x30 and releases its tile unit, or
abandons a wait that the thread has entered since; TIMER_EXPIRY raises source 20 + t and clears TCMP.  That a single-step
trap due keeps the thread awake is the model's reading (log 24), and that XINV's wait for earlier stores is interruptible
log 115 (R281, R286, R287, R356, R358). -/
def Obligations.ThreadsRunAndSleep : Prop :=
  ∀ (s : State) (t : Thread),
    let h := s.th t
    let fresh (v : Thread) : HThread := { HThread.reset with pc := 0x30, stopped := !s.runBit v }
    let lets (v : Thread) := s.tile.owner ≠ some v ∨ s.tile.queue = [] ∨
      (s.tile.frozen = true ∧ ∀ q ∈ s.tile.queue, q.started = false)
    let open' (k : HThread) : Prop := k.wait ≠ .none ∧ k.wait ≠ .stall ∧ k.wait.interruptible = true
    let left (k : HThread) : HThread := { k.deliver with wait := .none }
    let most (u : State) : Prop := Accounts s { u with thr := s.thr, tile := s.tile, noc := s.noc, crk := s.crk, xl := s.xl }
    (Goes s t 2 → ∃ u, exec (.wait t) s = .next u ∧ OnlyThread s u t ∧
      (s.sleBit t = false ∨ wakes u t ∨ (h.done 2).stepTrap = true → u.th t = h.done 2) ∧
      (s.sleBit t = true → ¬ wakes u t → (h.done 2).stepTrap = false →
        u.th t = { h.done 2 with sleep := if s.dseBit t then .deep else .asleep })) ∧
    (h.sleep ≠ .awake → wakes s t → s.runBit t = true → s.alive = true →
      exec (.threadWake t) s = .next (s.setTh t { h with sleep := .awake })) ∧
    (h.sleep = .awake ∨ ¬ wakes s t ∨ s.runBit t = false ∨ s.alive = false → exec (.threadWake t) s = .next s) ∧
    (s.runBit t = false → h.stopped = false → h.halted = false → h.sleep ≠ .awake ∨ h.boundary = true →
      ∃ u, exec (.threadStop t) s = .next u ∧ OtherThreads s u t ∧ most u ∧
        u.th t = { left h with stopped := true, entered := false, sleep := .awake }) ∧
    (s.runBit t = true ∨ h.stopped = true ∨ h.halted = true ∨ (h.sleep = .awake ∧ h.boundary = false) →
      exec (.threadStop t) s = .next s) ∧
    (∀ (w : Writer) (mask : BitVec 4), Serves s w → w = .driver ∨ w = .firmware →
      ∃ u, exec (.trst w mask) s = .next u ∧ most u ∧ ∀ v, (nbit mask.toNat v.val = false → u.th v = s.th v) ∧
        (nbit mask.toNat v.val = true → (s.th v).halted = true → lets v → u.th v = fresh v) ∧
        (nbit mask.toNat v.val = true → (s.th v).halted = false ∨ (¬ lets v ∧ ∀ x, (s.th x).wipes = false) →
          (open' (s.th v) → u.th v = { left (s.th v) with resetReq := true }) ∧
          (¬ open' (s.th v) → u.th v = { s.th v with resetReq := true }))) ∧
    (s.alive = true → h.resetReq = true → h.halted = true ∨ h.boundary = true →
      (lets t → ∃ u, exec (.threadResetEffect t) s = .next u ∧ u.th t = fresh t ∧ OtherThreads s u t ∧ most u ∧
        u.tile.owner = (if s.tile.owner = some t then none else s.tile.owner)) ∧
      (¬ lets t → open' h → ∃ u, exec (.threadResetEffect t) s = .next u ∧ u.th t = left h ∧ OtherThreads s u t ∧ most u)) ∧
    (s.alive = false ∨ h.resetReq = false ∨ (h.halted = false ∧ h.boundary = false) ∨ (¬ lets t ∧ ¬ open' h) →
      exec (.threadResetEffect t) s = .next s) ∧
    (h.tcmp ≠ 0 → h.tcmp.toNat ≤ s.tmg.time → s.alive = true → exec (.timerExpiry t) s = .next
      { s.setTh t { h with tcmp := 0 } with irq := { s.irq with edge := setBit s.irq.edge (20 + t.val) true } }) ∧
    (h.tcmp = 0 ∨ s.tmg.time < h.tcmp.toNat → exec (.timerExpiry t) s = .next s)

/-- The Scale: leakage lowers the balance by its weight, not below the least balance, and counts in E_TOTAL; in
retention there is none.  A policy move asks for a level lower on a deferral, or for one higher at the high-water mark,
within FLOOR and CEIL and once per DWELL.  Every budget grant is acknowledged, and its flit and its acknowledgment are
charged.  One with a reserved bit is counted as malformed, one with the sequence number seen last sets EVENT.DUPG:
neither changes the balance otherwise, the reserve, the limits, GRANT_SEQ, SEEN, GRANTS or EVENT.GRANT.  Every other
grant sets or adds the amount, the balance held at its greatest value, notes the sequence number, and with OVDV writes
the limit. That a SET amount is held there too, and that OVD goes into the shadow and the committed copy, are the
model's readings (logs 36, 35) (R279, R288, R289, R291, R292, R294, R295). -/
def Obligations.ScaleAccounts : Prop :=
  ∀ (s : State),
    let pol := s.comN .scl 0x78
    let down := min (s.comN .tmg 0x90 / 2 ^ 8 % 8) (max (s.comN .tmg 0x90 / 2 ^ 4 % 8) (s.tmg.vlCur.val - 1))
    let up := pol / 2 % 2 = 1 ∧ s.hiwat ≤ s.scl.bal ∧ s.tmg.vlWant.val < s.comN .tmg 0x90 / 2 ^ 8 % 8
    let free := s.en .scl = true ∧ s.quiescing .scl = false ∧ s.en .tmg = true ∧ s.tmg.ret = none ∧
      s.scl.lastMove + 100 * (pol / 2 ^ 8 % 256) ≤ s.tmg.time
    let cut := s.tile.deferred = true ∧ pol % 2 = 1 ∧ down ≠ s.tmg.vlWant.val
    let moves (l : Nat) : Prop := exec .scalePolicyMove s = .next
      { s with tmg := { s.tmg with vlWant := Fin.ofNat 8 l }, scl := { s.scl with lastMove := s.tmg.time } }
    (s.tmg.ret = none → ∃ u, exec .leakageCharge s = .next u ∧ Accounts s u ∧
      u.scl.bal = max (-2 ^ 51) (s.scl.bal - s.weight 0x1C) ∧
      (u.scl.e[0]).toNat = ((s.scl.e[0]).toNat + s.weight 0x1C) % 2 ^ 52) ∧
    (s.tmg.ret ≠ none → exec .leakageCharge s = .next s) ∧
    (free → cut → moves down) ∧
    (free → ¬ cut → up → moves (s.tmg.vlWant.val + 1)) ∧
    (¬ free ∨ (¬ cut ∧ ¬ up) → exec .scalePolicyMove s = .next s) ∧
    (∀ (h : Hdr) (data : List Byte), h.typ = 3 → h.mkind = 2 → data.length = 64 → Hears s →
      h.addr.toNat = s.mmioBase →
      let w0 := (word64At data 0).toNat
      let w1 := (word64At data 8).toNat
      let bad := 2 ^ 49 ≤ w1 ∨ ∃ b ∈ data.drop 16, b ≠ 0
      let again := s.scl.seen = true ∧ w0 / 2 ^ 48 = s.scl.grantSeq.toNat
      let paid (x : Int) (c : Nat) : Int := max (-2 ^ 51) (x - s.weight c)
      let b := if w1 / 2 ^ 48 % 2 = 1 then 16 * ((w0 % 2 ^ 48 : Nat) : Int) else paid s.scl.bal 0x17 + 16 * ((w0 % 2 ^ 48 : Nat) : Int)
      let bit (x : State) (i : Nat) : Bool := wbit (x.frame .scl).event i
      let acked (u : State) : Prop := u.noc = { s.noc with out := u.noc.out } ∧
        ∃ p, u.noc.out = some p ∧ p.typ = 9 ∧ p.sts = 0 ∧ p.tag = h.tag ∧ p.data = []
      let unpaid (u : State) : Prop := u.scl.bal = paid (paid s.scl.bal 0x17) 0x18 ∧
        OnlyFrame s { u with noc := s.noc } .scl ∧ bit u 2 = bit s 2 ∧ u.counter .scl 9 = s.counter .scl 9
      ∃ u, exec (.budgetGrant h data) s = .next u ∧ acked u ∧
        (bad → unpaid u ∧ bit u 3 = bit s 3 ∧ u.counter .scl 10 = s.counter .scl 10 + 1) ∧
        (¬ bad → again → unpaid u ∧ bit u 3 = true ∧ u.counter .scl 10 = s.counter .scl 10) ∧
        (¬ bad → ¬ again → u.scl.bal = paid (min (2 ^ 51 - 16) b) 0x18 ∧ u.scl.grantSeq.toNat = w0 / 2 ^ 48 ∧
          OnlyFrame s { u with
            noc := s.noc, shadow := s.shadow, committed := s.committed
            scl := { u.scl with grantSeq := s.scl.grantSeq, seen := s.scl.seen } } .scl ∧
          u.scl.seen = true ∧ bit u 2 = true ∧ bit u 3 = bit s 3 ∧ u.counter .scl 9 = s.counter .scl 9 + 1 ∧
          u.counter .scl 10 = s.counter .scl 10 ∧
          (w1 / 2 ^ 47 % 2 = 1 → ∀ p o, o < 0x1000 →
            u.com p o = (if p = .scl ∧ o = 0x60 then BitVec.ofNat 64 (w1 % 2 ^ 47) else s.com p o) ∧
            u.reg p o = (if p = .scl ∧ o = 0x60 then BitVec.ofNat 64 (w1 % 2 ^ 47) else s.reg p o)) ∧
          (w1 / 2 ^ 47 % 2 = 0 → u.committed = s.committed ∧ u.shadow = s.shadow)))

/-! ## The NoC port -/

/-- NOC_REQUEST_SEND: a request leaves when nothing ahead of it in the queue is a device access of the same requester or
touches the same line with a write among the two; the header carries its tag and this core's position, and its timer
starts with the limits in force; in a warm reset what is still in the table may leave.  The header's fields stand at their
bit positions; a whole write's header goes with the first flit, a masked write's alone and then each flit with its mask.
Holding a request behind another requester's to the same line is the model's reading (log 45) (R201, R213, R221, R223,
R224, R227, R228, R240). -/
def Obligations.RequestsLeave : Prop :=
  (∀ (s : State) (i : Nat) (e : RtEntry), lookup s.noc.rt i = some e →
    let held := ∃ j x, j ∈ s.noc.queue.takeWhile (· ≠ i) ∧ lookup s.noc.rt j = some x ∧
      ((x.dev = true ∧ e.dev = true ∧ x.src = e.src) ∨ (x.addr / 128 = e.addr / 128 ∧ (x.typ ≠ 0 ∨ e.typ ≠ 0)))
    let moves := s.portRuns = true ∨ s.phase = .warmReset
    let cfg := s.comN .ldl 0x140
    (moves → Calm s → e.sent = false → e.dead = false → e.after = none → ¬ held →
      ∃ u p, exec (.nocRequestSend i) s = .next u ∧ Accounts s { u with noc := s.noc } ∧ u.noc.out = some p ∧
        (p.typ, p.tag, p.schip, p.sclu, p.score, p.addr, p.size, p.psn, p.data) =
          (e.typ, { idx := i, gen := s.genOf i }, s.pos.chip, s.pos.cluster, s.pos.core, e.addr, e.size, e.psn, e.data) ∧
        (p.sts, p.sc, p.masked, p.mask) = (0, 0, e.masked, if e.masked then e.mask else []) ∧
        (p.op, p.mkind) = (if e.typ = 3 then (0, e.op) else (e.op, 0)) ∧
        u.noc.queue = s.noc.queue.filter (· ≠ i) ∧ u.noc.gens = s.noc.gens ∧
        lookup u.noc.rt i = some { e with
          sent := true, timer := 0, held := 0, susp := false, tmo := 100 * (cfg % 1024), holdmax := 1000 * (cfg / 1024 % 1024) } ∧
        ∀ j, j ≠ i → lookup u.noc.rt j =
          (lookup s.noc.rt j).map fun x => if x.after = some i then { x with after := none } else x) ∧
    (¬ moves ∨ e.sent = true ∨ e.dead = true ∨ e.after ≠ none ∨ held → exec (.nocRequestSend i) s = .next s)) ∧
  (∀ p : Packet, let b := p.header.toNat
    fld b 3 0 = p.typ % 2 ^ 4 ∧ fld b 14 4 = p.tag.idx % 2 ^ 11 ∧ fld b 17 15 = p.tag.gen.toNat ∧
    fld b 35 18 = p.schip.toNat ∧ fld b 41 36 = p.sclu.toNat ∧ fld b 45 42 = p.score.toNat ∧
    fld b 103 46 = p.addr % 2 ^ 58 ∧ fld b 106 104 = p.size % 2 ^ 3 ∧ fld b 110 107 = p.op % 2 ^ 4 ∧
    fld b 112 111 = p.psn % 2 ^ 2 ∧ fld b 115 113 = p.sts % 2 ^ 3 ∧ fld b 117 116 = p.sc % 2 ^ 2 ∧
    fld b 118 118 = b2n p.masked ∧ fld b 124 119 = p.mkind % 2 ^ 6 ∧ fld b 159 125 = 0) ∧
  (∀ (p : Packet) (n : Nat), p.data.length = 64 * n →
    let lane (k : PortClock) (x : Nat) : Prop := ∃ l, k.header = some l ∧ l.toNat % 2 ^ 160 = x
    let flit (k : PortClock) (j : Nat) : Prop := ∃ l, k.data = some l ∧
      ∀ i, i < 64 → some (l.extractLsb' (8 * i) 8) = p.data[64 * j + i]?
    (∃ k, p.clocks[0]? = some k ∧ lane k p.header.toNat ∧ (p.masked = true ∨ n = 0 → k.data = none)) ∧
    (p.masked = false → p.clocks.length = max 1 n ∧ ∀ j, j < n → ∃ k, p.clocks[j]? = some k ∧ flit k j ∧
      (0 < j → k.header = none)) ∧
    (p.masked = true → p.mask.length = 64 * n → p.clocks.length = n + 1 ∧ ∀ j, j < n → ∃ k x, p.clocks[j + 1]? = some k ∧
      flit k j ∧ lane k x ∧ x < 2 ^ 64 ∧ ∀ i, i < 64 → some (x.testBit i) = p.mask[64 * j + i]?))

/-- Responses and notices: one whose tag names no live request is late, discarded and counted.  A good one frees its
entry and brings the requester its data: a far atomic the old value, a device or uncached load its bytes, a fill its
line.  HOLD stops the timer, as a response with the retry-pending notice does; HOLD_END and the longest suspension let
it go on.  An error response, LINKFAIL and a timer that runs out fail a write with kinds 0x10, 0x12 and 0x11 and a
machine check; the entry is freed, or quarantined until its second time limit has passed.  That every other STS but 0 is
an error response is log 66, and the record kept without an EVENT bit is log 43 (R168, R195, R221, R224, R225, R227,
R229).  That a HOLD_END for a tag that is not live counts as late, as the other notices do, is log 106. -/
def Obligations.PortAnswers : Prop :=
  (∀ (s : State) (tag : Tag) (sts : BitVec 3) (psn : BitVec 2) (errs : BitVec 4) (data : List Byte) (sc : Scope) (old : Word),
    s.portRuns = true → (∀ e, lookup s.noc.rt tag.idx = some e → e.sent = false ∨ e.dead = true ∨ s.genOf tag.idx ≠ tag.gen) →
    ∀ c ∈ [Instr.rdRsp tag sts psn data errs, .wrAck tag sts sc, .atomRsp tag sts old, .xinvAck tag sts, .hold tag,
        .holdEnd tag, .linkfail tag],
      ∃ u, exec c s = .next u ∧ Accounts s u ∧ u.counter .ldl 1 = s.counter .ldl 1 + 1) ∧
  (∀ (s : State) (i : Nat) (e : RtEntry) (sc : Scope), lookup s.noc.rt i = some e → e.sent = true → e.dead = false →
    let tag : Tag := { idx := i, gen := s.genOf i }
    let set (x : RtEntry) (u : State) : Prop :=
      u.noc = { s.noc with rt := put s.noc.rt i x } ∧ Accounts s { u with noc := s.noc }
    let ends (u : State) : Prop := freed s u i ∧ Accounts s { u with noc := s.noc, ldl := s.ldl }
    let fails (kind : Nat) (u : State) : Prop := checkRaised s u .ldl ∧
      Accounts s ({ u with noc := s.noc, ldl := s.ldl, irq := s.irq, ras := s.ras }.setFrame .ldl (s.frame .ldl)) ∧
      u.frame .ldl = (s.frame .ldl).captures e.addr (kind + 256 * e.src.code) false
    (s.portRuns = true → ∃ u, exec (.hold tag) s = .next u ∧ set { e with susp := true, held := 0 } u) ∧
    (s.portRuns = true → let notes (c : Instr) : Prop := ∃ u, exec c s = .next u ∧ set { e with susp := true, held := 0 } u
      (e.typ = 1 ∨ e.typ = 3 ∨ e.typ = 6 → notes (.wrAck tag 3 sc)) ∧ (e.typ = 4 → notes (.xinvAck tag 3)) ∧
      (e.typ = 2 → ∀ old, notes (.atomRsp tag 3 old)) ∧
      (e.typ = 0 → ∀ psn data errs, data.length = (if e.size = 5 then 128 else 64) → notes (.rdRsp tag 3 psn data errs))) ∧
    (s.portRuns = true → ∃ u, exec (.holdEnd tag) s = .next u ∧ set { e with susp := false } u) ∧
    (s.alive = true → e.susp = true → e.holdmax ≤ e.held → ∃ u, exec (.holdExpiry i) s = .next u ∧ set { e with susp := false } u) ∧
    (e.susp = false ∨ e.held < e.holdmax → exec (.holdExpiry i) s = .next s) ∧
    (e.timer < e.tmo → exec (.requestTimeout i) s = .next s) ∧
    (exec (.quarantineEnd i) s = .next s) ∧
    (Calm s → s.portRuns = true → e.typ = 1 ∨ e.typ = 3 ∨ e.typ = 6 → ∃ u, exec (.wrAck tag 0 sc) s = .next u ∧ ends u ∧
      u.noc.ready = (if (s.noc.ready.bind (·.entry)) = some i then none else s.noc.ready) ∧
      u.noc.fatal = (if (s.noc.fatal.bind (·.entry)) = some i then none else s.noc.fatal)) ∧
    (Calm s → s.portRuns = true → e.typ = 4 → ∃ u, exec (.xinvAck tag 0) s = .next u ∧ ends u) ∧
    (Calm s → s.portRuns = true → e.typ = 0 → e.size = 5 → ∀ line w d psn, e.kind = .fill line (some w) false [] →
      d.length = 128 → s.wayEnabled w = true → w + s.ls.ways < 16 → s.ls.growth = none →
      ∃ u, exec (.rdRsp tag 0 psn d 0) s = .next u ∧ freed s u i ∧
        Accounts s { u with noc := s.noc, ldl := s.ldl, ls := s.ls } ∧
        u.ls = { s.ls with lines := u.ls.lines, plru := u.ls.plru } ∧
        u.ls.lines = put s.ls.lines (s.cell (line % 3072) w)
          { line := line, dirty := false, data := d, pois := psn, errs := (0, 0), tagErr := 0 }) ∧
    (Calm s → s.portRuns = true → e.kind = .write → (∀ sts, e.typ = 1 → sts ≠ 0 → sts ≠ 3 →
        ∃ u, exec (.wrAck tag sts sc) s = .next u ∧ freed s u i ∧ fails 0x10 u) ∧
      ∃ u, exec (.linkfail tag) s = .next u ∧ freed s u i ∧ fails 0x12 u) ∧
    (Calm s → s.alive = true → e.kind = .write → e.tmo ≤ e.timer → ∃ u, exec (.requestTimeout i) s = .next u ∧ fails 0x11 u ∧
      u.noc.rt = put s.noc.rt i { e with dead := true, quar := 0 } ∧ u.noc.gens = s.noc.gens)) ∧
  (∀ (s : State) (i : Nat) (e : RtEntry) (t : Thread), lookup s.noc.rt i = some e → e.sent = true → e.dead = false →
    (∀ v, v ≠ t → (s.th v).wait = .none) → (∀ c, (s.chan c).desc = none) → s.tile.mem = [] → s.portRuns = true →
    let tag : Tag := { idx := i, gen := s.genOf i }
    let h := s.th t
    let ends (u : State) : Prop := freed s u i ∧ OtherThreads s u t ∧
      Accounts s { u with noc := s.noc, ldl := s.ldl, thr := s.thr, crk := { u.crk with btb := s.crk.btb } }
    (∀ p old, e.typ = 2 → e.kind = .atom t → h.wait = .amo p → p.sent = true →
      ∃ u, exec (.atomRsp tag 0 old) s = .next u ∧ ends u ∧ u.th t =
        (h.wrote p.gd (if p.wide then old else BitVec.ofInt 64 (Int.bmod old.toNat (2 ^ 32)))).next 2) ∧
    (∀ p x pol d psn, e.typ = 0 → e.kind = .uncRead (.load t) → e.size ≤ 3 → h.wait = .load p → p.parts = [x] →
      x.pa = some (e.addr, pol) → x.asked = true → x.got = none → x.len = 2 ^ e.size → p.size = x.len →
      e.addr % 64 + x.len ≤ 64 → d.length = 64 → wbit psn 0 = false →
      ∃ u, exec (.rdRsp tag 0 psn d 0) s = .next u ∧ ends u ∧ u.th t = h.complete p.words none (.load p.d
        (BitVec.ofInt 64 (Int.bmod (ofBytes ((d.drop (e.addr % 64)).take x.len)) (2 ^ (8 * x.len)))))) ) ∧
  (∀ (s : State) (i : Nat) (e : RtEntry), lookup s.noc.rt i = some e → e.dead = true → Calm s → s.alive = true →
    e.tmo ≤ e.quar → ∃ u, exec (.quarantineEnd i) s = .next u ∧ freed s u i ∧ Accounts s { u with noc := s.noc })

/-- What others read, write and update here, while the port runs and the window is served.  The shelf gives its bytes at
their places in the flit, takes the masked bytes and no others, and does an atomic at once; it refuses, with STS 2, what
lies beyond the configured shelf, and writes and atomics in a range that a thread protects.  The register window takes
reads and the host's writes of 8 aligned bytes, holds the answer to a span clear while accesses are in flight, refuses
another core's write, which changes nothing but REFUSE of the pages whose own rules say so, and answers another size, a
misaligned access and an atomic with an address error, as do all addresses that are no window here.  In retention, while
waking, or behind what waits already, what arrives waits in the port and wakes the core.  STS 2 for a refusal by the
shelf is the model's reading (log 46), as are the held answer to a span clear (log 47) and the wait in the port (log 54)
(R176, R207, R208, R223 to R225, R235, R242, R279, R300, R354, R367). -/
def Obligations.InboundMemory : Prop :=
  (∀ (s : State) (h : Hdr), Hears s →
    let a := h.addr.toNat
    let n := lenOf h
    let at0 := if n < 64 then a % 64 else 0
    let sc := if h.schip ≠ s.pos.chip then 3 else if h.sclu = s.pos.cluster then 1 else 2
    let clean (o : Nat) : Prop := ∀ b, o / 64 ≤ b → b < o / 64 + 2 → lookup s.ls.shelfErrs b = none
    let shut (o k : Nat) : Prop := ∃ v, (s.th v).protects o k = true
    let free (cls : Nat) : Prop := s.weight cls = 0 ∧ s.en .pmc = false ∧ -2 ^ 51 ≤ s.scl.bal
    let refused (c : Instr) (typ sts : Nat) (pg : Page) : Prop := ∃ u p, exec c s = .next u ∧ answers u h typ sts p ∧
      p.data.length = (if typ = 9 then 0 else if typ = 8 ∧ h.size = 5 then 128 else 64) ∧ OnlyReply s { u with free := s.free } pg ∧
      u.free = (if typ = 9 then s.free else s.free + 1)
    let writes (c : Instr) (o : Nat) (ms : List (Byte × Bool)) (sc : Nat) : Prop :=
      (393216 * s.ls.ways < o + ms.length ∨ (∃ i x, ms[i]? = some (x, true) ∧ shut (o + i) 1) → refused c 9 2 .lst) ∧
      (o + ms.length ≤ 393216 * s.ls.ways → (∀ i x, ms[i]? = some (x, true) → ¬ shut (o + i) 1) → clean o →
        ∃ u p, exec c s = .next u ∧ answers u h 9 0 p ∧ p.sc = sc ∧
        (∀ x, getD zero8 u.ls.shelf x = match ms[x - o]? with
          | some (b, true) => if o ≤ x then b else getD zero8 s.ls.shelf x
          | _ => getD zero8 s.ls.shelf x) ∧
        u.ls = { s.ls with shelf := u.ls.shelf, shelfPois := u.ls.shelfPois, l1 := u.ls.l1 } ∧
        Accounts s { u with ls := s.ls, noc := { u.noc with out := s.noc.out } })
    (h.typ = 0 → h.size.toNat ≤ 5 →
      (a % n = 0 → ∀ o, s.window a = .shelf o → (393216 * s.ls.ways < o + n → refused (.nocRdIn h) 8 2 .lst) ∧
        (o + n ≤ 393216 * s.ls.ways → clean o → ∃ u p, exec (.nocRdIn h) s = .next u ∧ answers u h 8 0 p ∧
          p.data.length = (if n = 128 then 128 else 64) ∧ (∀ j, j < n → p.data[at0 + j]? = (s.shelfBytes o n)[j]?) ∧
          nbit p.psn 0 = s.ls.shelfPois.contains (o / 64) ∧
          nbit p.psn 1 = (n = 128 && s.ls.shelfPois.contains (o / 64 + 1)) ∧
          Accounts s { u with noc := { u.noc with out := s.noc.out } })) ∧
      (a % n = 0 → ∀ o, s.window a = .mmio o → h.size = 3 → o ≠ 0x1058 → ∃ u p, exec (.nocRdIn h) s = .next u ∧
        answers u h 8 0 p ∧ (free 0x18 → word64At p.data (a % 64) = s.pageVal (pageOf (o / 0x1000)) (o % 0x1000)) ∧
        Accounts s { u with noc := { u.noc with out := s.noc.out } }) ∧
      (∀ o, s.window a = .mmio o → h.size ≠ 3 ∨ a % 8 ≠ 0 → refused (.nocRdIn h) 8 1 .lst) ∧
      (a % n = 0 → s.window a = .mem → refused (.nocRdIn h) 8 1 .lst) ∧
      (a % n = 0 → ∀ o, s.window a = .crock o → refused (.nocRdIn h) 8 1 .crk)) ∧
    (∀ data mask, h.typ = 1 → h.size.toNat ≤ 5 → data.length = (if n = 128 then 128 else 64) → h.psn = 0 →
      (if h.masked then 4 ≤ h.size.toNat ∧ mask.length = data.length else mask = []) →
      let ms := (((data.drop at0).take n).zip (if h.masked then mask else List.replicate n true))
      (a % n = 0 → ∀ o, s.window a = .shelf o → writes (.nocWrIn h data mask) o ms sc) ∧
      (a % n = 0 → ∀ o, s.window a = .mmio o → h.size = 3 → h.sclu ≠ 0x3F ∨ h.score ≠ 0xF →
        refused (.nocWrIn h data mask) 9 2 (if pageOf (o / 0x1000) = .xlt then .xlt else if pageOf (o / 0x1000) = .tmg then .tmg else .rpr)) ∧
      (a % n = 0 → ∀ o, s.window a = .mmio o → h.size = 3 → h.sclu = 0x3F → h.score = 0xF → free 0x17 →
        let t := s.mmioWrite .driver o (word64At data (a % 64))
        (¬ ClearWaits t o (word64At data (a % 64)) → ∃ u p, exec (.nocWrIn h data mask) s = .next u ∧ answers u h 9 0 p ∧
          Accounts t { u with noc := { u.noc with out := t.noc.out } }) ∧
        (ClearWaits t o (word64At data (a % 64)) → ∃ u x, exec (.nocWrIn h data mask) s = .next u ∧
          x.who = .host h ∧ x.toInFlight = t.inFlight true ∧ u.noc = { t.noc with clears := t.noc.clears ++ [x] } ∧
          u.thr = t.holdLoads.thr ∧ Accounts t { u with noc := t.noc, thr := t.thr })) ∧
      (∀ o, s.window a = .mmio o → h.size ≠ 3 ∨ a % 8 ≠ 0 → refused (.nocWrIn h data mask) 9 1 .lst) ∧
      (a % n = 0 → s.window a = .mem → refused (.nocWrIn h data mask) 9 1 .lst) ∧
      (a % n = 0 → ∀ o, s.window a = .crock o → refused (.nocWrIn h data mask) 9 1 .crk)) ∧
    (∀ data mask, h.typ = 6 → 4 ≤ h.size.toNat → h.size.toNat ≤ 5 → a % n = 0 → data.length = n → h.psn = 0 →
      (if h.masked then mask.length = n else mask = []) →
      writes (.bcastIn h data mask) (a % 2 ^ 23) (data.zip (if h.masked then mask else List.replicate n true)) 1) ∧
    (∀ gs gd : Word, h.typ = 2 → h.size = 2 ∨ h.size = 3 → h.op.toNat ≤ 9 →
      let cut (x : Word) : Nat := x.toNat % 2 ^ (8 * n)
      (a % n = 0 → ∀ o, s.window a = .shelf o →
        (393216 * s.ls.ways < o + n ∨ shut o n → refused (.nocAtomIn h gs gd) 10 2 .lst) ∧
        (o + n ≤ 393216 * s.ls.ways → ¬ shut o n → clean o → s.ls.shelfPois.contains (o / 64) = true →
          refused (.nocAtomIn h gs gd) 10 2 .lst) ∧
        (o + n ≤ 393216 * s.ls.ways → ¬ shut o n → clean o → s.ls.shelfPois.contains (o / 64) = false →
          let old := ofBytes (s.shelfBytes o n)
          ∃ u p, exec (.nocAtomIn h gs gd) s = .next u ∧ answers u h 10 0 p ∧ (word64At p.data 0).toNat = old ∧
          u.shelfBytes o n = bytesOf n (amoWrites h.op.toNat (8 * n) old (cut gs) (cut gd)) ∧
          (∀ x, x < o ∨ o + n ≤ x → getD zero8 u.ls.shelf x = getD zero8 s.ls.shelf x) ∧
          Accounts s { u with ls := s.ls, noc := { u.noc with out := s.noc.out } })) ∧
      (∀ o, s.window a = .mmio o → refused (.nocAtomIn h gs gd) 10 1 .lst) ∧
      (a % n = 0 → s.window a = .mem → refused (.nocAtomIn h gs gd) 10 1 .lst) ∧
      (a % n = 0 → ∀ o, s.window a = .crock o → refused (.nocAtomIn h gs gd) 10 1 .crk))) ∧
  (∀ (s : State) (c : Instr), fromOutside s c →
    let holds := s.released = true ∧ (s.tmg.ret ≠ none ∨ s.tmg.waking ≠ none ∨ s.noc.inbox ≠ [])
    (holds → ∃ u, exec c s = .next u ∧ Arrived s c u) ∧ (¬ holds → s.hears = false → exec c s = .next s))

/-- Inbound XINV removes the walked entries of its SCOPE or wider, empties the walk cache and restarts walks, and gives up
translations that no access uses yet; it joins those to be acknowledged with the accesses in flight, and is acknowledged
when all of them have been performed or have left.  Which accesses those are (log 67), and that no acknowledgment leaves
while the port does not answer (log 54), is the model's reading.  A doorbell raises source 32 + OP; a message of another
kind or to another address, a BAR and a reserved type are counted as bad headers, and messages are acknowledged (R189,
R225, R226, R260). -/
def Obligations.InboundMessages : Prop :=
  (∀ (s : State) (h : Hdr), Hears s → h.typ = 4 → h.op.toNat < 12 →
    let kind := h.op.toNat / 4
    let least := if h.schip ≠ s.pos.chip then 3 else if h.sclu ≠ s.pos.cluster then 2 else 1
    let hit (e : TlbEntry) : Bool := e.span.isNone && least ≤ wbits e.leaf 12 11 && (if kind = 0 then
      h.addr.toNat / 2 ^ e.k = e.base / 2 ^ e.k else if kind = 1 then !wbit e.leaf 10 else true)
    let warm (d : List Word) : Bool := wbit ((d[7]?).getD 0) 28
    ∃ u x, exec (.xinvIn h) s = .next u ∧ Accounts s { u with xl := s.xl, noc := s.noc, thr := s.thr, ldl := s.ldl } ∧
      u.counter .xlt 6 = s.counter .xlt 6 + 1 ∧
      u.xl = { s.xl with
        l1tlb := s.xl.l1tlb.filter fun e => !hit e
        ldlTlb := s.xl.ldlTlb.filter fun e => !hit e
        mtlb := s.xl.mtlb.filter fun e => !hit e.2
        wcache := []
        walks := s.xl.walks.map fun w => { w with again := true } } ∧
      u.noc = { s.noc with xinvs := s.noc.xinvs ++ [x] } ∧ (x.h, x.clear, x.sb) = (h, false, s.ls.sbSeq) ∧
      (∀ i, i ∈ x.waitFor ↔ i ∈ s.noc.queue ∧ ∃ e, lookup s.noc.rt i = some e ∧ e.kind.translated false = true) ∧
      (∀ l, l ∈ x.lines ↔ ∃ m ∈ s.tile.mem, l.1 = m.id ∧ l.2 ∈ m.flying false) ∧
      (∀ t, t ∈ x.thr ↔ s.holdsPages t = true) ∧
      (∀ r, r ∈ x.runs ↔ ∃ d n, (s.chan r.1).desc = some d ∧ warm d = false ∧ r.2 = ((s.chan r.1).tail, n) ∧
        ((∃ y ∈ (s.chan r.1).runs, y.idx = n) ∨ ∃ k ∈ s.noc.queue, (k, n) ∈ (s.chan r.1).writes)) ∧
      (∀ t, u.th t = { s.th t with wait := (s.th t).wait.retranslate }) ∧
      ∀ c, (∀ d, (s.chan c).desc = some d → warm d = false → u.chan c = { s.chan c with xl := [] }) ∧
        ((∀ d, (s.chan c).desc = some d → warm d = true) → u.chan c = s.chan c)) ∧
  (∀ (s : State) (x : XinvIn) (rest : List XinvIn), s.noc.xinvs = x :: rest →
    let waits := Unfinished s x.toInFlight
    (s.hears = true → ¬ waits → ∃ u p, exec .xinvAckSend s = .next u ∧ answers u x.h 11 0 p ∧
      u.noc = { s.noc with xinvs := rest, out := u.noc.out } ∧ Accounts s { u with noc := s.noc }) ∧
    (s.hears = false ∨ waits → exec .xinvAckSend s = .next s)) ∧
  (∀ (s : State) (h : Hdr), Hears s →
    let mine := h.addr.toNat = s.mmioBase
    let counted (c : Instr) (acks : Bool) : Prop := ∃ u, exec c s = .next u ∧
      u.counter .ldl 2 = s.counter .ldl 2 + 1 ∧ Accounts s { u with noc := { u.noc with out := s.noc.out } } ∧
      (acks = true → ∃ p, answers u h 9 0 p) ∧ (acks = false → u.noc.out = s.noc.out)
    (h.typ = 3 → h.mkind = 1 → mine → ∃ u p, exec (.doorbell h) s = .next u ∧ answers u h 9 0 p ∧
      u.irq = { s.irq with edge := setBit s.irq.edge (32 + h.op.toNat) true } ∧
      Accounts s { u with noc := { u.noc with out := s.noc.out }, irq := s.irq }) ∧
    (h.typ = 3 → h.mkind = 1 → ¬ mine → counted (.doorbell h) true) ∧
    (∀ data, h.typ = 3 → h.mkind = 2 → data.length = 64 → ¬ mine → counted (.budgetGrant h data) true) ∧
    (h.typ = 5 ∨ h.typ = 7 ∨ h.typ = 15 → counted (.badHeader h) false) ∧
    (h.typ = 3 → (h.mkind ≠ 1 ∧ h.mkind ≠ 2) ∨ ¬ mine → counted (.badHeader h) true))

/-- The barrier: an arrival waits for the live writes, atomics and broadcasts of this moment, and BAR leaves when they are
answered or dead, or are writes that have been sent to another chip; a second arrival only sets DUP; the release sets REL,
counts, and allows the next.  CHIP_IRQ raises source 48 + i (R238, R239, R352, R353). -/
def Obligations.BarrierAndInterruptPins : Prop :=
  (∀ (s : State) (w : Writer), Serves s w → ownWriter w →
    (s.noc.barArrived = true ∨ s.noc.barRel = true →
      exec (.barArrive w) s = .next { s with noc := { s.noc with barDup := true } }) ∧
    (s.noc.barArrived = false → s.noc.barRel = false → ∃ l, exec (.barArrive w) s = .next
        { s with noc := { s.noc with barArrived := true, barWait := some l } } ∧
      ∀ i, i ∈ l ↔ ∃ e, (i, e) ∈ s.noc.rt ∧ e.dead = false ∧ (e.typ = 1 ∨ e.typ = 2 ∨ e.typ = 6))) ∧
  (∀ (s : State) (l : List Nat), s.noc.barWait = some l →
    let clear (i : Nat) : Prop := ∀ e, lookup s.noc.rt i = some e → e.dead = true ∨
      (e.sent = true ∧ e.typ = 1 ∧ s.homeScope e.addr = 3)
    (s.portRuns = true → (∀ i ∈ l, clear i) → ∃ u p, exec .barSend s = .next u ∧ u.noc.out = some p ∧ p.typ = 5 ∧
      (p.schip, p.sclu, p.score) = (s.pos.chip, s.pos.cluster, s.pos.core) ∧
      u.noc = { s.noc with barWait := none, out := some p } ∧ Accounts s { u with noc := s.noc }) ∧
    (s.portRuns = false ∨ (∃ i ∈ l, ¬ clear i) → exec .barSend s = .next s)) ∧
  (∀ (s : State) (i : Fin 16), s.released = true →
    exec .barRel s = .next
      { s with noc := { s.noc with barRel := true, barGen := s.noc.barGen + 1, barArrived := false } } ∧
    exec (.chipIrq i) s = .next { s with irq := { s.irq with edge := setBit s.irq.edge (48 + i.val) true } })

/-- Reports: READY_SEND makes the ready report with position, status, slot, SVN, TIME and the last fatal reason; FATAL_RAISE
latches the first fatal condition, raises a machine check and makes the fatal report, and only counts a later one; a report
that no table entry carries is sent again, 1 ms after its last send where that failed (R345, R362). -/
def Obligations.ReadyAndFatalReports : Prop :=
  ∀ (s : State),
    let now := s.tmg.time
    let w1 (p : List Byte) := word64At p 8
    (∀ status : Byte, s.served = true → ∀ k, s.freeIdx false = some k → ∃ u r, exec (.readySend .firmware status) s = .next u ∧
      u.noc.ready = some r ∧ (r.entry, r.sentAt, r.failed) = (some k, now, false) ∧ r.payload.length = 32 ∧
      (word64At r.payload 0).toNat = placeOf s ∧ wbits (w1 r.payload) 7 0 = status.toNat ∧
      wbits (w1 r.payload) 15 8 = b2n s.crk.active ∧ wbits (w1 r.payload) 23 16 = b2n s.crk.trial ∧
      wbits (w1 r.payload) 31 24 = 0 ∧
      (status ≠ 0x80 → status ≠ 0x81 → wbits (w1 r.payload) 63 32 = s.crk.svn.toNat) ∧
      (word64At r.payload 16).toNat = now % 2 ^ 64 ∧
      (word64At r.payload 24).toNat = s.ras.reason.toNat + 256 * s.ras.page.toNat ∧
      reportSent s u.noc.rt u.noc.queue k .msgReady (s.pos.chip.toNat * 2 ^ 40 + 0xFF_F000_0000) 4 r.payload ∧
      Accounts s { u with noc := s.noc }) ∧
    (∀ reason : Byte, s.served = true → s.ras.fatal = true → ∃ u, exec (.fatalRaise .firmware reason) s = .next u ∧
      u.counter .ras 1 = s.counter .ras 1 + 1 ∧ Accounts s u) ∧
    (∀ (reason : Byte) k, s.served = true → s.ras.fatal = false → s.freeIdx false = some k → ∃ u r,
      exec (.fatalRaise .firmware reason) s = .next u ∧ u.counter .ras 1 = s.counter .ras 1 + 1 ∧
      u.ras = { fatal := true, reason := reason, page := 12, mcPages := setBit s.ras.mcPages 12 true } ∧
      u.irq = { s.irq with mcLatch := true } ∧ u.noc.fatal = some r ∧ (r.entry, r.sentAt, r.failed) = (some k, now, false) ∧
      r.payload.length = 40 ∧ (word64At r.payload 0).toNat = placeOf s ∧
      (word64At r.payload 8).toNat = reason.toNat + 256 * 12 ∧ word64At r.payload 16 = (s.frame .ras).errAddr ∧
      word64At r.payload 24 = (s.frame .ras).errInfo ∧ (word64At r.payload 32).toNat = now % 2 ^ 64 ∧
      reportSent s u.noc.rt u.noc.queue k .msgFatal (s.pos.chip.toNat * 2 ^ 40 + 0xFF_F000_1000) 3 r.payload ∧
      Accounts s { u with noc := s.noc, ras := s.ras, irq := s.irq }) ∧
    (∀ r : Report, r.payload.length ≤ 64 →
      let due := r.entry = none ∧ (r.failed = false ∨ r.sentAt + 100000 ≤ now) ∧ s.alive = true
      (s.noc.ready = some r → due → ∀ k, s.freeIdx false = some k → ∃ u, exec .readyResend s = .next u ∧
        u.noc.ready = some { r with entry := some k, failed := false } ∧ Accounts s { u with noc := s.noc } ∧
        reportSent s u.noc.rt u.noc.queue k .msgReady (s.pos.chip.toNat * 2 ^ 40 + 0xFF_F000_0000) 4 r.payload) ∧
      (s.noc.ready = some r → ¬ due → exec .readyResend s = .next s) ∧
      (s.noc.fatal = some r → due → ∀ k, s.freeIdx false = some k → ∃ u, exec .fatalReportResend s = .next u ∧
        u.noc.fatal = some { r with entry := some k, failed := false } ∧ Accounts s { u with noc := s.noc } ∧
        reportSent s u.noc.rt u.noc.queue k .msgFatal (s.pos.chip.toNat * 2 ^ 40 + 0xFF_F000_1000) 3 r.payload) ∧
      (s.noc.fatal = some r → ¬ due → exec .fatalReportResend s = .next s))

/-! ## The Ladle -/

/-- A channel's registers and descriptors: a HEAD that posts more than the ring holds is ignored and sets OVF; RESUME,
SKIP and ABORT act on a halted channel alone; a channel that may start reads descriptor TAIL from the shelf once, and
halts with error 0x01 where it cannot be read and 0x02 where it is invalid; a descriptor completes when all runs are
done and every write is performed at its scope, TAIL advances, and source 16 + n rises where it asks for it (R230 to
R232, R234, R236).  That a SKIP raises the interrupt that the descriptor asks for, as a completion does, is the model's
reading (log 74). -/
def Obligations.LadleChannels : Prop :=
  ∀ (s : State) (c : Fin 4),
    let x := s.chan c
    let cfg := s.comN .ldl (0x40 + 0x40 * c.val)
    let size := 2 ^ (cfg / 2 ^ 2 % 16)
    let o := s.comN .ldl (0x48 + 0x40 * c.val) + 64 * (x.tail.toNat % size)
    let d := (List.range 8).map fun i => word64At (s.shelfBytes o 64) (8 * i)
    let w (i : Nat) : Nat := ((d[i]?).getD 0).toNat
    let sk := w 7 / 2 ^ 20 % 4
    let dk := w 7 / 2 ^ 22 % 4
    let warm := w 7 / 2 ^ 28 % 2
    let bad := 2 ^ 57 ≤ w 0 ∨ 2 ^ 57 ≤ w 1 ∨ 2 ^ 33 ≤ w 7 ∨ 2 ≤ sk ∨ (warm = 0 ∧ (dk = 3 ∨ (sk = 1 ∧ dk = 1))) ∨ (warm = 1 ∧ sk = 1)
    let may := s.alive = true ∧ s.en .ldl = true ∧ s.quiescing .ldl = false ∧ cfg % 2 = 1 ∧ x.halted = false ∧ x.desc = none ∧
      x.head ≠ x.tail
    let gone : Chan := { x with
      halted := false, tail := x.tail + 1, desc := none, run := 0, xl := [], flt := none, runs := [], writes := [] }
    let irq (y : Option (List Word)) : Irq := match y with
      | some z => if wbit ((z[7]?).getD 0) 29 then { s.irq with edge := setBit s.irq.edge (16 + c.val) true } else s.irq
      | none => s.irq
    let withCh (y : Chan) : State := { s with ldl := vset s.ldl c y }
    let halts (err : Nat) : Prop := ∃ u, exec (.ladleDescriptorStart c) s = .next u ∧
      u.frame .ldl = (s.frame .ldl).noted c.val ∧
      u.chan c = { x with halted := true, err := BitVec.ofNat 8 err, kind := 0, prog := 0, run := 0, xl := [], flt := none } ∧
      Accounts s ({ u with ldl := s.ldl }.setFrame .ldl (s.frame .ldl)) ∧ ∀ k, k ≠ c → u.chan k = s.chan k
    (∀ (m : Writer) (v : BitVec 16), Serves s m → ownWriter m → exec (.chnHeadWrite m c v) s = .next
      (withCh (if size < (v - x.tail).toNat then { x with ovf := true } else { x with head := v }))) ∧
    (∀ m : Writer, Serves s m → ownWriter m →
      (x.halted = false → exec (.resume m c) s = .next s ∧ exec (.skip m c) s = .next s ∧ exec (.abort m c) s = .next s) ∧
      (x.halted = true → exec (.resume m c) s = .next (withCh { x with halted := false }) ∧
        exec (.skip m c) s = .next { withCh gone with irq := irq x.desc } ∧
        exec (.abort m c) s = .next (withCh { gone with tail := x.head }))) ∧
    (may → 393216 * s.ls.ways < o + 64 → ∃ u, exec (.ladleDescriptorStart c) s = .next u ∧ (u.chan c).halted = true ∧
      (u.chan c).err = 1) ∧
    (may → o % 64 = 0 → shelfClean s o → o + 64 ≤ 393216 * s.ls.ways →
      (s.ls.shelfPois.contains (o / 64) = true → halts 1) ∧
      (s.ls.shelfPois.contains (o / 64) = false → bad → halts 2) ∧
      (s.ls.shelfPois.contains (o / 64) = false → ¬ bad → ∃ u, exec (.ladleDescriptorStart c) s = .next u ∧
        Accounts s { u with ldl := s.ldl } ∧
        u.ldl = vset s.ldl c { x with desc := some d, run := 0, xl := [], flt := none, runs := [], writes := [] })) ∧
    (¬ may → exec (.ladleDescriptorStart c) s = .next s) ∧
    (∀ e, x.desc = some e →
      let rank := wbits ((e[7]?).getD 0) 32 31
      let count (k : Nat) := wbits ((e[2]?).getD 0) (16 * k + 15) (16 * k) + 1
      let done := x.halted = false ∧ x.run = count 0 * count 1 * count 2 * count 3 ∧ x.runs = [] ∧ x.flt = none ∧
        (∀ y ∈ x.writes, ∀ q, lookup s.noc.rt y.1 = some q →
          q.sent = true ∧ (q.typ = 0 ∨ (rank < s.homeScope q.addr ∧ q.typ ≠ 6))) ∧
        (wbit ((e[7]?).getD 0) 28 = true → ∀ q ∈ s.noc.rt, ∀ l, q.2.kind = .warm l c → q.2.sent = true)
      (done → exec (.ladleDescriptorComplete c) s = .next { withCh gone with irq := irq (some e) }) ∧
      (¬ done → exec (.ladleDescriptorComplete c) s = .next s))

/-- LADLE_RUN: run r starts at the base plus the sum of index times stride over the four dimensions, modulo 2^57; a tray
endpoint of another shape halts the channel with error 0x06, a translation fault with 0x03 and its kind, a device page
with 0x04, before the run; a run within one line between two places of the own shelf copies its bytes and no others
(R233, R234).

With translation off, of a run within one line: a tray row goes to the shelf, and shelf bytes to a tray row, with their
poison marks; bytes for memory past the caches leave as a write request of exactly those bytes; a source line in memory
that the local store does not hold is asked for by a fill, and its answer brings the bytes to their destination.  A warm
run asks for its line once, into the side buffer, and for none of an uncached or device page, of a line that is there
already, or of a page that does not translate, which sets WSKIP.  A broadcast run sends one request, and a refused one
halts the channel at that run with error 0x07 (R78, R79, R201, R210, R223, R225, R233 to R237).  That a broadcast
carries the low 23 bits of the shelf offset as its address is the model's reading (log 107). -/
def Obligations.LadleRuns : Prop :=
  (∀ (d : List Word) (i1 i2 i3 i4 : Nat) (dst : Bool),
    let w (i : Nat) : Nat := ((d[i]?).getD 0).toNat
    let n (k : Nat) : Nat := w 2 / 2 ^ (16 * k) % 2 ^ 16 + 1
    let stride (k : Nat) : Int := Int.bmod (if dst then w (3 + k) / 2 ^ 32 else w (3 + k)) (2 ^ 32)
    i1 < n 0 → i2 < n 1 → i3 < n 2 → i4 < n 3 →
    (dAddr d (i1 + n 0 * (i2 + n 1 * (i3 + n 2 * i4))) dst : Int) =
      (w (if dst then 1 else 0) + i1 * stride 0 + i2 * stride 1 + i3 * stride 2 + i4 * stride 3) % 2 ^ 57) ∧
  (∀ (s : State) (c : Fin 4) (d : List Word), (s.chan c).desc = some d →
    let x := s.chan c
    let sk := wbits ((d[7]?).getD 0) 21 20
    let dk := wbits ((d[7]?).getD 0) 23 22
    let warm := wbit ((d[7]?).getD 0) 28
    let len := wbits ((d[7]?).getD 0) 19 0 + 1
    let T := s.tray (dTray d)
    let due := s.alive = true ∧ x.halted = false ∧ x.run < dRuns d ∧ s.chanWalks c = false ∧ x.runs = [] ∧ x.writes = []
    let src := dAddr d x.run false
    let dst := dAddr d x.run true
    let halts (err kind : Nat) : Prop := ∃ u, exec (.ladleRun c) s = .next u ∧
      u.chan c = { x with
        halted := true, err := BitVec.ofNat 8 err, kind := BitVec.ofNat 6 kind, prog := BitVec.ofNat 64 x.run, xl := [], flt := none } ∧
      u.frame .ldl = (s.frame .ldl).noted c.val ∧ u.ls = s.ls ∧ u.tile = s.tile ∧ u.noc = s.noc ∧ ∀ k, k ≠ c → u.chan k = s.chan k
    (due → s.ctxRuns = false → sk = 1 ∨ (warm = false ∧ dk = 1) → len ≠ T.bytes ∨ T.rows < dRuns d → halts 6 0) ∧
    (due → x.xl = [] → x.flt = none → warm = false → sk = 0 → dk = 0 → s.en .xlt = false →
      (2 ^ 40 ≤ src / 2 ^ 14 * 2 ^ 14 → halts 3 1) ∧
      (src / 2 ^ 14 * 2 ^ 14 < 2 ^ 40 → s.policyAt (s.pos.chip.toNat * 2 ^ 40 + src / 2 ^ 14 * 2 ^ 14)
        (wbits (s.com .xlt 0x50) 2 1) = 3 → halts 4 0) ∧
      (∀ a b, s.shelfOff (s.pos.chip.toNat * 2 ^ 40 + src) = some a → s.shelfOff (s.pos.chip.toNat * 2 ^ 40 + dst) = some b →
        src < 2 ^ 40 → dst < 2 ^ 40 →
        a % 128 + len ≤ 128 → b % 128 + len ≤ 128 → a / 128 * 128 + 128 ≤ 393216 * s.ls.ways → b / 128 * 128 + 128 ≤ 393216 * s.ls.ways →
        (∀ k, k = a / 128 ∨ k = b / 128 → lookup s.ls.shelfErrs (2 * k) = none ∧ lookup s.ls.shelfErrs (2 * k + 1) = none) →
        (∀ k, s.ls.shelfPois.contains k = false) → (∀ v, (s.th v).protects b len = false) →
        (∀ r, nbit (s.comN .xlt (0x100 + 0x10 * r)) 0 = false) → wbits (s.com .xlt 0x50) 2 1 ≠ 3 →
        s.chanReqs c < bits (s.comN .ldl (0x40 + 0x40 * c.val)) 26 16 →
        ∃ u, exec (.ladleRun c) s = .next u ∧ u.chan c = { x with run := x.run + 1 } ∧
          u.shelfBytes b len = s.shelfBytes a len ∧
          (∀ y, y < b ∨ b + len ≤ y → getD zero8 u.ls.shelf y = getD zero8 s.ls.shelf y) ∧
          u.ls.lines = s.ls.lines ∧ u.noc = s.noc ∧ u.tile = s.tile ∧ u.thr = s.thr))) ∧
  (∀ (s : State) (c : Fin 4) (d : List Word), (s.chan c).desc = some d → s.alive = true → s.en .xlt = false →
    (∀ r, nbit (s.comN .xlt (0x100 + 0x10 * r)) 0 = false) →
    let x := s.chan c
    x.halted = false → x.run < dRuns d → s.chanWalks c = false → x.runs = [] → x.writes = [] → x.xl = [] → x.flt = none →
    s.chanReqs c < bits (s.comN .ldl (0x40 + 0x40 * c.val)) 26 16 →
    let kinds := (wbits ((d[7]?).getD 0) 21 20, wbits ((d[7]?).getD 0) 23 22)
    let warm := wbit ((d[7]?).getD 0) 28
    let len := wbits ((d[7]?).getD 0) 19 0 + 1
    let T := dTray d
    let row := s.tray T
    let src := dAddr d x.run false
    let dst := dAddr d x.run true
    let cp := wbits (s.com .xlt 0x50) 2 1
    let base := s.pos.chip.toNat * 2 ^ 40
    let near (a : Nat) : Prop := a < 2 ^ 40 ∧ a % 128 + len ≤ 128
    let mem (a : Nat) : Prop := near a ∧ s.window ((base + a) / 128 * 128) = .mem
    let shelf (a o : Nat) : Prop := near a ∧ s.shelfOff (base + a) = some o ∧ o / 128 * 128 + 128 ≤ 393216 * s.ls.ways ∧
      lookup s.ls.shelfErrs (o / 128 * 2) = none ∧ lookup s.ls.shelfErrs (o / 128 * 2 + 1) = none
    let target (b : Nat) : Prop := shelf dst b ∧ (∀ k, s.ls.shelfPois.contains k = false) ∧ ∀ v, (s.th v).protects b len = false
    let poisoned (a : Nat) : Bool := s.ls.shelfPois.contains (a / 64) || s.ls.shelfPois.contains ((a + len - 1) / 64)
    let others (u : State) : Prop := u.thr = s.thr ∧ u.pm = s.pm ∧ ∀ k, k ≠ c → u.chan k = s.chan k
    let runs (u : State) : Prop := exec (.ladleRun c) s = .next u ∧ others u
    let filled (u : State) (b : Nat) (bs : List Byte) : Prop := u.shelfBytes b len = bs ∧
      ∀ y, y < b ∨ b + len ≤ y → getD zero8 u.ls.shelf y = getD zero8 s.ls.shelf y
    let asks (u : State) (i : Nat) (e : RtEntry) : Prop :=
      u.noc = { s.noc with rt := put s.noc.rt i e, queue := s.noc.queue ++ [i] } ∧ e.src = .chan c
    let carries (e : RtEntry) (bs : List Byte) : Prop :=
      let o := if 64 ≤ dst % 128 then dst % 64 else dst % 128
      let n := if dst % 128 < 64 ∧ 64 < dst % 128 + len then 128 else 64
      e.size = (if n = 128 then 5 else 4) ∧ e.data.length = n ∧ e.mask.length = n ∧ e.masked = decide (len ≠ n) ∧
        (∀ j, j < len → e.data[o + j]? = bs[j]?) ∧ ∀ j, j < n → e.mask[j]? = some (decide (o ≤ j ∧ j < o + len))
    let sent (u : State) (i : Nat) (e : RtEntry) : State :=
      { u with noc := { s.noc with rt := put s.noc.rt i { e with sent := true } } }
    let calm := s.portRuns = true ∧ (∀ t, (s.th t).wait = .none) ∧ (∀ k, k ≠ c → (s.chan k).desc = none) ∧ s.tile.mem = []
    (warm = false → kinds = (1, 0) → cp ≠ 3 → s.ctxRuns = false → len = row.bytes → dRuns d ≤ row.rows →
      s.tile.badRow.contains (32 * T.val + x.run) = false → ∀ b, target b → ∃ u, runs u ∧
        u.chan c = { x with run := x.run + 1, pois := x.pois || s.mark T x.run } ∧ filled u b (s.rowBytes T x.run) ∧
        (∀ k, u.ls.shelfPois.contains k = (s.mark T x.run && decide (b / 64 ≤ k ∧ k ≤ (b + len - 1) / 64))) ∧
        u.ls.lines = s.ls.lines ∧ u.noc = s.noc ∧ u.tile = s.tile) ∧
    (warm = false → kinds = (0, 1) → cp ≠ 3 → s.ctxRuns = false → len = row.bytes → dRuns d ≤ row.rows → ∀ a, shelf src a →
      let at' := 4096 * T.val + x.run * row.bytes
      ∃ u, runs u ∧ u.chan c = { x with run := x.run + 1, pois := x.pois || poisoned a } ∧
        u.rowBytes T x.run = s.shelfBytes a len ∧
        (∀ k, k < at' ∨ at' + len ≤ k → getD zero8 u.tile.data k = getD zero8 s.tile.data k) ∧
        u.tray T = { row with inuse := true, marks := setBit row.marks x.run (poisoned a) } ∧
        (∀ V, V ≠ T → u.tray V = s.tray V) ∧ u.ls = s.ls ∧ u.noc = s.noc) ∧
    (warm = false → kinds = (0, 0) → cp = 2 → mem dst → ∀ a, shelf src a → s.lsWay ((base + dst) / 128) = none →
      s.evicting ((base + dst) / 128) = false → ∀ i, s.freeIdx true = some i → ∃ u e, runs u ∧ asks u i e ∧
        u.chan c = { x with run := x.run + 1, writes := [(i, x.run)], pois := x.pois || poisoned a } ∧
        (e.typ, e.kind, e.addr) = (1, .write, (base + dst) / 128 * 128 + (if 64 ≤ dst % 128 then 64 else 0)) ∧
        carries e (s.shelfBytes a len) ∧ (poisoned a = false → e.psn = 0) ∧
        { u.ls with l1 := s.ls.l1, side := s.ls.side } = s.ls ∧ u.tile = s.tile) ∧
    (warm = false → kinds = (0, 0) → cp < 2 → mem src → ∀ b w i, target b →
      let l := (base + src) / 128
      s.lsWay l = none → s.fillOf l = none → s.sideOf l = none → s.evicting l = false → s.lsRoom l (.chan c) = some (s, w, none) →
      s.freeIdx false = some i → ∃ u e, runs u ∧ asks u i e ∧ (u.chan c).run = x.run + 1 ∧
        { u.chan c with runs := [], run := x.run } = x ∧ u.ls = s.ls ∧ u.tile = s.tile ∧
        (e.typ, e.addr, e.size, e.kind) = (0, 128 * l, 5, .fill l (some w) false [.ladle c x.run (src / 128) false]) ∧
        (calm → ∀ data : List Byte, data.length = 128 → ∃ v, others v ∧
          exec (.rdRsp { idx := i, gen := s.genOf i } 0 0 data 0) (sent u i e) = .next v ∧
          v.chan c = { x with run := x.run + 1 } ∧ filled v b ((data.drop (src % 128)).take len) ∧
          lookup v.noc.rt i = none ∧ v.tile = s.tile)) ∧
    (warm = true → kinds.1 = 0 → mem src →
      let l := (base + src) / 128
      let there := (s.lsWay l).isSome ∨ (s.sideOf l).isSome ∨ (s.fillOf l).isSome ∨ (s.warmOf l).isSome
      (cp < 2 → ¬ there → s.ls.side.length < 64 → ∀ i, s.freeIdx false = some i → ∃ u e, runs u ∧ asks u i e ∧
        u.chan c = { x with run := x.run + 1, writes := [(i, x.run)] } ∧
        (e.typ, e.addr, e.size, e.kind) = (0, 128 * l, 5, .warm l c) ∧
        u.ls = { s.ls with side := s.ls.side ++ [{ line := l, data := none, errs := (0, 0), drop := false }] } ∧ u.tile = s.tile) ∧
      ((cp < 2 ∧ there) ∨ 2 ≤ cp → ∃ u, runs u ∧ u.chan c = { x with run := x.run + 1 } ∧ Accounts s { u with ldl := s.ldl } ∧
        u.counter .ldl 7 = s.counter .ldl 7 + (if cp = 3 then 1 else 0))) ∧
    (warm = true → kinds.1 = 0 → 2 ^ 40 ≤ src / 2 ^ 14 * 2 ^ 14 → src % 128 + len ≤ 128 → ∃ u, runs u ∧
      u.chan c = { x with run := x.run + 1, wskip := true } ∧ Accounts s { u with ldl := s.ldl }) ∧
    (warm = false → kinds = (0, 2) → cp ≠ 3 → dst % 128 + len ≤ 128 → ∀ a i, shelf src a → s.freeIdx false = some i →
      ∃ u e, runs u ∧ asks u i e ∧
        u.chan c = { x with run := x.run + 1, writes := [(i, x.run)], pois := x.pois || poisoned a } ∧
        (e.typ, e.kind) = (6, .bcast c x.run) ∧ e.addr = (dst / 128 * 128 + (if 64 ≤ dst % 128 then 64 else 0)) % 2 ^ 23 ∧
        carries e (s.shelfBytes a len) ∧ (poisoned a = false → e.psn = 0) ∧ u.ls = s.ls ∧ u.tile = s.tile ∧
        (calm → ∀ (sts : BitVec 3) (sc : Scope), sts ≠ 3 → ∃ v, others v ∧
          exec (.wrAck { idx := i, gen := s.genOf i } sts sc) (sent u i e) = .next v ∧ v.ls = s.ls ∧ v.tile = s.tile ∧
          (sts = 0 → v.chan c = { x with run := x.run + 1, pois := x.pois || poisoned a }) ∧
          (sts ≠ 0 → v.frame .ldl = (s.frame .ldl).noted c.val ∧ v.chan c = { x with
            halted := true, err := 7, kind := 0, prog := BitVec.ofNat 64 x.run, pois := x.pois || poisoned a }))))

/-! ## Translation -/

/-- TABLE_WALK.  A table word that is not valid, is invalid at its level, or does not permit the access faults, with
kind, level and direction for a thread; one that could not be read is a walk bus error, one in a device region is not
read, and one whose flags could not be set is an update error: each of these is recorded with the entry's address and
kind, and faults the thread or the channel that waits for the walk; a leaf with its flags set is installed in the main
TLB and the requester's; in the own shelf a missing flag is set in the table first, in a table elsewhere by a
compare-and-swap request, and for a warm request none is set and its channel's page fails; a table elsewhere is read by
an 8-byte request; a channel's walk makes none while its channel holds MAXREQ entries (R220). The walk of an access that
has been abandoned goes on and installs its entry for that requester; its fault goes nowhere (R249 to R254). -/
def Obligations.TableWalks : Prop :=
  (∀ (s : State) (k : Walk), s.xl.walks.find? (fun x => x.id = k.id) = some k → s.alive = true → Calm s → k.again = false →
    let walk := exec (.tableWalk k.id) s
    let rest : Xlate := { s.xl with walks := s.xl.walks.filter fun x => x.id ≠ k.id }
    let size := if k.level = 4 then 14 else if k.level = 3 then 25 else 36
    let index := k.va.toNat / 2 ^ (if k.level = 1 then 47 else if k.level = 2 then 36 else if k.level = 3 then 25 else 14)
      % 2 ^ (if k.level = 1 then 10 else 11)
    let ea := k.table * 2 ^ 14 + 8 * index
    let faults (kind level : Nat) : Prop :=
      (∀ t, k.who = .thread t → walk = .next (s.sealed (({ s with xl := rest }).trap t 0x06 k.va
        (BitVec.ofNat 64 (kind + 64 * level + 512 * b2n k.wr))))) ∧
      (∀ c, k.who = .chan c → walk = .next (({ s with xl := rest }).setChan c { s.chan c with flt := some (3, BitVec.ofNat 6 kind) })) ∧
      (∀ t, k.who = .left t → walk = .next { s with xl := rest })
    let room := ∀ c, k.who = .chan c → s.chanReqs c < bits (s.comN .ldl (0x40 + 0x40 * c.val)) 26 16
    let installed (u : State) (n : Word) : Prop :=
      let e : TlbEntry := { base := k.va.toNat / 2 ^ size * 2 ^ size, k := size, leaf := n, span := none, bad := false }
      u.xl.walks = rest.walks ∧ u.xl.spans = s.xl.spans ∧
      (∃ w, w < 8 ∧ lookup u.xl.mtlb (8 * (k.va.toNat / 2 ^ size % 4096) + w) = some e ∧
        ∀ j, j ≠ 8 * (k.va.toNat / 2 ^ size % 4096) + w → lookup u.xl.mtlb j = lookup s.xl.mtlb j) ∧
      (if k.who.isThread then u.xl.l1tlb.head? = some e ∧ u.xl.ldlTlb = s.xl.ldlTlb
       else u.xl.ldlTlb.head? = some e ∧ u.xl.l1tlb = s.xl.l1tlb)
    (1 ≤ k.level → k.level ≤ 4 → ∀ v, k.ph = .value (some v) →
      let leaf := wbit v 1 = false
      let invalid := wbit v 13 = true ∨ (leaf ∧ k.level = 1) ∨ (¬ leaf ∧ k.level = 4) ∨
        (leaf ∧ wbit v 3 = true ∧ wbit v 2 = false) ∨ (leaf ∧ k.level = 3 ∧ wbits v 24 14 ≠ 0) ∨
        (leaf ∧ k.level = 2 ∧ wbits v 35 14 ≠ 0)
      let denied := if k.pl = 0 ∧ wbit v 5 = false then 4 else if k.rd = true ∧ wbit v 2 = false then 5
        else if k.wr = true ∧ wbit v 3 = false then 6 else 0
      let flags : Word := v ||| (if k.wr then 0x300 else 0x100)
      (wbit v 0 = false → faults 2 k.level) ∧
      (wbit v 0 = true → invalid → faults 3 k.level) ∧
      (wbit v 0 = true → ¬ invalid → leaf → denied ≠ 0 → faults denied 0) ∧
      (wbit v 0 = true → ¬ invalid → leaf → denied = 0 → flags = v → ∃ u, walk = .next u ∧ installed u v ∧
        Accounts s { u with xl := s.xl, free := s.free }) ∧
      (wbit v 0 = true → ¬ invalid → leaf → denied = 0 → flags ≠ v → k.warm = true → ∀ c, k.who = .chan c →
        walk = .next (({ s with xl := rest }).setChan c { s.chan c with flt := some (3, 0) })) ∧
      (wbit v 0 = true → ¬ invalid → leaf → denied = 0 → flags ≠ v → k.warm = false → ∀ o, s.shelfOff ea = some o → shelfClean s o →
        o % 8 = 0 → s.ls.shelfPois.contains (o / 64) = false → word64At (s.shelfBytes o 8) 0 = v →
        ∃ u, walk = .next u ∧ installed u flags ∧ u.shelfBytes o 8 = bytesOf 8 flags.toNat ∧
          (∀ y, y < o ∨ o + 8 ≤ y → getD zero8 u.ls.shelf y = getD zero8 s.ls.shelf y) ∧
          Accounts s { u with xl := s.xl, ls := s.ls, free := s.free }) ∧
      (wbit v 0 = true → ¬ invalid → leaf → denied = 0 → flags ≠ v → k.warm = false → s.shelfOff ea = none → room →
        ∀ i, s.freeIdx true = some i → ∃ u x, walk = .next u ∧ u.noc = { s.noc with rt := put s.noc.rt i x, queue := s.noc.queue ++ [i] } ∧
          (x.typ, x.addr, x.size, x.op, x.kind) = (2, ea, 3, 9, .walkAtom k.id) ∧
          word64At x.data 0 = flags ∧ word64At x.data 8 = v ∧ Accounts s { u with noc := s.noc, xl := s.xl } ∧
          u.xl = { s.xl with walks := s.xl.walks.map fun y => if y.id = k.id then { k with ph := .swapping i v flags } else y })) ∧
    (k.ph = .ready → s.deviceRegion ea = false → s.shelfOff ea = none → (∀ e ∈ s.xl.wcache, e.level = k.level → e.ea ≠ ea) →
      (¬ room → ∃ u, walk = .next u ∧ Accounts s u) ∧
      ∀ i, room → s.freeIdx true = some i → ∃ u x, walk = .next u ∧
        u.noc = { s.noc with rt := put s.noc.rt i x, queue := s.noc.queue ++ [i] } ∧
        (x.typ, x.addr, x.size, x.kind) = (0, ea, 3, .uncRead (.walk k.id)) ∧ Accounts s { u with noc := s.noc, xl := s.xl } ∧
        u.xl = { s.xl with walks := s.xl.walks.map fun y => if y.id = k.id then { k with ph := .reading i } else y }) ∧
    (∀ i, k.ph = .reading i → walk = .next s) ∧
    (∀ i o n, k.ph = .swapping i o n → walk = .next s)) ∧
  (∀ (s : State) (k : Walk) (kind : Nat), s.xl.walks.find? (fun x => x.id = k.id) = some k → s.alive = true →
    let index := k.va.toNat / 2 ^ (if k.level = 1 then 47 else if k.level = 2 then 36 else if k.level = 3 then 25 else 14)
      % 2 ^ (if k.level = 1 then 10 else 11)
    let ea := k.table * 2 ^ 14 + 8 * index
    let unread := kind = 9 ∧ k.again = false ∧ k.ph = .value none
    let device := kind = 10 ∧ k.ph = .ready ∧ s.deviceRegion ea = true
    let unset := kind = 11 ∧ k.again = false ∧ ∃ o n, k.ph = .swapped o n none
    1 ≤ k.level → k.level ≤ 4 → unread ∨ device ∨ unset →
    let walk := exec (.tableWalk k.id) s
    let recorded (v : State) : Prop := v.xl = { s.xl with walks := s.xl.walks.filter fun x => x.id ≠ k.id } ∧
      v.frame .xlt = ((s.frame .xlt).captures ea kind false).noted 1 ∧
      Accounts s ({ v with xl := s.xl }.setFrame .xlt (s.frame .xlt))
    (∀ t, k.who = .thread t → (∀ r, (s.th t).wait ≠ .ctx r) → ∃ v, recorded v ∧
      walk = .next (s.sealed (v.trap t 0x06 k.va (BitVec.ofNat 64 (kind + 64 * k.level + 512 * b2n k.wr))))) ∧
    (∀ c, k.who = .chan c → ∃ v, recorded v ∧
      walk = .next (v.setChan c { s.chan c with flt := some (3, BitVec.ofNat 6 kind) })) ∧
    (∀ t, k.who = .left t → ∃ v, recorded v ∧ walk = .next v))

/-- The span commands: each failing check, in order, leaves every span as it is and gives its code; load writes the three
registers into the span, and covers what a lost span would have covered there; clear makes it invalid, removes its copies
and lets waiting accesses translate again; read back shows it with V, and set A and D ORs the two flags alone.  That a
clear acts at once, and gives up translations that no access uses yet, is the model's reading (log 47) (R255 to R257). -/
def Obligations.SpanCommands : Prop :=
  ∀ (s : State) (m : Writer) (i : BitVec 12) (rsv : BitVec 50), Serves s m → ownWriter m →
    let va := (s.reg .xlt 0x60).toNat
    let pa := (s.reg .xlt 0x68).toNat
    let attr := s.reg .xlt 0x70
    let k := va % 64
    let base := va / 2 ^ 26 * 2 ^ 26
    let valid := ∃ x, lookup s.xl.spans i.toNat = some x ∧ x.valid = true
    let overlaps := ∃ e ∈ s.xl.spans, e.2.valid = true ∧
      e.2.va.toNat / 2 ^ max e.2.k k = base / 2 ^ max e.2.k k
    let code : Nat := if rsv ≠ 0 ∨ k < 26 ∨ 48 < k then 1
      else if base % 2 ^ k ≠ 0 ∨ pa % 2 ^ k ≠ 0 ∨ wbit attr 0 = false ∨ wbit attr 1 = true ∨
        (wbit attr 3 = true ∧ wbit attr 2 = false) then 2
      else open Classical in if overlaps then 0x40 else if valid then 0x41 else 0
    let said (u : State) (c : Nat) : Prop := u.frame .xlt = { s.frame .xlt with refuse := BitVec.ofNat 8 c }
    let refused (c : Instr) (n : Nat) : Prop := ∃ u, exec c s = .next u ∧ said u n ∧ OnlyFrame s u .xlt
    let takes (u : State) : Prop := said u 0 ∧ Accounts s ({ u with xl := s.xl }.setFrame .xlt (s.frame .xlt))
    (code ≠ 0 → refused (.spanLoad m i rsv) code) ∧
    (code = 0 → ∃ u, exec (.spanLoad m i rsv) s = .next u ∧ takes u ∧ lookup u.xl.spans i.toNat = some
        { k := k, va := BitVec.ofNat 64 base, pa := s.reg .xlt 0x68, attr := attr.setWidth 13
          valid := true, lost := false, bad := false, holes := [] } ∧
      (∀ j x, j ≠ i.toNat → lookup s.xl.spans j = some x → x.lost = false → lookup u.xl.spans j = some x) ∧
      (∀ j x, j ≠ i.toNat → lookup s.xl.spans j = some x → x.lost = true → lookup u.xl.spans j = some
        (if x.va.toNat / 2 ^ max x.k k = base / 2 ^ max x.k k then { x with holes := (base, k) :: x.holes } else x)) ∧
      u.xl.mtlb = drop s.xl.mtlb (8 * i.toNat + 7) ∧
      (u.xl.l1tlb, u.xl.ldlTlb, u.xl.walks) = (s.xl.l1tlb, s.xl.ldlTlb, s.xl.walks)) ∧
    (rsv ≠ 0 → refused (.spanClear m i rsv) 1 ∧ refused (.spanReadBack m i rsv) 1 ∧ refused (.spanSetAAndD m i rsv) 1) ∧
    (rsv = 0 → ∃ u, exec (.spanClear m i rsv) s = .next u ∧ said u 0 ∧
      Accounts s ({ u with xl := s.xl, thr := s.thr, ldl := s.ldl }.setFrame .xlt (s.frame .xlt)) ∧
      (∀ t, u.th t = { s.th t with wait := (s.th t).wait.retranslate }) ∧
      (∀ c, u.chan c = if (s.chan c).desc = none then s.chan c else { s.chan c with xl := [] }) ∧
      (∀ x, lookup u.xl.spans i.toNat = some x → x.valid = false) ∧
      (∀ j, j ≠ i.toNat → lookup u.xl.spans j = lookup s.xl.spans j) ∧
      u.xl.l1tlb = s.xl.l1tlb.filter (fun e => e.span ≠ some i.toNat) ∧
      u.xl.ldlTlb = s.xl.ldlTlb.filter (fun e => e.span ≠ some i.toNat)) ∧
    (rsv = 0 → ∃ u, exec (.spanReadBack m i rsv) s = .next u ∧ said u 0 ∧
      Accounts s ({ u with shadow := s.shadow }.setFrame .xlt (s.frame .xlt)) ∧
      (∀ x, lookup s.xl.spans i.toNat = some x → x.va.toNat % 64 = 0 → x.k < 64 → (u.reg .xlt 0x60).toNat = x.va.toNat + x.k ∧
        u.reg .xlt 0x68 = x.pa ∧ wbit (u.reg .xlt 0x70) 0 = x.valid ∧
        (u.reg .xlt 0x70).toNat / 2 = x.attr.toNat / 2) ∧
      (lookup s.xl.spans i.toNat = none → wbit (u.reg .xlt 0x70) 0 = false)) ∧
    (rsv = 0 → ¬ valid → refused (.spanSetAAndD m i rsv) 0x42) ∧
    (rsv = 0 → ∀ x, lookup s.xl.spans i.toNat = some x → x.valid = true → ∃ u, exec (.spanSetAAndD m i rsv) s = .next u ∧
      takes u ∧ u.xl = { s.xl with
        spans := put s.xl.spans i.toNat { x with attr := x.attr ||| (attr &&& 0x300).setWidth 13 } })

/-! ## Live service -/

/-- The scrubber visits the next line at each interval, skips invalid and disabled ones, corrects or poisons what it
finds and counts: of a cached line a correctable codeword or tag is rewritten, an uncorrectable codeword of a clean line
takes the line out, one of a dirty line is poisoned, which is fatal, as an uncorrectable tag is, with a record of kind
and place.  A growth ends when its ways are swept and the sweep's writes answered, with the shelf at its new size; a way
sweep and a migration end with EVENT.SWEEP; a built-in test starts after the checks of its command and ends with its
result.  A valid committed line-replacement entry sends the line of its set and way to one of the way's four spare
lines. NFAIL of a row or column test, its unit for a way, and FIRST are the model's readings (log 76), and the order of
the codes 0x01, 0x03, 0x04, 0x43 and 0x44 of the test commands is its choice (log 108), as is that the record of a tag
names the line's lower codeword (log 122) (R206, R209, R216, R218, R335 to R338). -/
def Obligations.ServiceWork : Prop :=
  ∀ (s : State),
    let set := s.ls.scrub.1
    let way := s.ls.scrub.2
    let int := 100 * (s.comN .lst 0x40 / 2 ^ 16 % 2 ^ 16)
    let due := s.alive = true ∧ s.en .lst = true ∧ s.quiescing .lst = false ∧ int ≠ 0 ∧ s.ls.scrubAt + int ≤ s.tmg.time
    let L : LStore := { s.ls with scrub := if way < 15 then (set, way + 1) else ((set + 1) % 3072, 0), scrubAt := s.tmg.time }
    let answered := ∀ e ∈ s.noc.rt, e.2.src = .sweep → e.2.dead = true
    let b := ((15 - way) * 393216 + set * 128) / 64
    (due → way + s.ls.ways < 16 → (wbit (s.com .rpr 0x50) way = false ∨ lookup s.ls.lines (s.cell set way) = none →
        exec .scrubRead s = .next { s with ls := L }) ∧
      (∀ l, wbit (s.com .rpr 0x50) way = true → lookup s.ls.lines (s.cell set way) = some l → l.line % 3072 = set →
        l.errs = (0, 0) → l.tagErr = 0 → ∃ u, exec .scrubRead s = .next u ∧ u.ls = L ∧
        u.counter .lst 6 = s.counter .lst 6 + 1 ∧ Accounts s { u with ls := s.ls }) ∧
      (∀ l, wbit (s.com .rpr 0x50) way = true → lookup s.ls.lines (s.cell set way) = some l → l.line % 3072 = set →
        let found (kind h n : Nat) (fatal : Bool) (ls : State → LStore) : Prop := ∃ u, exec .scrubRead s = .next u ∧
          u.ls = ls u ∧ u.counter .lst 6 = s.counter .lst 6 + 1 ∧
          (let f := (s.frame .lst).captures (128 * l.line + 64 * h)
            (kind + way * 2 ^ 8 + h * 2 ^ 12 + n * 2 ^ 13 + b2n fatal * 2 ^ 15 + 0xA * 2 ^ 16) fatal
           ((u.frame .lst).errAddr, (u.frame .lst).errInfo) = (f.errAddr, f.errInfo)) ∧
          (fatal = true → u.ras.fatal = true ∧ (s.ras.fatal = false → u.irq.mcLatch = true)) ∧
          (fatal = false → (u.irq, u.ras.fatal) = (s.irq, s.ras.fatal)) ∧
          Accounts s ({ u with ls := s.ls, irq := s.irq, ras := s.ras, noc := s.noc }.setFrame .lst (s.frame .lst))
        let mends (l' : LsLine) (_ : State) : LStore := { L with lines := put s.ls.lines (s.cell set way) l' }
        let drops (u : State) : LStore := { L with lines := drop s.ls.lines (s.cell set way), l1 := u.ls.l1 }
        (∀ h n, l.tagErr = 0 → (h = 0 ∧ l.errs = (n, 0)) ∨ (h = 1 ∧ l.errs = (0, n)) →
          (1 ≤ n → n ≤ 2 → found 2 h n false (mends { l with errs := (0, 0) })) ∧
          (3 ≤ n → l.dirty = false → found 3 h 0 false drops) ∧
          (3 ≤ n → l.dirty = true → found 5 h 0 true (mends { l with errs := (0, 0), pois := setBit l.pois h true }))) ∧
        (l.errs = (0, 0) → l.tagErr = 1 → found 2 0 0 false (mends { l with tagErr := 0 })) ∧
        (l.errs = (0, 0) → l.tagErr = 2 → found 7 0 0 true drops))) ∧
    (due → way < 16 → 16 ≤ way + s.ls.ways → lookup s.ls.shelfErrs (b + 1) = none → ∃ u, exec .scrubRead s = .next u ∧
      u.counter .lst 6 = s.counter .lst 6 + 1 ∧
      (lookup s.ls.shelfErrs b = none → u.ls = L ∧ Accounts s { u with ls := s.ls }) ∧
      (∀ n, lookup s.ls.shelfErrs b = some n → u.ls = { L with
        shelfErrs := drop s.ls.shelfErrs b
        shelfPois := if n ≤ 2 then s.ls.shelfPois else insertNat s.ls.shelfPois b })) ∧
    (¬ due → exec .scrubRead s = .next s) ∧
    (∀ n w k, s.ls.growth = some (n, w, k) →
      let swept := w + n < 16 ∧ s.en .lst = true ∧ s.quiesced .lst = false ∧ answered
      (swept → exec .shelfGrowthDone s = .next ({ s with ls := { s.ls with ways := n, growth := none } }.setFrame .lst
        ((s.frame .lst).noted 4))) ∧
      (¬ swept → exec .shelfGrowthDone s = .next s)) ∧
    (∀ w k r, s.ls.sweep = (w, k) :: r → (3072 ≤ k → answered → ∃ u, exec .waySweepDone s = .next u ∧
        u.ls = { s.ls with sweep := r } ∧ u.frame .rpr = (s.frame .rpr).noted 1 ∧ u.counter .rpr 2 = s.counter .rpr 2 + 1 ∧
        Accounts s ({ u with ls := s.ls }.setFrame .rpr (s.frame .rpr))) ∧
      (k < 3072 ∨ ¬ answered → exec .waySweepDone s = .next s)) ∧
    (s.rpr.migrating ≠ 0 → s.tile.badElem = [] → ∃ u, exec .migrationDone s = .next u ∧
      u.rpr = { s.rpr with migrating := 0 } ∧ u.frame .rpr = (s.frame .rpr).noted 1 ∧
      u.counter .rpr 2 = s.counter .rpr 2 + BitVec.ofNat 48 s.rpr.migrating ∧
      Accounts s ({ u with rpr := s.rpr }.setFrame .rpr (s.frame .rpr))) ∧
    (s.rpr.migrating = 0 → exec .migrationDone s = .next s) ∧
    (∀ (m : Writer) (i : BitVec 6), m = .driver ∨ m = .firmware → Serves s m →
      let code (tgt n : Nat) (enabled : Bool) : Nat :=
        if tgt ≠ 3 ∧ (if tgt = 2 then 16 else 34) ≤ n then 1 else if s.en .rpr = false then 3 else if s.rpr.bist ≠ none then 4
        else if enabled then 0x43 else if tgt = 3 ∧ s.en .til = true then 0x44 else 0
      let runs (c : Instr) (tgt : BitVec 2) (n code : Nat) : Prop := ∃ u, exec c s = .next u ∧
        u.frame .rpr = { s.frame .rpr with refuse := BitVec.ofNat 8 code } ∧
        u.rpr = (if code = 0 then { s.rpr with bist := some (tgt, n) } else s.rpr) ∧
        Accounts s ({ u with rpr := s.rpr }.setFrame .rpr (s.frame .rpr))
      runs (.bistRow m i) 0 i.toNat (code 0 i.toNat (wbit (s.com .rpr 0x40) i.toNat)) ∧
      runs (.bistColumn m i) 1 i.toNat (code 1 i.toNat (wbit (s.com .rpr 0x48) i.toNat)) ∧
      runs (.bistWay m i) 2 i.toNat (code 2 i.toNat (wbit (s.com .rpr 0x50) i.toNat)) ∧
      runs (.bistWholeArray m) 3 0 (code 3 0 false)) ∧
    (∀ tgt n fails, s.rpr.bist = some (tgt, n) → bistFits tgt.toNat n fails = true → ∃ u, exec (.bistDone fails) s = .next u ∧
      u.rpr.bist = none ∧ (u.rpr.pass = true ↔ fails = []) ∧ u.rpr.nfail = min 255 fails.length ∧
      (∀ p q, fails = p :: q → u.rpr.first = if tgt = 0 then p.2 else p.1) ∧
      (tgt = 3 → u.rpr.fails = fails.take 4 ∧ u.tile.elems = [] ∧ ∀ j, (u.slot j).inuse = false ∧ (u.slot j).sat = false ∧
        (u.slot j).inx = false) ∧
      (tgt ≠ 3 → u.rpr.fails = s.rpr.fails ∧ u.tile = s.tile) ∧
      u.frame .rpr = (s.frame .rpr).noted 0 ∧ u.counter .rpr 1 = s.counter .rpr 1 + 1 ∧
      Accounts s ({ u with rpr := s.rpr, tile := s.tile }.setFrame .rpr (s.frame .rpr))) ∧
    (s.rpr.bist = none → ∀ fails, exec (.bistDone fails) s = .next s) ∧
    (∀ set w, w < 16 →
      let sends (e : Nat) : Prop := e < 4 ∧ fld (s.lrepCom (4 * w + e)).toNat 15 15 = 1 ∧
        fld (s.lrepCom (4 * w + e)).toNat 11 0 = set
      (∀ e, sends e → (∀ d, d < e → ¬ sends d) → s.cell set w = 3072 * 16 + 4 * w + e) ∧
      ((∀ e, ¬ sends e) → s.cell set w = 16 * set + w))

/-! ## Timing and power -/

/-- Delay lines: a canary firing sets CAN and adds one code; at the longest code it stretches the clock, a machine
check, and in a group that stretches already it is fatal whatever the code, with the record made of EVENT as it stood
before; commanded and automatic calibrations queue their groups and start when none runs, and CAL_GRP names the group
that started last; a sweep that ends takes its code, clears what the firings added and gives code and drift in CAL_LAST,
and one that found no passing code leaves the group at code 63 and stretches; the next queued group starts, unless a
voltage move is due, which goes first (R271 to R275, R297).  What CAL_LAST holds then beside the group is a free value
(log 20); that the lowest of several groups whose temperature has moved goes first is the model's choice (log 123). -/
def Obligations.Calibration : Prop :=
  ∀ (s : State),
    let works := s.en .tmg = true ∧ s.quiescing .tmg = false
    let started (calQ : List (Fin 40)) (x : Timing) : Timing :=
      open Classical in if x.calNow = none ∧ x.move = none ∧ works then
        match calQ with
        | [] => { x with calQ := [] }
        | g :: r => { x with calNow := some (g, x.time), calGrp := g, calQ := r }
      else { x with calQ := calQ }
    let cc := s.comN .tmg 0x48
    let moved (g : Fin 40) : Prop := (8 * (cc / 2 ^ 16 % 256) : Int) < |s.tmg.temp.toInt - (s.group g).temp.toInt|
    let due := cc / 2 ^ 24 % 2 = 1 ∧ cc % 2 ^ 16 ≠ 0 ∧ works ∧ s.alive = true ∧
      s.tmg.autoLast + 100000 * (cc % 2 ^ 16) ≤ s.tmg.time
    (∀ g : Fin 40, s.alive = true →
      let x := s.group g
      let code := min 63 (x.cal + s.margin s.tmg.vlMargin.val + x.add)
      (s.calibrating g = true → exec (.canaryFire g) s = .next s) ∧
      (s.calibrating g = false → code < 63 → x.str = false → ∃ u, exec (.canaryFire g) s = .next u ∧
        u.tmg = { s.tmg with groups := vset s.tmg.groups g { x with can := true, add := x.add + 1 } } ∧
        u.frame .tmg = (s.frame .tmg).noted 2 ∧ u.counter .tmg 1 = s.counter .tmg 1 + 1 ∧
        Accounts s ({ u with tmg := s.tmg }.setFrame .tmg (s.frame .tmg))) ∧
      (s.calibrating g = false → code = 63 → x.str = false → ∃ u, exec (.canaryFire g) s = .next u ∧
        u.tmg = { s.tmg with groups := vset s.tmg.groups g { x with can := true, str := true } } ∧
        u.frame .tmg = (((s.frame .tmg).captures 0 g.val false).noted 3).noted 2 ∧ checkRaised s u .tmg ∧
        Accounts s ({ u with tmg := s.tmg, irq := s.irq, ras := s.ras }.setFrame .tmg (s.frame .tmg))) ∧
      (s.calibrating g = false → x.str = true → s.ras.fatal = false → ∃ u, exec (.canaryFire g) s = .next u ∧
        u.tmg = { s.tmg with
          groups := vset s.tmg.groups g { x with can := true, add := if code = 63 then x.add else x.add + 1 } } ∧
        u.ras.fatal = true ∧ u.ras.reason = 5 ∧ u.ras.page = 10 ∧ (u.frame .tmg).errAddr =
          ((s.frame .tmg).captures 0 g.val true).errAddr ∧ (u.frame .tmg).errInfo =
          ((s.frame .tmg).captures 0 g.val true).errInfo)) ∧
    (s.alive = false → ∀ g, exec (.canaryFire g) s = .next s) ∧
    (∀ (m : Writer) (g : BitVec 6), Serves s m → m = .driver ∨ m = .firmware →
      (∀ h : g.toNat < 40, exec (.calCmdGroup m g) s = .next { s with tmg := started (s.tmg.calQ ++ [⟨g.toNat, h⟩]) s.tmg }) ∧
      (40 ≤ g.toNat → exec (.calCmdGroup m g) s = .next (s.setFrame .tmg { s.frame .tmg with refuse := 1 })) ∧
      exec (.calCmdAll m) s = .next { s with tmg := started (s.tmg.calQ ++ List.finRange 40) s.tmg }) ∧
    (due → (∀ g : Fin 40, moved g → (∀ k, k < g → ¬ moved k) → exec .autoCalibration s = .next
        { s with tmg := started (s.tmg.calQ ++ [g]) { s.tmg with autoLast := s.tmg.time } }) ∧
      ((∀ g, ¬ moved g) → exec .autoCalibration s = .next { s with
        tmg := started (s.tmg.calQ ++ [s.tmg.autoGroup])
          { s.tmg with autoLast := s.tmg.time, autoGroup := s.tmg.autoGroup + 1 } })) ∧
    (¬ due → exec .autoCalibration s = .next s) ∧
    (∀ g t0, s.tmg.calNow = some (g, t0) → s.tmg.calQ = [] →
      let x := s.group g
      let ends (u : State) (y : Group) (l : Word) (m : Option Nat) : Prop :=
        u.tmg = { s.tmg with groups := vset s.tmg.groups g y, calNow := none, calLast := l } ∧
        u.counter .tmg 3 = s.counter .tmg 3 + 1 ∧
        (m = none → u.frame .tmg = (s.frame .tmg).noted 4 ∧ Accounts s ({ u with tmg := s.tmg }.setFrame .tmg (s.frame .tmg)))
      (t0 + 5000 ≤ s.tmg.time → ∀ c : BitVec 6, ∃ u, exec (.recalibrationDone (some c)) s = .next u ∧
        ends u { cal := c.toNat, add := 0, can := false, str := false, temp := s.tmg.temp }
          (BitVec.ofNat 64 (g.val + 2 ^ 8 * c.toNat + 2 ^ 16 * (((c.toNat : Int) - x.cal) % 256).toNat)) none) ∧
      (t0 + 5000 ≤ s.tmg.time → x.str = false → ∃ u l, exec (.recalibrationDone none) s = .next u ∧
        ends u { x with str := true, add := 63, temp := s.tmg.temp } l (some 0) ∧ u.codeOf g = 63 ∧ l.toNat % 64 = g.val ∧
        checkRaised s u .tmg ∧ wbit (u.frame .tmg).event 3 = true ∧ wbit (u.frame .tmg).event 4 = true) ∧
      (t0 + 5000 ≤ s.tmg.time → x.str = true → ∃ u, exec (.recalibrationDone none) s = .next u ∧
        u.ras.fatal = true ∧ u.tmg.calNow = none ∧ u.codeOf g = 63) ∧
      (s.tmg.time < t0 + 5000 → ∀ m, exec (.recalibrationDone m) s = .next s)) ∧
    (∀ g t0 k q, s.tmg.calNow = some (g, t0) → s.tmg.calQ = k :: q → t0 + 5000 ≤ s.tmg.time → works → s.alive = true →
      s.tmg.move = none → s.tmg.vhold = false → s.tmg.vack = false → s.tmg.vreqV = false → s.tmg.waking = none →
      s.crk.pfail = false → nbit (s.comN .tmg 0x90) 12 = false → ∀ c, ∃ u, exec (.recalibrationDone (some c)) s = .next u ∧
        (s.tmg.vlWant ≠ s.tmg.vlCur → u.tmg.calNow = none ∧ u.tmg.calQ = k :: q) ∧
        (s.tmg.vlWant = s.tmg.vlCur → u.tmg.calNow = some (k, s.tmg.time) ∧ u.tmg.calGrp = k ∧ u.tmg.calQ = q))

/-- The voltage sequencer moves one level at a time toward its target, up with weights and down with margins at once, and
ends at the acknowledgment or, after its time limit, holds, and an acknowledgment that comes later completes no move; under
PFAIL no move starts, but those that bring a woken core back.  Retention is entered from VL1, with a request for VL0, when
nothing is under way, and left when an enabled source becomes pending, at the level that it came from (R276 to R279, R297,
R349, R350).  The level left is VL_WANT (log 37); that VREQ_V falls at the time limit is log 41; that the requests that wait
in the port are served after the wake is log 54. -/
def Obligations.VoltageAndRetention : Prop :=
  ∀ (s : State),
    let x := s.tmg
    let works := s.alive = true ∧ s.en .tmg = true ∧ s.quiescing .tmg = false ∧ x.move = none ∧ x.vhold = false ∧
      x.vack = false ∧ x.vreqV = false
    let run := s.comN .tmg 0xB8
    let rest := nbit (s.comN .tmg 0x90) 12 = true ∧ nbit run 17 = true ∧ nbit run 18 = true ∧
      (∀ t, (s.th t).fs = false ∧ (s.runBit t = false ∨ (s.th t).sleep = .deep) ∧ (s.th t).tcmp = 0) ∧
      s.crk.queue = [] ∧ s.crk.now = none ∧ s.crk.drRun = none ∧ s.crk.winReads = [] ∧ s.crk.vbusy = false ∧
      (s.crk.scanBusy = false ∨ nbit run 16 = false) ∧ s.tile.queue = [] ∧ s.tile.drains = [] ∧
      (∀ c, (s.chan c).desc = none ∧ (s.chan c).halted = false) ∧ s.noc.rt = [] ∧ x.calNow = none
    let goal (n : Nat) : Prop := (∀ l t0, x.waking = some (l, t0) → n = l.val ∧ t0 + 1000 * (s.comN .tmg 0xA0 % 256) ≤ x.time) ∧
      (x.waking = none → (rest → n = 1) ∧ (¬ rest → n = x.vlWant.val))
    let held := if x.waking = none then s.crk.pfail else x.moveStop
    let free := works ∧ x.calNow = none ∧ held = false
    let fresh : Prop := ∃ n, n < 64 ∧ s.srcPending n = true ∧ s.srcEn n = true ∧ x.retPend.getLsbD n = false
    let up (n : Fin 8) : Timing := { x with move := some { fromL := x.vlCur, toL := n, start := x.time }, vreq := n, vreqV := true }
    (∀ n, free → goal n → x.vlCur.val < n → ∀ h : x.vlCur.val + 1 < 8, exec .voltageMove s = .next
      { s with tmg := { up ⟨x.vlCur.val + 1, h⟩ with vlCharge := ⟨x.vlCur.val + 1, h⟩ } }) ∧
    (∀ n, free → goal n → n < x.vlCur.val → exec .voltageMove s = .next
      { s with tmg := { up ⟨x.vlCur.val - 1, by omega⟩ with vlMargin := ⟨x.vlCur.val - 1, by omega⟩ } }) ∧
    (¬ free ∨ (∀ n, goal n → n = x.vlCur.val) → exec .voltageMove s = .next s) ∧
    (∀ m, x.move = some m →
      let ended : Timing := { x with
        move := none
        vlCur := m.toL
        vreqV := false
        vack := true
        vlMargin := if m.fromL < m.toL then m.toL else x.vlMargin
        vlCharge := if m.fromL < m.toL then x.vlCharge else m.toL }
      (s.released = true → x.vack = false → x.calQ = [] → ∃ u, exec .vack s = .next u ∧ u.tmg = ended ∧
        u.counter .tmg 2 = s.counter .tmg 2 + 1 ∧ Accounts s { u with tmg := s.tmg }) ∧
      (m.start + 100 * (s.comN .tmg 0x98 % 256) ≤ x.time → x.calQ = [] → ∃ u, exec .voltageAckTimeout s = .next u ∧
        u.tmg = { x with move := none, vhold := true, vreqV := false } ∧ u.frame .tmg = (s.frame .tmg).noted 5 ∧
        checkRaised s u .tmg ∧ Accounts s ({ u with tmg := s.tmg, irq := s.irq, ras := s.ras }.setFrame .tmg (s.frame .tmg))) ∧
      (x.time < m.start + 100 * (s.comN .tmg 0x98 % 256) →
        exec .voltageAckTimeout s = .next s)) ∧
    (x.move = none → exec .voltageAckTimeout s = .next s) ∧
    (x.move = none → s.released = true → x.vack = false →
      exec .vack s = .next { s with tmg := { x with vreqV := false, vack := true } }) ∧
    (s.released = false ∨ x.vack = true → exec .vack s = .next s) ∧
    (x.vack = true → exec .vackFall s = .next { s with tmg := { x with vack := false } }) ∧
    (x.vack = false → exec .vackFall s = .next s) ∧
    (works → x.waking = none → s.crk.pfail = false → rest → x.vlCur = 1 → ∃ p, exec .retentionEntry s = .next { s with
        tmg := { x with
          ret := some x.vlWant, retPend := p, vlCur := 0, vlCharge := 0, vlMargin := 1, vreq := 0, vreqV := true, loLock := false } } ∧
      ∀ n, n < 64 → p.getLsbD n = (s.srcPending n && s.srcEn n)) ∧
    (¬ works ∨ x.waking ≠ none ∨ s.crk.pfail = true ∨ ¬ rest ∨ x.vlCur ≠ 1 → exec .retentionEntry s = .next s) ∧
    (∀ l, x.ret = some l → fresh → exec .retentionWake s = .next
      { s with tmg := { x with ret := none, waking := some (l, x.time) }, crk := { s.crk with woken := true } }) ∧
    (x.ret = none ∨ ¬ fresh → exec .retentionWake s = .next s) ∧
    (∀ l t0, x.waking = some (l, t0) → (x.vlCur = l → exec .retentionWakeDone s = .next
        ({ s with tmg := { x with waking := none } }.setFrame .tmg ((s.frame .tmg).noted 9))) ∧
      (x.vlCur ≠ l → exec .retentionWakeDone s = .next s)) ∧
    (x.waking = none → exec .retentionWakeDone s = .next s)

/-- The oscillator is trimmed one step toward 12,800 counts a window and locked within 6 of it (R280; which way a step
goes is the model's, log 28); the PLL locks, coasts, where it is enabled, on a lost reference and locks again 10 µs
after it has come back; a clock switch ends when the old clock and then the new one have given their phase; one that
needs a clock which does not toggle never ends, and hangs after 10 µs; the port runs on a source that toggles; a
temperature that passes HI sets EVENT.HOT (R280, R283, R284, R296, R297, R351). -/
def Obligations.ClocksAndSensors : Prop :=
  ∀ (s : State),
    let x := s.tmg
    let event (y : Timing) (i : Nat) : State := { s with tmg := y }.setFrame .tmg ((s.frame .tmg).noted i)
    let clk := s.comN .tmg 0xB0
    let toggles (ref : Bool) : Prop := if ref then x.refAlive = true else x.pllAlive = true
    (s.alive = true → ∀ cnt : BitVec 16, ∃ u, exec (.oscTrimWindow cnt) s = .next u ∧
      (u.tmg.loCnt, u.tmg.loFrozen, u.tmg.lastMark) = (cnt, false, x.time) ∧
      (u.tmg.loLock = true ↔ 12794 ≤ cnt.toNat ∧ cnt.toNat ≤ 12806) ∧
      (cnt.toNat = 12800 → u.tmg.loTrim = x.loTrim) ∧
      (cnt.toNat < 12800 → u.tmg.loTrim.toNat = min 1023 (x.loTrim.toNat + 1)) ∧
      (12800 < cnt.toNat → u.tmg.loTrim.toNat = x.loTrim.toNat - 1) ∧
      (u.crk.woken = true ↔ s.crk.woken = true ∧ u.tmg.loLock = false) ∧
      Accounts s { u with
        tmg := { u.tmg with
          loCnt := x.loCnt, loFrozen := x.loFrozen, lastMark := x.lastMark, loLock := x.loLock, loTrim := x.loTrim }
        crk := { u.crk with woken := s.crk.woken } }) ∧
    (s.alive = true → x.loFrozen = false → x.lastMark + 100000 ≤ x.time →
      exec .syncMarkLost s = .next (event { x with loFrozen := true, loLock := false } 7)) ∧
    (s.alive = false ∨ x.loFrozen = true ∨ x.time < x.lastMark + 100000 →
      exec .syncMarkLost s = .next s) ∧
    (s.alive = true → ∀ temp : BitVec 12,
      let hi := Int.bmod (s.comN .tmg 0xC8) (2 ^ 12)
      (x.temp.toInt ≤ hi → hi < temp.toInt → exec (.tempReading temp) s = .next (event { x with temp := temp } 6)) ∧
      (¬ (x.temp.toInt ≤ hi ∧ hi < temp.toInt) → exec (.tempReading temp) s = .next { s with tmg := { x with temp := temp } })) ∧
    (s.alive = true → clk / 2 % 2 = 1 → x.pllLock = false → x.coast = false → x.refAlive = true → exec .pllLock s = .next
      { s with tmg := { x with
        pllLock := true, pllAlive := true, src := if x.mux = none ∧ clk % 2 = 0 then false else x.src } }) ∧
    (s.alive = false ∨ clk / 2 % 2 = 0 ∨ x.pllLock = true ∨ x.coast = true ∨ x.refAlive = false → exec .pllLock s = .next s) ∧
    (s.alive = true → x.refHere = true →
      let on : Bool := clk / 2 % 2 = 1
      let pll : Bool := x.pllAlive || on
      let lost : Bool := match x.mux with
        | none => x.muxLost
        | some (ref, _) => x.muxLost || ref || !pll || !(x.muxOld || (!x.src && pll))
      let y : Timing := { x with
        refHere := false, refAlive := false, coast := x.coast || on, pllAlive := pll, pllLock := false, muxLost := lost }
      (on = true → x.coast = false → exec .pllCoast s = .next (event y 0)) ∧
      (on = false ∨ x.coast = true → exec .pllCoast s = .next { s with tmg := y })) ∧
    (s.alive = false ∨ x.refHere = false → exec .pllCoast s = .next s) ∧
    (s.alive = true → x.coast = true → x.refHere = true → x.refSince + 1000 ≤ x.time →
      exec .pllRelock s = .next (event { x with
        coast := false, pllLock := true, src := if x.mux = none ∧ clk % 2 = 0 then false else x.src } 1)) ∧
    (s.alive = false ∨ x.coast = false ∨ x.refHere = false ∨ x.time < x.refSince + 1000 → exec .pllRelock s = .next s) ∧
    (x.mux = none → exec .muxSwitchDone s = .next s ∧ exec .muxHang s = .next s) ∧
    (∀ target t0, x.mux = some (target, t0) →
      let can := x.muxLost = false ∧ (x.muxOld = true ∨ toggles x.src) ∧ toggles target
      (can → x.muxHung = false →
        exec .muxSwitchDone s = .next { s with tmg := { x with src := target, mux := none, muxOld := false } }) ∧
      (¬ can ∨ x.muxHung = true → exec .muxSwitchDone s = .next s) ∧
      (¬ can → x.muxHung = false → t0 + 1000 ≤ x.time → exec .muxHang s = .next (event { x with muxHung := true } 8)) ∧
      (can ∨ x.muxHung = true ∨ x.time < t0 + 1000 → exec .muxHang s = .next s)) ∧
    (s.portRuns = true ↔ s.alive = true ∧ x.waking = none ∧ x.mux = none ∧ x.muxHung = false ∧ toggles x.src)

/-! ## Fetch and the Crock -/

/-- A line that a firmware thread lacks at its pc is read into its buffer, which keeps four, and fills the branch targets on
it; which thread's line is read first is the model's choice (log 71), and that an uncorrectable one is recorded when it is
read its reading (log 109); a window load takes its bytes from the line, or the poison trap where it is uncorrectable; words
that are no instruction raise illegal instruction with word 0, and spell none; a word of the R, M or I class spells the
instruction that its fields give (R139 to R141, R143, R144, R157, R181, R300, R301, R330). -/
def Obligations.FetchAndWindowLoads : Prop :=
  ∀ (s : State) (t : Thread),
    let h := s.th t
    let at0 := b2n s.crk.active * 2 ^ 16 + h.pc.toNat / 18
    let fetches (v : Thread) : Prop := (s.th v).fs = true ∧ (s.th v).stopped = false ∧ (s.th v).halted = false ∧
      (s.th v).sleep = .awake ∧ s.runBit v = true
    (s.running = true → fetches t → (∀ v, v < t → (s.th v).fs = false) → s.crk.fwLines.contains (t, at0) = false →
      ∃ u, exec .firmwareLineReadDone s = .next u ∧ u.crk.fwLines.contains (t, at0) = true ∧
        (u.crk.fwLines.filter fun x => x.1 = t).length ≤ 4 ∧
        (∀ v l, v ≠ t → u.crk.fwLines.contains (v, l) = s.crk.fwLines.contains (v, l)) ∧
        u.crk.btb = (s.crk.btb.map fun e => if b2n s.crk.active * 2 ^ 16 + e.target.toNat / 18 = at0
          then { e with filled := true } else e) ∧ u.counter .crk 2 = s.counter .crk 2 + 1 ∧
        u.frame .crk = (if s.crockUe at0 = true
          then ((s.frame .crk).captures (s.crockAddr at0) (2 + 256 * 4) false).noted 2 else s.frame .crk) ∧
        Accounts s ({ u with crk := { u.crk with fwLines := s.crk.fwLines, btb := s.crk.btb } }.setFrame .crk (s.frame .crk))) ∧
    (s.running = false ∨ (∀ v, ¬ fetches v) →
      exec .firmwareLineReadDone s = .next s) ∧
    (∀ l p x o pol, s.crk.winReads = [(t, l)] → s.running = true → s.lineBusy l = false → h.wait = .load p → p.parts = [x] →
      x.pa = some (s.crockBase + 32 * l + o, pol) → x.asked = true → x.got = none → o + x.len ≤ 32 → p.size = x.len →
      1 ≤ x.len →
      (s.crockUe l = false → ∃ u, exec (.crockWindowReadDone t) s = .next u ∧ OtherThreads s u t ∧
        u.th t = h.complete p.words none (.load p.d
          (BitVec.ofInt 64 (Int.bmod (ofBytes (((s.crockBytes l).drop o).take x.len)) (2 ^ (8 * x.len))))) ∧
        Accounts s { u with thr := s.thr, crk := { u.crk with winReads := s.crk.winReads, btb := s.crk.btb } } ∧
        u.crk.winReads = []) ∧
      (s.crockUe l = true → ∃ v : State, exec (.crockWindowReadDone t) s = .next (s.sealed (v.trap t 0x07 x.va 0)) ∧ v.th t = h ∧
        v.frame .crk = ((s.frame .crk).captures (s.crockAddr l) (2 + 256 * t.val) false).noted 2)) ∧
    (s.crk.winReads = [] → exec (.crockWindowReadDone t) s = .next s) ∧
    (∀ w0 e1 e2 : IWord, (legalWords w0 e1 e2 = true → exec (.illegalInstruction t w0 e1 e2) s = .refused .illFormed) ∧
      (legalWords w0 e1 e2 = false → Goes s t (instrWords w0) → exec (.illegalInstruction t w0 e1 e2) s =
        .next (s.sealed ((s.issued t).trap t 0x01 0 (BitVec.ofNat 64 w0.toNat)))) ∧
      (legalWords w0 e1 e2 = false → decodeWords t w0 e1 e2 = none)) ∧
    (∀ (d b : GReg) (imm : BitVec 6) (e1 e2 : IWord),
      let w (op : Nat) : IWord := BitVec.ofNat 14 (op * 2 ^ 8 + d.val * 2 ^ 4 + b.val)
      (∀ op i, [Instr.mov t d b, .add t d b, .sub t d b, .and t d b, .or t d b, .xor t d b, .sll t d b, .srl t d b, .sra t d b,
        .slt t d b, .sltu t d b, .mul t d b, .mulh t d b, .mac0 t d b, .mac1 t d b][op]? = some i →
        decodeWords t (w op) e1 e2 = some i) ∧
      (∀ (op : Nat) (e : Option IWord) i, [Instr.ldb t d b e, .ldh t d b e, .ldw t d b e, .ldd t d b e, .stb t d b e, .sth t d b e,
        .stw t d b e, .std t d b e][op]? = some i →
        (e = none → decodeWords t (w (0x10 + op)) e1 e2 = some i) ∧ (e = some e1 → decodeWords t (w (0x18 + op)) e1 e2 = some i)) ∧
      (∀ op i, [Instr.movi t d imm, .addi t d imm, .slli t d imm, .srai t d imm][op]? = some i →
        decodeWords t (BitVec.ofNat 14 (0x2000 + op * 2 ^ 10 + imm.toNat * 2 ^ 4 + d.val)) e1 e2 = some i))

/-- Crock writes: the commands' checks in the order of R303; an accepted one takes the next ticket and joins the queue,
and starts where the engine is idle.  A line write that verifies puts the data on the media; one that does not is
rewritten up to 3 times, and then the entry fails, the engine halts and the error is recorded; RESUME ends the halt and
starts the next entry; DISCARD ends it, completes every entry not in progress as failed, so that FAILED names the last
of them and DONE takes them in, and writes nothing.  A refresh of an uncorrectable line reads it, writes nothing,
completes as failed and halts nothing.

A move copies its 128 lines and writes a map copy with the new mapping, a checkpoint the copy alone; with its last line
the copy counts, the map switches and the old block retires where the move asks for it; a line that cannot be verified
aborts a move, which retires the new block and halts nothing.  Under PFAIL the line write in progress completes unread
and the MC entries follow alone; a move or checkpoint stops after it with its mapping not switched, but a checkpoint
whose header is in progress ends with it, and a move writes no header (log 85).  A scan counts what it reads and queues
the refresh of a weak line (R298, R302 to R304, R306, R308, R316, R322, R324, R330).  Log 73 orders the checks that no
rule orders (0x03 first, 0x40 for levelled lines under MAPBAD, 0x43 of a move, a checkpoint and a scan) and clears VPASS
at acceptance; that a checkpoint waits in the queue while FRUN = 0 is log 84 (R329). -/
def Obligations.CrockWrites : Prop :=
  ∀ (s : State),
    let q := s.crk.queue
    let said (u : State) (c : Nat) : Prop := u.frame .crk = { s.frame .crk with refuse := BitVec.ofNat 8 c }
    let mcs := (q.filter (·.mc)).length
    let maps := ∃ e ∈ q, e.op.isMap = true
    let active := if s.crk.active then 0x1_0000 else 0
    let inactive := if s.crk.active then 0 else 0x1_0000
    let runs (op : WqOp) (mc drv : Bool) : Crock := { s.crk with
      queue := q ++ [{ ticket := s.crk.next, op := op, mc := mc, drv := drv }], next := s.crk.next + 1 }
    let started (op : WqOp) (mc drv : Bool) (c : Crock) : Crock := if s.crk.now = none then { c with
      now := some { entry := { ticket := s.crk.next, op := op, mc := mc, drv := drv }, line := 0, rewrites := 0, raw := false } } else c
    let easy := s.crk.now ≠ none ∨ (q = [] ∧ s.crk.halt = false ∧ s.crk.woken = false ∧ s.quiescing .crk = false)
    (∀ (line : BitVec 19) (mc drv : Bool) (rsv : Nat), s.served = true →
      let l := line.toNat
      let here (b : Nat) : Prop := b ≤ l ∧ l < b + 0x1_0000
      let own := if drv then 0x4_C000 ≤ l else l < 0x4_C000 ∧ ¬ (0x2_0380 ≤ l ∧ l < 0x2_0980)
      open Classical in
      let code : Nat := if s.en .crk = false then 3 else if 0x6_BFFF < l ∨ rsv ≠ 0 then 1
        else if ¬ own ∨ (s.crk.mapBad = true ∧ ¬ (1024 ≤ l / 128 ∧ l / 128 < 1152)) then 0x40 else if here active then 0x41
        else if here inactive ∧ (s.crk.vbusy = true ∨ s.crk.swpend = true) then 0x44 else if s.crk.pfail = true then 0x43
        else if 8 ≤ q.length then 4
        else if mc = true ∧ (4 ≤ mcs ∨ (drv = true ∧ ∃ e ∈ q, e.drv = true ∧ e.mc = true)) then 0x42 else 0
      let data (o : Nat) : BitVec 256 := BitVec.ofNat 256 ((s.reg .crk o).toNat + (s.reg .crk (o + 8)).toNat * 2 ^ 64
        + (s.reg .crk (o + 16)).toNat * 2 ^ 128 + (s.reg .crk (o + 24)).toNat * 2 ^ 192)
      let touched (c : Crock) : Crock := if here inactive then { c with vpass := false } else c
      let fw (c : Instr) (op : WqOp) : Prop := (code ≠ 0 → ∃ u, exec c s = .next u ∧ said u code ∧ OnlyFrame s u .crk) ∧
        (code = 0 → easy → ∃ u, exec c s = .next u ∧ said u 0 ∧ u.crk = started op mc false (touched (runs op mc false)) ∧
          Accounts s ({ u with crk := s.crk }.setFrame .crk (s.frame .crk)))
      (∀ r : BitVec 43, r.toNat = rsv → drv = false → fw (.wcmd .firmware line mc r) (.write l (data 0x40)) ∧
        (s.crockUe l = false → fw (.wcmdRefresh .firmware line mc r) (.refresh l false))) ∧
      (∀ r : BitVec 44, r.toNat = rsv → drv = true → Serves s .driver →
        (code ≠ 0 → exec (.dwcmd .driver line mc r) s = .next { s with crk := { s.crk with drefuse := BitVec.ofNat 8 code } }) ∧
        (code = 0 → easy → ∃ u, exec (.dwcmd .driver line mc r) s = .next u ∧ Accounts s { u with crk := s.crk } ∧
          u.crk = { started (.write l (data 0x80)) mc true (touched (runs (.write l (data 0x80)) mc true)) with drefuse := 0 }))) ∧
    (s.served = true → ∀ (l p : BitVec 12) (retire : Bool),
      open Classical in
      let busy : Nat := if s.crk.pfail = true then 0x43 else if 8 ≤ q.length then 4 else 0
      let move : Nat := if s.en .crk = false then 3 else if fixedBlock l.toNat = true ∨ 3456 ≤ l.toNat ∨ s.blockFree p.toNat = false then 0x45
        else if maps then 4 else busy
      let map : Nat := if s.en .crk = false then 3 else if maps then 4 else busy
      let scan : Nat := if s.en .crk = false then 3 else if s.crk.scanBusy = true then 4 else if s.crk.pfail = true then 0x43 else 0
      let gives (c : Instr) (code : Nat) (k : Crock) : Prop := (code ≠ 0 → ∃ u, exec c s = .next u ∧ said u code ∧ OnlyFrame s u .crk) ∧
        (code = 0 → easy → ∃ u, exec c s = .next u ∧ said u 0 ∧ u.crk = k ∧ Accounts s ({ u with crk := s.crk }.setFrame .crk (s.frame .crk)))
      let mv : WqOp := .move l.toNat p.toNat retire
      gives (.moveCmd .firmware l p retire) move (started mv false false (runs mv false false)) ∧
      (map ≠ 0 ∨ s.frun = true →
        gives (.mapCmd .firmware) map (started .ckpt false false (runs .ckpt false false))) ∧
      (map = 0 → s.frun = false → easy → ∃ u, exec (.mapCmd .firmware) s = .next u ∧ said u 0 ∧
        u.crk = runs .ckpt false false ∧ Accounts s ({ u with crk := s.crk }.setFrame .crk (s.frame .crk))) ∧
      gives (.scanCmd .firmware) scan { s.crk with scanBusy := true, scanPos := 0, scanWeak := 0, scanRef := 0, scanUe := 0 }) ∧
    (∀ e r l d, s.crk.now = some r → r.entry = e → e.op = .write l d → q = [e] → s.crk.pfail = false →
      let p := s.crockPhys l
      (∃ u, exec (.crockLineWriteDone true) s = .next u ∧ u.mediaLine p = d ∧ (∀ k, k ≠ p → u.mediaLine k = s.mediaLine k) ∧
        lookup u.crk.errs p = none ∧ u.crk.now = none ∧ u.crk.queue = [] ∧
        (e.ticket = s.crk.done + 1 → s.crk.doneOut = [] → u.crk.done = e.ticket ∧ u.crk.failed = s.crk.failed) ∧
        (s.retired (p / 128) = false → u.blockCount (p / 128) = s.blockCount (p / 128) + 1) ∧
        u.counter .crk 1 = s.counter .crk 1 + 1 ∧ u.counter .crk 2 = s.counter .crk 2 + 1) ∧
      (r.rewrites < 3 → ∃ u, exec (.crockLineWriteDone false) s = .next u ∧
        u.crk.now = some { r with rewrites := r.rewrites + 1 } ∧ u.crk.queue = q ∧ u.counter .crk 3 = s.counter .crk 3 + 1 ∧
        u.counter .crk 2 = s.counter .crk 2 + 1) ∧
      (3 ≤ r.rewrites → ∃ u, exec (.crockLineWriteDone false) s = .next u ∧ u.crk.now = none ∧ u.crk.queue = [] ∧
        u.crk.halt = true ∧ u.crk.failed = e.ticket ∧ wbit (u.frame .crk).event 1 = true ∧
        ((s.frame .crk).event = 0 → (s.frame .crk).held = false → u.frame .crk =
          { ((s.frame .crk).captures (s.crockAddr l) (3 + 256 * 6) false) with event := (u.frame .crk).event }))) ∧
    (∀ e r l b, s.crk.now = some r → r.entry = e → e.op = .refresh l b → q = [e] → s.crk.pfail = false →
      let p := s.crockPhys l
      ∃ u, exec (.crockLineWriteDone true) s = .next u ∧ u.mediaLine p = s.crockLine l ∧
        (∀ k, k ≠ p → u.mediaLine k = s.mediaLine k) ∧ lookup u.crk.errs p = none ∧ u.crk.now = none ∧ u.crk.queue = [] ∧
        u.crk.failed = s.crk.failed ∧ u.counter .crk 5 = s.counter .crk 5 + 1) ∧
    (∀ e r, s.crk.now = some r → r.entry = e → q = [e] → s.crk.pfail = false → ∀ l p ret, e.op = .move l p ret →
      let old := physBlock s.crk.wmap l
      let base := if s.crk.wcopy then 0x2_0380 else 0x2_0680
      let head := (base + 728) / 128
      let new : List (Nat × Nat) := if p = l then drop s.crk.wmap l else put s.crk.wmap l p
      (r.line < 856 → ∃ u, exec (.crockLineWriteDone true) s = .next u ∧ u.crk.wmap = s.crk.wmap ∧ u.crk.wgen = s.crk.wgen ∧
        u.crk.now = some { r with line := r.line + 1, rewrites := 0 } ∧ u.crk.queue = q ∧
        (r.line < 128 → u.mediaLine (128 * p + r.line) = s.mediaLine (128 * old + r.line)) ∧
        (128 ≤ r.line → u.mediaLine (base + (r.line - 128)) = s.mapLine new base (r.line - 128))) ∧
      (r.line = 856 → ∃ u, exec (.crockLineWriteDone true) s = .next u ∧ u.crk.now = none ∧ u.crk.queue = [] ∧
        u.crk.halt = s.crk.halt ∧ u.crk.moveFail = false ∧ u.crk.failed = s.crk.failed ∧
        (u.crk.wgen, u.crk.wcopy) = (s.crk.wgen + 1, !s.crk.wcopy) ∧ wbit (u.frame .crk).event 5 = true ∧
        u.mediaLine (base + 728) = s.mapLine new base 728 ∧
        (l < 3456 → physBlock u.crk.wmap l = p) ∧ (∀ b, b ≠ l → physBlock u.crk.wmap b = physBlock s.crk.wmap b) ∧
        (ret = true → u.retired old = true) ∧
        (∀ b, b ≠ head → ret = false ∨ b ≠ old → u.blockCount b = s.blockCount b)) ∧
      (3 ≤ r.rewrites → ∃ u, exec (.crockLineWriteDone false) s = .next u ∧ u.crk.now = none ∧ u.crk.queue = [] ∧
        u.crk.halt = s.crk.halt ∧ u.crk.moveFail = true ∧ u.crk.failed = e.ticket ∧ u.crk.wmap = s.crk.wmap ∧
        u.crk.wgen = s.crk.wgen ∧ u.retired p = true ∧ wbit (u.frame .crk).event 5 = true)) ∧
    (∀ e r, s.crk.now = some r → r.entry = e → q = [e] → s.crk.pfail = false → e.op = .ckpt →
      let base := if s.crk.wcopy then 0x2_0380 else 0x2_0680
      (r.line < 728 → ∃ u, exec (.crockLineWriteDone true) s = .next u ∧ u.crk.wgen = s.crk.wgen ∧ u.crk.queue = q ∧
        u.crk.now = some { r with line := r.line + 1, rewrites := 0 } ∧
        u.mediaLine (base + r.line) = s.mapLine s.crk.wmap base r.line) ∧
      (r.line = 728 → ∃ u, exec (.crockLineWriteDone true) s = .next u ∧ u.crk.now = none ∧ u.crk.queue = [] ∧
        (u.crk.wgen, u.crk.wcopy, u.crk.wmap) = (s.crk.wgen + 1, !s.crk.wcopy, s.crk.wmap) ∧
        u.crk.failed = s.crk.failed ∧ wbit (u.frame .crk).event 5 = true)) ∧
    (∀ e r rest good, s.crk.now = some r → r.entry = e → q = e :: rest → s.crk.pfail = true →
      (∀ x ∈ rest, x.ticket ≠ e.ticket ∧ ∀ l b, x.op ≠ .refresh l b) →
      let next (es : List WqEntry) : Option WqRun :=
        (es.find? (·.mc)).map fun m => { entry := m, line := 0, rewrites := 0, raw := false }
      (∀ l d, e.op = .write l d → ∃ u, exec (.crockLineWriteDone good) s = .next u ∧ u.mediaLine (s.crockPhys l) = d ∧
        u.crk.queue = rest ∧ u.crk.now = next rest ∧ u.crk.halt = s.crk.halt ∧ u.crk.failed = s.crk.failed ∧
        (e.ticket = s.crk.done + 1 → s.crk.doneOut = [] → u.crk.done = e.ticket) ∧
        u.counter .crk 1 = s.counter .crk 1 + 1 ∧ u.counter .crk 2 = s.counter .crk 2 ∧ u.counter .crk 3 = s.counter .crk 3) ∧
      (e.mc = false →
        let base := if s.crk.wcopy then 0x2_0380 else 0x2_0680
        let stops (u : State) : Prop := exec (.crockLineWriteDone good) s = .next u ∧ u.crk.queue = q ∧ u.crk.now = next rest ∧
          (u.crk.wmap, u.crk.wgen, u.crk.wcopy, u.crk.failed, u.crk.moveFail) =
            (s.crk.wmap, s.crk.wgen, s.crk.wcopy, s.crk.failed, s.crk.moveFail)
        (∀ l p ret, e.op = .move l p ret →
          let new : List (Nat × Nat) := if p = l then drop s.crk.wmap l else put s.crk.wmap l p
          ∃ u, stops u ∧ (r.line = 856 → u.crk = { s.crk with now := u.crk.now }) ∧
            (r.line < 128 → u.mediaLine (128 * p + r.line) = s.mediaLine (128 * physBlock s.crk.wmap l + r.line)) ∧
            (128 ≤ r.line → r.line < 856 → u.mediaLine (base + (r.line - 128)) = s.mapLine new base (r.line - 128))) ∧
        (e.op = .ckpt → r.line < 728 → ∃ u, stops u ∧ u.mediaLine (base + r.line) = s.mapLine s.crk.wmap base r.line) ∧
        (e.op = .ckpt → r.line = 728 → ∃ u, exec (.crockLineWriteDone good) s = .next u ∧ u.crk.queue = rest ∧
          u.crk.now = next rest ∧ u.mediaLine (base + 728) = s.mapLine s.crk.wmap base 728 ∧
          (u.crk.wgen, u.crk.wcopy, u.crk.wmap) = (s.crk.wgen + 1, !s.crk.wcopy, s.crk.wmap) ∧ u.crk.failed = s.crk.failed ∧
          (e.ticket = s.crk.done + 1 → s.crk.doneOut = [] → u.crk.done = e.ticket) ∧ wbit (u.frame .crk).event 5 = true))) ∧
    (s.served = true → s.crk.now ≠ none ∨ q = [] → ∃ u, exec (.wqResume .firmware) s = .next u ∧
      u.crk = { s.crk with halt := false } ∧ Accounts s { u with crk := s.crk }) ∧
    (s.served = true → s.crk.now = none → s.en .crk = true → s.quiescing .crk = false → s.crk.woken = false →
      s.crk.pfail = false → ∀ e rest, q = e :: rest → s.frun = true ∨ e.op ≠ .ckpt →
      let bad := ∃ l b, e.op = .refresh l b ∧ s.crockUe l = true
      (¬ bad → ∃ u, exec (.wqResume .firmware) s = .next u ∧ Accounts s { u with crk := s.crk } ∧
        u.crk = { s.crk with halt := false, now := some { entry := e, line := 0, rewrites := 0, raw := false } }) ∧
      (∀ l b, e.op = .refresh l b → s.crockUe l = true → rest = [] → ∃ u, exec (.wqResume .firmware) s = .next u ∧
        (u.crk.halt, u.crk.now, u.crk.queue, u.crk.failed) = (false, none, [], e.ticket) ∧ u.crk.media = s.crk.media ∧
        u.counter .crk 2 = s.counter .crk 2 + 1 ∧ wbit (u.frame .crk).event 2 = true)) ∧
    (s.served = true → ∃ u, exec (.wqDiscard .firmware) s = .next u ∧ u.crk.halt = false ∧ u.crk.now = s.crk.now ∧
      u.crk.queue = (q.filter fun e => match s.crk.now with | some r => r.entry.ticket = e.ticket | none => false) ∧
      (let gone := q.filter fun e => match s.crk.now with | some r => r.entry.ticket ≠ e.ticket | none => true
       let from' (k : BitVec 16) : Prop := ∀ i e, gone[i]? = some e → e.ticket = k + BitVec.ofNat 16 i
       (gone = [] → (u.crk.failed, u.crk.done, u.crk.doneOut) = (s.crk.failed, s.crk.done, s.crk.doneOut)) ∧
       (∀ e, gone.getLast? = some e → u.crk.failed = e.ticket) ∧
       (s.crk.doneOut = [] → from' (s.crk.done + 1) →
         u.crk.done = s.crk.done + BitVec.ofNat 16 gone.length ∧ u.crk.doneOut = []) ∧
       (s.crk.doneOut = [] → from' (s.crk.done + 2) → q.length ≤ 8 →
         u.crk.done = s.crk.done ∧ u.crk.doneOut = gone.map (·.ticket)) ∧
       ((∃ e ∈ gone, e.op.isMap = true) → wbit (u.frame .crk).event 5 = true) ∧
       ((∃ e ∈ gone, ∃ l p ret, e.op = .move l p ret) → u.crk.moveFail = true)) ∧
      u.crk.media = s.crk.media ∧ u.crk.wmap = s.crk.wmap ∧
      Accounts s ({ u with crk := s.crk }.setFrame .crk (s.frame .crk))) ∧
    (s.scanDue = true → s.crk.scanPos < 0x6_BFFF →
      let l := s.crk.scanPos
      let k := s.lineErr l
      let clean := k.normal < 5 ∧ k.margin < 5 ∧ k.margin < (s.reg .crk 0x100).toNat % 8
      ∃ u, exec .crockScanRead s = .next u ∧ u.crk.scanPos = l + 1 ∧ u.crk.scanBusy = true ∧
        u.counter .crk 2 = s.counter .crk 2 + 2 ∧
        (s.crockUe l = true → u.crk.scanUe = min 0xFFF (s.crk.scanUe + 1) ∧ u.crk.queue = q) ∧
        (s.crockUe l = false → ¬ clean → easy → u.crk.scanWeak = min 0xFFFF (s.crk.scanWeak + 1) ∧
          u.crk.queue = q ++ [{ ticket := s.crk.next, op := .refresh l true, mc := false, drv := false }]) ∧
        (s.crockUe l = false → clean → u.crk.queue = q ∧ u.crk.scanWeak = s.crk.scanWeak ∧ u.crk.scanUe = s.crk.scanUe)) ∧
    (s.scanDue = true → s.crk.scanPos = 0x6_BFFF → ∃ u, exec .crockScanRead s = .next u ∧ u.crk.scanBusy = false ∧
      wbit (u.frame .crk).event 6 = true) ∧
    (s.scanDue = false → exec .crockScanRead s = .next s) ∧
    (s.crk.now = none → ∀ good, exec (.crockLineWriteDone good) s = .next s)

/-- Crock driver reads and slots: a driver read's checks, its line or UE; VERIFY runs a verify of the inactive slot and
SWITCH needs its pass; a verify's result is the first of the conditions in the model's order (log 52) and passes only a
manifest whose fields, key, security version, lines and signature are right; the switch waits until no thread runs
firmware, and changes the slot and its version; PFAIL latches its cause, abandons a verify, stops the boot ROM, wakes a
core in retention and lets MC entries start alone, until it ends (R279, R301, R307, R308, R325, R328, R329, R350, R364).
Where the boot ROM has a boot record to write, whether that write has started is free, and one that has is completed (R326,
R364, log 110).  That VERIFY and SWITCH answer 0x43 under PFAIL, after 0x04 and 0x46, is log 73. -/
def Obligations.CrockReadsAndSlots : Prop :=
  ∀ (s : State),
    let k := s.crk
    let said (c : Nat) : Frame := { s.frame .crk with refuse := BitVec.ofNat 8 c }
    let base (slot : Bool) : Nat := if slot then 0x1_0000 else 0
    let bytes (slot : Bool) : List Byte := (List.range 8).flatMap fun i => s.crockBytes (base slot + 0xFFF8 + i)
    let field (slot : Bool) (o n : Nat) : Nat := ofBytes (((bytes slot).drop o).take n)
    (Serves s .driver → ∀ (l : BitVec 19) (r : BitVec 45),
      let code : Nat := if 0x6_BFFF < l.toNat ∨ r ≠ 0 then 1 else if l.toNat < 0x4_C000 then 0x40
        else if k.drRun ≠ none then 4 else 0
      exec (.drcmd .driver l r) s = .next { s with crk := if code = 0 then
          { k with drRun := some l.toNat, drValid := false, drUe := false, drefuse := 0 }
        else { k with drefuse := BitVec.ofNat 8 code } }) ∧
    (∀ l, k.drRun = some l → s.lineBusy l = false →
      let ue := s.crockUe l
      ∃ u, exec .driverReadDone s = .next u ∧ u.counter .crk 2 = s.counter .crk 2 + 1 ∧
        u.crk = { k with drRun := none, drValid := true, drUe := ue, drData := u.crk.drData } ∧
        (∀ i : Fin 4, u.crk.drData[i] = if ue then 0 else (s.crockLine l).extractLsb' (64 * i.val) 64) ∧
        u.frame .crk = (if ue then ((s.frame .crk).captures (s.crockAddr l) (2 + 256 * 7) false).noted 2 else s.frame .crk) ∧
        Accounts s ({ u with crk := k }.setFrame .crk (s.frame .crk))) ∧
    (k.drRun = none → exec .driverReadDone s = .next s) ∧
    (∀ l, k.drRun = some l → s.lineBusy l = true → exec .driverReadDone s = .next s) ∧
    (s.served = true →
      let v : Nat := if k.vbusy = true then 4 else if k.pfail = true then 0x43 else 0
      let w : Nat := if k.vpass = false then 0x46 else if k.pfail = true then 0x43 else 0
      exec (.verify .firmware) s = .next
        ({ s with crk := if v = 0 then { k with vbusy := true } else k }.setFrame .crk (said v)) ∧
      exec (.switch .firmware) s = .next
        ({ s with crk := if w = 0 then { k with swpend := true } else k }.setFrame .crk (said w))) ∧
    (k.vbusy = true →
      let slot := !k.active
      let key := field slot 6 2
      let lines := (List.range (7282 + field slot 0xC 4)).map (base slot + ·)
      let fits := field slot 0 4 = 0x7C74_4657 ∧ field slot 4 2 = 1 ∧ key < 4 ∧ field slot 0xC 4 ≤ 58246 ∧
        (∀ b ∈ ((bytes slot).drop 0x18).take 0x28, b = 0) ∧ (∀ b ∈ (bytes slot).drop 0xA0, b = 0)
      open Classical in
      let result : Nat := if ∃ i, i < 8 ∧ s.crockUe (base slot + 0xFFF8 + i) = true then 6 else if ¬ fits then 2
        else if s.revoked key = true then 5 else if field slot 8 4 < s.floor then 4
        else if ∃ l ∈ lines, s.crockUe l = true then 6
        else if signatureValid (BitVec.ofNat 2 key) (lines.flatMap s.crockBytes) (bytes slot) = true then 1 else 3
      ∃ u, exec .vdone s = .next u ∧
        u.crk = { k with vbusy := false, vres := BitVec.ofNat 4 result, vpass := decide (result = 1) } ∧
        wbit (u.frame .crk).event 3 = true ∧ (result ≠ 6 → u.frame .crk = (s.frame .crk).noted 3) ∧
        Accounts s ({ u with crk := k }.setFrame .crk (s.frame .crk))) ∧
    (k.vbusy = false → exec .vdone s = .next s) ∧
    (k.swpend = true → (∀ t, (s.th t).fs = false) → exec .switched s = .next ({ s with
      crk := { k with
        active := !k.active
        swpend := false
        btb := []
        fwLines := []
        svn := BitVec.ofNat 32 (field (!k.active) 8 4) } }.setFrame .crk ((s.frame .crk).noted 4))) ∧
    (k.swpend = false ∨ (∃ t, (s.th t).fs = true) → exec .switched s = .next s) ∧
    (s.powered = true → k.pfail = false → s.phase = .boot → k.mapBad = false → k.queue = [] → lookup k.wmap 1024 = none →
      ∀ i b, s.bootRecord = some (i, b) → i < 2 → b[9]? = some 1 → ∃ u, exec .pfailAssert s = .next u ∧ u.phase = .bootStopped ∧
        u.irq = { s.irq with pfLatch := true } ∧ u.crk.pfail = true ∧ u.crk.halt = k.halt ∧
        (Config.bootStarted s.free = false → (u.crk.media, u.crk.errs, u.free) = (k.media, k.errs, s.free + 1)) ∧
        (Config.bootStarted s.free = true →
          let tries := ofBytes ((b.drop 10).take 1)
          u.crockBytes (0x2_0001 - i) = bootBytes (ofBytes ((b.drop 4).take 4) + 1)
            (if tries = 0 then decide (b[8]? ≠ some 1) else decide (b[8]? = some 1)) (decide (tries ≠ 0)) (tries - 1) ∧
          (∀ p, p ≠ 0x2_0001 - i → u.mediaLine p = s.mediaLine p) ∧ u.free = s.free + 2 ∧
          (Config.resetWriteGood s.free = true → lookup u.crk.errs (0x2_0001 - i) = none) ∧
          (u.counter .crk 1, u.counter .crk 2) = (s.counter .crk 1 + 1, s.counter .crk 2 + 4))) ∧
    (s.powered = true → k.pfail = false → s.bootPending = none →
      let wk := k.woken || s.tmg.ret.isSome
      let c : Crock := if k.vbusy = true then { k with pfail := true, vbusy := false, vres := 0, vpass := false, woken := wk }
        else { k with pfail := true, woken := wk }
      let x : Timing := { s.tmg with moveStop := s.tmg.move.isSome }
      let ran (e : WqEntry) : Crock := if e.mc = true then
        { c with now := some { entry := e, line := 0, rewrites := 0, raw := false } } else c
      ∃ u, exec .pfailAssert s = .next u ∧ u.irq = { s.irq with pfLatch := true } ∧
        u.phase = (if s.phase = .boot then .bootStopped else s.phase) ∧ (s.tmg.ret = none → u.tmg = x) ∧
        (∀ l, s.tmg.ret = some l → u.tmg = { x with ret := none, waking := some (l, x.time) }) ∧
        (k.queue = [] ∨ k.now ≠ none → u.crk = c ∧ u.frame .crk = (s.frame .crk).noted 7) ∧
        (∀ e l d, k.queue = [e] → k.now = none → e.op = .write l d → u.crk = ran e) ∧
        Accounts s ({ u with crk := k, irq := s.irq, phase := s.phase, tmg := s.tmg }.setFrame .crk (s.frame .crk))) ∧
    (s.powered = true → k.pfail = true → k.queue = [] ∨ k.now ≠ none →
      exec .pfailDeassert s = .next { s with crk := { k with pfail := false }, tmg := { s.tmg with moveStop := false } }) ∧
    (s.powered = false ∨ k.pfail = true → exec .pfailAssert s = .next s) ∧
    (s.powered = false ∨ k.pfail = false → exec .pfailDeassert s = .next s)

/-! ## Resets, boot and wrapper -/

/-- A cold reset puts every part at its reset value but the position, program memory where the power stays, the
wrapper's registers but the WIR, and the Crock's media; a warm reset keeps what R357 keeps; both empty the write queue
and free every request but the write-backs that a warm reset lets go on, and its release waits for their end (R213).  On
release the wear map is loaded and the boot ROM verifies the preferred slot, then the other, and starts HT0 or reports;
below VL1 nothing is defined. A boot record on trial and a lower copy of the anti-rollback line are written, verified
and rewritten as any line is. The timing-domain reset touches the PLL, the multiplexer and the link.  The wrapper's test
instructions hold the core in reset, and a cold start follows them; MMIO_ACCESS is one access of the driver (R18, R309,
R317, R321, R323, R326, R349, R354 to R357, R361, R363, R373, R374). The model's choices: what a warm reset keeps beside
R357 (log 68), REF_ALIVE set by the release (log 100), a boot record whose write a reset meets (log 110), the wrapper's
registers but the WIR, which stay, and a test that a cold reset ends (log 96), program memory after a power cut (log 4),
the boot writes' tries, their halt, and a boot that goes on after it with the values it has settled (log 69), a torn
line (logs 34, 85), DONE of a misaligned access (log 70), DONE held for a span clear (log 47), an access in retention
that waits in the port (log 54), the boundary data (log 21), whether a cold reset comes with a power cut and which value
WS_BYPASS loads, both free (log 99), and the cold start after a test (log 15). -/
def Obligations.ResetsAndWrapper : Prop :=
  ∀ (s : State),
    let freedBut (keeps : Nat → Prop) (u : State) : Prop :=
      u.noc = { Noc.reset with rt := u.noc.rt, queue := u.noc.queue, gens := u.noc.gens } ∧
      (keysRise s.noc.rt = true → ∀ i,
        (keeps i → lookup u.noc.rt i = lookup s.noc.rt i ∧ u.genOf i = s.genOf i ∧ (i ∈ u.noc.queue ↔ i ∈ s.noc.queue)) ∧
        (¬ keeps i → lookup u.noc.rt i = none ∧ i ∉ u.noc.queue ∧
          u.genOf i = s.genOf i + (if (lookup s.noc.rt i).isSome then 1 else 0)))
    let goesBack (i : Nat) : Prop :=
      ∃ e evict way, lookup s.noc.rt i = some e ∧ e.dead = false ∧ e.kind = .writeBack evict way
    let idle := s.bootPending = none ∧ s.crk.now = none ∧ ∀ e ∈ s.crk.queue, e.mc = false
    let kept (c : Crock) : Prop := (c.media, c.errs, c.wmap, c.wcount, c.wgen, c.wcopy) =
      (s.crk.media, s.crk.errs, s.crk.wmap, s.crk.wcount, s.crk.wgen, s.crk.wcopy)
    let same (u : State) : Prop := (u.pos, u.pending, u.wrap) = (s.pos, s.pending, { s.wrap with wir := 0x3F })
    let bare (u : State) : State := { u with wrap := s.wrap, free := s.free }
    let cold (cut : Bool) (u : State) : Prop :=
      freedBut (fun _ => False) u ∧ u.pm = (if cut then [] else s.pm) ∧ (idle → kept u.crk) ∧
      u.tmg = { Timing.reset with vack := s.tmg.vack, refHere := s.tmg.refHere } ∧
      (s.bootPending = none → cut = true → ∀ r, s.crk.now = some r →
        let p := (s.runLine r).1
        (∀ k, k ≠ p → u.mediaLine k = s.mediaLine k ∧ lookup u.crk.errs k = lookup s.crk.errs k) ∧
        (u.mediaLine p = s.mediaLine p ∨ u.mediaLine p = (s.runLine r).2) ∧
        (s.crk.pfail = true → r.line = 856 → (∃ l q ret, r.entry.op = .move l q ret) → u.mediaLine p = s.mediaLine p)) ∧
      (∀ l b, s.bootPending = some (l, b) → s.crk.now = none → s.crk.queue = [] →
        let p := s.crockPhys l
        (Config.bootStarted s.free = false → kept u.crk) ∧ (∀ k, k ≠ p → u.mediaLine k = s.mediaLine k) ∧
        (Config.bootStarted s.free = true → u.mediaLine p = BitVec.ofNat 256 (ofBytes b) ∨
          (cut = true ∧ u.mediaLine p = s.mediaLine p))) ∧
      u.crk = { Crock.reset with
        media := u.crk.media, errs := u.crk.errs, wmap := u.crk.wmap, wcount := u.crk.wcount, wgen := u.crk.wgen
        wcopy := u.crk.wcopy, active := s.crk.active } ∧
      { u with
        pos := State.reset.pos, pending := [], pm := [], wrap := Wrapper.reset, noc := Noc.reset, crk := Crock.reset
        tmg := Timing.reset, free := 0, phase := .coldReset, crst := true } = State.reset
    let held := s.phase = .coldReset ∨ s.phase = .testReset
    (∃ u, exec .coldReset s = .next u ∧ same u ∧ cold (Config.powerCut s.free) u ∧ u.crst = true ∧
      u.phase = .coldReset ∧ (idle → u.free = s.free + 1)) ∧
    (held → exec .warmReset s = .next s) ∧
    (¬ held → ∃ u, exec .warmReset s = .next u ∧ same u ∧ freedBut goesBack u ∧ u.phase = .warmReset ∧ u.pm = s.pm ∧
      u.tmg = { Timing.reset with
        time := s.tmg.time, steps := s.tmg.steps, groups := u.tmg.groups, autoLast := s.tmg.autoLast
        autoGroup := s.tmg.autoGroup, vack := s.tmg.vack, refHere := s.tmg.refHere, lastMark := s.tmg.time } ∧
      u.ls = { s.ls with sb := [], l1 := [], l1lru := [], side := [], sweep := [] } ∧
      (∀ t, u.th t = { HThread.reset with pc := 0x20, stopped := decide (t ≠ 0) }) ∧
      (u.tmg.time, u.tmg.steps) = (s.tmg.time, s.tmg.steps) ∧
      (∀ g, u.group g = { s.group g with add := 0, can := false, str := false }) ∧
      (u.tmg.vlCur, u.tmg.vlWant, u.tmg.move, u.tmg.ret, u.tmg.waking) = (5, 5, none, none, none) ∧
      (u.crk.active, u.crk.svn, u.crk.mapBad) = (s.crk.active, s.crk.svn, s.crk.mapBad) ∧
      (s.crk.vbusy = false → (u.crk.vpass, u.crk.vres) = (s.crk.vpass, s.crk.vres)) ∧
      (u.crk.queue, u.crk.now, u.crk.next, u.crk.done, u.crk.swpend) = ([], none, 0, 0xFFFF, false) ∧
      (idle → kept u.crk ∧ u.counters = s.counters ∧ u.scl.e = s.scl.e) ∧
      (u.tile, u.xl, u.ldl, u.irq, u.frames, u.ras) =
        (Tile.reset, Xlate.reset, State.reset.ldl, State.reset.irq, framesReset, State.reset.ras) ∧
      (u.scl.bal, u.scl.rsv, u.scl.wSh, u.scl.wCo) = (0, 0, [], []) ∧
      (u.rpr.lrepSh, u.rpr.lrepCo, u.rpr.bist, u.rpr.migrating) = (s.rpr.lrepSh, s.rpr.lrepCo, none, 0) ∧
      ∀ p o r, o < 0x1000 → regInfo p o = some r →
        (r.keep = true → u.reg p o = s.reg p o ∧ u.com p o = s.com p o) ∧
        (r.keep = false → u.reg p o = BitVec.ofNat 64 r.reset ∧ u.com p o = BitVec.ofNat 64 r.reset)) ∧
    (∀ lv : Fin 8,
      let g0 := s.copyHeader false
      let g1 := s.copyHeader true
      (s.phase ≠ .coldReset → exec (.coldResetRelease lv) s = .next { s with crst := false }) ∧
      (s.phase = .coldReset → lv = 0 → exec (.coldResetRelease lv) s = .fault .undefinedVcore) ∧
      (s.phase = .coldReset → lv ≠ 0 → ∃ u, exec (.coldResetRelease lv) s = .next u ∧ u.phase = .boot ∧
        u.crst = false ∧ u.tmg = { s.tmg with refAlive := true, refHere := true } ∧
        u.crk = { s.crk with
          wmap := u.crk.wmap, wcount := u.crk.wcount, wgen := u.crk.wgen, wcopy := u.crk.wcopy, mapBad := u.crk.mapBad } ∧
        (g0 = none → g1 = none → u.crk = { s.crk with mapBad := true } ∧ wbit (u.frame .crk).event 9 = true) ∧
        (∀ copy g, (if copy then g1 else g0) = some g → (∀ h, (if copy then g0 else g1) = some h → h.toNat < g.toNat) →
          u.crk.mapBad = false ∧ u.crk.wgen = g ∧ u.crk.wcopy = copy ∧ ∀ i, i < 3456 → ¬ (1024 ≤ i ∧ i < 1152) →
            u.crockPhys (128 * i) = 128 *
              (ofBytes (((s.copyBytes (if copy then 0x2_0680 else 0x2_0380) 728).drop (2 * i)).take 2) % 4096)) ∧
        (g0 ≠ none → g1 ≠ none →
          u.frame .crk = if u.freeBlocks < 16 then (s.frame .crk).noted 8 else s.frame .crk) ∧
        (g0 ≠ none ∨ g1 ≠ none → u.freeBlocks < 16 → wbit (u.frame .crk).event 8 = true) ∧
        u.counter .crk 2 = s.counter .crk 2 + 1458 ∧
        u.counter .crk 4 = s.counter .crk 4 + BitVec.ofNat 48 (((List.range 1458).map fun i =>
          let e := (s.lineErr (if i < 729 then 0x2_0380 + i else 0x2_0680 + (i - 729))).normal
          if e ≤ 4 then e else 0).sum) ∧
        Accounts s ({ u with
          crk := s.crk, phase := s.phase, tmg := s.tmg, crst := s.crst }.setFrame .crk (s.frame .crk)))) ∧
    (s.phase ≠ .boot → exec .bootVerifyDone s = .next s) ∧
    (s.phase = .boot → ∃ u, exec .bootVerifyDone s = .next u ∧ (u.thr, u.pm, u.ls, u.tile) = (s.thr, s.pm, s.ls, s.tile) ∧
      (let pref (b : List Byte) : Bool := decide (b[8]? = some 1)
       let trial (b : List Byte) : Prop := b[9]? = some 1
       let old : Bool := match s.bootRecord with | none => false | some (_, b) => pref b
       open Classical in
       let first : Bool := match s.bootRecord with
         | none => false
         | some (_, b) => if trial b ∧ b[10]? = some 0 then !pref b else pref b
       let fails (slot : Bool) (vres status : Nat) : Prop := u.phase = .noBoot ∧ u.crk.active = slot ∧
         u.crk.vres = BitVec.ofNat 4 vres ∧ u.crk.start = some false ∧ u.crk.svn = 0 ∧
         ∃ r, u.noc.ready = some r ∧ r.payload[8]? = some (BitVec.ofNat 8 status)
       let works (slot : Bool) : Prop := u.phase = .run ∧ u.startAt = s.tmg.time ∧ u.crk.active = slot ∧
         u.crk.start = some true ∧ u.crk.vres = 1 ∧ u.crk.vpass = s.crk.vpass ∧ u.noc = s.noc ∧
         u.crk.svn = BitVec.ofNat 32 (mfield (u.manifest slot) 8 4)
       (s.crk.mapBad = true → fails old 0 0x80 ∧ u.crk.media = s.crk.media) ∧
       (s.crk.mapBad = false →
         (s.verifyCode first = 1 → works first) ∧
         (s.verifyCode first ≠ 1 → s.verifyCode (!first) = 1 → works !first) ∧
         (s.verifyCode first ≠ 1 → s.verifyCode (!first) ≠ 1 → fails first (s.verifyCode first) 0x81) ∧
         (lookup s.crk.wmap 1024 = none → s.crk.halt = false →
           let good (n : Nat) : Prop := Config.bootVerifies (s.free + n) = true
           (∀ i b, s.bootRecord = some (i, b) → i < 2 → trial b →
             let tries := ofBytes ((b.drop 10).take 1)
             u.crockBytes (0x2_0001 - i) = bootBytes (ofBytes ((b.drop 4).take 4) + 1) first (decide (tries ≠ 0)) (tries - 1) ∧
             u.crk.trial = decide (tries ≠ 0) ∧ u.crk.failed = s.crk.failed ∧
             ((∀ j, j < 2 → s.rollCopy j = some s.rollBytes ∨ (s.rollCopy 0 = none ∧ s.rollCopy 1 = none)) →
               (good 0 → u.crk.halt = false ∧ u.free = s.free + 1 ∧ lookup u.crk.errs (0x2_0001 - i) = none ∧
                 (u.counter .crk 1, u.counter .crk 3) = (s.counter .crk 1 + 1, s.counter .crk 3)) ∧
               (¬ good 0 → ¬ good 1 → ¬ good 2 → ¬ good 3 → u.crk.halt = true ∧ u.free = s.free + 4 ∧
                 wbit (u.frame .crk).event 1 = true ∧
                 (u.counter .crk 1, u.counter .crk 3) = (s.counter .crk 1 + 4, s.counter .crk 3 + 3)))) ∧
           (s.bootPending = none → ∀ j a, j < 2 → s.rollCopy (1 - j) = some a → s.rollBytes = a → s.rollCopy j ≠ some a →
             u.crockBytes (0x2_0002 + j) = a)) ∧
         (s.crk.halt = true → u.crk.media = s.crk.media)))) ∧
    (s.phase = .warmReset → (∀ e ∈ s.noc.rt, e.2.dead = true) → ∃ u, exec .warmResetRelease s = .next u ∧ u = { s with
      phase := (match s.crk.start with | none => .boot | some true => .run | some false => .noBoot)
      startAt := s.tmg.time + 1000, tmg := { s.tmg with refAlive := s.tmg.refHere }
      noc := { s.noc with rt := [], queue := [], gens := u.noc.gens } } ∧
      (keysRise s.noc.rt = true → ∀ i, u.genOf i = s.genOf i + (if (lookup s.noc.rt i).isSome then 1 else 0))) ∧
    (s.phase ≠ .warmReset ∨ (∃ e ∈ s.noc.rt, e.2.dead = false) → exec .warmResetRelease s = .next s) ∧
    exec .timingDomainReset s = .next { s with
      tmg := { s.tmg with
        pllLock := false, pllAlive := false, coast := false, src := true, mux := none, muxOld := false
        muxLost := false, muxHung := false }
      noc := { s.noc with out := none } } ∧
    (∀ (i : Instr) (w : BitVec 6), (i, w) ∈ [(.wsExtest, 0x01), (.wsIntestScan, 0x02), (.wsClamp, 0x04)] →
      ∃ u, exec i s = .next u ∧ u.wrap.wir = w ∧ u.phase = .testReset ∧ (s.phase = .testReset → bare u = s) ∧
        (s.phase ≠ .testReset → (u.pos, u.pending, u.crst) = (s.pos, s.pending, s.crst) ∧ cold false u) ∧
        (w = 0x01 → u.pinsHeld = some u.wrap.preload) ∧ (w = 0x02 → u.wrap = { s.wrap with wir := 0x02 }) ∧
        (w = 0x04 → u.wrap = { s.wrap with wir := 0x04, bypass := false } ∧ u.pinsHeld = some s.wrap.preload)) ∧
    (∀ i : Instr, i = .wsPreload ∨ i = .wsBypass →
      ∃ u, exec i s = .next u ∧ (i = .wsPreload → u.wrap.wir = 0x03) ∧
        (i = .wsBypass → wirNamed u.wrap.wir = false ∧ u.wrap = { s.wrap with wir := u.wrap.wir, bypass := false }) ∧ (s.phase ≠ .testReset → bare u = s) ∧
        (s.phase = .testReset → s.crst = true → bare u = { s with phase := .coldReset }) ∧
        (s.phase = .testReset → s.crst = false →
          ∃ v, exec (.coldResetRelease 5) { s with phase := .coldReset } = .next v ∧ bare u = bare v)) ∧
    (∀ i : Instr, i = .wsExtest ∨ i = .wsPreload → ∃ u k, exec i s = .next u ∧ u.free = k + 1 ∧ u.wrap = { s.wrap with
      wir := u.wrap.wir, boundary := Config.boundaryCapture k, preload := Config.boundaryShift k }) ∧
    (∀ (d : Word) (o : BitVec 16) (wr dn : Bool),
      let scan (x : Word) (done : Bool) : BitVec 82 := accessReg x o.toNat wr done
      let s1 : State := { s with
        wrap := { s.wrap with wir := 0x10 }
        noc := { s.noc with clears := s.noc.clears.filter fun x => x.who ≠ .tap } }
      let page := pageOf (o.toNat / 0x1000)
      let waits := s.tmg.ret ≠ none ∨ s.tmg.waking ≠ none ∨ s.noc.inbox ≠ []
      (s.phase = .testReset → ∃ v, exec .wsBypass s = .next v ∧
        exec (.mmioAccess (scan d dn)) s = exec (.mmioAccess (scan d dn)) { v with wrap := s.wrap, free := v.free - 1 }) ∧
      (s.phase ≠ .testReset → waits → ∃ u, exec (.mmioAccess (scan d dn)) s = .next u ∧
        Arrived s1 (.mmioAccess (scan d dn)) { u with wrap := s1.wrap } ∧ u.wrap = { s1.wrap with dr := scan d false }) ∧
      (¬ waits → s.phase = .coldReset ∨ s.phase = .warmReset → exec (.mmioAccess (scan d dn)) s = .next { s1 with
        wrap := { s1.wrap with dr := scan d false } }) ∧
      (Serves s .driver → o.toNat % 8 = 0 → wr = true → ∃ v, exec (.registerWrite .driver o d) s1 = .next v ∧
        (¬ ClearWaits v o.toNat d →
          exec (.mmioAccess (scan d dn)) s = .next { v with wrap := { v.wrap with dr := scan d true } }) ∧
        (ClearWaits v o.toNat d → ∃ x, x.who = .tap ∧ x.toInFlight = v.inFlight true ∧
          exec (.mmioAccess (scan d dn)) s = .next { v with
            thr := v.holdLoads.thr
            wrap := { v.wrap with dr := scan d false }, noc := { v.noc with clears := v.noc.clears ++ [x] } })) ∧
      (Serves s .driver → o.toNat % 8 = 0 → wr = false → o.toNat ≠ 0x1058 → exec (.mmioAccess (scan d dn)) s =
        .next { s1 with wrap := { s1.wrap with dr := scan (s1.pageVal page (o.toNat % 0x1000)) true } }) ∧
      (Serves s .driver → o.toNat % 8 ≠ 0 →
        exec (.mmioAccess (scan d dn)) s = .next { s1 with wrap := { s1.wrap with dr := scan d true } }))

/-! ## Register pages -/

/-- QUIESCE, EN, COMMIT and REVERT of every page: a quiesce ends when the block's work is done; EN falls only when
quiesced and no enabled block needs the page; an enable or COMMIT runs the page's check, whose first failing condition
gives the code and changes nothing else, and puts the whole shadow set in force; REVERT takes the committed set back.  A
COMMIT of TMG starts the threads whose RUN it sets, stops at once a sleeping one whose RUN it clears, and is accepted
during a voltage move, as R297 has it and against the letter of R375 (log 53) (R209, R228, R230, R244, R258, R276, R278,
R284, R286, R292, R297, R331 to R338, R368, R369, R374, R375).  The model's readings: CTRL's writers (log 23), that TIL
and WSK bar each other's disabling (log 57), a COMMIT of LST during a resize (log 72), a halted channel that keeps the
Ladle from quiescing (log 75), and CHECK_FAIL and 0x03 of a disabled page (log 77). -/
def Obligations.PageControl : Prop :=
  ∀ (s : State) (w : Writer) (p : Page),
    let f := s.frame p
    let finished : Prop := match p with
      | .til => (∀ q ∈ s.tile.queue, q.started = false) ∧ s.tile.drains = []
      | .stk => s.tile.array = none
      | .wsk => s.tile.whisk = none
      | .ldl => ∀ c, (s.chan c).desc = none
      | .lst => s.ls.growth = none
      | .xlt => s.xl.walks = []
      | .tmg => s.tmg.move = none ∧ s.tmg.calNow = none
      | .crk => s.crk.now = none
      | _ => True
    let still := (p = .tmg → s.tmg.calQ = []) ∧ (p = .crk → s.crk.queue = [] ∨ s.crk.now ≠ none)
    let steady := f.quiesce = f.quiesced ∧ still ∧ keysRise s.shadow = true ∧ keysRise s.committed = true
    let r (q : Page) (o : Nat) : Nat := (s.reg q o).toNat
    let c (q : Page) (o : Nat) : Nat := (s.com q o).toNat
    let off (q : Page) : Prop := s.en q = false
    let uses (x : Nat) : Prop := fld x 0 0 = 1 ∨ fld x 1 1 = 1
    open Classical in
    let needs : Prop := match p with
      | .til => off .stk ∨ off .lst
      | .wsk => off .til
      | .ldl => off .lst
      | .scl => uses (r .scl 0x78) ∧ off .tmg
      | .rpr => r .rpr 0x50 ≠ c .rpr 0x50 ∧ off .lst
      | _ => False
    let needed : Prop := match p with
      | .stk => ¬ off .til
      | .lst => ¬ off .til ∨ ¬ off .ldl
      | .til => ¬ off .wsk
      | .wsk => ¬ off .til
      | .tmg => ¬ off .scl ∧ uses (c .scl 0x78)
      | _ => False
    let n := fld (r .lst 0x40) 3 0
    let old := fld (c .lst 0x40) 3 0
    let beyond (x : Word) (k : Nat) : Prop := 393216 * n < x.toNat % 2 ^ 23 + k
    let cfg (ch : Fin 4) : Nat := r .ldl (0x40 + 0x40 * ch.val)
    let mgn (k : Nat) : Nat := fld (r .tmg 0x88) (6 * k + 5) (6 * k)
    let vl := r .tmg 0x90
    let clk := r .tmg 0xB0
    let lrep (i : Nat) : Nat := (s.lrepShadow i).toNat
    let ways := r .rpr 0x50
    let shelf := match s.ls.growth with | some (k, _, _) => k | none => s.ls.ways
    let check (dep com : Prop) : Nat := match p with
      | .ldl => if (∃ ch, 12 < fld (cfg ch) 5 2 ∨ fld (cfg ch) 26 16 = 0 ∨ 1984 < fld (cfg ch) 26 16) ∨
            fld (r .ldl 0x140) 9 0 = 0 ∨ fld (r .ldl 0x140) 19 10 = 0 then 1
          else if dep ∧ needs then 3
          else if ∃ ch : Fin 4, fld (cfg ch) 0 0 = 1 ∧
            393216 * s.ls.ways < r .ldl (0x48 + 0x40 * ch.val) + 64 * 2 ^ fld (cfg ch) 5 2 then 0x40 else 0
      | .lst => if n = old then (if s.ls.growth ≠ none then 4 else 0) else if 12 < n then 0x40
          else if onesIn (16 - n) (c .rpr 0x50) < 2 ∨ (∃ i, i < n ∧ (c .rpr 0x50).testBit (15 - i) = false) then 0x41
          else if s.ls.growth ≠ none then 4
          else if n < old ∧ (∃ t, let h := s.th t
            beyond h.hdtb 4096 ∨ beyond h.tsbps 256 ∨ beyond h.tsbpm 256 ∨ beyond h.mshl 0) then 0x42 else 0
      | .xlt => if 0x2_0000 < fld (r .xlt 0x40) 49 32 ∨ 0x2_0000 < fld (r .xlt 0x48) 49 32 then 1
          else if ∃ k, k < 16 ∧ fld (r .xlt (0x100 + 0x10 * k)) 0 0 = 1 ∧
            r .xlt (0x108 + 0x10 * k) / 2 ^ 14 ≤ r .xlt (0x100 + 0x10 * k) / 2 ^ 14 then 2 else 0
      | .irq => if fld (c .tmg 0xB8) (4 * (r .irq 0x58 % 4)) (4 * (r .irq 0x58 % 4)) = 0 then 0x40 else 0
      | .scl => if Int.bmod (r .scl 0x68) (2 ^ 48) < Int.bmod (r .scl 0x70) (2 ^ 48) then 2
          else if dep ∧ needs then 3 else 0
      | .tmg => if fld (r .tmg 0x98) 7 0 = 0 then 1
          else if (∃ k, 1 ≤ k ∧ k ≤ 6 ∧ mgn k < mgn (k + 1)) ∨
            ¬ (1 ≤ fld vl 6 4 ∧ fld vl 6 4 ≤ fld vl 2 0 ∧ fld vl 2 0 ≤ fld vl 10 8) then 2
          else if com ∧ s.tmg.mux ≠ none then 4 else if fld clk 1 1 = 0 ∧ clk % 2 = 0 then 0x40
          else if fld (r .tmg 0xB8) (4 * (c .irq 0x58 % 4)) (4 * (c .irq 0x58 % 4)) = 0 then 0x41 else 0
      | .rpr => if ∃ i, i < 64 ∧ fld (lrep i) 15 15 = 1 ∧ 3072 ≤ fld (lrep i) 11 0 then 1
          else if ∃ i j, i < j ∧ j < 64 ∧ i / 4 = j / 4 ∧ fld (lrep i) 15 15 = 1 ∧ fld (lrep j) 15 15 = 1 ∧
            fld (lrep i) 11 0 = fld (lrep j) 11 0 then 2
          else if dep ∧ needs then 3 else if s.rpr.migrating ≠ 0 ∨ s.ls.sweep ≠ [] then 4
          else if (r .rpr 0x40 ≠ c .rpr 0x40 ∨ r .rpr 0x48 ≠ c .rpr 0x48) ∧ s.quiesced .til = false then 6
          else if onesIn 34 (r .rpr 0x40) ≠ 32 ∨ onesIn 34 (r .rpr 0x48) ≠ 32 then 0x40
          else if ∃ i, i < shelf ∧ ways.testBit (15 - i) = false then 0x41 else if onesIn (16 - shelf) ways < 2 then 0x42
          else if ∃ i, i < 64 ∧ s.lrepShadow i ≠ s.lrepCom i ∧ (c .rpr 0x50).testBit (i / 4) = true then 0x43 else 0
      | .til | .wsk => if dep ∧ needs then 3 else 0
      | .crk => if com ∧ ∃ e ∈ s.crk.queue, e.op.isMap = true then 4 else 0
      | _ => 0
    let inForce (u : State) : Prop := ∀ q o i, o < 0x1000 → regInfo q o = some i →
      u.reg q o = s.reg q o ∧ u.com q o = (if q = p ∧ i.sh = true then s.reg q o else s.com q o)
    let plainly (u : State) : Prop := Accounts s ({ u with committed := s.committed }.setFrame p f)
    let takes (u : State) : Prop := inForce u ∧
      (p = .tmg → u.tmg.vlWant.val = fld vl 2 0 ∧ u.tmg.vhold = false ∧
        (∀ t, let h := s.th t
          let run := fld (r .tmg 0xB8) (4 * t.val) (4 * t.val) = 1
          (run → h.halted = false → u.th t = { h with stopped := false }) ∧
          (¬ run → h.halted = false → h.stopped = false → h.sleep ≠ .awake →
            u.th t = { h.deliver with wait := .none, stopped := true, entered := false, sleep := .awake }) ∧
          (h.halted = true ∨ (¬ run ∧ (h.stopped = true ∨ h.sleep = .awake)) → u.th t = h)) ∧
        u.tmg.mux = (if clk % 2 = c .tmg 0xB0 % 2 then s.tmg.mux else some (decide (clk % 2 = 1), s.tmg.time)) ∧
        (u.tmg.pllAlive, u.tmg.pllLock, u.tmg.coast) =
          (s.tmg.pllAlive && clk.testBit 1, s.tmg.pllLock && clk.testBit 1, s.tmg.coast && clk.testBit 1) ∧
        (u.tmg.mux = none → u.tmg.muxLost = s.tmg.muxLost) ∧
        (∀ ref since, u.tmg.mux = some (ref, since) →
          let toggles (k : Bool) : Bool := if k then s.tmg.refAlive else u.tmg.pllAlive
          u.tmg.muxLost = (s.tmg.muxLost || !(u.tmg.muxOld || toggles s.tmg.src) || !toggles ref))) ∧
      (p = .lst → (n = old → u.ls = s.ls) ∧ (old < n → u.ls = { s.ls with growth := some (n, 15 - old, 0) }) ∧
        (n < old → u.ls.ways = n ∧ u.ls.lines = s.ls.lines ∧ ∀ a, getD (fun _ => (0 : Byte)) u.ls.shelf a =
          if a < 393216 * n then getD (fun _ => 0) s.ls.shelf a else 0)) ∧
      (p = .scl → u.scl = { s.scl with wCo := s.scl.wSh }) ∧
      (p = .rpr → u.rpr = { s.rpr with
          lrepCo := s.rpr.lrepSh
          migrating := (if r .rpr 0x40 = c .rpr 0x40 then 0 else 1) + (if r .rpr 0x48 = c .rpr 0x48 then 0 else 1) } ∧
        u.ls.sweep = s.ls.sweep ++
          ((List.range 16).filter fun k => (c .rpr 0x50).testBit k && !ways.testBit k).map (fun k => (k, 0)) ∧
        ∀ set way, set < 3072 → way < 16 → lookup u.ls.lines (s.cell set way) =
          if (c .rpr 0x50).testBit way = false ∧ ways.testBit way = true then none
          else lookup s.ls.lines (s.cell set way)) ∧
      (p ∉ [Page.tmg, .lst, .scl, .rpr, .xlt] → plainly u)
    let bad (k : Nat) : State := s.setFrame p { f with checkFail := true, refuse := BitVec.ofNat 8 k }
    (f.quiesce = true → f.quiesced = false → finished →
      exec (.quiesceComplete p) s = .next (s.setFrame p { f with quiesced := true })) ∧
    (f.quiesce = false ∨ f.quiesced = true ∨ ¬ finished →
      exec (.quiesceComplete p) s = .next s) ∧
    (Serves s w → (ctrlAccepts p).has w →
      exec (.ctrlQuiesce w p true) s = .next (s.setFrame p
        { f with quiesce := true, quiesced := f.quiesced || decide (f.en = false ∨ finished) }) ∧
      (still → exec (.ctrlQuiesce w p false) s = .next (s.setFrame p { f with quiesce := false, quiesced := false })) ∧
      (steady → exec (.ctrlEn w p f.en) s = .next s) ∧
      (steady → f.en = true →
        let d : Nat := if p = .core ∨ p = .ras then 0x40 else if needed then 3 else if f.quiesced = false then 6 else 0
        exec (.ctrlEn w p false) s = .next (s.setFrame p
          { f with en := decide (d ≠ 0), checkFail := decide (d ≠ 0), refuse := BitVec.ofNat 8 d })) ∧
      (steady → f.en = false →
        let e : Nat := if p = .til ∧ ¬ needs ∧ s.rpr.bist ≠ none then 4 else check True False
        (e ≠ 0 → exec (.ctrlEn w p true) s = .next (bad e)) ∧
        (e = 0 → ∃ u, exec (.ctrlEn w p true) s = .next u ∧ takes u ∧
          u.frame p = { f with en := true, checkFail := false, refuse := 0 } ∧
          (p = .xlt → (u.xl.l1tlb, u.xl.ldlTlb, u.xl.mtlb, u.xl.wcache) = ([], [], [], []) ∧
            plainly { u with xl := s.xl })) ∧
        exec (.registerWrite w (BitVec.ofNat 16 (4096 * (pageNo p).val + 8)) (if f.quiesce then 7 else 5)) s =
          exec (.ctrlEn w p true) s) ∧
      (steady →
        let k := check (f.en = true) True
        (k ≠ 0 → exec (.ctrlCommit w p) s = .next (bad k)) ∧
        (k = 0 → ∃ u, exec (.ctrlCommit w p) s = .next u ∧ takes u ∧ u.frame p = { f with checkFail := false, refuse := 0 } ∧
          (p = .xlt → plainly u))) ∧
      (steady → ∃ u, exec (.ctrlRevert w p) s = .next u ∧ u.committed = s.committed ∧
        (∀ q o i, o < 0x1000 → regInfo q o = some i →
          u.reg q o = if q = p ∧ i.sh = true then s.com q o else s.reg q o) ∧
        (p = .scl → u.scl = { s.scl with wSh := s.scl.wCo }) ∧ (p = .rpr → u.rpr = { s.rpr with lrepSh := s.rpr.lrepCo }) ∧
        Accounts s { u with shadow := s.shadow, scl := s.scl, rpr := s.rpr }))

/-- The register window: a command's register turns away the writers that it does not accept, with code 0x05, and
another core's without effect, the repair registers and those under the write rule of R244, VL_CTRL (R276) among them,
with 0x05 too; registers that hold a value keep the bits that exist, locked fields of an enabled LDL stay, EVENT clears
the bits written as 1, counters take the value; REG_DATA reaches the selected thread only while it stands; PEND_CLR and
PEND_SET reach edge sources alone; PM_CMD reads and writes a stored word with its parity (R17, R190, R244, R258, R335,
R365 to R367, R370 to R374, R377, R391), HIWAT and LOWAT in 48 bits (R292).  In retention an access from outside waits
in the port (R279). The model's choices: that a window not served answers nothing (log 54), CTRL's writers (log 23),
that bits 5:0 of CHn_RING ignore writes (log 39), that EVENT's clearing frees a held record (log 43), 0x05 for a locked
field written with its own value (log 58), BADPAR and REFUSE left alone (log 79), and the order of the codes of REG_DATA
and BIST_CMD (log 108). -/
def Obligations.RegisterWindow : Prop :=
  ∀ (s : State),
    let refuses (p : Page) (k : Nat) : State := s.setFrame p { s.frame p with refuse := BitVec.ofNat 8 k }
    let waits : Prop := s.tmg.ret ≠ none ∨ s.tmg.waking ≠ none ∨ s.noc.inbox ≠ []
    let outside (w : Writer) : Prop := w = .driver ∨ w = .otherCore
    let unserved (i : Instr) (w : Writer) : Prop :=
      (outside w → waits → ∃ u, exec i s = .next u ∧ Arrived s i u) ∧
      (s.served = false → ¬ (outside w ∧ waits) → exec i s = .next s)
    (∀ i w p a mn, commandOf i = some (w, p, a, mn) → unserved i w ∧
      (Serves s w → w = .otherCore → mn ∈ ["BIST_ROW", "BIST_COLUMN", "BIST_WAY", "BIST_WHOLE_ARRAY"] →
        exec i s = .next (refuses .rpr 5)) ∧
      (Serves s w → w = .otherCore → mn ∉ ["BIST_ROW", "BIST_COLUMN", "BIST_WAY", "BIST_WHOLE_ARRAY"] → exec i s = .next s) ∧
      (Serves s w → w ≠ .otherCore → ¬ a.has w → exec i s = .next (refuses p 5))) ∧
    (∀ w o v, unserved (.registerWrite w o v) w ∧ unserved (.regDataRead w) w) ∧
    (∀ (w : Writer) (p : Page) (o : Nat) (v : Word), Serves s w → o < 0x1000 →
      let put := exec (.registerWrite w (BitVec.ofNat 16 (4096 * (pageNo p).val + o)) v) s
      let f := s.frame p
      let locked : Word := if p = .ldl ∧ f.en = true ∧ 0x40 ≤ o ∧ o < 0x140 then
        (if o % 0x40 = 0 then 0x3E else if o % 0x40 = 8 then 0xFFFF_FFFF_FFFF_FFFF else 0) else 0
      let repair := (p = .rpr ∧ 0x40 ≤ o ∧ o < 0x98) ∨ (p = .xlt ∧ (o = 0x40 ∨ o = 0x48 ∨ (0x100 ≤ o ∧ o < 0x200))) ∨
        (p = .tmg ∧ o = 0x90)
      let formed (x : Word) : Word := if p = .scl ∧ (o = 0x68 ∨ o = 0x70) then BitVec.ofInt 64 (Int.bmod x.toNat (2 ^ 48)) else x
      (o % 8 ≠ 0 → put = .next s) ∧
      (w = .otherCore → o % 8 = 0 → (repair → put = .next (refuses p 5)) ∧ (¬ repair → put = .next s)) ∧
      (w ≠ .otherCore → o % 8 = 0 →
        (o ∈ [0, 0x10, 0x18, 0x30, 0x38] → put = .next s) ∧
        (o = 0x20 → let e := f.event &&& ~~~ v
          put = .next (s.setFrame p { f with
            event := e, held := decide (e ≠ 0) && f.held, errFatal := decide (e ≠ 0) && f.errFatal })) ∧
        (o = 0x28 → put = .next (s.setFrame p { f with mask := v })) ∧
        (0x40 ≤ o → o < 0xF00 → ∀ i, regInfo p o = some i →
          (¬ (acceptsOf i.tag).has w → put = .next (refuses p 5)) ∧
          ((acceptsOf i.tag).has w → ∃ u, put = .next u ∧
            u.reg p o = formed (s.reg p o &&& ~~~ (BitVec.ofNat 64 i.mask &&& ~~~ locked) |||
              v &&& (BitVec.ofNat 64 i.mask &&& ~~~ locked)) ∧
            (∀ q k, k < 0x1000 → q ≠ p ∨ k ≠ o → u.reg q k = s.reg q k) ∧
            (if locked = 0 then s else refuses p 5) = { u with shadow := s.shadow })) ∧
        (0x40 ≤ o → o < 0xF00 → regInfo p o = none → p = .til ∨ p = .lst ∨ p = .pmc → put = .next s) ∧
        (0xF00 ≤ o → let k := (o - 0xF00) / 8
          (counterSlots p ≤ k → put = .next s) ∧
          (k < counterSlots p → p ≠ .scl ∨ k = 0 ∨ 8 < k → put = .next (s.setCounter p k (v.setWidth 48)))))) ∧
    (let sel := (s.reg .thr 0x50).toNat
      let t : Thread := Fin.ofNat 4 (sel % 4)
      let i := fld sel 13 8
      let h := s.th t
      let code (bad : Bool) : Nat := if 0x20 < i ∨ bad = true then 1 else if s.en .thr = false then 3
        else if h.halted = false ∧ h.stopped = false then 4 else 0
      (∀ w, Serves s w → exec (.regDataRead w) s = .next (if code false = 0 then s else refuses .thr (code false))) ∧
      (∀ (w : Writer) (v : Word), Serves s w → w = .driver ∨ w = .firmware →
        let bad := decide ((i = 0x15 ∧ ¬ (v.toNat % 4 ≠ 2 ∧ fld v.toNat 8 4 ≤ 16 ∧ v.toNat < 2 ^ 11)) ∨
          (i = 0x16 ∧ ¬ modeLegal v))
        (code bad ≠ 0 → exec (.regDataWrite w v) s = .next (refuses .thr (code bad))) ∧
        (code bad = 0 → ∃ u, exec (.regDataWrite w v) s = .next u ∧ OtherThreads s u t ∧ { u with thr := s.thr } = s ∧
          let k := u.th t
          (∀ g : GReg, i = g.val → k = { h with g := vset h.g g v }) ∧
          (i = 0x10 → k = { h with a := vset h.a 0 (h.a[0].extractLsb' 64 16 ++ v) }) ∧
          (i = 0x11 → k = { h with a := vset h.a 0 (v.setWidth 16 ++ h.a[0].setWidth 64) }) ∧
          (i = 0x12 → k = { h with a := vset h.a 1 (h.a[1].extractLsb' 64 16 ++ v) }) ∧
          (i = 0x13 → k = { h with a := vset h.a 1 (v.setWidth 16 ++ h.a[1].setWidth 64) }) ∧
          (i = 0x14 → k = { h with pc := v.setWidth 17 }) ∧
          (i = 0x15 → { k with quietCnt := h.quietCnt, quietFired := h.quietFired } = { h with stat := v }) ∧
          (i = 0x16 → k = { h with mode := v }) ∧
          (∀ l : Fin 2, (i = 0x17 + 3 * l.val → k = { h with lc := vset h.lc l (v.setWidth 32) }) ∧
            (i = 0x18 + 3 * l.val → k = { h with ls := vset h.ls l (v.setWidth 17) }) ∧
            (i = 0x19 + 3 * l.val → k = { h with le := vset h.le l (v.setWidth 17) })) ∧
          (i = 0x1D → k = { h with flg := v &&& 0x1F }) ∧
          (i = 0x1E → k.tstat = v &&& 0x3F ∧ k.tstatSync = v &&& 0x3F ∧ { k with tstat := h.tstat, tstatSync := h.tstatSync } = h) ∧
          (i = 0x1F → k = { h with seed := v }) ∧ (i = 0x20 → k = { h with rcnt := v.setWidth 47 })))) ∧
    (∀ (w : Writer) (v : Word), Serves s w → ownWriter w →
      let edge (n : Nat) : Bool := (16 ≤ n && n < 28) || (32 ≤ n && n < 64)
      (∃ u, exec (.pendClr w v) s = .next u ∧ { u with irq := { u.irq with edge := s.irq.edge } } = s ∧
        ∀ n, u.irq.edge.getLsbD n = (s.irq.edge.getLsbD n && !(edge n && v.getLsbD n))) ∧
      ∃ u, exec (.pendSet w v) s = .next u ∧ { u with irq := { u.irq with edge := s.irq.edge } } = s ∧
        ∀ n, u.irq.edge.getLsbD n = (s.irq.edge.getLsbD n || (edge n && v.getLsbD n))) ∧
    (∀ w : Writer, Serves s w → w = .driver ∨ w = .firmware →
      let a := (s.reg .dbg 0x40).toNat % 2 ^ 17
      let d := s.reg .dbg 0x48
      (s.en .dbg = false → exec (.pmCmdRead w) s = .next (refuses .dbg 3) ∧ exec (.pmCmdWrite w) s = .next (refuses .dbg 3)) ∧
      (s.en .dbg = true → (∃ u, exec (.pmCmdRead w) s = .next u ∧ { u with shadow := s.shadow } = s ∧
          u.reg .dbg 0x48 = d &&& 0x1_0000 ||| (s.pmWord a).setWidth 64 ∧
          ∀ q k, k < 0x1000 → q ≠ .dbg ∨ k ≠ 0x48 → u.reg q k = s.reg q k) ∧
        ∃ u, exec (.pmCmdWrite w) s = .next u ∧ { u with pm := s.pm } = s ∧ (∀ b, b ≠ a → u.pmWord b = s.pmWord b) ∧
          (u.pmWord a).setWidth 14 = d.setWidth 14 ∧
          oddOver (u.pmWord a) (List.range 7 ++ [14]) = !d.getLsbD 16 ∧
          oddOver (u.pmWord a) ((List.range 7).map (· + 7) ++ [15]) = !d.getLsbD 16))

/-! ## Reset values and the whole machine -/

/-- After reset every register of the pages reads its Reset column, every thread and block holds the value that its chapter
gives, and HT0 alone may run (R18, R77, R81, R128, R131, R175, R281, R286, R296, R306, R357, R359, R365, R366, R368, R369,
R376 to R392). -/
def Obligations.ResetValues : Prop :=
  let s := State.reset
  let given : List (Page × Nat × Nat) := [(.core, 0x50, 0x1_0740), (.thr, 0x48, 0x7878_7879),
    (.ldl, 0x40, 0x400_0000), (.ldl, 0x80, 0x400_0000), (.ldl, 0xC0, 0x400_0000), (.ldl, 0x100, 0x400_0000),
    (.ldl, 0x140, 0x1_9040), (.lst, 0x40, 0x3E8_0801), (.lst, 0x48, 0x6_0000), (.xlt, 0x50, 5),
    (.scl, 0x68, 0x7FFF_FFFF_FFFF), (.scl, 0x78, 0x3200), (.tmg, 0x48, 0x10A_3A98),
    (.tmg, 0x60, 0x3F3F_3F3F_3F3F_3F3F), (.tmg, 0x68, 0x3F3F_3F3F_3F3F_3F3F), (.tmg, 0x70, 0x3F3F_3F3F_3F3F_3F3F),
    (.tmg, 0x78, 0x3F3F_3F3F_3F3F_3F3F), (.tmg, 0x80, 0x3F3F_3F3F_3F3F_3F3F), (.tmg, 0x88, 0xC41_0518_8280),
    (.tmg, 0x90, 0x715), (.tmg, 0x98, 0x64), (.tmg, 0xA8, 0x200_0000), (.tmg, 0xB0, 2), (.tmg, 0xB8, 0x3_2223),
    (.tmg, 0xC8, 0x320), (.crk, 0x68, 0xFFFF_0000_0000), (.crk, 0x100, 2), (.dbg, 0x58, 0x3F),
    (.rpr, 0x40, 0xFFFF_FFFF), (.rpr, 0x48, 0xFFFF_FFFF), (.rpr, 0x50, 0xFFFF)]
  let code (p : Page) : List Char := match p with
    | .core => ['C', 'O', 'R', 'E'] | .thr => ['T', 'H', 'R'] | .til => ['T', 'I', 'L'] | .stk => ['S', 'T', 'K']
    | .wsk => ['W', 'S', 'K'] | .ldl => ['L', 'D', 'L'] | .lst => ['L', 'S', 'T'] | .xlt => ['X', 'L', 'T']
    | .irq => ['I', 'R', 'Q'] | .scl => ['S', 'C', 'L'] | .tmg => ['T', 'M', 'G'] | .crk => ['C', 'R', 'K']
    | .ras => ['R', 'A', 'S'] | .pmc => ['P', 'M', 'C'] | .dbg => ['D', 'B', 'G'] | .rpr => ['R', 'P', 'R']
  let placed : List (Page × Nat) := [(.core, 0x40), (.core, 0x48), (.thr, 0x58), (.crk, 0x110)]
  (∀ p o v, (p, o, v) ∈ given → s.pageVal p o = BitVec.ofNat 64 v) ∧
  (∀ p o, o % 8 = 0 → 0x40 ≤ o → o < 0x1000 → (p, o) ∉ placed → (∀ v, (p, o, v) ∉ given) → s.pageVal p o = 0) ∧
  (∀ p, let on := p ∈ [Page.core, .thr, .irq, .lst, .tmg, .crk, .ras]
    (s.pageVal p 0x08 = if on then 1 else 2) ∧ (s.pageVal p 0x10 &&& 7 = if on then 1 else 2) ∧ s.pageVal p 0x18 = 0 ∧
    s.pageVal p 0x20 = 0 ∧ s.pageVal p 0x28 = 0xFFFF_FFFF_FFFF_FFFF ∧ s.pageVal p 0x30 = 0 ∧ s.pageVal p 0x38 = 0 ∧
    s.pageVal p 0x00 = BitVec.ofNat 64 (2 ^ 40 + (pageNo p).val * 2 ^ 32 + ofBytes ((code p).map fun c => BitVec.ofNat 8 c.toNat))) ∧
  s.pageVal .til 0 = 0x0000_0102_004C_4954 ∧ s.pageVal .tmg 0x10 = BitVec.ofNat 64 (1 + 2 ^ 12 + 5 * 2 ^ 17 + 5 * 2 ^ 20) ∧
  (∀ t, let h := s.th t
    (∀ i : GReg, h.g[i] = 0) ∧ h.a[0] = 0 ∧ h.a[1] = 0 ∧ h.pc = 0 ∧ h.stat = 0xF ∧ h.mode = 0x8 ∧
    (∀ l : Fin 2, h.lc[l] = 0 ∧ h.ls[l] = 0 ∧ h.le[l] = 0) ∧
    (h.flg, h.tstat, h.seed, h.rcnt, h.tsbps, h.tsbpm, h.hdtb, h.mshb, h.mshl, h.tcmp) = (0, 0, 0, 0, 0, 0, 0, 0, 0, 0) ∧
    h.qlim = 4096 ∧ h.halted = false ∧ h.stopped = decide (t ≠ 0) ∧ s.runBit t = decide (t = 0) ∧ s.sleBit t = true) ∧
  (s.tmg.time, s.tmg.steps, s.tmg.vreq, s.tmg.vreqV) = (0, 0, 5, false) ∧
  (∀ T, ((s.tray T).rows, (s.tray T).bytes, (s.tray T).inuse) = (32, 128, false)) ∧ s.tile.owner = none ∧
  s.tile.queue = [] ∧ s.tile.tprog = 0 ∧ (∀ c, ((s.chan c).head, (s.chan c).tail, (s.chan c).desc) = (0, 0, none)) ∧
  s.ls.lines = [] ∧ s.ls.shelf = [] ∧ s.xl.l1tlb = [] ∧ s.xl.mtlb = [] ∧ s.noc.rt = [] ∧ s.irq.edge = 0 ∧ s.ras.fatal = false

/-- The invariant holds after reset (R5; the form is the model's). -/
def Obligations.InvariantAtReset : Prop := Inv State.reset

/-- Every step keeps the invariant and takes exactly the front command from the queue, whatever the command is: the core
keeps its place, every sparse memory its canonical form, and the tile queue, the store buffer and the Crock's write queue
never hold more than they have room for; the CORE page reports the place; the machine faults on nothing but a release from
cold reset below VL1 (R5, R349). -/
def Obligations.InvariantKept : Prop :=
  (∀ s u, step s = .next u → Inv s → Inv u) ∧
  (∀ s u, step s = .next u → u.pos = s.pos ∧ u.pending = s.pending.tail) ∧
  (∀ s : State, s.pageVal .core 0x40 = BitVec.ofNat 64 (s.pos.core.toNat + 2 ^ 4 * s.pos.cluster.toNat + 2 ^ 10 * s.pos.chip.toNat)) ∧
  (∀ s f, step s = .fault f → f = .undefinedVcore ∧ s.phase = .coldReset ∧
    ∃ rest, s.pending = .coldResetRelease 0 :: rest)

/-- With no command waiting, one cycle of the local oscillator passes (log 3): nothing in cold or test reset or in
retention; TIME, the request timers and the step monitor in warm reset; and else also the clock sources, and what counts
the steps of the cycle, whose number is free and 0 below a compute level (log 6): STEPS, STEP_MON at the end of a
microsecond (log 19), the QUIET counts, ISSUE_IDLE and DEFER_STEPS.  When a lost reference comes back is free (log 97).  A
span clear whose accesses are all performed or have left is then acknowledged (log 47, R256), and the first command that
waits in the port has its effect once the core is awake (log 54, R279). -/
def Obligations.EmptyQueuePassesOneCycle : Prop :=
  ∀ (s : State), s.pending = [] →
    let x := s.tmg
    let still := s.phase = .coldReset ∨ s.phase = .testReset ∨ x.ret ≠ none
    let timers : Noc := { s.noc with rt := s.noc.rt.map fun e => (e.1,
      if e.2.sent = false then e.2 else if e.2.dead = true then { e.2 with quar := e.2.quar + 1 }
      else if e.2.susp = true then { e.2 with held := e.2.held + 1 } else { e.2 with timer := e.2.timer + 1 }) }
    let steps (free : Nat) : Nat := if x.vlCur = 0 then 0 else Config.stepsPerCycle free
    let free := if x.refHere = true then s.free else s.free + 1
    let k := steps free
    let back := Config.refReturns s.free
    let y : Timing := if x.refHere = true then x else { x with refHere := back, refAlive := back, refSince := x.time + 1 }
    let toggles := if y.src then y.refAlive else y.pllAlive
    let ends := (x.time + 1) % 100 = 0
    let passed : Timing := { y with
      time := x.time + 1
      steps := x.steps + BitVec.ofNat 64 k
      muxOld := x.muxOld || (x.mux.isSome && toggles)
      stepMon := if ends then BitVec.ofNat 16 (x.monAcc + k) else x.stepMon
      monAcc := if ends then 0 else x.monAcc + k }
    (still → step s = .next s) ∧
    (¬ still → s.phase = .warmReset → step s = .next { s with
      tmg := { x with time := x.time + 1, steps := x.steps + BitVec.ofNat 64 (steps s.free), monAcc := 0 }
      noc := timers, free := s.free + 1 }) ∧
    (¬ still → s.phase ≠ .warmReset → Calm s → s.ls.growth = none → s.ls.sweep = [] → s.crk.queue = [] ∨ s.crk.now ≠ none →
      x.calQ = [] ∨ x.calNow ≠ none →
      ∃ v, v.tmg = passed ∧ v.noc = timers ∧ v.free = free + 1 ∧
        v.counter .pmc 17 = s.counter .pmc 17 + BitVec.ofNat 48 k ∧
        v.counter .scl 11 = s.counter .scl 11 + (if s.tile.deferred = true then BitVec.ofNat 48 k else 0) ∧
        (∀ t, let h := s.th t
          { v.th t with quietCnt := h.quietCnt } = h ∧
          (h.quiet = false ∨ h.pl = 3 → v.th t = h) ∧
          (h.quiet = true → h.pl ≠ 3 → h.qlim = 0 ∨ h.quietFired = true → (v.th t).quietCnt = h.quietCnt + k) ∧
          (h.quiet = true → h.pl ≠ 3 → h.qlim ≠ 0 → h.quietFired = false → h.quietCnt ≤ h.qlim.toNat →
            (v.th t).quietCnt = min h.qlim.toNat (h.quietCnt + k))) ∧
        Accounts s { v with tmg := s.tmg, noc := s.noc, thr := s.thr, free := s.free } ∧
        (∀ c rest h, s.noc.clears = c :: rest → c.who = .host h → ¬ Unfinished s c.toInFlight → s.noc.inbox = [] →
          ∃ u p, step s = .next u ∧ answers u h 9 0 p ∧ p.sc = (if h.schip ≠ s.pos.chip then 3 else 2) ∧
            u.noc = { timers with clears := rest, out := u.noc.out } ∧ Accounts v { u with noc := v.noc }) ∧
        ((∀ c ∈ s.noc.clears, Unfinished s c.toInFlight) →
          (s.noc.inbox = [] → step s = .next v) ∧
          (∀ c rest, s.noc.inbox = c :: rest → v.served = false ∨ (v.portRuns = false ∧ ∀ d, c ≠ .mmioAccess d) →
            step s = .next v) ∧
          ∀ c rest t, s.noc.inbox = c :: rest → v.served = true → v.portRuns = true →
            exec c { v with noc := { v.noc with inbox := [] } } = .next t →
            step s = .next { t with noc := { t.noc with inbox := rest } }.retryAll))
end

