-- ==== Sys2Proof/Laws/Assoc.lean ====
section
/-! SUPPORT. Laws of the sparse maps: what a read gives after a write, and that every operation keeps the
canonical form. -/

namespace Sys2Proof.Machine

variable {α : Type}

/-! ## What a read gives -/

@[simp] theorem lookup_nil (k : Nat) : lookup ([] : List (Nat × α)) k = none := rfl

@[simp] theorem lookup_put (m : List (Nat × α)) (k j : Nat) (v : α) :
    lookup (put m k v) j = if j = k then some v else lookup m j := by
  induction m with
  | nil => by_cases h : k = j <;> simp [put, lookup, h, eq_comm]
  | cons e r ih =>
    obtain ⟨i, w⟩ := e
    rw [put]
    split
    · by_cases h : k = j
      · simp [lookup, h]
      · simp [lookup, h, Ne.symm h]
    · split
      · next h => subst h; by_cases h : k = j <;> simp [lookup, h, eq_comm]
      · next h =>
        rw [lookup, lookup, ih]
        by_cases h1 : i = j
        · subst h1; simp [Ne.symm h]
        · simp [h1]

@[simp] theorem lookup_drop (m : List (Nat × α)) (k j : Nat) :
    lookup (drop m k) j = if j = k then none else lookup m j := by
  induction m with
  | nil => simp [drop]
  | cons e r ih =>
    obtain ⟨i, w⟩ := e
    rw [drop]
    split
    · next h => subst h; rw [ih, lookup]; by_cases h : i = j <;> simp [h, Ne.symm]
    · next h =>
      rw [lookup, lookup, ih]
      by_cases h1 : i = j
      · subst h1; simp [h]
      · simp [h1]

/-- A read after a write gives the value written at its key and the old value elsewhere. -/
@[simp] theorem getD_setD [DecidableEq α] (d : Nat → α) (m : List (Nat × α)) (k j : Nat) (v : α) :
    getD d (setD d m k v) j = if j = k then v else getD d m j := by
  unfold setD getD
  split <;> by_cases h : j = k <;> simp_all

/-- Consecutive writes. -/
theorem getD_setN [DecidableEq α] (d : Nat → α) (vs : List α) (m : List (Nat × α)) (k j : Nat) :
    getD d (setN d m k vs) j = if k ≤ j then (vs[j - k]?).getD (getD d m j) else getD d m j := by
  induction vs generalizing m k with
  | nil => simp [setN]
  | cons v r ih =>
    rw [setN, ih, getD_setD]
    rcases Nat.lt_trichotomy j k with h | h | h
    · simp [Nat.not_le.2 h, Nat.not_le.2 (Nat.lt_succ_of_lt h), Nat.ne_of_lt h]
    · subst h; simp
    · obtain ⟨i, rfl⟩ : ∃ i, j = k + 1 + i := ⟨j - (k + 1), by omega⟩
      have : k + 1 + i - k = i + 1 := by omega
      simp [this, show k ≤ k + 1 + i by omega, show k + 1 + i ≠ k by omega]

/-- Consecutive reads of what was written there. -/
theorem getN_setN [DecidableEq α] (d : Nat → α) (m : List (Nat × α)) (k : Nat) (vs : List α) :
    getN d (setN d m k vs) k vs.length = vs := by
  apply List.ext_getElem
  · simp [getN]
  · intro i _ h; simp [getN, getD_setN, List.getElem?_eq_getElem h]

/-! ## The canonical form -/

theorem keysAbove_put (m : List (Nat × α)) (j k : Nat) (v : α) (h : j < k) (hm : keysAbove j m = true) :
    keysAbove j (put m k v) = true := by
  induction m with
  | nil => simp [put, keysAbove, h]
  | cons e r ih => rw [put]; split <;> (try split) <;> simp_all [keysAbove]

theorem keysAbove_trans (m : List (Nat × α)) (j k : Nat) (h : j < k) (hm : keysAbove k m = true) :
    keysAbove j m = true := by
  induction m with
  | nil => rfl
  | cons e r ih => simp_all [keysAbove]; omega

theorem keysRise_put (m : List (Nat × α)) (k : Nat) (v : α) (hm : keysRise m = true) :
    keysRise (put m k v) = true := by
  induction m with
  | nil => rfl
  | cons e r ih =>
    obtain ⟨i, w⟩ := e
    simp only [keysRise, Bool.and_eq_true] at hm
    rw [put]
    split
    · next h => simp [keysRise, keysAbove, h, hm, keysAbove_trans r k i h hm.1]
    · split
      · next h => subst h; simp [keysRise, hm]
      · simp only [keysRise, Bool.and_eq_true]
        exact ⟨keysAbove_put r i k v (by omega) hm.1, ih hm.2⟩

theorem keysAbove_drop (m : List (Nat × α)) (j k : Nat) (hm : keysAbove j m = true) :
    keysAbove j (drop m k) = true := by
  induction m with
  | nil => rfl
  | cons e r ih => rw [drop]; split <;> simp_all [keysAbove]

theorem keysRise_drop (m : List (Nat × α)) (k : Nat) (hm : keysRise m = true) : keysRise (drop m k) = true := by
  induction m with
  | nil => rfl
  | cons e r ih => rw [drop]; split <;> simp_all [keysRise, keysAbove_drop]

theorem noDefaults_put [DecidableEq α] (d : Nat → α) (m : List (Nat × α)) (k : Nat) (v : α) (h : v ≠ d k)
    (hm : noDefaults d m = true) : noDefaults d (put m k v) = true := by
  induction m with
  | nil => simp [put, noDefaults, h]
  | cons e r ih => rw [put]; split <;> (try split) <;> simp_all [noDefaults]

theorem noDefaults_drop [DecidableEq α] (d : Nat → α) (m : List (Nat × α)) (k : Nat) (hm : noDefaults d m = true) :
    noDefaults d (drop m k) = true := by
  induction m with
  | nil => rfl
  | cons e r ih => rw [drop]; split <;> simp_all [noDefaults]

/-- Writing one key keeps the canonical form. -/
theorem canon_setD [DecidableEq α] (d : Nat → α) (m : List (Nat × α)) (k : Nat) (v : α) (hm : canon d m = true) :
    canon d (setD d m k v) = true := by
  simp only [canon, Bool.and_eq_true] at *
  unfold setD
  split
  · exact ⟨keysRise_drop m k hm.1, noDefaults_drop d m k hm.2⟩
  · next h => exact ⟨keysRise_put m k v hm.1, noDefaults_put d m k v h hm.2⟩

/-- Writing consecutive keys keeps the canonical form. -/
theorem canon_setN [DecidableEq α] (d : Nat → α) (vs : List α) (m : List (Nat × α)) (k : Nat) (hm : canon d m = true) :
    canon d (setN d m k vs) = true := by
  induction vs generalizing m k with
  | nil => exact hm
  | cons v r ih => exact ih _ _ (canon_setD d m k v hm)

/-- Writing under a mask keeps the canonical form. -/
theorem canon_setMasked [DecidableEq α] (d : Nat → α) (vs : List (α × Bool)) (m : List (Nat × α)) (k : Nat)
    (hm : canon d m = true) : canon d (setMasked d m k vs) = true := by
  induction vs generalizing m k with
  | nil => exact hm
  | cons v r ih =>
    obtain ⟨v, b⟩ := v
    cases b
    · exact ih _ _ hm
    · exact ih _ _ (canon_setD d m k v hm)

theorem keysAbove_filter (p : Nat × α → Bool) (m : List (Nat × α)) (j : Nat) (hm : keysAbove j m = true) :
    keysAbove j (m.filter p) = true := by
  induction m with
  | nil => rfl
  | cons e r ih => rw [List.filter_cons]; split <;> simp_all [keysAbove]

/-- Taking keys away, whatever they hold, keeps the canonical form. -/
theorem canon_filter [DecidableEq α] (d : Nat → α) (p : Nat × α → Bool) (m : List (Nat × α)) (hm : canon d m = true) :
    canon d (m.filter p) = true := by
  induction m with
  | nil => rfl
  | cons e r ih =>
    obtain ⟨i, w⟩ := e
    simp only [canon, keysRise, noDefaults, Bool.and_eq_true] at hm ih
    have h := ih ⟨hm.1.2, hm.2.2⟩
    rw [List.filter_cons]
    split
    · simp only [canon, keysRise, noDefaults, Bool.and_eq_true]
      exact ⟨⟨keysAbove_filter p r i hm.1.1, h.1⟩, hm.2.1, h.2⟩
    · simpa [canon] using h

/-- Canonical maps that read alike are equal. -/
theorem canon_ext [DecidableEq α] (d : Nat → α) (m n : List (Nat × α)) (hm : canon d m = true) (hn : canon d n = true)
    (h : ∀ k, getD d m k = getD d n k) : m = n := by
  have above : ∀ (l : List (Nat × α)) (j k : Nat), keysAbove j l = true → k ≤ j → lookup l k = none := by
    intro l j k hl hk
    induction l with
    | nil => rfl
    | cons e r ih => simp_all [keysAbove, lookup]; omega
  induction m generalizing n with
  | nil =>
    cases n with
    | nil => rfl
    | cons e r =>
      have := h e.1
      simp only [getD, lookup, if_true, Option.getD_some, Option.getD_none] at this
      simp [canon, noDefaults, ← this] at hn
  | cons e r ih =>
    cases n with
    | nil =>
      have := h e.1
      simp only [getD, lookup, if_true, Option.getD_some, Option.getD_none] at this
      simp [canon, noDefaults, this] at hm
    | cons f q =>
      obtain ⟨i, v⟩ := e
      obtain ⟨j, w⟩ := f
      simp only [canon, keysRise, noDefaults, Bool.and_eq_true, decide_eq_true_eq] at hm hn
      have hi := h i
      have hj := h j
      rcases Nat.lt_trichotomy i j with o | o | o
      · have := above q j i hn.1.1 o.le
        simp [getD, lookup, Nat.ne_of_gt o, this] at hi
        exact absurd hi hm.2.1
      · subst o
        simp [getD, lookup] at hi
        subst hi
        rw [ih q (by simp [canon, hm]) (by simp [canon, hn])]
        intro k
        have hk := h k
        by_cases e : i = k
        · subst e
          simp [getD, above r i i hm.1.1, above q i i hn.1.1]
        · simpa [getD, lookup, e] using hk
      · have := above r i j hm.1.1 o.le
        simp [getD, lookup, Nat.ne_of_gt o, this] at hj
        exact absurd hj.symm hn.2.1

end Sys2Proof.Machine
end

