-- ==== Sys2Proof/Laws/Memory.lean ====
section
/-! SUPPORT. The operations that write the machine's memories keep their canonical form. -/

namespace Sys2Proof.Machine

open Sys2Proof

/-- Program memory (R158). -/
theorem State.canon_setPm (s : State) (w : Nat) (x : BitVec 16) (h : canon pmEmpty s.pm = true) :
    canon pmEmpty (s.setPm w x).pm = true := canon_setD _ _ _ _ h

/-- Values and shadow values of registers (R374). -/
theorem State.canon_setReg (s : State) (p : Page) (o : Nat) (v : Word) (h : canon regReset s.shadow = true) :
    canon regReset (s.setReg p o v).shadow = true := canon_setD _ _ _ _ h

/-- Committed values of registers (R374). -/
theorem State.canon_setCom (s : State) (p : Page) (o : Nat) (v : Word) (h : canon regReset s.committed = true) :
    canon regReset (s.setCom p o v).committed = true := canon_setD _ _ _ _ h

/-- Counters of the pages (R373). -/
theorem State.canon_setCounter (s : State) (p : Page) (k : Nat) (v : BitVec 48) (h : canon zero48 s.counters = true) :
    canon zero48 (s.setCounter p k v).counters = true := canon_setD _ _ _ _ h

/-- Shelf bytes under a mask (R207). -/
theorem State.canon_shelf (s : State) (o : Nat) (ms : List (Byte × Bool)) (h : canon zero8 s.ls.shelf = true) :
    canon zero8 (setMasked zero8 s.ls.shelf o ms) = true := canon_setMasked _ _ _ _ h

/-- Putting entries that an unlisted key does not read as. -/
theorem canon_putAll {α : Type} [DecidableEq α] (d : Nat → α) (l m : List (Nat × α)) (hl : noDefaults d l = true)
    (hm : canon d m = true) : canon d (l.foldl (fun m e => put m e.1 e.2) m) = true := by
  induction l generalizing m with
  | nil => exact hm
  | cons e r ih =>
    simp only [noDefaults, Bool.and_eq_true, decide_eq_true_eq] at hl
    simp only [canon, Bool.and_eq_true] at hm
    exact ih _ hl.2 (by simp [canon, keysRise_put _ _ _ hm.1, noDefaults_put d _ _ _ hl.1 hm.2])

/-- One register set taken over into the other (R368, R374). -/
theorem canon_takeSh (p : Page) (src base : List (Nat × Word)) (hs : canon regReset src = true)
    (hb : canon regReset base = true) : canon regReset (takeSh p src base) = true := by
  have h := canon_filter regReset (fun e => isShOf p e.1) src hs
  simp only [canon, Bool.and_eq_true] at h
  exact canon_putAll _ _ _ h.2 (canon_filter _ _ _ hb)

end Sys2Proof.Machine
end

