-- ==== Sys2Proof/Tests/Slice0.lean ====
section
/-! SUPPORT. Tests: ill-formed commands are turned away; single steps give what the manual's tables give; and every
statement's hypotheses are met by concrete states, clause by clause. -/

namespace Sys2Proof.Tests

open Sys2Proof Sys2Proof.Machine

set_option Elab.async false -- one theorem at a time: side by side they need more memory than a check allows

/-! ## Helpers -/

/-- A running thread at level M, address 0x100, with g0 to g4 as given. -/
def thread (g : List Word) : HThread := { HThread.reset with
  g := Vector.ofFn fun i => (g[i.val]?).getD 0
  pc := 0x100
  stat := 3
  stopped := false }

/-- A core that runs, on a live reference clock, with every page enabled but those listed. -/
def core (off : List Page) (g : List Word) : State := { State.reset with
  phase := .run
  crst := false
  thr := State.reset.thr.set 0 (thread g)
  tmg := { Timing.reset with refAlive := true }
  frames := Vector.ofFn fun i => Frame.reset (!off.contains (pageOf i.val)) }

/-- The same with untranslated accesses. -/
def live (g : List Word) : State := core [.xlt] g

/-- The state after a command, where it has one. -/
def after (i : Instr) (s : State) : Option State := match exec i s with | .next u => some u | _ => none

/-- A header. -/
def hdr (typ addr size : Nat) : Hdr where
  typ := BitVec.ofNat 4 typ
  tag := { idx := 5, gen := 1 }
  schip := 0
  sclu := 3
  score := 2
  addr := BitVec.ofNat 58 addr
  size := BitVec.ofNat 3 size
  op := 0
  psn := 0
  masked := false
  mkind := 0

/-- A tag that no table has. -/
def farTag : Tag := { idx := 2048, gen := 0 }

/-! ## Ill-formed commands (WellFormed) -/

theorem test_wf_transpose : (Instr.tmovTranspose 0 1 2 0).wf = false ∧ (Instr.tmovTranspose 0 1 2 1).wf = true := by decide

theorem test_wf_indices : (Instr.nocRequestSend 2048).wf = false ∧ (Instr.requestTimeout 2048).wf = false ∧
    (Instr.holdExpiry 2048).wf = false ∧ (Instr.quarantineEnd 2048).wf = false ∧ (Instr.quarantineEnd 2047).wf = true := by
  decide

theorem test_wf_tags : (Instr.wrAck farTag 0 .system).wf = false ∧ (Instr.atomRsp farTag 0 0).wf = false ∧
    (Instr.xinvAck farTag 0).wf = false ∧ (Instr.hold farTag).wf = false ∧ (Instr.holdEnd farTag).wf = false ∧
    (Instr.linkfail farTag).wf = false ∧ (Instr.rdRsp farTag 0 0 (List.replicate 64 0) 0).wf = false := by decide

theorem test_wf_read_data : (Instr.rdRsp { idx := 0, gen := 0 } 0 0 [1, 2] 0).wf = false := by decide

theorem test_wf_types : (Instr.nocRdIn (hdr 1 0 3)).wf = false ∧ (Instr.nocWrIn (hdr 0 0 3) (List.replicate 64 0) []).wf = false ∧
    (Instr.nocAtomIn (hdr 0 0 3) 0 0).wf = false ∧ (Instr.bcastIn (hdr 1 0 4) (List.replicate 64 0) []).wf = false ∧
    (Instr.xinvIn (hdr 3 0 0)).wf = false ∧ (Instr.doorbell (hdr 3 0 0)).wf = false ∧
    (Instr.budgetGrant (hdr 3 0 0) (List.replicate 64 0)).wf = false ∧ (Instr.badHeader (hdr 0 0 0)).wf = false := by decide

theorem test_wf_sizes : (Instr.nocRdIn (hdr 0 0 6)).wf = false ∧ (Instr.nocAtomIn (hdr 2 0 4) 0 0).wf = false ∧
    (Instr.bcastIn (hdr 6 0 3) (List.replicate 64 0) []).wf = false ∧
    (Instr.nocWrIn (hdr 1 0 5) (List.replicate 64 0) []).wf = false ∧
    (Instr.budgetGrant { hdr 3 0 0 with mkind := 2 } [0]).wf = false := by decide

theorem test_wf_masks : (Instr.nocWrIn { hdr 1 0 4 with masked := true } (List.replicate 64 0) [true]).wf = false ∧
    (Instr.nocWrIn (hdr 1 0 4) (List.replicate 64 0) [true]).wf = false := by decide

theorem test_wf_operations : (Instr.nocAtomIn { hdr 2 0 3 with op := 10 } 0 0).wf = false ∧
    (Instr.xinvIn { hdr 4 0 0 with op := 12 }).wf = false := by decide

theorem test_wf_test_results : (Instr.bistDone [(1, 1), (0, 0)]).wf = false ∧ (Instr.bistDone [(0, 0), (1, 1)]).wf = true := by
  decide

theorem test_wf_legal_words : (Instr.illegalInstruction 0 0 0 0).wf = false := by decide

/-! ## Single steps, from the manual's tables -/

/-- R141: SRA shifts by the low six bits. -/
theorem test_sra_shift_of_64 : (after (.sra 0 0 1) (live [0x8000_0000_0000_0000, 65])).map (·.g 0 0) = some 0xC000_0000_0000_0000 := by
  decide +kernel

/-- R137: the greatest word plus one wraps, and FLG.OV is set. -/
theorem test_add_wraps : (after (.add 0 0 1) (live [0x7FFF_FFFF_FFFF_FFFF, 1])).map (fun u => (u.g 0 0, (u.th 0).flg)) =
    some (0x8000_0000_0000_0000, 2) := by decide +kernel

/-- R138: division by zero with DZE = 0 gives the greatest or least word and sets FLG.DZ. -/
theorem test_div_by_zero : (after (.div 0 0 1) (live [5, 0])).map (fun u => (u.g 0 0, (u.th 0).flg)) =
    some (0x7FFF_FFFF_FFFF_FFFF, 1) := by decide +kernel

/-- R142: CLZ of zero is 64. -/
theorem test_clz_zero : (after (.clz 0 0) (live [0])).map (·.g 0 0) = some 64 := by decide +kernel

/-- R146: CALLR reads gs before it writes g15, which takes the address of word 0 plus 2. -/
theorem test_callr_g15 : (after (.callr 0 15) (live ((List.replicate 15 0) ++ [0x234]))).map
    (fun u => ((u.th 0).pc, u.g 0 15)) = some (0x234, 0x102) := by decide +kernel

/-- R149: ALD doubles into the accumulator. -/
theorem test_ald_doubles : (after (.ald 0 1 0) (live [0xFFFF_FFFF_FFFF_FFFF])).map (fun u => (u.acc 0 1 : Int)) = some (-2) := by
  decide +kernel

/-- R181: an unassigned CSR number raises cause 0x01, which with no readable descriptor table is the fallback at 0x10. -/
theorem test_csr_unassigned : (after (.csrr 0 1 0x007) (live [])).map (fun u => (u.th 0).pc) = some 0x10 := by decide +kernel

/-- R158: PMW of word 0 writes both parity bits. -/
theorem test_pmw_parity : (after (.pmw 0 0 1) (live [0x40, 0])).map (·.pmWord 0x40) = some 0xC000 := by decide +kernel

/-- R81: TCLAIM of the free unit gives 1. -/
theorem test_tclaim_free : (after (.tclaim 0 3) (live [])).map (fun u => (u.g 0 3, u.tile.owner)) = some (1, some 0) := by
  decide +kernel

/-- R352: pin 15 raises source 63. -/
theorem test_chip_irq_source : (after (.chipIrq 15) (live [])).map (·.irq.edge) = some 0x8000_0000_0000_0000 := by decide +kernel


/-! ## The hypotheses of the statements are met -/

/-- A change of thread 0. -/
def with0 (s : State) (f : HThread → HThread) : State := s.setTh 0 (f (s.th 0))

/-- The same core with thread 0 at another level, within the bounds of that level. -/
def atLevel (s : State) (pl : Nat) : State :=
  with0 ((s.setCom .xlt 0x40 0x1000_0000_0000).setCom .xlt 0x48 0x1000_0000_0000) fun h => { h with stat := BitVec.ofNat 64 pl }

/-- Thread 0 with a pending edge source 63 of priority 15. -/
def pending63 : State :=
  let s := live []
  ({ s with irq := { s.irq with edge := 0x8000_0000_0000_0000 } }).setCom .irq (0x200 + 8 * 63) 0x4F

/-- Sources of thread 0 whose event waits: source 63 of priority 15, the only one pending. -/
theorem witness_StepRunsTheFrontCommand : ({ live [] with pending := [.barRel, .vackFall] } : State).pending = .barRel :: [.vackFall] :=
  rfl

theorem witness_RegisterResults : plainResult (.rem 0 0 1) (live [BitVec.intMin 64, 0xFFFF_FFFF_FFFF_FFFF]) =
    some (0, 2, 0, 0) ∧ Goes (live [BitVec.intMin 64, 0xFFFF_FFFF_FFFF_FFFF]) 0 2 := by decide +kernel

theorem witness_SignedOverflow : exactResult (.neg 0 0) (live [BitVec.intMin 64]) = some (0, 1, 0, 2 ^ 63) ∧ ¬ fits64 (2 ^ 63) ∧
    Goes (live [BitVec.intMin 64]) 0 1 ∧ wbit ((live []).th 0).mode 5 = false ∧
    (let s := with0 (live [BitVec.intMin 64]) fun h => { h with mode := 0x28 }
     Goes s 0 1 ∧ wbit (s.th 0).mode 5 = true ∧ exactResult (.neg 0 0) s = some (0, 1, 0, 2 ^ 63)) ∧
    exactResult (.neg 0 0) (live [0x8000_0000_0000_0001]) = some (0, 1, 0, 2 ^ 63 - 1) ∧ fits64 (2 ^ 63 - 1) := by decide +kernel

theorem witness_DivisionByZero : zeroDivision (.rem 0 0 1) (live [7, 0]) = some (0, 0, 7) ∧ Goes (live [7, 0]) 0 2 ∧
    wbit ((live []).th 0).mode 4 = false ∧ (let s := with0 (live [7, 0]) fun h => { h with mode := 0x10 }
      Goes s 0 2 ∧ wbit (s.th 0).mode 4 = true ∧ zeroDivision (.rem 0 0 1) s = some (0, 0, 7)) := by decide +kernel

theorem witness_RoundingAndFit : (fitS 8 true (-129)).2 = true ∧ (fitS 8 true 128).2 = true ∧ (fitS 8 true 127).2 = false := by
  decide +kernel

theorem witness_AccumulatorResults : accExact (.ashl 0 1 0) (live [127]) = some (0, 2, 1, 0) ∧
    accProduct (.msu 0 1 0 1) (live [3, 5]) = some (0, 2, 1, -1, 15) ∧ Goes (live [127]) 0 2 ∧ Goes (live [3, 5]) 0 2 := by
  decide +kernel

theorem witness_InstructionCompletion :
    let h : HThread := { thread [] with lc := #v[2, 1], ls := #v[0x80, 0x90], le := #v[0x101, 0x101] }
    h.lc[1] = 1 ∧ h.pc + BitVec.ofNat 17 1 = h.le[1] ∧ 1 < (h.lc[0]).toNat ∧ h.pc + BitVec.ofNat 17 1 = h.le[0] ∧
    (let p : Pair := { first := 0xFF, ld := some (3, 9), mode := none, lc0 := 0, lc1 := 0, step := false }
     ({ h with pair := some p } : HThread).pair = some p) ∧ h.pair = none := by decide +kernel

theorem witness_ControlFlow : (branchOf (.bltz 0 7 0x55) (live [0, 0, 0, 0, 0, 0, 0, BitVec.intMin 64]) = some (0, 0x55, true, false) ∧
    Goes (live [0, 0, 0, 0, 0, 0, 0, BitVec.intMin 64]) 0 2) ∧
    (loopOf (.loopi 0 0x7FFF 1 0x103) (live []) = some (0, 0x7FFF, 1, 0x103, 0x325F) ∧ Goes (live []) 0 3 ∧
    (0x103 : PAddr).toNat ≤ ((live []).th 0).pc.toNat + 3) ∧ loopOf (.loopi 0 0 0 0x104) (live []) = some (0, 0, 0, 0x104, 0x3240) ∧
    ((live []).th 0).pc.toNat + 3 < (0x104 : PAddr).toNat :=
  ⟨by decide +kernel, by decide +kernel, by decide +kernel⟩

theorem test_call_at_the_top : (after (.call 0 0x40) (with0 (live []) fun h => { h with pc := 0x1FFFE })).map (·.g 0 15) = some 0x20000 := by
  decide +kernel

theorem test_loop_at_the_top :
    (after (.loopi 0 2 0 0x10) (with0 (live []) fun h => { h with pc := 0x1FFFD })).map (fun u => (u.th 0).lc[0]) = some 0 := by
  decide +kernel

theorem witness_CsrReads : Goes (live []) 0 2 ∧ csrShows (live []) 0 0x010 = some 3 ∧ csrReadLevel 0x010 ≤ ((live []).th 0).pl ∧
    csrAssigned 0x007 = false ∧ csrAssigned 0x018 = true ∧ 1 ≤ ((live []).th 0).pl ∧ Goes (atLevel (live []) 1) 0 2 ∧
    ((atLevel (live []) 1).th 0).pl < csrReadLevel 0x017 := by decide +kernel

theorem witness_CsrWrites : (csrChange (.csrs 0 0 0x011) (live [0xFFFF])).map (fun x => (x.1, x.2.1, x.2.2.1)) = some (0, 0x011, 0x34A0) ∧
    Goes (live [0xFFFF]) 0 2 ∧ csrWriteLevel 0x082 ≤ ((live []).th 0).pl ∧ csrShows (live [0xFFFF]) 0 0x011 = some 0 ∧
    (csrTakes (thread []) 0x011 0xFFFF).isSome = true ∧ modeLegal 0x3C ∧ statLegal 3 0x503 ∧
    (0xFFFF : Word).toNat > (live []).tmg.time ∧ csrShows (live []) 0 0x00D = some 0 ∧
    (let s : State := { live [5] with tmg := { (live []).tmg with time := 5 } }
     Goes s 0 2 ∧ (5 : Word) ≠ 0 ∧ (5 : Word).toNat ≤ s.tmg.time) := by decide +kernel

/-- The same with so many budget units and so many reserved, in sixteenths. -/
def banked (s : State) (bal : Int) (rsv : Nat) : State := { s with scl := { s.scl with bal := bal, rsv := rsv } }

theorem witness_CsrWrites_reserve :
    let i := Instr.csrw 0 0 0x092
    let x (s : State) : Int := 16 * (s.g 0 0).toInt
    let pos := banked (live [5]) 1600 0
    let neg := banked (live [0xFFFF_FFFF_FFFF_FFFB]) 1600 48
    let poor := banked (live [5]) 10 0
    (csrChange i pos).map (fun c => (c.2.1, c.2.2.1 / 16 % 4)) = some (0x092, 1) ∧ Goes pos 0 2 ∧ 0 < x pos ∧
    x pos ≤ (pos.issued 0).scl.bal ∧ pos.scl.rsv + (x pos).toNat < 16 * 2 ^ 47 ∧ Goes poor 0 2 ∧ (poor.issued 0).scl.bal < x poor ∧
    Goes neg 0 2 ∧ x neg ≤ 0 ∧ min (-x neg).toNat neg.scl.rsv = 48 ∧ (neg.issued 0).scl.bal + 48 < 16 * 2 ^ 47 ∧
    csrWriteLevel 0x092 ≤ (pos.th 0).pl := by decide +kernel

theorem witness_CsrTraps : csrAssigned 0x007 = false ∧ csrReadOnly 0x080 = true ∧ Goes (live []) 0 2 ∧
    ((csrChange (.csrc 0 0 0x092) (live [])).map fun x => x.2.2.1 / 16 % 4) = some 3 ∧
    (let s := atLevel (live [1]) 0
     Goes s 0 2 ∧ csrAssigned 0x010 = true ∧ csrReadOnly 0x010 = false ∧ (s.th 0).pl < csrWriteLevel 0x010) ∧
    ¬ modeLegal 5 ∧ ¬ statLegal 3 0x113 ∧ 1 ≤ ((live []).th 0).pl := by decide +kernel

theorem witness_ProgramMemoryAccess : Goes (live [0x1FFFF]) 0 2 ∧ ((live []).th 0).pl ≠ 0 ∧ (live []).pmAllowed 3 0x1FFFF = true ∧
    (let s := atLevel (live [0x1000]) 0
     Goes s 0 2 ∧ (s.th 0).pl = 0) ∧
    (let s := atLevel (live [0x1000]) 1
     Goes s 0 2 ∧ (s.th 0).pl ≠ 0 ∧ s.pmAllowed 1 0x1000 = false ∧ s.pmAllowed 1 0xFFF = true) := by decide +kernel

/-- A core whose thread 0 has its descriptor table at shelf offset 0, with descriptor 0x0C for level M. -/
def tabled : State :=
  let s := with0 (live []) fun h => { h with mshb := 0, mshl := 0x1000, tsbpm := 0x5FF00 }
  { s with ls := { s.ls with shelf := setN zero8 [] (16 * 0x0C) (bytesOf 8 (0x4000_0000 + 3 * 2 ^ 18 + 2 ^ 20 + 0x200)) } }

theorem witness_HandlerAndFallbackEntry :
    let s := tabled
    let h := s.th 0
    (match (s.readDesc 0 0x0C).2 with | .inr d => some (d.lvl, d.hpc, d.adv) | .inl _ => none) = some (3, 0x200, true) ∧ h.pl ≤ 3 ∧
    0x5FF00 + 256 ≤ 393216 * s.ls.ways ∧ h.tsbpm.toNat % 2 ^ 23 = 0x5FF00 ∧ h.protects 0x5FF00 256 = false ∧
    (s.readDesc 0 0x0C).1.tsbFails 0x5FF00 = false ∧ s.tsbFails 0x5FF00 = false ∧
    (let v := with0 s fun h => { h with tsbpm := 0x60000 }
     393216 * v.ls.ways < (v.th 0).tsbpm.toNat % 2 ^ 23 + 256) := by decide +kernel

theorem witness_TsbAndDescriptorLayout : (thread []).mode.toNat < 64 ∧ ((0x400C_0200 : Word).toNat / 2 ^ 30 = 1 ∧
    (0x400C_0200 : Word).toNat / 2 ^ 18 % 4 = 3 ∧ (0x400C_0200 : Word).toNat / 2 ^ 21 % 8 ≤ 3 ∧
    (0x400C_0200 : Word).toNat / 2 ^ 24 % 4 ≠ 3) := by decide +kernel

/-- RETT restores g0 from a store of its thread that has not left the store buffer (R187, R240). -/
theorem test_rett_sees_buffered_store :
    let s := with0 (live []) fun h => { h with tsbpm := 0x100, stat := 0x203 }
    let v : State := { s with ls := { s.ls with
      shelf := setN zero8 [] 0xA8 (bytesOf 8 0x7)
      sb := [{ seq := 0, thr := 0, pa := s.shelfBase, bytes := bytesOf 8 9, pol := 2, lvl := 3, asked := false }] } }
    (after (.rett 0) v).map (fun u => (u.g 0 0, (u.th 0).pl)) = some (9, 3) := by decide +kernel

theorem witness_TrapAndReturn :
    let s := with0 (live []) fun h => { h with tsbpm := 0x100, stat := 0x203 }
    let good : State := { s with ls := { s.ls with shelf := setN zero8 [] 0xA8 (bytesOf 8 0x7) } }
    let bad : State := { s with ls := { s.ls with shelf := setN zero8 [] 0xA8 (bytesOf 8 0x9) } }
    let clean (s : State) : Prop := ∀ k, k < 5 → lookup s.ls.shelfErrs k = none ∧ s.ls.shelfPois.contains k = false
    let st (s : State) := word64At (s.shelfBytes 0 256) 0xA8
    Goes good 0 2 ∧ (good.th 0).adv = true ∧ 256 ≤ (good.th 0).tsbpm.toNat % 2 ^ 23 ∧ clean good ∧ statOk (st good) = true ∧
    wbits (st good) 1 0 ≤ (good.th 0).pl ∧ wbit (st good) 3 = false ∧ wbit (st good) 2 = true ∧ good.tile.trap = false ∧
    (good.th 0).quietOver = none ∧ Goes bad 0 2 ∧ clean bad ∧ ¬ (wbit (st bad) 3 = true → wbits (st bad) 1 0 = 3) ∧
    (let low := with0 s fun h => { h with tsbpm := 0 }
     Goes low 0 2 ∧ (low.th 0).adv = true ∧ ¬ 256 ≤ (low.th 0).tsbpm.toNat % 2 ^ 23) ∧
    Goes (atLevel (live []) 0) 0 2 ∧ ((atLevel (live []) 0).th 0).pl = 0 := by decide +kernel

theorem witness_TrapAndReturn_poison :
    let s := with0 (live []) fun h => { h with tsbpm := 0x100, stat := 0x203 }
    let p : State := { s with ls := { s.ls with shelfPois := [2] } }
    let e : State := { s with ls := { s.ls with shelfErrs := [(2, 3)] } }
    let on (k : Nat) : Prop := 0 / 64 ≤ k ∧ k ≤ (0 + 255) / 64
    (Goes p 0 2 ∧ (p.th 0).pl ≠ 0 ∧ 256 ≤ (p.th 0).tsbpm.toNat % 2 ^ 23 ∧ (∀ k, k < 4 → lookup p.ls.shelfErrs k = none) ∧
      on 2 ∧ p.ls.shelfPois.contains 2 = true) ∧
    (Goes e 0 2 ∧ (e.th 0).pl ≠ 0 ∧ lookup e.ls.shelfErrs 2 = some 3 ∧ (∀ k, k < 4 → k ≠ 2 → lookup e.ls.shelfErrs k = none) ∧
      (after (.rett 0) e).map (fun u => ((u.frame .lst).errInfo, u.ls.shelfPois.contains 2)) = some (0xF06, true)) := by
  refine ⟨⟨?_, ?_, ?_, ?_, ⟨?_, ?_⟩, ?_⟩, ?_, ?_, ?_, ?_, ?_⟩ <;> decide +kernel

/-- RETT to level M with QUIET = 0 while source 63 is pending, over a TSB at 0x1000, with a handler of this level. -/
def chained (lvl : Nat) : State :=
  let s := with0 pending63 fun h => { h with mshb := 0, mshl := 0x1000, tsbpm := 0x1100, stat := 0x207 }
  let d := 0x4000_0000 + lvl * 2 ^ 18 + 2 ^ 20 + 0x200
  { s with ls := { s.ls with shelf := setN zero8 (setN zero8 [] 0x10A8 (bytesOf 8 0x3)) (16 * 0x7F) (bytesOf 8 d) } }

theorem witness_TrapAndReturn_events :
    let s := chained 3
    let tsb := s.sbSeen 0x1000 (s.shelfBytes 0x1000 256)
    let charged := (s.issued 0).charge 0x1E 1 (some 0)
    let e := (charged.setTh 0 { charged.th 0 with stat := word64At tsb 0xA8, stepTrap := false }).boundaryEv 0
    Goes s 0 2 ∧ (s.th 0).pl = 3 ∧ (s.th 0).adv = true ∧ word64At tsb 0xA8 = 3 ∧ statOk 3 = true ∧ s.ls.shelfErrs = [] ∧
    s.ls.shelfPois = [] ∧ s.tileTrap 0 = false ∧ e.map (fun e => (e.cause, e.pri)) = some (0x7F, some 15) ∧
    (s.th 0).hdtb = 0 ∧ 4096 ≤ (s.th 0).mshl.toNat ∧
    (let w := s.sbSeen (16 * 0x7F) (s.shelfBytes (16 * 0x7F) 16)
     (decodeDesc (word64At w 0) (word64At w 8)).map fun d => (d.lvl, d.adv)) = some (3, true) ∧
    (let v := chained 1
     let w := v.sbSeen (16 * 0x7F) (v.shelfBytes (16 * 0x7F) 16)
     (decodeDesc (word64At w 0) (word64At w 8)).map fun d => d.lvl) = some 1 ∧
    (match exec (.rett 0) s with | .next u => (u.th 0).pc | _ => 0) = 0x200 ∧
    (match exec (.rett 0) (chained 1) with | .next u => (u.th 0).pc | _ => 1) = 0 := by decide +kernel

/-- RETT at S with QUIET = 1 restores a state that a waiting machine check may enter; its descriptor has LVL = S and ADV = 1. -/
def chainedForced : State :=
  let s := with0 (atLevel (live []) 1) fun h => { h with mshb := 0x3000, mshl := 0x5000, hdtb := 0x3000, tsbps := 0x1100, tsbpm := 0x2000, stat := 0x205 }
  let d := 0x4000_0000 + 1 * 2 ^ 18 + 2 ^ 20 + 0x200
  { s with
    irq := { s.irq with mcLatch := true }
    ls := { s.ls with shelf := setN zero8 (setN zero8 [] 0x10A8 (bytesOf 8 0x1)) (0x3000 + 16 * 0xC1) (bytesOf 8 d) } }

theorem witness_TrapAndReturn_forced :
    let s := chainedForced
    let tsb := s.sbSeen 0x1000 (s.shelfBytes 0x1000 256)
    let charged := (s.issued 0).charge 0x1E 1 (some 0)
    let e := (charged.setTh 0 { charged.th 0 with stat := word64At tsb 0xA8, stepTrap := false }).boundaryEv 0
    Goes s 0 2 ∧ (s.th 0).pl = 1 ∧ (s.th 0).adv = true ∧ word64At tsb 0xA8 = 1 ∧ statOk 1 = true ∧ s.ls.shelfErrs = [] ∧
    s.ls.shelfPois = [] ∧ s.tileTrap 0 = false ∧ e.map (fun e => (e.cause, e.pri)) = some (0xC1, none) ∧
    (s.th 0).hdtb = 0x3000 ∧ (s.th 0).mshb = 0x3000 ∧ 0x4000 ≤ (s.th 0).mshl.toNat ∧
    (let w := s.sbSeen (0x3000 + 16 * 0xC1) (s.shelfBytes (0x3000 + 16 * 0xC1) 16)
     (decodeDesc (word64At w 0) (word64At w 8)).map fun d => (d.lvl, d.adv)) = some (1, true) ∧
    (match exec (.rett 0) s with | .next u => ((u.th 0).pl, (u.th 0).pc, (u.th 0).tsbps, (u.th 0).tsbpm) | _ => (0, 0, 0, 0)) =
      (3, 0x200, 0x1000, 0x1100) := by decide +kernel

theorem witness_CsrWrites_qlim :
    let s := with0 (live [9]) fun h => { h with quietFired := true, quietCnt := 7 }
    (csrChange (.csrw 0 0 0x014) s).map (·.2.1) = some 0x014 ∧ Goes s 0 2 ∧ csrWriteLevel 0x014 ≤ (s.th 0).pl ∧
    (csrTakes (s.th 0) 0x014 9).map (·.quietFired) = some false ∧ (csrTakes (s.th 0) 0x014 7).map (·.quietFired) = some true := by
  decide +kernel

theorem witness_CsrReads_pending :
    let s := with0 pending63 fun h => { h with stat := 7 }
    Goes s 0 2 ∧ (s.issued 0).srcPending 63 = true ∧ s.srcEn 63 = true ∧ s.srcThr 63 = (0 : Thread).val ∧ 1 ≤ (s.th 0).pl ∧
    (∀ j, j < 64 → (s.issued 0).srcPending j = true → s.srcEn j = true → s.srcThr j = (0 : Thread).val → s.srcPri j ≤ s.srcPri 63) ∧
    s.srcPri 63 = 15 ∧ (∀ j, j < 64 → (live []).srcEn j = false ∨ ((live []).issued 0).srcPending j = false) := by decide +kernel

theorem witness_ThreadEvents :
    let s := live []
    let tile : State := { s with tile := { s.tile with trap := true, owner := some 0 } }
    let late := with0 s fun h => { h with quietOver := some (1, 7) }
    let quiet := with0 (atLevel s 1) fun h => { h with stat := 0x5, qlim := 7, quietCnt := 7 }
    tile.tile.trap = true ∧ tile.tile.owner = some 0 ∧ (late.boundaryEv 0).isSome = true ∧ late.running = true ∧
    (late.th 0).boundary = true ∧ (late.th 0).stopped = false ∧ (late.th 0).sleep = .awake ∧
    (with0 s fun h => { h with stepTrap := true }).boundaryEv 0 ≠ none ∧ s.boundaryEv 0 = none ∧
    s.mcThread = (0 : Thread).val ∧ (quiet.th 0).quiet = true ∧ (quiet.th 0).pl ≠ 3 ∧ (quiet.th 0).qlim ≠ 0 ∧
    (quiet.th 0).quietFired = false ∧ (quiet.th 0).qlim.toNat ≤ (quiet.th 0).quietCnt ∧
    pending63.bestSource 0 (pending63.th 0).ipl = some (63, 15) ∧ s.ready 1 = false ∧ (Instr.wait 1).wf = true ∧ issuesOn (.wait 1) = some 1 ∧
    (let v := with0 (atLevel s 1) fun h => { h with pc := 0x1000 }
     v.ready 0 = true ∧ (v.th 0).fs = false ∧ v.pmAllowed 1 0x1000 = false) ∧
    (let v : State := { s with pm := [(0x100, 0)] }
     v.ready 0 = true ∧ v.pmAllowed 3 0x100 = true ∧ oddOver (v.pmWord 0x100) [0, 1, 2, 3, 4, 5, 6, 14] = false) := by
  decide +kernel

theorem witness_ThreadEvents_order :
    let s := live []
    let save := with0 s fun h => { h with wait := .ctx (ctxBegin true 0) }
    let load := with0 s fun h => { h with wait := .ctx (ctxBegin false 0) }
    let trap (s : State) : State := { s with tile := { s.tile with trap := true, owner := some 0 } }
    let step := with0 s fun h => { h with stepTrap := true }
    let stop := s.setCom .tmg 0xB8 0
    let reset := with0 s fun h => { h with resetReq := true }
    let bounds := with0 (atLevel s 1) fun h => { h with pc := 0x1000 }
    let odd : State := { s with pm := [(0x100, 0)] }
    ((save.th 0).wait = .ctx (ctxBegin true 0) ∧ (ctxBegin true 0).save = true ∧ (trap save).boundaryEv 0 = none) ∧
    ((load.th 0).wait = .ctx (ctxBegin false 0) ∧ (ctxBegin false 0).save = false ∧ ((trap load).boundaryEv 0).isSome = true) ∧
    ((step.boundaryEv 0).isSome = true ∧ step.running = true ∧ (step.th 0).boundary = true ∧ (step.th 0).stopped = false ∧
      (step.th 0).halted = false ∧ (step.th 0).sleep = .awake ∧ step.runBit 0 = true ∧ (step.th 0).resetReq = false ∧
      (step.th 0).entered = false ∧ (step.th 0).pair = none) ∧
    (stop.runBit 0 = false ∧ (reset.th 0).resetReq = true ∧ (reset.th 0).pair = none) ∧
    (bounds.ready 0 = true ∧ (bounds.th 0).fs = false ∧ bounds.pmAllowed 1 0x1000 = false) ∧
    (odd.ready 0 = true ∧ (odd.th 0).fs = false ∧ (∀ k, k < 3 → odd.pmAllowed 3 ((0x100 + k) % 2 ^ 17) = true) ∧
      oddOver (odd.pmWord 0x100) [0, 1, 2, 3, 4, 5, 6, 14] = false) := by
  refine ⟨?_, ?_, ?_, ?_, ?_, ?_⟩ <;> decide +kernel

theorem witness_ThreadEvents_interrupt :
    let s := pending63
    let names (s : State) (m : Nat) : Bool :=
      s.srcPending m && s.srcEn m && s.srcThr m = (0 : Thread).val && (s.th 0).ipl ≤ s.srcPri m
    let off := s.setFrame .irq { s.frame .irq with en := false }
    let low := with0 s fun h => { h with stat := 0x103 }
    (s.tile.trap = false ∧ (s.th 0).stepTrap = false ∧ (s.th 0).quietOver = none ∧ (s.th 0).quiet = false ∧
      s.irq.mcLatch = false ∧ s.irq.pfLatch = false ∧ s.en .irq = true ∧ names s 63 = true ∧ (∀ m, m < 63 → names s m = false) ∧
      s.boundaryEv 0 = some { cause := 0x7F, pri := some 15, addr := 0, info := 0 }) ∧
    (off.en .irq = false ∧ off.boundaryEv 0 = none) ∧
    ((low.th 0).ipl = 16 ∧ (low.th 0).quiet = false ∧ (∀ m, m < 64 → names low m = false) ∧ low.boundaryEv 0 = none) := by
  refine ⟨?_, ?_, ?_⟩ <;> decide +kernel

/-! ### Tile unit -/

/-- Run commands one after the other. -/
def going (l : List Instr) (s : State) : State := l.foldl (fun s i => (after i s).getD s) s

/-- Thread 0 owns the tile unit; the Scale is off. -/
def owned (g : List Word) : State :=
  let s := core [.xlt, .scl] g
  { s with tile := { s.tile with owner := some 0 } }

theorem witness_QueuedInstructions : (queuedOperands (.tdrain 0 63 15) (owned [])).isSome = true ∧
    (queuedOperands (.wredMax 0 15 15 15 15 3 true) (owned [])).map (·.2.1) = some 3 ∧ Goes (owned []) 0 3 ∧
    (let full : State := { owned [] with tile := { (owned []).tile with queue := List.replicate 32 (entryMade (owned []) 0 0x22 0 0 0 0) } }
     let last : State := { owned [] with tile := { (owned []).tile with queue := List.replicate 31 (entryMade (owned []) 0 0x22 0 0 0 0) } }
     Goes full 0 3 ∧ full.en .til = true ∧ full.quiescing .til = false ∧ ¬ full.tile.queue.length < 32 ∧
     last.tile.queue.length < 32 ∧ last.tile.frozen = false ∧ Goes last 0 3) ∧
    (Goes (live []) 0 3 ∧ (live []).tile.owner ≠ some 0) ∧ (core [.til] []).en .til = false ∧ Goes (core [.til] []) 0 3 := by
  decide +kernel

theorem witness_TileClaim :
    let s := owned []
    let other : State := { s with tile := { s.tile with owner := some 1, queue := [entryMade s 1 0x22 0 0 0 0] } }
    let waits := with0 other fun h => { h with wait := .tclaimForce 3 }
    Goes s 0 2 ∧ s.tile.owner = some 0 ∧ Goes other 0 2 ∧ ¬ (other.tile.owner = none ∨ other.tile.owner = some 0) ∧
    ¬ (other.tile.queue = [] ∨ (other.tile.frozen = true ∧ other.tile.trap = false)) ∧ (other.th 0).pl ≠ 0 ∧
    Goes (atLevel s 0) 0 2 ∧ ((atLevel s 0).th 0).pl = 0 ∧ (waits.th 0).wait = .tclaimForce 3 ∧
    (let frozen : State := { waits with tile := { waits.tile with frozen := true } }
     frozen.tile.frozen = true ∧ frozen.tile.trap = false) := by decide +kernel

theorem witness_TileSync :
    let s := owned []
    let busy : State := { s with tile := { s.tile with queue := [entryMade s 0 0x22 0 0 0 0] } }
    let frozen : State := { busy with tile := { busy.tile with frozen := true } }
    Goes s 0 2 ∧ s.en .til = true ∧ s.quiescing .til = false ∧ s.tile.queue = [] ∧ s.tile.drains = [] ∧
    Goes busy 0 2 ∧ busy.tile.queue ≠ [] ∧ ((with0 s fun h => { h with wait := .trelUnit }).th 0).wait = .trelUnit ∧
    ((with0 s fun h => { h with wait := .tsync }).th 0).wait = .tsync ∧ Goes frozen 0 2 ∧ frozen.tile.owner = some 0 ∧
    frozen.tile.frozen = true := by decide +kernel

theorem witness_TileSync_checks :
    let s := owned []
    let off : State := { core [.til] [] with tile := { Tile.reset with owner := some 0 } }
    let busy : State := { s with tile := { s.tile with queue := [entryMade s 0 0x22 0 0 0 0] } }
    let frozen : State := { busy with tile := { busy.tile with frozen := true } }
    let quiet (s : State) : State := s.setFrame .til { s.frame .til with quiesce := true }
    (Goes (live []) 0 2 ∧ (live []).tile.owner ≠ some 0) ∧
    (Goes off 0 2 ∧ off.tile.owner = some 0 ∧ off.en .til = false) ∧
    (Goes frozen 0 2 ∧ frozen.tile.owner = some 0 ∧ frozen.en .til = true ∧ frozen.tile.frozen = true) ∧
    (Goes (quiet s) 0 2 ∧ (quiet s).tile.owner = some 0 ∧ (quiet s).en .til = true ∧ (quiet s).quiescing .til = true ∧
      (quiet s).tile.frozen = false ∧ (quiet frozen).tile.frozen = true ∧ (quiet frozen).quiescing .til = true) := by
  refine ⟨?_, ?_, ?_, ?_⟩ <;> decide +kernel

/-- May the next entry start, is it admitted, and do its checks find no fault? -/
def starts (s : State) : Option (Nat × Bool × Bool × Bool) :=
  s.nextEntry.map fun q => (q.xop, s.mayStart q, decide (admits s (s.estimate (s.entryItems q))), (s.entryFault q).isNone)

theorem witness_EntryStarts :
    starts (going [.tcfg 0 15 31 31] (owned [])) = some (0x22, true, true, true) ∧
    starts (going [.tzero 0 47 0 1] (owned [0x400, 7])) = some (0x23, true, true, true) ∧
    starts (going [.trelSlot 0 47] (owned [])) = some (0x21, true, true, true) ∧
    starts (going [.trelTray 0 15] (owned [])) = some (0x21, true, true, true) ∧
    (starts (going [.trelSlot 0 48] (owned []))).map (fun x => (x.2.1, x.2.2.2)) = some (true, false) ∧
    (let s := going [.tcfg 0 15 31 31] (owned [])
     (starts { s with tile := { s.tile with frozen := true } }).map (·.2.1) = some false) := by decide +kernel

/-- The entry of TREL of a slot, the tile unit idle. -/
def freeing (n : Nat) : QEntry := entryMade (owned []) 0 0x21 0x10 n 0 0

theorem witness_EntryStarts_checks :
    (∀ c ∈ entryChecks (owned []) (freeing 47), c.1) ∧
    (∃ before ok c d a p after, entryChecks (owned []) (freeing 48) = before ++ (ok, c, d, a, p) :: after ∧ (∀ x ∈ before, x.1) ∧ ¬ ok) := by
  have e : ∀ n ∈ [47, 48], (freeing n).xop = 0x21 ∧ (freeing n).opf = 0x10 ∧ (freeing n).x % 64 = n := by decide +kernel
  have f (n : Nat) (h : n ∈ [47, 48]) : entryChecks (owned []) (freeing n) = [(n < 48, 1, 1, n, 0)] := by
    simp [entryChecks, e n h]
  refine ⟨?_, [], 48 < 48, 1, 1, 48, 0, [], ?_, ?_, ?_⟩
  · simp [f 47 (by decide)]
  · simp [f 48 (by decide)]
  · simp
  · simp

/-- The front entry's estimate, what the Scale would take it from, and whether it is on. -/
def scales (s : State) : Option (Nat × Bool × Bool × Bool) :=
  s.nextEntry.map fun q => let c := s.estimate (s.entryItems q)
    (c, s.en .scl, decide (c ≤ s.scl.rsv), decide (-s.ovd ≤ s.scl.bal - c))

theorem witness_EntryStarts_charge :
    let on := going [.tcfg 0 15 31 31] { (core [.xlt] []) with tile := { Tile.reset with owner := some 0 } }
    let u : State := { on with scl := { on.scl with wCo := [(8 * 0x0C + 5, 1)], bal := 1000 } }
    let v : State := { u with scl := { u.scl with rsv := 2 ^ 20 } }
    let w : State := { on with scl := { on.scl with wCo := [(8 * 0x0C + 5, 1)], bal := 0 } }
    (scales u).map (fun x => (x.2.1, x.2.2)) = some (true, false, true) ∧ (scales v).map (fun x => (x.2.1, x.2.2.1)) = some (true, true) ∧
    (scales w).map (fun x => (x.2.1, x.2.2)) = some (true, false, false) ∧ (scales u).map (fun x => decide (0 < x.1)) = some true ∧
    (scales (going [.tcfg 0 15 31 31] (owned []))).map (·.2.1) = some false := by decide +kernel

/-- R293: an entry above reservation and balance is not admitted. -/
theorem witness_EntryStarts_deferred :
    let s := going [.tcfg 0 15 31 31] { (core [.xlt] []) with tile := { Tile.reset with owner := some 0 } }
    let u : State := { s with scl := { s.scl with wCo := [(8 * 0x0C + 5, 1)] } }
    (starts u).map (fun x => (x.2.1, x.2.2.1)) = some (true, false) := by decide +kernel

/-- Tray 0 of one row of 128 bytes and tray 1 of one row, slot 0 zeroed. -/
def shaped : State :=
  going [.tcfg 0 0 0 31, .tileEntryStart, .tcfg 0 1 0 31, .tileEntryStart, .tzero 0 0 0 1, .tileEntryStart] (owned [0x400, 0, 0x1000, 128])

theorem witness_EntryRuns :
    starts (going [.tmma 0 0 0 1 0 0 0 0] shaped) = some (0x26, true, true, true) ∧
    starts (going [.tld 0 0 2 3] shaped) = some (0x24, true, true, true) ∧
    starts (going [.tmovCopy 0 0 1] shaped) = some (0x29, true, true, true) ∧
    starts (going [.wadd 0 0 0 1 0 0 0 0 false] shaped) = some (0x30, true, true, true) ∧ shaped.tile.badRow = [] ∧
    ((going [.tld 0 0 2 3] shaped).nextEntry.map fun q => ((going [.tld 0 0 2 3] shaped).newRun q).pages.isEmpty) = some false := by
  decide +kernel

theorem witness_EntryRuns_pages :
    let s := going [.tld 0 0 2 3] shaped
    let r : State := { s with tile := { s.tile with queue := (s.tile.queue.map fun q : QEntry => { q with prog := 32 }) } }
    (s.nextEntry.map fun q => ((s.newRun q).bt, (s.newRun q).row0, (s.newRun q).rt, (s.newRun q).pages)) = some (128, 0, 1, [(0, 0)]) ∧
    (r.nextEntry.map fun q => (r.mayStart q, (r.entryFault q).isNone, (r.newRun q).pages)) = some (true, true, []) ∧
    r.tile.mem = [] ∧ r.tile.badRow = [] := by decide +kernel

/-- A tray move in progress. -/
def moving (op : BitVec 2) : State :=
  { shaped with tile := { shaped.tile with mov := some { id := 9, dst := 0, src := 1, op := op } } }

theorem witness_TrayRowsAndMoves : (List.replicate 128 (7 : Byte)).length = (shaped.tray 1).bytes ∧
    (0 + 1) * (shaped.tray 1).bytes ≤ 4096 ∧ (moving 0).tile.mov.isSome = true ∧ (moving 0).running = true ∧
    (moving 0).tile.badRow = [] ∧ ((moving 0).tray 0).rows = ((moving 0).tray 1).rows ∧
    ((moving 0).tray 0).bytes = ((moving 0).tray 1).bytes ∧
    (let s := going [.tcfg 0 0 31 0, .tileEntryStart] shaped
     (s.tray 0).rows * 4 = (s.tray 1).bytes ∧ (s.tray 0).bytes = (s.tray 1).rows * 4 ∧ s.mark 1 0 = false) := by
  decide +kernel

theorem witness_ArraySteps :
    let s := going [.tmma 0 0 0 1 0 0 0 0, .tileEntryStart] shaped
    (s.tile.array.map fun r => (decide (r.fold = 1 ∨ r.fold = 2 ∨ r.fold = 4), decide (r.m ≤ 32 / r.fold ∧ r.n ≤ 32))) =
      some (true, true) ∧ s.running = true ∧ s.tile.badRow = [] ∧ s.tile.badElem = [] ∧
    (∃ p ∈ [(0, Val.inf true), (1, Val.inf false)], p.2 = .inf true) ∧ (∃ p ∈ [(0, Val.inf true), (1, Val.inf false)], p.2 = .inf false) := by
  decide +kernel

theorem witness_ArraySteps_modes :
    let s := going [.tmma 0 0 0 1 0 0 0 0, .tileEntryStart] shaped
    (s.tile.array.map fun r => ((s.slot r.slot).fp, r.fa.toNat, r.fb.toNat, r.fa.toNat = 8 || r.kw % 4 = 0)) = some (true, 0, 0, true) ∧
    (s.tile.array.map fun r => decide (r.step + 1 < r.steps)) = some true ∧
    (5 : BitVec 96) ≠ BitVec.intMin 96 ∧
    (∀ p ∈ [(0, Val.fin true 3 (-2)), (1, Val.fin false 5 9)], p.2 ≠ .nan ∧ p.2 ≠ .inf true ∧ p.2 ≠ .inf false) := by decide +kernel

/-- A drain of slot 0 to tray 0 past its copy step, with so many relative steps done. -/
def draining (rel : Nat) : State :=
  let s := shaped
  let d : DrainRun := { id := 7, cw := 0, fp := false, anchor := 0, rnd := 0, seed := 0, d := 1, rd := 1, nd := 32, rel := rel
                        latch := none, sat := false, inx := false, inv := false }
  { s with tile := { s.tile with drains := [d] } }

theorem witness_DrainSteps :
    starts (going [.tdrain 0 0 5] (with0 shaped fun h => { h with g := vset h.g 5 0 })) = some (0x28, true, true, true) ∧
    shaped.tile.badRow = [] ∧ shaped.tile.badElem = [] ∧
    ((draining 31).tile.drains.find? (fun d => d.rel < 32)).isSome = true ∧ (draining 31).running = true ∧
    ((draining 32).tile.drains.find? (fun d => 32 ≤ d.rel)).isSome = true ∧ shaped.tile.drains = [] := by decide +kernel

theorem witness_DrainSteps_rows :
    ((draining 31).tile.drains.map fun d => (d.d, (drainCw d.cw).ofmt, (drainCw d.cw).fop, (drainCw d.cw).tfmt, d.nd)) = [(1, 0, 0, 0, 32)] ∧
    (∀ e ∈ [0xFF, 0, 1], e < 2 ^ 8) ∧ [0xFF, 0, 1].length * 8 ≤ 8 * 4 ∧
    ((draining 31).tile.drains.map fun d => decide (d.rd ≤ d.rel)) = [true] ∧
    ((draining 0).tile.drains.map fun d => decide (d.rel < d.rd)) = [true] := by decide +kernel

theorem witness_DrainSteps_combine :
    [BitVec.intMin 96, 5].length = 2 ∧ BitVec.intMin 96 ∈ [BitVec.intMin 96, 5] ∧ BitVec.intMin 96 ∉ [(1 : BitVec 96), 2, 3, 4] ∧
    (combine false [BitVec.intMax 96, 1]).sat = true ∧ combine false [1, 2, 3, 4] = { n := 10 } ∧
    (combine true [0x7F80_0000]).sat = true := by decide +kernel

theorem witness_WhiskSteps :
    let s := going [.wadd 0 0 0 1 0 0 0 0 false, .tileEntryStart] shaped
    let t := going [.whiskRow, .whiskRow] s
    (s.tile.whisk.map fun r => (r.rows, r.lat, r.rel, r.pipe.length)) = some (1, 2, 0, 0) ∧ s.tile.badRow = [] ∧ s.running = true ∧
    (t.tile.whisk.map fun r => (r.rel, r.pipe.map fun x => decide (r.rel = x.1 + r.lat))) = some (2, [true]) := by decide +kernel

theorem witness_WhiskSteps_rows :
    let s := going [.wadd 0 0 0 1 0 0 0 0 false, .tileEntryStart] shaped
    (∀ T, 4 ≤ (s.tray T).bytes ∧ (s.tray T).bytes ≤ 128) ∧
    (let t := going [.whiskRow, .whiskRow] s
     t.tile.whisk.map (fun r => (decide (r.rel + 1 = r.rows + r.lat), r.pipe.length)) = some (true, 1)) := by decide +kernel

/-- A TLD of two rows on two pages from an address, at a level, with a policy for untranslated accesses, its start done. -/
def loading (va : Word) (off : List Page) (pl pol : Nat) : State :=
  let s := atLevel (core (.scl :: off) [0, 0, va, 0x4000]) pl
  going [.tcfg 0 0 1 31, .tileEntryStart, .tld 0 0 2 3, .tileEntryStart]
    (({ s with tile := { s.tile with owner := some 0 } }).setCom .xlt 0x50 (BitVec.ofNat 64 (2 * pol)))

/-- How the next page of the first memory run translates: kind of outcome, fault kind or policy. -/
def nextPage (s : State) : Option (Nat × Nat) :=
  s.tile.mem.head?.bind fun m => m.pages.head?.map fun (p, r) =>
    let va := if m.rowVa r / 2 ^ 14 = p then m.rowVa r else p * 2 ^ 14
    match (s.translate (BitVec.ofNat 64 va) m.lvl.toNat m.load (!m.load) (.tile m.id m.thr)).2 with
    | .fault k _ _ => (0, k)
    | .ok _ p => (1, p)
    | _ => (2, 0)

/-- A line whose data has arrived. -/
def arrived (l : MemLine) : MemLine := { l with need := 0, got := some (List.replicate 128 5, 0) }

theorem witness_TileMemorySteps :
    (let s := loading 0x1000 [.xlt] 3 0
     (s.tile.mem.map fun m => (m.pages.length, m.lines.isEmpty, m.issued.isEmpty, s.runWalks m.id, (s.memRun m.id).isSome)) =
       [(2, true, true, false, true)] ∧ s.running = true) ∧
    (let s := loading 0x1000 [.xlt] 3 0
     (let u := going (s.tile.mem.map fun m => .tileMemPage m.id) s
      u.tile.mem.map (fun m => (m.pages, m.lines.map fun l => (l.asked, l.need, l.fin))) = [([(1, 1)], [(true, 1, false)])] ∧
      (let v := u.tile.mem.map fun m => { m with lines := m.lines.map fun l => arrived l }
       v.map (fun m => (m.load, m.lines.map fun l => (l.asked, l.need, l.fin))) = [(true, [(true, 0, false)])]))) ∧
    nextPage (loading 0x1000 [.xlt] 3 3) = some (1, 3) ∧ nextPage (loading (2 ^ 60) [.xlt] 3 0) = some (0, 1) ∧
    nextPage (loading 0x1000 [] 1 0) = some (2, 0) ∧
    (let s := going [.tst 0 0 2 3, .tileEntryStart] (with0 (going [.tcfg 0 0 0 31, .tileEntryStart]
       (let s := atLevel (core [.xlt, .scl] [0, 0, 0xFE_0000_0000, 128]) 1
        { s with tile := { s.tile with owner := some 0 } })) fun h => { h with mshb := 0, mshl := 0x1000 })
     (s.tile.mem.map fun m => s.tstProtected m (0xFE_0000_0000 / 2 ^ 14) 0xFE_0000_0000) = [true] ∧
     (nextPage s).map (·.1) = some 1) := by
  refine ⟨?_, ?_, ?_, ?_, ?_, ?_⟩ <;> decide +kernel

/-- A TLD of two rows, at level M and untranslated, its start done. -/
def splitting (va st : Word) (dw : BitVec 5) : State :=
  let s := core [.xlt, .scl] [0, 0, va, st]
  going [.tcfg 0 0 1 dw, .tileEntryStart, .tld 0 0 2 3, .tileEntryStart] { s with tile := { s.tile with owner := some 0 } }

/-- Page 1 of the run does not translate while line 127 of page 0, with row 0, is held back for row 1. -/
def holding : State := going [.tileMemPage 1] (splitting (2 ^ 40 - 96) 64 15)

/-- The same with a walk for the run, in a phase. -/
def runWalking (ph : WalkPh) : State :=
  let s := loading 0x1000 [] 1 0
  let k : Walk := { id := 5, va := 0x1000, pl := 1, wr := false, rd := true, who := .tile 1 0, level := 4, table := 0x80, root := 0x80, ph := ph, again := false, warm := false }
  { s with xl := { s.xl with walks := [k] } }

theorem witness_TileMemorySteps_pages :
    (let s := loading 0x1000 [.xlt] 3 0
     (s.tile.mem.map fun m => (decide m.sound, m.bt, m.pages.length)) = [(true, 128, 2)] ∧ s.tile.mem.length = 1 ∧
     nextPage s = some (1, 0) ∧ (s.tile.mem.map fun m => s.tstProtected m 0 0) = [false] ∧
     (s.tile.mem.map fun m => (s.tile.queue.find? fun q => q.id = m.id).map (·.xop)) = [some 0x24]) ∧
    (nextPage holding = some (0, 1) ∧ (holding.tile.mem.map fun m => (decide m.sound, m.pages, m.issued, m.row0, m.rt, m.bt)) =
        [(true, [(2 ^ 26, 1)], [], 0, 2, 64)] ∧
      (holding.tile.mem.map fun m => (m.byteAt 0 0 / 128, (m.xl.map (·.1), m.byteAt 0 0 / 2 ^ 14, m.byteAt 0 63 / 2 ^ 14))) =
        [(2 ^ 33 - 1, ([2 ^ 26 - 1], 2 ^ 26 - 1, 2 ^ 26 - 1))]) ∧
    (let s := runWalking (.value none)
     s.tile.mem.map (fun m => (m.id, m.thr, s.runWalks m.id)) = [(1, 0, true)] ∧ (s.xl.walks.find? fun x => x.id = 5).isSome = true) ∧
    (wbit (4 : Word) 0 = false ∧ ((runWalking (.value (some 4))).xl.walks.map fun k => (k.who, k.again, k.level)) = [(.tile 1 0, false, 4)]) ∧
    (let s := loading 0x1000 [.xlt] 3 0
     (let s := s.setFrame .xlt { s.frame .xlt with en := true, quiesce := true }
      s.tile.mem.map fun m => match (s.translate m.va m.lvl.toNat m.load (!m.load) (.tile m.id m.thr)).2 with
        | .busy => true | _ => false) = [true]) := by
  refine ⟨?_, ?_, ?_, ?_, ?_⟩ <;> decide +kernel

/-- The run's one line, with its record as given. -/
def lastLine (l : MemLine → MemLine) (flt : Option (BitVec 8 × BitVec 8 × Nat × Word)) (load : Bool) : State :=
  let s := going [if load then .tld 0 0 2 3 else .tst 0 0 2 3, .tileEntryStart, .tileMemPage 3] shaped
  { s with tile := { s.tile with mem := s.tile.mem.map fun m => { m with lines := m.lines.map l, flt := flt } } }

theorem witness_TileMemorySteps_lines :
    let s := lastLine arrived none true
    let t := lastLine id none false
    (s.tile.mem.map fun m => (m.pages, m.lines.map fun l => (l.line, l.asked, l.need))) = [([], [(32, true, 0)])] ∧
    (s.tile.mem.map fun m => (m.lines.map fun l => (l.fin, l.rowEnd, l.got.map (·.1.length)))) = [[(false, 1, some 128)]] ∧
    (s.tile.mem.map fun m => (m.byteAt 0 0 / 128, m.byteAt 0 127 / 128, m.bt)) = [(32, 32, 128)] ∧
    ((lastLine arrived (some (6, 1, 1, 0x1080)) true).tile.mem.map fun m => (m.flt.isSome, m.pages, m.lines.length)) = [(true, [], 1)] ∧
    ((lastLine id none true).tile.mem.map fun m => m.lines.map fun l => (l.asked, l.need)) = [[(true, 2)]] ∧
    (t.tile.mem.map fun m => (m.load, m.bt, (t.tray m.tray).bytes)) = [(false, 128, 128)] ∧
    (t.tile.mem.map fun m => (m.row0, m.rt, m.lines.map fun l => (l.line, l.rowEnd))) = [(0, 1, [(32, 1)])] := by
  refine ⟨?_, ?_, ?_, ?_, ?_, ?_, ?_⟩ <;> decide +kernel

/-! ### The tile context -/

theorem witness_ContextIssue :
    Goes (owned [512]) 0 2 ∧ (512 : Word).toNat % 512 = 0 ∧ ((owned [512]).th 0).pl ≠ 0 ∧ (owned [512]).tile.owner = some 0 ∧
    (owned [512]).en .til = true ∧ (owned [512]).quiescing .til = false ∧ Goes (atLevel (owned [512]) 0) 0 2 ∧
    Goes (live []) 0 2 ∧ (live []).tile.owner ≠ some 0 := by decide +kernel

/-- A TSAVE whose image lies at the start of the own shelf. -/
def saving : State :=
  let r : CtxRun := { ctxBegin true 0xFE_0000_0000 with
    checked := true
    xl := [(0xFE_0000_0000 / 2 ^ 14, 0xFE_0000_0000, 0)] }
  with0 (owned []) fun h => { h with wait := .ctx r }

theorem witness_ContextSaveBlock : saving.ctxDue 0 = true ∧ saving.tile.badRow = [] ∧ (saving.imageBlock 0).2.length = 512 ∧
    (match (saving.th 0).wait with
      | .ctx r => r.save && r.checked && r.asked.isEmpty && (List.range 4).all fun i =>
          decide (r.phys (r.base.toNat + 512 * 0 + 128 * i) = some (saving.shelfBase + 0 + 128 * i, 0))
      | _ => false) = true ∧ 0 + 512 ≤ saving.shelfSize ∧ saving.shelfSize ≤ 0x80_0000 ∧
    saving.sbHolds 0 saving.shelfBase 512 = false ∧
    (let s : State := { saving with ls := { saving.ls with sb :=
       [{ seq := 0, thr := 0, pa := saving.shelfBase + 127, bytes := [1], pol := 2, lvl := 3, asked := false }] } }
     s.ctxDue 0 = true ∧ s.sbHolds 0 s.shelfBase 128 = true) := by decide +kernel

/-- A frozen queue of two entries and its image's last block, read for TRSTR. -/
def restoring : State :=
  let s := going [.tcfg 0 0 0 0, .tcfg 0 1 0 0] (owned [])
  let f : State := { s with tile := { s.tile with frozen := true, tprog := 2 ^ 63 } }
  let im := f.wholeImage
  let r : CtxRun := { ctxBegin false 0x1000 with
    checked := true
    xl := [(0, 0, 0)]
    done := 4
    total := 5
    image := im.take 2048
    asked := blocks64 4 2112
    got := (List.range 8).map fun i => (256 + i, (im.drop (2048 + 8 * i)).take 8, false) }
  with0 (owned []) fun h => { h with wait := .ctx r }

theorem witness_ContextRestoreBlock : restoring.ctxDue 0 = true ∧
    (match (restoring.th 0).wait with
      | .ctx r => !r.save && r.checked && r.done ≠ 3 && r.total = r.done + 1 && r.pois.isEmpty && 2048 ≤ r.image.length &&
          hdrLen r.image = 2112 && (r.phys ((r.base.toNat + 512 * r.done) % 2 ^ 64)).isSome &&
          (blocks64 r.done (hdrLen r.image)).all (fun b => r.asked.contains b) &&
          match r.blockOf (blocks64 r.done (hdrLen r.image)) with
          | some (d, []) => hdrLen r.image ≤ (r.image ++ d).length &&
              (List.range 2).all fun k => recordOk (recordAt ((r.image ++ d).take (hdrLen r.image)) k) (restoring.th 0).pl
          | _ => false
      | _ => false) = true := by decide +kernel

/-- The header of an image of one tray, all of whose other fields are zero (R193). -/
def headerStart : List Byte := [0x40, 0x07, 0x74, 0x7C, 1, 0, 0, 0, 1]
def goodHeader : List Byte := headerStart ++ List.replicate 2035 0 ++ bytesOf 4 1151531962

/-- The registers of a CRC over zeros, 37 bytes apart. -/
def crcSteps (c : BitVec 32) (cs : List (BitVec 32)) : Bool :=
  match cs with
  | [] => true
  | d :: r => (List.replicate 37 0).foldl crcByte c = d && crcSteps d r

theorem crcSteps_end (cs : List (BitVec 32)) (c : BitVec 32) (h : crcSteps c cs = true) :
    (List.replicate (37 * cs.length) 0).foldl crcByte c = cs.getLastD c := by
  induction cs generalizing c with
  | nil => rfl
  | cons d r ih =>
    simp only [crcSteps, Bool.and_eq_true, decide_eq_true_eq] at h
    rw [List.length_cons, Nat.mul_succ, Nat.add_comm, ← List.replicate_append_replicate, List.foldl_append, h.1, ih d h.2,
      List.getLastD_cons]

/-- The registers of this header's CRC. -/
def headerSteps : List (BitVec 32) := [
  1411697049, 1085890585, 154878163, 3426638501, 509927301, 2230265119, 1065943544, 2379357061, 2311548349, 1414693491,
  1846073400, 2598656325, 1193031173, 3225251258, 1645880251, 367471283, 2668295744, 1064410605, 1706482143, 4291592294,
  2642826783, 3711167918, 2210904621, 2030899497, 2041499838, 3449440859, 4237851287, 2353016736, 251344091, 3811975093,
  2395713073, 2699438771, 2404805712, 2420256377, 1203167459, 1076345423, 1066010259, 443492580, 4057219584, 3307428667,
  587667887, 2628011521, 3612253656, 2417593316, 1534728233, 1194333977, 3826281026, 3738582049, 1046476626, 3790113007,
  2798726614, 1323162677, 32299921, 3169271784, 3143435333]

theorem header_crc : (crc32c (goodHeader.take 0x7FC)).toNat = 1151531962 := by
  have h : goodHeader.take 0x7FC = headerStart ++ List.replicate (37 * headerSteps.length) 0 := List.take_left' (by decide +kernel)
  have e : headerStart.foldl crcByte 0xFFFF_FFFF = 1118023418 := by decide +kernel
  rw [h, crc32c, List.foldl_append, e, crcSteps_end headerSteps _ (by decide +kernel)]
  decide +kernel

theorem header_fields :
    goodHeader.length = 2048 ∧ imgWord goodHeader 0 % 2 ^ 48 = 0x7C74_0740 + 2 ^ 32 ∧ ofBytes ((goodHeader.drop 0x7FC).take 4) = 1151531962 ∧
    ((List.range 256).all fun i => subMask (imgWord goodHeader (8 * i)) (hdrMask (hdrSlots goodHeader) (8 * i))) = true ∧
    foldsOk goodHeader (hdrSlots goodHeader) = true ∧ hdrFrozen goodHeader = false ∧ hdrE goodHeader = 0 ∧
    nbit (imgWord goodHeader 0x020) 63 = false ∧ imgWord goodHeader 0x028 = 0 ∧ 4 < blocksOf512 (hdrLen goodHeader) := by
  refine ⟨?_, ?_, ?_, ?_, ?_, ?_, ?_, ?_, ?_, ?_⟩ <;> decide +kernel

theorem witness_ContextRestoreBlock_good_header : headerCode goodHeader [] = 0 := by
  obtain ⟨-, h0, h1, h2, h3, h4, h5, h6, h7, -⟩ := header_fields
  simp only [headerCode, h0, h1, h2, h3, h4, h5, h6, h7, header_crc]
  decide

/-- A TRSTR whose fourth block of a header has arrived. -/
def heading (im : List Byte) : State := with0 (owned []) fun h => { h with wait := .ctx { ctxBegin false 0x1000 with
  xl := [(0, 0, 0)]
  done := 3
  image := im.take 1536
  asked := blocks64 3 2048
  got := (List.range 64).map fun i => (192 + i, ((im.drop 1536).drop (8 * i)).take 8, false) } }

/-- The transfer of thread 0. -/
def ctxOf (s : State) : Option CtxRun := match (s.th 0).wait with | .ctx r => some r | _ => none

theorem witness_ContextRestoreBlock_header :
    let s := heading goodHeader
    s.ctxDue 0 = true ∧ (ctxOf s).map (fun r => (r.save, r.checked, r.done, r.pois)) = some (false, false, 3, []) ∧
    ((ctxOf s).map fun r => (r.phys ((r.base.toNat + 512 * r.done) % 2 ^ 64)).isSome) = some true ∧
    (ctxOf s).map (fun r => (r.asked, r.image)) = some (blocks64 3 2048, goodHeader.take 1536) ∧
    ((ctxOf s).bind fun r => r.blockOf (blocks64 3 2048)) = some (goodHeader.drop 1536, []) ∧
    headerCode ((goodHeader.set 0 0).take 1536 ++ (goodHeader.set 0 0).drop 1536) [] = 1 := by
  refine ⟨?_, ?_, ?_, rfl, ?_, ?_⟩ <;> decide +kernel

/-- The checks that a header can fail (R194): magic, CRC, zeros and fold factors, the frozen fields. -/
theorem witness_ContextRestoreBlock_reasons :
    (let w := word64At (goodHeader.set 0 0)
     (goodHeader.set 0 0).length = 2048 ∧ wbits (w 0) 47 0 ≠ 0x0001_7C74_0740) ∧
    wbits (word64At goodHeader 0) 47 0 = 0x0001_7C74_0740 ∧
    (word64At (goodHeader.set 6 1) 0 &&& ~~~ BitVec.ofNat 64 (hdrMask 0 0) ≠ 0) ∧
    (word64At (goodHeader.set 0x18 33) 0x018).toNat % 64 = 33 := by
  refine ⟨⟨?_, ?_⟩, ?_, ?_, ?_⟩ <;> decide +kernel

theorem witness_ContextRestoreBlock_record :
    let s := with0 restoring fun h => match h.wait with
      | .ctx r => { h with wait := .ctx { r with got := r.got.map fun g => if g.1 = 256 then (256, List.replicate 8 0xFF, false) else g } }
      | _ => h
    s.ctxDue 0 = true ∧ ((ctxOf s).bind fun r => (r.blockOf (blocks64 r.done (hdrLen r.image))).map fun x =>
      (r.checked, decide (r.total = r.done + 1), r.pois, x.2, decide (hdrLen r.image ≤ (r.image ++ x.1).length),
        recordOk (recordAt ((r.image ++ x.1).take (hdrLen r.image)) 0) (s.th 0).pl)) = some (true, true, [], [], true, false) := by
  decide +kernel

/-- A TRSTR whose fifth block lies beyond the architectural range, with trays and slots in use. -/
def escaping (checked : Bool) : State := with0 shaped fun h => { h with wait := .ctx { ctxBegin false (2 ^ 57 - 2048) with
  checked := checked
  done := 4
  total := 5
  image := List.replicate 2048 0 } }

theorem witness_ContextRestoreBlock_stops :
    (let s := escaping true
     s.ctxDue 0 = true ∧ (ctxOf s).map (fun r => (r.checked, r.phys (2 ^ 57), (r.base.toNat + 512 * r.done) % 2 ^ 64)) =
       some (true, none, 2 ^ 57)) ∧
    (escaping false).ctxDue 0 = true ∧
    (let s := with0 (escaping true) fun h => { h with quietOver := some (1, 7) }
     (s.boundaryEv 0).isSome = true ∧ s.mayEnter 0 = true ∧ (s.slot 0).inuse = true ∧
     (after (.handlerEntry 0) s).map (fun u => (u.slot 0).inuse) = some false) ∧
    (let s := with0 (escaping false) fun h => { h with quietOver := some (1, 7) }
     (s.boundaryEv 0).isSome = true ∧ s.mayEnter 0 = true ∧
     (after (.handlerEntry 0) s).map (fun u => (u.slot 0).inuse) = some true) := by
  refine ⟨?_, ?_, ?_, ?_⟩ <;> decide +kernel

theorem witness_ContextRoundTrip :
    let s := shaped
    s.tile.badRow = [] ∧ (∀ T, 1 ≤ (s.tray T).rows ∧ (s.tray T).rows ≤ 32 ∧ 4 ≤ (s.tray T).bytes ∧ (s.tray T).bytes ≤ 128 ∧
      (s.tray T).bytes % 4 = 0) ∧ (∀ i, (s.slot i).fold = 0 ∨ (s.slot i).fold = 1 ∨ (s.slot i).fold = 2 ∨ (s.slot i).fold = 4) ∧
    (∀ i, (s.slot i).fp = true → ∀ e, e < 1024 → (s.elem (1024 * i.val + e)).toNat < 2 ^ 32) ∧ (s.slot 0).inuse = true ∧
    (s.slot 0).fp = true ∧ s.tile.tprog &&& 0x7C00_0000_000E_0000 = 0 ∧ wbit s.tile.tprog 63 = s.tile.frozen := by
  decide +kernel

/-! ### Memory -/

/-- An address of cacheable memory outside the windows. -/
def far : Word := 0x12_3456_7880

/-- The policy of untranslated accesses. -/
def cp (s : State) (pol : Nat) : State := s.setCom .xlt 0x50 (BitVec.ofNat 64 (2 * pol))

/-- A store-buffer entry. -/
def stored (pa n pol : Nat) : SbEntry where
  seq := 0
  thr := 0
  pa := pa
  bytes := List.replicate n 5
  pol := pol
  lvl := 3
  asked := false

/-- The same state with a store buffer. -/
def buffered (s : State) (l : List SbEntry) : State := { s with ls := { s.ls with sb := l, sbSeq := l.length } }

/-- The same state with a shelf block poisoned. -/
def poisoned (s : State) (b : Nat) : State := { s with ls := { s.ls with shelfPois := [b] } }

theorem witness_Loads :
    (loadOf (.ldd 0 1 0 none) = some (0, 1, 0, none, 8) ∧ Goes (live [2 ^ 57]) 0 1 ∧
      2 ^ 57 ≤ (effAddr (live [2 ^ 57]) 0 0 none).toNat) ∧
    (let s := live [0xFE_0005_FFF8]
     Goes s 0 1 ∧ directAt s 0 (effAddr s 0 0 none) 8 0xFE_0005_FFF8 ∧ s.shelfOff 0xFE_0005_FFF8 = some 0x5FFF8 ∧
     s.ls.sb = [] ∧ s.l1Way (0xFE_0005_FFF8 / 64) = none ∧ shelfClean s 0x5FFF8 ∧
     s.ls.shelfPois.contains (0x5FFF8 / 64) = false ∧ (poisoned s 0x17FF).ls.shelfPois.contains (0x5FFF8 / 64) = true) ∧
    (let s := buffered (cp (live [far]) 0) [stored far.toNat 8 0]
     Goes s 0 1 ∧ directAt s 0 far 8 far.toNat ∧ s.window far.toNat = .mem ∧ s.policyAt far.toNat (wbits (s.com .xlt 0x50) 2 1) ≠ 3 ∧
     (∀ k, k < 8 → s.sbByte (far.toNat + k) = (List.replicate 8 (5 : Byte))[k]?)) ∧
    (let s := buffered (cp (live [far]) 0) [stored far.toNat 1 0]
     s.sbByte (far.toNat + 0) ≠ none ∧ s.sbByte (far.toNat + 7) = none) ∧
    (let s := cp (live [far]) 1
     let t : State := { s with ls := { s.ls with
      l1 := [(4 * (far.toNat / 64 % 128) + 3, { blk := far.toNat / 64, data := List.replicate 64 9, bad := false })] } }
     t.l1Way (far.toNat / 64) = some 3 ∧ t.policyAt far.toNat (wbits (t.com .xlt 0x50) 2 1) < 2 ∧ t.ls.sb = []) := by
  refine ⟨?_, ?_, ?_, ?_, ?_⟩ <;> decide +kernel

theorem witness_Loads_block :
    let s := cp (live [far]) 1
    let x : L1Line := { blk := far.toNat / 64, data := List.replicate 64 9, bad := false }
    let t : State := { s with ls := { s.ls with l1 := [(4 * (far.toNat / 64 % 128) + 3, x)] } }
    lookup t.ls.l1 (4 * (far.toNat / 64 % 128) + 3) = some x ∧ x.bad = false ∧ 64 ≤ x.data.length ∧ Goes t 0 1 ∧
    directAt t 0 far 8 far.toNat ∧ t.window far.toNat = .mem := by decide +kernel

theorem witness_Stores :
    (storeOf (.std 0 1 0 none) = some (0, 1, 0, none, 8) ∧ Goes (live [2 ^ 57]) 0 1 ∧
      2 ^ 57 ≤ (effAddr (live [2 ^ 57]) 0 0 none).toNat) ∧
    (let s := buffered (live [far]) (List.replicate 31 (stored 0 1 2))
     let full := buffered (live [far]) (List.replicate 32 (stored 0 1 2))
     Goes s 0 1 ∧ directAt s 0 (effAddr s 0 0 none) 8 far.toNat ∧ s.ls.sb.length < 32 ∧ Goes full 0 1 ∧ 32 ≤ full.ls.sb.length ∧
     (s.th 0).pl = 3) ∧
    (let s := with0 (atLevel (live [0xFE_0000_0FF8]) 1) fun h => { h with mshl := 0x1000 }
     Goes s 0 1 ∧ directAt s 0 (effAddr s 0 0 none) 8 0xFE_0000_0FF8 ∧ (s.th 0).pl ≠ 3 ∧ s.shelfOff 0xFE_0000_0FF8 = some 0xFF8 ∧
     (s.th 0).protects 0xFF8 8 = true) ∧
    (let s := buffered (live [0x12_3456_78BC]) (List.replicate 30 (stored 0 1 2))
     let va := effAddr s 0 0 none
     Goes s 0 1 ∧ s.untranslated (s.th 0).pl = true ∧ va.toNat + 8 ≤ 2 ^ 40 ∧ 64 - va.toNat % 64 = 4 ∧ s.ls.sb.length < 31) ∧
    (let e := stored 0xFE_0005_FFF8 8 2
     let s := buffered (live []) [e]
     (∀ v, (s.th v).wait = .none) ∧ (∀ c, (s.chan c).desc = none) ∧ s.tile.mem = [] ∧ s.released = true ∧ s.tmg.ret = none ∧
     s.shelfOff e.pa = some 0x5FFF8 ∧ 0x5FFF8 + e.bytes.length ≤ 393216 * s.ls.ways ∧ 0x5FFF8 % 64 + e.bytes.length ≤ 64 ∧
     shelfClean s 0x5FFF8) ∧
    (let e := stored (far.toNat + 56) 8 2
     let s := buffered (live []) [e]
     s.window e.pa = .mem ∧ s.evicting (e.pa / 128) = false ∧ s.lsWay (e.pa / 128) = none ∧ e.pa % 64 + e.bytes.length ≤ 64 ∧
     s.window (128 * (e.pa / 128)) = .mem ∧ (s.freeIdx true).isSome = true) := by
  refine ⟨?_, ?_, ?_, ?_, ?_, ?_⟩ <;> decide +kernel

/-- A load from `far`, untranslated with policy `pol`, with lines in the local store. -/
def caching (pol : Nat) (va : Word) (l : List (Nat × LsLine)) : State :=
  let s := cp (live [va, 0xAB]) pol
  { s with ls := { s.ls with lines := l } }

/-- The line of `far`, in way 9 of its set. -/
def farLine (dirty : Bool) (pois : BitVec 2) : LsLine :=
  { line := far.toNat / 128, dirty := dirty, data := List.replicate 128 9, pois := pois, errs := (0, 0), tagErr := 0 }
def farCell : Nat := (live []).cell (far.toNat / 128 % 3072) 9

theorem witness_Loads_split :
    let va : Word := 0xFE_0000_003C
    let s := live [va]
    (Goes s 0 1 ∧ s.untranslated (s.th 0).pl = true ∧ va.toNat + 8 ≤ 2 ^ 40 ∧ 64 - va.toNat % 64 = 4 ∧ s.shelfOff va.toNat = some 0x3C ∧
      s.shelfOff (va.toNat + 4) = some 0x40 ∧ s.ls.sb = [] ∧ s.l1Way (va.toNat / 64) = none ∧ s.l1Way (va.toNat / 64 + 1) = none ∧
      shelfClean s 0x3C ∧ shelfClean s 0x40 ∧ s.ls.shelfPois = []) ∧
    (poisoned s 1).ls.shelfPois.contains (0x3C / 64) = false ∧ (poisoned s 1).ls.shelfPois.contains (0x40 / 64) = true ∧
    (poisoned s 0).ls.shelfPois.contains (0x3C / 64) = true := by
  refine ⟨?_, ?_⟩ <;> decide +kernel

theorem witness_Loads_lines :
    let l := far.toNat / 128
    (let s := caching 1 far [(farCell, farLine false 2)]
     Goes s 0 1 ∧ directAt s 0 far 8 far.toNat ∧ s.window far.toNat = .mem ∧ s.ls.sb = [] ∧
     s.policyAt far.toNat (wbits (s.com .xlt 0x50) 2 1) = 1 ∧ s.l1Way (far.toNat / 64) = none ∧ soundLine s l 9 (farLine false 2) ∧
     far.toNat % 128 / 64 = 0 ∧ wbit (farLine false 2).pois 0 = false ∧ wbit (farLine false 1).pois 0 = true) ∧
    soundLine (caching 1 far [(farCell, farLine false 1)]) l 9 (farLine false 1) ∧
    (let s := caching 1 far []
     lineAbsent s l ∧ s.wayOk l 0 = true ∧ emptyWay s l 0 ∧ s.freeIdx true = some 0) ∧
    (let s := caching 2 far []
     directAt s 0 far 8 far.toNat ∧ s.policyAt far.toNat (wbits (s.com .xlt 0x50) 2 1) = 2 ∧ s.lsWay l = none ∧ s.evicting l = false ∧
     s.freeIdx true = some 0) ∧
    (let s := caching 3 far []
     directAt s 0 far 8 far.toNat ∧ s.policyAt far.toNat (wbits (s.com .xlt 0x50) 2 1) = 3 ∧ far.toNat % 8 = 0) := by
  refine ⟨?_, ?_, ?_, ?_, ?_⟩ <;> decide +kernel

/-- Thread 0 at S or U with an entry of the L1 data TLB for the page of `far`, mapped to itself, and its block in the L1D. -/
def mapped (pl : Nat) (flags : Word) (k : Option Nat) : State :=
  let s := atLevel (core [] [far, 0xAB]) pl
  let page := far.toNat / 2 ^ 14 * 2 ^ 14
  { s with
    xl := { s.xl with l1tlb := [{ base := page, k := k.getD 14, leaf := BitVec.ofNat 64 page ||| flags, span := none, bad := false }] }
    ls := { s.ls with l1 := [(4 * (far.toNat / 64 % 128) + 3, { blk := far.toNat / 64, data := List.replicate 64 9, bad := false })] } }

/-- The entry that covers `far` and what it permits. -/
def mapOf (s : State) : Option (Nat × Nat × Bool × Bool × Bool × Bool) :=
  s.xl.l1tlb.head?.map fun x => (tlbAddr far x, tlbPol s far x, wbit x.leaf 2, wbit x.leaf 3, wbit x.leaf 5, wbit x.leaf 9)

theorem witness_Loads_translated :
    (let s := mapped 1 0x44 none
     Goes s 0 1 ∧ s.untranslated (s.th 0).pl = false ∧ far.toNat < 2 ^ 57 ∧ s.xl.spans = [] ∧
     s.xl.l1tlb.find? (fun y => y.span.isNone && far.toNat / 2 ^ y.k = y.base / 2 ^ y.k) = s.xl.l1tlb.head? ∧
     mapOf s = some (far.toNat, 1, true, false, false, false) ∧ far.toNat % 64 + 8 ≤ 64 ∧ s.window far.toNat = .mem ∧ s.ls.sb = [] ∧
     s.l1Way (far.toNat / 64) = some 3) ∧
    (let s := mapped 0 0x44 none
     Goes s 0 1 ∧ (s.th 0).pl = 0 ∧ (mapOf s).map (·.2.2.2.2.1) = some false) ∧
    (let s := mapped 0 0x60 none
     Goes s 0 1 ∧ (s.th 0).pl = 0 ∧ (mapOf s).map (fun x => (x.2.2.1, x.2.2.2.2.1)) = some (false, true)) ∧
    (let s : State := { mapped 1 0 none with xl := Xlate.reset }
     Goes s 0 1 ∧ tlbMisses s 0 far) := by
  refine ⟨?_, ?_, ?_, ?_, ?_⟩ <;> decide +kernel

theorem witness_Stores_translated :
    (let s := mapped 1 0x248 none
     Goes s 0 1 ∧ mapOf s = some (far.toNat, 1, false, true, false, true) ∧ s.shelfOff far.toNat = none ∧ s.ls.sb.length < 32) ∧
    (mapOf (mapped 0 0x248 none)).map (fun x => (x.2.2.2.2.1, x.2.2.2.2.2)) = some (false, true) ∧
    (mapOf (mapped 1 0x244 none)).map (fun x => (x.2.2.2.1, x.2.2.2.2.2)) = some (false, true) ∧
    (let s := mapped 1 0x4C none
     Goes s 0 1 ∧ (mapOf s).map (·.2.2.2.2.2) = some false ∧ s.xl.walks.length < 8 ∧ s.quiescing .xlt = false ∧ s.xl.walks = []) := by
  refine ⟨?_, ?_, ?_, ?_⟩ <;> decide +kernel

/-- A store of eight bytes at `far`, the head of the store buffer, with a page policy. -/
def leaving (pol : Nat) (l : List (Nat × LsLine)) : State :=
  let s := buffered (live []) [stored far.toNat 8 pol]
  { s with ls := { s.ls with
      lines := l
      l1 := [(4 * (far.toNat / 64 % 128) + 3, { blk := far.toNat / 64, data := List.replicate 64 9, bad := false })] } }

theorem witness_Stores_leaving :
    let l := far.toNat / 128
    (∀ pol, pol = 0 ∨ pol = 1 ∨ pol = 2 →
      let s := leaving pol []
      s.released = true ∧ s.tmg.ret = none ∧ s.window far.toNat = .mem ∧ s.window (128 * l) = .mem ∧ lineAbsent s l ∧
      emptyWay s l 0 ∧ s.freeIdx true = some 0 ∧ s.freeIdx false = some 64 ∧ s.l1Way (far.toNat / 64) = some 3 ∧
      s.ls.sb.map (fun e => (e.pa, e.pol, e.bytes.length, e.asked)) = [(far.toNat, pol, 8, false)]) ∧
    soundLine (leaving 0 [(farCell, farLine false 0)]) l 9 (farLine false 0) ∧
    (leaving 0 [(farCell, farLine false 0)]).fillOf l = none ∧ (leaving 0 [(farCell, farLine false 0)]).sideOf l = none ∧
    soundLine (leaving 1 [(farCell, farLine false 0)]) l 9 (farLine false 0) := by
  refine ⟨?_, ?_, ?_, ?_, ?_⟩
  · rintro pol (rfl | rfl | rfl) <;> decide +kernel
  all_goals decide +kernel

/-- An XINV that finds a store in the buffer waits for the request that the store makes (R239, R260). -/
theorem test_xinv_waits_for_a_buffered_stores_request :
    let s := leaving 2 []
    let t : State := { s with noc := { s.noc with xinvs := [{ s.inFlight false with h := hdr 4 0 0 }] } }
    (t.ls.sb.map fun e => decide (e.seq < (s.inFlight false).sb)) = [true] ∧
    (after .storeBufferLeave t).map (fun u => (u.ls.sb.length, u.noc.queue, u.noc.xinvs.map (·.waitFor),
      u.noc.xinvs.map fun x => u.flown x.toInFlight)) = some (0, [0], [[0]], [false]) := by decide +kernel

theorem witness_Atomics :
    (amoOf (.amoCas 0 true 1 0 2) = some (0, 9, true, 1, 0, 2) ∧ Goes (live [4]) 0 2 ∧ (4 : Word).toNat % 8 ≠ 0) ∧
    (let s := with0 (atLevel (live [0xFE_0000_0FF8]) 1) fun h => { h with mshl := 0x1000 }
     Goes s 0 2 ∧ directAt s 0 (s.g 0 0) 8 0xFE_0000_0FF8 ∧ (s.th 0).pl ≠ 3 ∧ s.shelfOff 0xFE_0000_0FF8 = some 0xFF8 ∧
     (s.th 0).protects 0xFF8 8 = true) ∧
    (let s := live [0xFE_0005_FFF8]
     Goes s 0 2 ∧ directAt s 0 (s.g 0 0) 8 0xFE_0005_FFF8 ∧ (s.th 0).pl = 3 ∧ s.sbHas 0 = false ∧
     s.shelfOff 0xFE_0005_FFF8 = some 0x5FFF8 ∧ shelfClean s 0x5FFF8 ∧ s.ls.shelfPois.contains (0x5FFF8 / 64) = false) ∧
    (let s := live [far]
     let l := far.toNat / 128
     Goes s 0 2 ∧ directAt s 0 (s.g 0 0) 8 far.toNat ∧ s.sbHas 0 = false ∧ s.window far.toNat = .mem ∧ s.fillOf l = none ∧
     s.evicting l = false ∧ s.lsWay l = none ∧ s.sideOf l = none ∧ (s.freeIdx true).isSome = true) := by
  refine ⟨?_, ?_, ?_, ?_⟩ <;> decide +kernel

/-- A line in set 3071, way 14. -/
def lined (dirty : Bool) (g : List Word) : State :=
  let s := live g
  { s with ls := { s.ls with
      lines := [(16 * 3071 + 14, { line := 3071, dirty := dirty, data := List.replicate 128 1, pois := 0, errs := (0, 0), tagErr := 0 })] } }

/-- A table entry for a request. -/
def request (kind : ReqKind) (src : Src) (typ addr size : Nat) (sent : Bool) : RtEntry :=
  { newReq kind src typ addr size with sent := sent }

/-- A core with one table entry, the last of the table, and nothing else that waits. -/
def requesting (e : RtEntry) : State :=
  let s := live []
  { s with noc := { s.noc with rt := [(2047, e)], queue := if e.sent then [] else [2047] } }

theorem witness_FencesAndMaintenance :
    (Goes (live []) 0 2 ∧ (∀ e ∈ (live []).ls.sb, e.thr ≠ 0) ∧ (live []).noc.rt = []) ∧
    (let s := buffered (live []) [stored 0 1 2]
     Goes s 0 2 ∧ ¬ ∀ e ∈ s.ls.sb, e.thr ≠ 0) ∧
    (let s := live []
     let c : State := { s with noc := { s.noc with clears := [{ s.inFlight true with who := .thread 0 }] } }
     Goes c 0 2 ∧ ¬ ∀ x ∈ c.noc.clears, x.who ≠ .thread 0) ∧
    (Goes (atLevel (live []) 0) 0 2 ∧ ((atLevel (live []) 0).th 0).pl = 0 ∧ ((live []).freeIdx false).isSome = true) ∧
    (let ga : Word := 3071 + 14 * 2 ^ 16
     let s := lined true [ga]
     Goes s 0 2 ∧ ga.toNat % 2 ^ 12 = 3071 ∧ ga.toNat / 2 ^ 16 % 16 = 14 ∧ wbit (s.com .rpr 0x50) 14 = true ∧ ¬ 16 ≤ 14 + s.ls.ways ∧
     (lookup s.ls.lines (16 * 3071 + 14)).isSome = true ∧ s.sideOf 3071 = none ∧ (s.freeIdx true).isSome = true ∧
     s.sbHolds 0 (128 * 3071) 128 = false ∧ Goes (lined false [ga]) 0 2 ∧
     (let b := buffered s [stored (128 * 3071 + 127) 1 1]
      Goes b 0 2 ∧ b.sbHolds 0 (128 * 3071) 128 = true)) ∧
    (Goes (live [3072]) 0 2 ∧ 3072 ≤ (3072 : Word).toNat % 2 ^ 12) ∧
    (let s := cp (live [far]) 1
     let l := far.toNat / 128
     Goes s 0 2 ∧ directAt s 0 (s.g 0 0) 0 far.toNat ∧ s.window far.toNat = .mem ∧
     s.policyAt far.toNat (wbits (s.com .xlt 0x50) 2 1) < 2 ∧ s.fillOf l = none ∧ s.evicting l = false ∧ s.sideOf l = none ∧
     s.lsWay l = none ∧ s.sbHolds 0 (128 * l) 128 = false) ∧
    (Goes (live [2 ^ 57]) 0 2 ∧ 2 ^ 57 ≤ ((live [2 ^ 57]).g 0 0).toNat) := by
  refine ⟨?_, ?_, ?_, ?_, ?_, ?_, ?_, ?_⟩ <;> decide +kernel

theorem witness_FencesAndMaintenance_waits :
    (let s := requesting (request (.xinv 0 .cluster) (.maint 0) 4 0 0 true)
     Goes s 0 2 ∧ s.noc.rt.any (fun x => decide (x.2.kind = .xinv 0 .cluster) && !x.2.dead) = true ∧ (∀ e ∈ s.ls.sb, e.thr ≠ 0)) ∧
    (let s := requesting (request .write (.thread 0) 1 0x1000 4 true)
     Goes s 0 2 ∧ s.homeScope 0x1000 = 2 ∧ scopeRank .cluster = 1 ∧ scopeRank .chip = 2) ∧
    l1Once (lined false []) (2 * 3071) ∧ (lined false []).cell 3071 14 = 16 * 3071 + 14 ∧
    ((lined false []).ls.lines.map fun l => (l.2.line % 3072, l.2.errs, l.2.tagErr, l.2.dirty)) = [(3071, (0, 0), 0, false)] := by
  refine ⟨by decide +kernel, by decide +kernel, ?_, by decide +kernel, by decide +kernel⟩
  intro v w x y _ _ h
  simp [lined, live, core, State.reset, LStore.reset] at h

/-! ### Threads and the Scale -/

theorem witness_ThreadsRunAndSleep :
    let s := live []
    let woken : State := { with0 s fun h => { h with sleep := .asleep, quietOver := some (0, 1) } with free := 0 }
    let stop := s.setCom .tmg 0xB8 0
    let reset := with0 s fun h => { h with resetReq := true, tcmp := 5 }
    let late : State := { reset with tmg := { reset.tmg with time := 5 } }
    (Goes s 0 2 ∧ s.sleBit 0 = true ∧ s.served = true ∧ (s.th 0).halted = false) ∧
    ((woken.th 0).sleep ≠ .awake ∧ (woken.th 0).quietOver.isSome = true ∧ woken.alive = true) ∧
    (stop.runBit 0 = false ∧ (stop.th 0).stopped = false ∧ (stop.th 0).halted = false ∧ (stop.th 0).boundary = true) ∧
    (s.runBit 0 = true ∧ nbit (0xF : BitVec 4).toNat 0 = true ∧ ((with0 s fun h => { h with halted := true }).th 0).halted = true) ∧
    (reset.alive = true ∧ (reset.th 0).resetReq = true ∧ (reset.th 0).boundary = true ∧ reset.tile.owner ≠ some 0) ∧
    ((late.th 0).tcmp ≠ 0 ∧ (late.th 0).tcmp.toNat ≤ late.tmg.time ∧ late.alive = true) ∧
    reset.tmg.time < (reset.th 0).tcmp.toNat := by
  refine ⟨?_, ?_, ?_, ?_, ?_, ?_, ?_⟩ <;> decide +kernel

theorem witness_ThreadsRunAndSleep_resets :
    let s := live []
    let step := with0 s fun h => { h with stat := 0x403 }
    let woken := with0 s fun h => { h with sleep := .asleep, quietOver := some (0, 1) }
    let own (l : List QEntry) (k : HThread → HThread) : State :=
      with0 { owned [] with tile := { (owned []).tile with queue := l } } k
    let busy := own [entryMade (owned []) 0 0x22 0 0 0 0] fun h => { h with resetReq := true, wait := .tsync }
    (wakes woken 0 ∧ woken.runBit 0 = true ∧ woken.alive = true) ∧ ((step.th 0).done 2).stepTrap = true ∧
    ((live []).served = true ∧ (live []).noc.inbox = []) ∧
    (busy.alive = true ∧ (busy.th 0).resetReq = true ∧ (busy.th 0).boundary = true ∧ busy.tile.owner = some 0 ∧ busy.tile.queue ≠ [] ∧
      busy.tile.frozen = false ∧ (busy.th 0).wait ≠ .none ∧ (busy.th 0).wait ≠ .stall ∧ (busy.th 0).wait.interruptible = true ∧
      ∀ x, (busy.th x).wipes = false) ∧
    (let s := own [entryMade (owned []) 0 0x22 0 0 0 0] fun h => { h with resetReq := true }
     (s.th 0).wait = .none ∧ s.tile.owner = some 0 ∧ s.tile.queue ≠ [] ∧ s.tile.frozen = false) := by
  refine ⟨⟨Or.inr (Or.inr (Or.inl ?_)), ?_, ?_⟩, ?_, ?_, ?_, ?_⟩ <;> decide +kernel

/-- A budget grant with these two words. -/
def granted (w0 w1 : Word) : List Byte := bytesOf 8 w0.toNat ++ bytesOf 8 w1.toNat ++ List.replicate 48 0

theorem witness_ScaleAccounts :
    let s := live []
    let free (s : State) : Prop := s.en .scl = true ∧ s.quiescing .scl = false ∧ s.en .tmg = true ∧
      s.scl.lastMove + 100 * (s.comN .scl 0x78 / 2 ^ 8 % 256) ≤ s.tmg.time
    let later := s.setCom .scl 0x78 0x3203
    let due : State := { later with tmg := { later.tmg with time := 5000 }, tile := { later.tile with deferred := true } }
    let up : State := { (due.setCom .scl 0x68 0) with tile := s.tile }
    (s.tmg.ret = none ∧ ({ s with tmg := { s.tmg with ret := some 5 } } : State).tmg.ret ≠ none) ∧
    (free due ∧ due.tile.deferred = true ∧ due.comN .scl 0x78 % 2 = 1 ∧
      max (due.comN .tmg 0x90 / 2 ^ 4 % 8) (due.tmg.vlCur.val - 1) ≠ due.tmg.vlWant.val) ∧
    (free up ∧ ¬ up.tile.deferred = true ∧ up.comN .scl 0x78 / 2 % 2 = 1 ∧ up.hiwat ≤ up.scl.bal ∧
      up.tmg.vlWant.val < up.comN .tmg 0x90 / 2 ^ 8 % 8) ∧
    ¬ free s ∧ (s.hears = true ∧ (hdr 3 0xFA_0000_0000 0).addr.toNat = s.mmioBase) ∧
    (let d := granted 0x0001_0000_0000_0010 (2 ^ 48 - 1)
     d.length = 64 ∧ ¬ (2 ^ 49 ≤ (word64At d 8).toNat ∨ ∃ b ∈ d.drop 16, b ≠ 0) ∧ (word64At d 8).toNat / 2 ^ 47 % 2 = 1 ∧
     s.scl.seen = false) ∧
    2 ^ 49 ≤ (word64At (granted 0 (2 ^ 49)) 8).toNat := by
  refine ⟨?_, ?_, ?_, ?_, ?_, ?_, ?_⟩ <;> decide +kernel

/-- A core that has seen grant 7, and grant 7 again: it is a duplicate, and the balance stays at what it was (R291). -/
theorem witness_ScaleAccounts_duplicate :
    let s : State := { live [] with scl := { (live []).scl with seen := true, grantSeq := 7, bal := 160 } }
    let d := granted 0x0007_0000_0000_0010 0
    let u := after (.budgetGrant { hdr 3 0xFA_0000_0000 0 with mkind := 2 } d) s
    (s.scl.seen = true ∧ (word64At d 0).toNat / 2 ^ 48 = s.scl.grantSeq.toNat ∧
      ¬ (2 ^ 49 ≤ (word64At d 8).toNat ∨ ∃ b ∈ d.drop 16, b ≠ 0) ∧ Hears s) ∧
    (u.map fun u => (u.scl.bal, wbit (u.frame .scl).event 3, wbit (u.frame .scl).event 2)) = some (160, true, false) := by
  refine ⟨⟨?_, ?_, ?_, ?_⟩, ?_⟩ <;> decide +kernel

/-! ### The NoC port -/

theorem witness_RequestsLeave :
    let e := request .write (.thread 0) 1 0x1000 4 false
    let s := requesting e
    let held : State := { s with noc := { s.noc with rt := (0, e) :: s.noc.rt, queue := [0, 2047] } }
    (lookup s.noc.rt 2047 = some e ∧ s.portRuns = true ∧ Calm s ∧ e.sent = false ∧ e.dead = false ∧ e.after = none ∧
      s.noc.queue.takeWhile (· ≠ 2047) = []) ∧
    (held.noc.queue.takeWhile (· ≠ 2047) = [0] ∧ lookup held.noc.rt 0 = some e ∧ e.addr / 128 = e.addr / 128 ∧ e.typ ≠ 0) := by
  refine ⟨?_, ?_⟩ <;> decide +kernel

/-- A whole write of 64 bytes, and the same with a mask. -/
def flits (masked : Bool) : Packet where
  typ := 1
  tag := { idx := 5, gen := 1 }
  schip := 0
  sclu := 3
  score := 2
  addr := 0x1000
  size := 4
  op := 0
  psn := 0
  sts := 0
  sc := 0
  masked := masked
  mkind := 0
  data := List.replicate 64 7
  mask := if masked then List.replicate 64 true else []

theorem witness_RequestsLeave_reset :
    (let e := request .write (.thread 0) 1 0x1000 4 false
     let s : State := { requesting e with phase := .warmReset }
     s.phase = .warmReset ∧ Calm s ∧ lookup s.noc.rt 2047 = some e ∧ e.after = none ∧ s.noc.queue.takeWhile (· ≠ 2047) = []) ∧
    ((flits true).data.length = 64 * 1 ∧ (flits true).masked = true ∧ (flits true).mask.length = 64 * 1 ∧
      (flits false).data.length = 64 * 1 ∧ (flits false).masked = false) ∧
    (let e : RtEntry := { request .write (.thread 0) 1 0x1000 4 false with after := some 3 }
     lookup (requesting e).noc.rt 2047 = some e ∧ e.after ≠ none) ∧
    (live []).portRuns = true ∧ ¬ ((State.reset).portRuns = true ∨ State.reset.phase = .warmReset) := by
  refine ⟨?_, ?_, ?_, ?_, ?_⟩ <;> decide +kernel

theorem witness_PortAnswers :
    let w := request .write (.thread 0) 1 0x1000 4 true
    let dead : RtEntry := { w with dead := true }
    let fill := request (.fill 3 (some 14) false []) (.thread 0) 0 384 5 true
    (live []).portRuns = true ∧ lookup (live []).noc.rt 0 = none ∧
    (lookup (requesting w).noc.rt 2047 = some w ∧ (requesting w).portRuns = true ∧ (requesting w).alive = true ∧ Calm (requesting w) ∧
      w.sent = true ∧ w.dead = false ∧ w.susp = false ∧ w.tmo ≤ w.timer) ∧
    ({ w with susp := true } : RtEntry).holdmax ≤ w.held ∧ ({ w with tmo := 1 } : RtEntry).timer < 1 ∧
    ((requesting fill).wayEnabled 14 = true ∧ 14 + (requesting fill).ls.ways < 16 ∧ (requesting fill).ls.growth = none) ∧
    (let p : PendAmo := { op := 0, wide := false, gd := 1, gsv := 0, gdv := 0, ea := 0, sent := true }
     let s := with0 (requesting (request (.atom 0) (.thread 0) 2 0x1000 2 true)) fun h => { h with wait := .amo p }
     (∀ v, v ≠ 0 → (s.th v).wait = .none) ∧ (∀ c, (s.chan c).desc = none) ∧ s.tile.mem = [] ∧ (s.th 0).wait = .amo p) ∧
    (let x : Part := { va := 0x1038, len := 8, pa := some (0x1038, 2), asked := true, got := none }
     let e := request (.uncRead (.load 0)) (.thread 0) 0 0x1038 3 true
     let s := with0 (requesting e) fun h => { h with wait := .load { d := 1, size := 8, words := 1, parts := [x], held := false } }
     (s.th 0).wait = .load { d := 1, size := 8, words := 1, parts := [x], held := false } ∧ x.len = 2 ^ e.size ∧ e.addr % 64 + x.len ≤ 64) ∧
    (lookup (requesting dead).noc.rt 2047 = some dead ∧ dead.dead = true ∧ Calm (requesting dead) ∧ dead.tmo ≤ dead.quar) := by
  refine ⟨?_, ?_, ?_, ?_, ?_, ?_, ?_, ?_, ?_⟩ <;> decide +kernel

theorem witness_PortAnswers_notices :
    let w := request .write (.thread 0) 1 0x1000 4 true
    let r := request (.uncRead (.load 0)) (.thread 0) 0 0x1038 3 true
    (w.typ = 1 ∧ r.typ = 0 ∧ r.size ≠ 5 ∧ (List.replicate 64 (0 : Byte)).length = 64) ∧
    ((2 : BitVec 3) ≠ 0 ∧ (2 : BitVec 3) ≠ 3 ∧ w.kind = .write) ∧
    (let e := request (.xinv 0 .cluster) (.maint 0) 4 0 0 true
     lookup (requesting e).noc.rt 2047 = some e ∧ e.typ = 4 ∧ Calm (requesting e) ∧ (requesting e).portRuns = true) := by
  refine ⟨?_, ?_, ?_⟩ <;> decide +kernel

/-- The driver has cleared span 5, with or without a write still in the port. -/
def clearing (queued : Bool) : State :=
  State.mmioWrite (if queued then requesting (request .write (.thread 0) 1 0x1000 4 false) else live []) .driver 0x7078 0x1005

/-- In retention at level 5, while waking, and with something in the port. -/
def retained : State := { live [] with tmg := { (live []).tmg with ret := some 5 } }
def waking : State := { live [] with tmg := { (live []).tmg with waking := some (5, 0) } }
def heard : State := { live [] with noc := { (live []).noc with inbox := [.doorbell { hdr 3 0xFA_0000_0000 0 with mkind := 1 }] } }

theorem witness_InboundMemory_waits :
    (Hears (live []) ∧ retained.released = true ∧ retained.tmg.ret ≠ none ∧ waking.released = true ∧ waking.tmg.waking ≠ none ∧
      heard.released = true ∧ heard.noc.inbox ≠ [] ∧ State.reset.released = false ∧ State.reset.hears = false) ∧
    fromOutside (live []) (.nocRdIn (hdr 0 0x1000 5)) ∧ fromOutside (live []) (.xinvIn { hdr 4 0x1000 0 with op := 11 }) ∧
    ((live []).window 0xFA_0000_0041 = .mmio 0x41 ∧ (0xFA_0000_0041 : Nat) % 8 ≠ 0) ∧
    ((live []).weight 0x18 = 0 ∧ (live []).weight 0x17 = 0 ∧ (core [.pmc] []).en .pmc = false ∧ -2 ^ 51 ≤ (live []).scl.bal) := by
  refine ⟨by decide +kernel, ⟨rfl, by decide, Or.inl (by decide)⟩, ⟨rfl, by decide⟩, by decide +kernel, by decide +kernel⟩

theorem witness_InboundMemory :
    let s := live []
    let shelf := 0xFE_0000_0000
    (s.hears = true ∧ s.window (shelf + 0x5FFF8) = .shelf 0x5FFF8 ∧ s.window 0xFA_0000_FFF8 = .mmio 0xFFF8 ∧ s.window 0x1000 = .mem ∧
      s.window s.crockBase = .crock 0) ∧
    (let h := hdr 0 (shelf + 0x5FF80) 5
     h.typ = 0 ∧ h.size.toNat ≤ 5 ∧ h.addr.toNat % lenOf h = 0 ∧ 0x5FF80 + lenOf h ≤ 393216 * s.ls.ways ∧
     ∀ b, 0x5FF80 / 64 ≤ b → b < 0x5FF80 / 64 + 2 → lookup s.ls.shelfErrs b = none) ∧
    393216 * s.ls.ways < 0x60000 + 8 ∧
    (let h := { hdr 1 (shelf + 0x40) 4 with masked := true }
     h.typ = 1 ∧ h.psn = 0 ∧ h.addr.toNat % lenOf h = 0 ∧ (List.replicate 64 true).length = (List.replicate 64 (0 : Byte)).length) ∧
    (let h := { hdr 1 0xFA_0000_0048 3 with sclu := 0x3F, score := 0xF }
     h.typ = 1 ∧ s.window h.addr.toNat = .mmio 0x48 ∧ h.addr.toNat % lenOf h = 0) ∧
    (let h := hdr 6 (shelf + 0x80) 5
     h.typ = 6 ∧ h.addr.toNat % lenOf h = 0 ∧ (List.replicate 128 (0 : Byte)).length = lenOf h) ∧
    (let h := { hdr 2 (shelf + 8) 3 with op := 9 }
     h.typ = 2 ∧ h.size = 3 ∧ h.op.toNat ≤ 9 ∧ h.addr.toNat % lenOf h = 0) ∧
    ((with0 s fun h => { h with mshl := 0x1000 }).th 0).protects 0xFFF 1 = true ∧
    ClearWaits (clearing true) 0x7078 0x1005 ∧ ¬ ClearWaits (clearing false) 0x7078 0x1005 := by
  refine ⟨?_, ?_, ?_, ?_, ?_, ?_, ?_, ?_, ?_, ?_⟩ <;> decide +kernel

/-- A span clear of the host waits for a write still in the port, and is acknowledged once that has left (R256). -/
theorem test_span_clear_is_acknowledged_late :
    let s := requesting (request .write (.thread 0) 1 0x1000 4 false)
    let h : Hdr := { hdr 1 0xFA_0000_7078 3 with sclu := 0x3F, score := 0xF }
    let data : List Byte := List.replicate 56 0 ++ [5, 0x10, 0, 0, 0, 0, 0, 0]
    (match exec (.nocWrIn h data []) s with
     | .next u => decide (u.noc.out = s.noc.out ∧ u.noc.clears.length = 1 ∧ u.clearAck.noc.clears.length = 1) &&
        (let v := ({ u with noc := { u.noc with clears := u.noc.clears.map fun x => { x with waitFor := [] } } } : State).clearAck
         decide (v.noc.clears = [] ∧ v.noc.out.map (·.typ) = some 9))
     | _ => false) = true := by decide +kernel

theorem witness_InboundMessages :
    let s := live []
    let x : XinvIn := { h := { hdr 4 0x1000 0 with op := 11 }, clear := false, waitFor := [], sb := 0, lines := [], runs := [], thr := [] }
    let one : State := { s with noc := { s.noc with xinvs := [x] } }
    (s.hears = true ∧ x.h.typ = 4 ∧ x.h.op.toNat < 12) ∧
    (one.noc.xinvs = [x] ∧ one.hears = true ∧ x.waitFor = [] ∧ one.ls.sb = [] ∧ one.tile.mem = [] ∧ one.openRuns false = [] ∧ x.thr = []) ∧
    ({ x with waitFor := [3] } : XinvIn).waitFor ≠ [] ∧
    (let h := { hdr 3 0xFA_0000_0000 0 with mkind := 1 }
     h.typ = 3 ∧ h.mkind = 1 ∧ h.addr.toNat = s.mmioBase) ∧
    (hdr 5 0 0).typ = 5 ∧ ((hdr 3 0 0).typ = 3 ∧ (hdr 3 0 0).mkind ≠ 1 ∧ (hdr 3 0 0).mkind ≠ 2) := by
  refine ⟨?_, ?_, ?_, ?_, ?_, ?_⟩ <;> decide +kernel

theorem witness_BarrierAndInterruptPins :
    let s := live []
    let arrived : State := { s with noc := { s.noc with barArrived := true, barWait := some [] } }
    (s.served = true ∧ ownWriter .firmware ∧ s.noc.barArrived = false ∧ s.noc.barRel = false ∧ s.released = true) ∧
    (arrived.noc.barArrived = true ∧ arrived.noc.barWait = some [] ∧ arrived.portRuns = true) ∧
    (let e := request .write (.thread 0) 1 0x1000 4 true
     let t : State := { requesting e with noc := { (requesting e).noc with barWait := some [2047] } }
     t.noc.barWait = some [2047] ∧ lookup t.noc.rt 2047 = some e ∧ ¬ (e.dead = true ∨ (e.sent = true ∧ t.homeScope e.addr = 3))) := by
  refine ⟨?_, ?_, ?_⟩ <;> decide +kernel

theorem witness_BarrierAndInterruptPins_remote :
    (let e := request .write (.thread 0) 1 (2 ^ 40) 4 true
     let t : State := { requesting e with noc := { (requesting e).noc with barWait := some [2047] } }
     t.noc.barWait = some [2047] ∧ t.portRuns = true ∧ lookup t.noc.rt 2047 = some e ∧ e.sent = true ∧ e.typ = 1 ∧ t.homeScope e.addr = 3) ∧
    (let e := request (.atom 0) (.thread 0) 2 (2 ^ 40) 3 true
     let t : State := { requesting e with noc := { (requesting e).noc with barWait := some [2047] } }
     t.noc.barWait = some [2047] ∧ lookup t.noc.rt 2047 = some e ∧ ¬ (e.dead = true ∨ (e.sent = true ∧ e.typ = 1 ∧ t.homeScope e.addr = 3))) := by
  refine ⟨?_, ?_⟩ <;> decide +kernel

theorem witness_ReadyAndFatalReports :
    let s := live []
    let r : Report := { payload := [1], entry := none, sentAt := 0, failed := true }
    let later : State := { s with noc := { s.noc with ready := some r, fatal := some r }, tmg := { s.tmg with time := 100000 } }
    (s.served = true ∧ (s.freeIdx false).isSome = true ∧ s.ras.fatal = false) ∧
    ({ s with ras := { s.ras with fatal := true } } : State).ras.fatal = true ∧
    (later.noc.ready = some r ∧ later.noc.fatal = some r ∧ r.payload.length ≤ 64 ∧ r.entry = none ∧ r.sentAt + 100000 ≤ later.tmg.time ∧
      later.alive = true ∧ (later.freeIdx false).isSome = true) ∧
    ¬ (r.failed = false ∨ r.sentAt + 100000 ≤ s.tmg.time) := by
  refine ⟨?_, ?_, ?_, ?_⟩ <;> decide +kernel

/-! ### The Ladle and translation -/

/-- Channel 3 enabled, its ring of one descriptor at shelf offset 0, with HEAD one ahead of TAIL. -/
def posted (w7 : Nat) : State :=
  let s := live []
  let t := s.setCom .ldl 0x100 1
  { t with
    ldl := vset t.ldl 3 { Chan.reset with head := 0, tail := 0xFFFF }
    ls := { t.ls with shelf := setN zero8 [] 56 (bytesOf 8 w7) } }

/-- A descriptor of one run of so many bytes. -/
def descr (src dst len : Nat) : List Word := [BitVec.ofNat 64 src, BitVec.ofNat 64 dst, 0, 0, 0, 0, 0, BitVec.ofNat 64 (len - 1)]

theorem witness_LadleChannels :
    (let s := posted 0
     let x := s.chan 3
     s.alive = true ∧ s.en .ldl = true ∧ s.quiescing .ldl = false ∧ s.comN .ldl 0x100 % 2 = 1 ∧ x.halted = false ∧ x.desc = none ∧
     x.head ≠ x.tail ∧ s.comN .ldl 0x108 + 64 * (x.tail.toNat % 2 ^ (s.comN .ldl 0x100 / 4 % 16)) = 0 ∧ shelfClean s 0 ∧
     s.ls.shelfPois.contains 0 = false) ∧
    ((List.range 8).map fun i => word64At ((posted (2 ^ 33)).shelfBytes 0 64) (8 * i)) = [0, 0, 0, 0, 0, 0, 0, 2 ^ 33] ∧
    (poisoned (posted 0) 0).ls.shelfPois.contains (0 / 64) = true ∧
    393216 * (posted 0).ls.ways < ((posted 0).setCom .ldl 0x108 0x60000).comN .ldl 0x108 + 64 ∧
    ((posted 0).served = true ∧ ownWriter .driver ∧ 2 ^ 0 < ((1 : BitVec 16) - 0xFFFF).toNat) ∧
    (let s := posted 0
     let e := descr 0 0 1
     let t : State := { s with ldl := vset s.ldl 3 { Chan.reset with desc := some e, run := 1 } }
     (t.chan 3).desc = some e ∧ (t.chan 3).halted = false ∧ (t.chan 3).runs = [] ∧ (t.chan 3).writes = [] ∧ (t.chan 3).flt = none ∧
     wbits ((e[2]?).getD 0) 15 0 + 1 = 1) := by
  refine ⟨?_, ?_, ?_, ?_, ?_, ?_⟩ <;> decide +kernel

/-- Channel 0 with a descriptor in progress. -/
def running (d : List Word) : State :=
  let s := live []
  { s with ldl := vset s.ldl 0 { Chan.reset with desc := some d } }

theorem witness_LadleRuns :
    (let d := descr 0xFE_0000_0000 0xFE_0000_0080 128
     let s := running d
     let x := s.chan 0
     x.desc = some d ∧ s.alive = true ∧ x.halted = false ∧ x.run < dRuns d ∧ s.chanWalks 0 = false ∧ x.runs = [] ∧ x.writes = [] ∧
     x.xl = [] ∧ x.flt = none ∧ wbit ((d[7]?).getD 0) 28 = false ∧ s.en .xlt = false) ∧
    (let d := descr 0xFE_0000_0000 0xFE_0000_0080 128
     let s := running d
     s.shelfOff (dAddr d 0 false) = some 0 ∧ s.shelfOff (dAddr d 0 true) = some 0x80 ∧ dAddr d 0 false / 2 ^ 14 * 2 ^ 14 < 2 ^ 40 ∧
     (∀ v, (s.th v).protects 0x80 128 = false) ∧ wbits (s.com .xlt 0x50) 2 1 ≠ 3 ∧
     s.chanReqs 0 < bits (s.comN .ldl 0x40) 26 16) ∧
    2 ^ 40 ≤ dAddr (descr (2 ^ 40) 0 1) 0 false / 2 ^ 14 * 2 ^ 14 ∧
    (let s := cp (running (descr 0x1000 0 1)) 3
     s.policyAt (dAddr (descr 0x1000 0 1) 0 false / 2 ^ 14 * 2 ^ 14) (wbits (s.com .xlt 0x50) 2 1) = 3) ∧
    (let d : List Word := [0, 0, 0, 0, 0, 0, 0, 0x10_0000]
     (running d).ctxRuns = false ∧ wbits ((d[7]?).getD 0) 21 20 = 1 ∧ 1 ≠ ((running d).tray (dTray d)).bytes) := by
  refine ⟨?_, ?_, ?_, ?_, ?_⟩ <;> decide +kernel

/-- A descriptor with these bits of word 7 set too. -/
def withKinds (d : List Word) (w7 : Nat) : List Word := d.set 7 ((d[7]?).getD 0 ||| BitVec.ofNat 64 w7)

theorem witness_LadleRuns_kinds :
    (let d := withKinds (descr 0 0xFE_0000_0080 128) 0x10_0000
     let s := running d
     (wbits ((d[7]?).getD 0) 21 20, wbits ((d[7]?).getD 0) 23 22) = (1, 0) ∧ wbit ((d[7]?).getD 0) 28 = false ∧
     wbits (s.com .xlt 0x50) 2 1 ≠ 3 ∧ s.ctxRuns = false ∧ 128 = (s.tray (dTray d)).bytes ∧ dRuns d ≤ (s.tray (dTray d)).rows ∧
     s.tile.badRow.contains 0 = false ∧ s.shelfOff (dAddr d 0 true) = some 0x80 ∧ s.ls.shelfPois = [] ∧
     (∀ v, (s.th v).protects 0x80 128 = false) ∧ lookup s.ls.shelfErrs 2 = none ∧ lookup s.ls.shelfErrs 3 = none) ∧
    (let d := withKinds (descr 0xFE_0000_0080 0 128) 0x40_0000
     (wbits ((d[7]?).getD 0) 21 20, wbits ((d[7]?).getD 0) 23 22) = (0, 1) ∧ (running d).shelfOff (dAddr d 0 false) = some 0x80 ∧
     128 = ((running d).tray (dTray d)).bytes) ∧
    (let d := descr 0xFE_0000_0080 0x1000 128
     let s := cp (running d) 2
     wbits (s.com .xlt 0x50) 2 1 = 2 ∧ s.window (dAddr d 0 true / 128 * 128) = .mem ∧ s.lsWay (dAddr d 0 true / 128) = none ∧
     s.evicting (dAddr d 0 true / 128) = false ∧ (s.freeIdx true).isSome = true ∧ s.chanReqs 0 < bits (s.comN .ldl 0x40) 26 16) ∧
    (let d := descr 0x1000 0xFE_0000_0080 128
     let s := cp (running d) 0
     s.window (dAddr d 0 false / 128 * 128) = .mem ∧ s.lsWay 0x20 = none ∧ s.fillOf 0x20 = none ∧ s.sideOf 0x20 = none ∧
     s.evicting 0x20 = false ∧ ((s.lsRoom 0x20 (.chan 0)).map fun x => (decide (x.1 = s), x.2.2)) = some (true, none) ∧
     (s.freeIdx false).isSome = true ∧ s.portRuns = true ∧ (∀ t, (s.th t).wait = .none) ∧ (∀ k, k ≠ 0 → (s.chan k).desc = none) ∧
     s.tile.mem = []) := by
  refine ⟨?_, ?_, ?_, ?_⟩ <;> decide +kernel

theorem witness_LadleRuns_warm :
    (let d := withKinds (descr 0x1000 0 128) 0x1000_0000
     let s := cp (running d) 1
     wbit ((d[7]?).getD 0) 28 = true ∧ wbits ((d[7]?).getD 0) 21 20 = 0 ∧ s.window 0x1000 = .mem ∧ wbits (s.com .xlt 0x50) 2 1 < 2 ∧
     ¬ ((s.lsWay 0x20).isSome ∨ (s.sideOf 0x20).isSome ∨ (s.fillOf 0x20).isSome ∨ (s.warmOf 0x20).isSome) ∧
     s.ls.side.length < 64 ∧ (s.freeIdx false).isSome = true ∧ 2 ≤ wbits ((cp s 3).com .xlt 0x50) 2 1) ∧
    (let d := withKinds (descr (2 ^ 40) 0 128) 0x1000_0000
     2 ^ 40 ≤ dAddr d 0 false / 2 ^ 14 * 2 ^ 14 ∧ dAddr d 0 false % 128 + 128 ≤ 128) ∧
    (let d := withKinds (descr 0xFE_0000_0080 0x40 64) 0x80_0000
     let s := running d
     (wbits ((d[7]?).getD 0) 21 20, wbits ((d[7]?).getD 0) 23 22) = (0, 2) ∧ dAddr d 0 true % 128 + 64 ≤ 128 ∧
     s.shelfOff (dAddr d 0 false) = some 0x80 ∧ (s.freeIdx false).isSome = true ∧
     (after (.ladleRun 0) s).map (fun u => (u.chan 0).writes.length) = some 1) := by
  refine ⟨?_, ?_, ?_⟩ <;> decide +kernel

/-- A walk of thread 0's in progress, with its table. -/
def walking (level table : Nat) (who : WalkFor) (ph : WalkPh) : Walk where
  id := 5
  va := 0x2_4000
  pl := 1
  wr := true
  rd := false
  who := who
  level := level
  table := table
  root := table
  ph := ph
  again := false
  warm := false

/-- A core in which that walk is under way. -/
def walks (k : Walk) : State :=
  let s := live []
  { s with xl := { s.xl with walks := [k] } }

theorem witness_TableWalks :
    (let k := walking 4 0x80 (.thread 0) (.value (some 0x2C))
     (walks k).xl.walks.find? (fun x => x.id = k.id) = some k ∧ (walks k).alive = true ∧ Calm (walks k) ∧ wbit (0x2C : Word) 0 = false) ∧
    (wbit (0x200D : Word) 0 = true ∧ wbit (0x200D : Word) 13 = true) ∧ (wbit (0x5 : Word) 1 = false ∧ wbit (0x5 : Word) 3 = false) ∧
    (let v : Word := 0x30D
     wbit v 0 = true ∧ wbit v 13 = false ∧ wbit v 1 = false ∧ wbit v 2 = true ∧ wbit v 3 = true ∧ v ||| 0x300 = v) ∧
    (let k := walking 4 (0xFE_0000_0000 / 2 ^ 14) (.left none) (.value (some 0x10D))
     let s := { walks k with ls := { (walks k).ls with shelf := setN zero8 [] 72 (bytesOf 8 0x10D) } }
     s.shelfOff (k.table * 2 ^ 14 + 8 * 9) = some 72 ∧ shelfClean s 72 ∧ word64At (s.shelfBytes 72 8) 0 = 0x10D ∧
     k.va.toNat / 2 ^ 14 % 2 ^ 11 = 9 ∧ k.warm = false ∧ { k with warm := true, who := .chan 3 }.warm = true) ∧
    (let k := walking 2 0x80 (.chan 0) .ready
     let s := walks k
     s.shelfOff (0x80 * 2 ^ 14) = none ∧ s.deviceRegion (0x80 * 2 ^ 14) = false ∧ s.xl.wcache = [] ∧ (s.freeIdx true).isSome = true) := by
  refine ⟨?_, ?_, ?_, ?_, ?_, ?_⟩ <;> decide +kernel

theorem witness_TableWalks_left :
    (let k := walking 4 0x80 (.left (some 2)) (.value none)
     (walks k).xl.walks.find? (fun x => x.id = k.id) = some k ∧ k.who = .left (some 2) ∧ k.ph = .value none ∧ k.again = false) ∧
    (let k := walking 3 0x80 (.thread 0) .ready
     let e : WcEntry := { ea := 0x80 * 2 ^ 14, leaf := 0x2, level := 2 }
     let s : State := { walks k with xl := { (walks k).xl with wcache := [e] } }
     (∀ e ∈ s.xl.wcache, e.level = k.level → e.ea ≠ 0x80 * 2 ^ 14) ∧ (s.freeIdx true).isSome = true ∧
     s.shelfOff (0x80 * 2 ^ 14) = none ∧ s.deviceRegion (0x80 * 2 ^ 14) = false) := by
  refine ⟨?_, ?_⟩ <;> decide +kernel

theorem witness_TableWalks_bus :
    (let k := walking 4 0x80 (.thread 0) (.value none)
     (walks k).xl.walks.find? (fun x => x.id = k.id) = some k ∧ (walks k).alive = true ∧ k.again = false ∧ ((walks k).th 0).wait = .none ∧
     (after (.tableWalk 5) (walks k)).map (fun u => ((u.frame .xlt).errInfo, (u.frame .xlt).event, u.xl.walks.length)) = some (9, 2, 0)) ∧
    (let k := walking 4 0x80 (.chan 0) (.value none)
     (after (.tableWalk 5) (walks k)).map (fun u => ((u.frame .xlt).errInfo, (u.chan 0).flt)) = some (9, some (3, 9))) ∧
    (let k := walking 4 0x80 (.thread 0) .ready
     let s := ((walks k).setCom .xlt 0x100 1).setCom .xlt 0x108 0x40_0000
     s.deviceRegion (k.table * 2 ^ 14 + 72) = true ∧
     (after (.tableWalk 5) s).map (fun u => (u.frame .xlt).errInfo) = some 10) ∧
    (let k := walking 4 0x80 (.left none) (.swapped 1 2 none)
     (after (.tableWalk 5) (walks k)).map (fun u => (u.frame .xlt).errInfo) = some 11) := by
  refine ⟨?_, ?_, ?_, ?_⟩ <;> decide +kernel

/-- The walk of a warm request that meets a clear A flag sets none, and its page fails (R253). -/
theorem test_warm_walk_sets_no_flag :
    let k : Walk := { walking 4 0x80 (.chan 0) (.value (some 0xD)) with wr := false, rd := true, warm := true }
    (after (.tableWalk 5) (walks k)).map (fun u => (u.xl.walks.length, u.noc.queue, (u.chan 0).flt)) = some (0, [], some (3, 0)) := by
  decide +kernel

/-- The span registers set for a load of 2^48 bytes at 0. -/
def spanRegs (va attr : Nat) : State := ((live []).setReg .xlt 0x60 (BitVec.ofNat 64 va)).setReg .xlt 0x70 (BitVec.ofNat 64 attr)

theorem witness_SpanCommands :
    let s := spanRegs 48 0xD
    let x : Span := { k := 48, va := 0, pa := 0, attr := 0xD, valid := true, lost := false, bad := false, holes := [] }
    let held : State := { s with xl := { s.xl with spans := [(4095, x)] } }
    (s.served = true ∧ ownWriter .firmware ∧ (s.reg .xlt 0x60).toNat % 64 = 48 ∧ (s.reg .xlt 0x68).toNat % 2 ^ 48 = 0 ∧
      wbit (s.reg .xlt 0x70) 0 = true ∧ wbit (s.reg .xlt 0x70) 1 = false ∧ s.xl.spans = []) ∧
    ((1 : BitVec 50) ≠ 0 ∧ ((spanRegs 25 0xD).reg .xlt 0x60).toNat % 64 < 26 ∧ wbit ((spanRegs 26 0).reg .xlt 0x70) 0 = false) ∧
    (lookup held.xl.spans 4095 = some x ∧ x.valid = true ∧ x.va.toNat % 64 = 0 ∧ x.k < 64) := by
  refine ⟨?_, ?_, ?_⟩ <;> decide +kernel

theorem witness_SpanCommands_lost :
    let s := spanRegs 26 0xD
    let x : Span := { k := 30, va := 0, pa := 0, attr := 0xD, valid := false, lost := true, bad := false, holes := [] }
    let t : State := { s with xl := { s.xl with spans := [(7, x)] } }
    Serves t .firmware ∧ lookup t.xl.spans 7 = some x ∧ x.lost = true ∧ (t.reg .xlt 0x60).toNat % 64 = 26 ∧
    x.va.toNat / 2 ^ 30 = (t.reg .xlt 0x60).toNat / 2 ^ 26 * 2 ^ 26 / 2 ^ 30 ∧ ownWriter .firmware := by decide +kernel

/-! ### Service, timing and power -/

/-- The scrubber at a set and way, its interval just over. -/
def scrubbing (set way ways : Nat) : State :=
  let s := lined false []
  { s with
    ls := { s.ls with scrub := (set, way), ways := ways }
    tmg := { s.tmg with time := 100 * (s.comN .lst 0x40 / 2 ^ 16 % 2 ^ 16) } }

theorem witness_ServiceWork :
    (let s := scrubbing 3071 14 1
     let int := 100 * (s.comN .lst 0x40 / 2 ^ 16 % 2 ^ 16)
     s.alive = true ∧ s.en .lst = true ∧ s.quiescing .lst = false ∧ int ≠ 0 ∧ s.ls.scrubAt + int ≤ s.tmg.time ∧ 14 + s.ls.ways < 16 ∧
     wbit (s.com .rpr 0x50) 14 = true ∧ (lookup s.ls.lines (16 * 3071 + 14)).isSome = true) ∧
    lookup (scrubbing 0 0 1).ls.lines 0 = none ∧
    (let s := scrubbing 3071 15 1
     16 ≤ 15 + s.ls.ways ∧ lookup s.ls.shelfErrs 6143 = none ∧ lookup s.ls.shelfErrs 6142 = none) ∧
    ¬ (live []).ls.scrubAt + 100 * ((live []).comN .lst 0x40 / 2 ^ 16 % 2 ^ 16) ≤ (live []).tmg.time ∧
    (let s := live []
     let g : State := { s with ls := { s.ls with growth := some (2, 13, 0) } }
     let w : State := { s with ls := { s.ls with sweep := [(0, 3072)] } }
     g.ls.growth = some (2, 13, 0) ∧ 13 + 2 < 16 ∧ g.en .lst = true ∧ g.quiesced .lst = false ∧ g.noc.rt = [] ∧
     w.ls.sweep = [(0, 3072)] ∧ ({ s with rpr := { s.rpr with migrating := 2 } } : State).rpr.migrating ≠ 0 ∧ s.tile.badElem = [] ∧
     s.rpr.migrating = 0) ∧
    (let s := live []
     let b : State := { s with rpr := { s.rpr with bist := some (3, 0) } }
     s.served = true ∧ s.rpr.bist = none ∧ s.en .rpr = true ∧ b.rpr.bist = some (3, 0) ∧ bistFits 3 0 [(0, 0), (31, 31)] = true ∧
     bistFits 3 0 [] = true) := by
  refine ⟨?_, ?_, ?_, ?_, ?_, ?_⟩ <;> decide +kernel

/-- A committed line-replacement entry 1 of way 14 for set 3071, valid. -/
def replaced : State :=
  let s := live []
  { s with rpr := { s.rpr with lrepCo := [(4 * 14 + 1, 0x8BFF)] } }

theorem witness_ServiceWork_replacement :
    fld (replaced.lrepCom (4 * 14 + 1)).toNat 15 15 = 1 ∧ fld (replaced.lrepCom (4 * 14 + 1)).toNat 11 0 = 3071 ∧
    fld (replaced.lrepCom (4 * 14)).toNat 15 15 = 0 ∧ replaced.cell 3071 14 = 3072 * 16 + 4 * 14 + 1 ∧
    (let s := scrubbing 3071 14 1
     (s.ls.lines.map fun l => (l.2.line % 3072, l.2.errs, l.2.tagErr)) = [(3071, (0, 0), 0)] ∧
     lookup (scrubbing 3071 15 1).ls.shelfErrs 6142 = none) := by decide +kernel

/-- Group 39 with so many codes added by firings, at level 5, whose margin is as reset. -/
def fired (add : Nat) (str : Bool) : State :=
  let s := live []
  { s with tmg := { s.tmg with groups := vset s.tmg.groups 39 { cal := 0, add := add, can := false, str := str, temp := 0 } } }

theorem witness_Calibration :
    (let s := fired 0 false
     s.alive = true ∧ s.calibrating 39 = false ∧ min 63 ((s.group 39).cal + s.margin s.tmg.vlMargin.val + (s.group 39).add) < 63) ∧
    (let s := fired 63 true
     s.calibrating 39 = false ∧ min 63 ((s.group 39).cal + s.margin s.tmg.vlMargin.val + (s.group 39).add) = 63 ∧
     (s.group 39).str = true ∧ s.ras.fatal = false) ∧ ((fired 63 false).group 39).str = false ∧
    (let s := live []
     let due : State := { s with tmg := { s.tmg with time := 100000 * (s.comN .tmg 0x48 % 2 ^ 16) } }
     s.served = true ∧ (39 : BitVec 6).toNat < 40 ∧ 40 ≤ (40 : BitVec 6).toNat ∧ due.comN .tmg 0x48 / 2 ^ 24 % 2 = 1 ∧
     due.comN .tmg 0x48 % 2 ^ 16 ≠ 0 ∧ due.en .tmg = true ∧ due.quiescing .tmg = false ∧
     due.tmg.autoLast + 100000 * (due.comN .tmg 0x48 % 2 ^ 16) ≤ due.tmg.time ∧
     (8 * (due.comN .tmg 0x48 / 2 ^ 16 % 256) : Int) < |(2047 : BitVec 12).toInt - (due.group 39).temp.toInt|) ∧
    (let s := live []
     let c : State := { s with tmg := { s.tmg with calNow := some (39, 0), time := 5000 } }
     c.tmg.calNow = some (39, 0) ∧ c.tmg.calQ = [] ∧ 0 + 5000 ≤ c.tmg.time ∧ (c.group 39).str = false) := by
  refine ⟨?_, ?_, ?_, ?_, ?_⟩ <;> decide +kernel

/-- Retention is allowed and nothing is under way: no thread runs. -/
def resting : State :=
  ({ live [] with thr := Vector.replicate 4 (thread []) }.setCom .tmg 0x90 0x1715).setCom .tmg 0xB8 0x6_0000

theorem witness_VoltageAndRetention :
    (let s := live []
     let x := s.tmg
     s.alive = true ∧ s.en .tmg = true ∧ s.quiescing .tmg = false ∧ x.move = none ∧ x.vhold = false ∧ s.crk.pfail = false ∧
     x.vack = false ∧ x.vreqV = false ∧ x.calNow = none ∧ x.waking = none ∧ nbit (s.comN .tmg 0x90) 12 = false ∧
     x.vlCur.val < 7 ∧ 1 < x.vlCur.val) ∧
    (let s := live []
     let m : VMove := { fromL := 5, toL := 6, start := 0 }
     let u : State := { s with tmg := { s.tmg with move := some m, vreqV := true, time := 100 * (s.comN .tmg 0x98 % 256) } }
     u.tmg.move = some m ∧ u.tmg.vreqV = true ∧ u.tmg.vack = false ∧ u.tmg.calQ = [] ∧
     m.start + 100 * (u.comN .tmg 0x98 % 256) ≤ u.tmg.time ∧ s.tmg.time < m.start + 100 * (s.comN .tmg 0x98 % 256)) ∧
    (let s := resting
     let x := s.tmg
     nbit (s.comN .tmg 0x90) 12 = true ∧ nbit (s.comN .tmg 0xB8) 18 = true ∧ (∀ t, s.runBit t = false ∨ (s.th t).sleep = .deep) ∧
     (∀ t, (s.th t).tcmp = 0) ∧ s.crk.queue = [] ∧ s.crk.now = none ∧ s.tile.queue = [] ∧ s.tile.drains = [] ∧
     (∀ c, (s.chan c).desc = none) ∧ s.noc.rt = [] ∧ x.calNow = none) ∧
    (let x : Timing := { resting.tmg with vlCur := 1, vack := true }
     x.vlCur = 1 ∧ x.vack = true) ∧
    (let x : Timing := { (live []).tmg with ret := some 5 }
     let y : Timing := { (live []).tmg with waking := some (5, 0) }
     x.ret = some 5 ∧ y.waking = some (5, 0) ∧ y.vlCur = 5) := by
  refine ⟨?_, ?_, ?_, ?_, ?_⟩ <;> decide +kernel

theorem witness_VoltageAndRetention_rest :
    (let s := resting
     (∀ t, (s.th t).fs = false ∧ (s.runBit t = false ∨ (s.th t).sleep = .deep) ∧ (s.th t).tcmp = 0) ∧
     nbit (s.comN .tmg 0xB8) 17 = true ∧ s.crk.drRun = none ∧ s.crk.winReads = [] ∧ s.crk.vbusy = false ∧ s.crk.scanBusy = false ∧
     (∀ c, (s.chan c).desc = none ∧ (s.chan c).halted = false)) ∧
    (let s : State := { resting with tmg := { resting.tmg with vlCur := 1 } }
     s.alive = true ∧ s.en .tmg = true ∧ s.tmg.vlCur = 1 ∧ s.tmg.waking = none ∧ s.crk.pfail = false ∧ s.tmg.vreqV = false) ∧
    (let s : State := { pending63 with tmg := { pending63.tmg with ret := some 5, retPend := 0 } }
     s.tmg.ret = some 5 ∧ s.srcPending 63 = true ∧ s.srcEn 63 = true ∧ s.tmg.retPend.getLsbD 63 = false ∧
     ({ s.tmg with retPend := 0x8000_0000_0000_0000 } : Timing).retPend.getLsbD 63 = true) ∧
    (let s : State := { waking with tmg := { waking.tmg with vlCur := 1, time := 1000000 } }
     s.tmg.waking = some (5, 0) ∧ 0 + 1000 * (s.comN .tmg 0xA0 % 256) ≤ s.tmg.time ∧ s.tmg.moveStop = false ∧ s.tmg.vlCur.val < 5) ∧
    ((live []).released = true ∧ (live []).tmg.vack = false ∧ State.reset.released = false) := by
  refine ⟨?_, ?_, ?_, ?_, ?_⟩ <;> decide +kernel

theorem witness_ClocksAndSensors :
    let s := live []
    (s.alive = true ∧ (12794 : BitVec 16).toNat < 12800 ∧ 12800 < (12806 : BitVec 16).toNat ∧ s.tmg.loFrozen = false ∧
      s.tmg.lastMark + 100000 ≤ ({ s.tmg with time := 100000 } : Timing).time) ∧
    (s.tmg.temp.toInt ≤ Int.bmod (s.comN .tmg 0xC8) (2 ^ 12) ∧ Int.bmod (s.comN .tmg 0xC8) (2 ^ 12) < (0x321 : BitVec 12).toInt) ∧
    (s.comN .tmg 0xB0 / 2 % 2 = 1 ∧ s.tmg.pllLock = false ∧ s.tmg.coast = false) ∧
    (let x : Timing := { s.tmg with pllAlive := true, mux := some (true, 0) }
     x.refAlive = true ∧ x.pllAlive = true ∧ x.coast = false ∧ x.muxHung = false ∧ x.mux = some (true, 0)) ∧
    (let x : Timing := { s.tmg with mux := some (true, 0), time := 1000, coast := true }
     ¬ (x.refAlive = true ∧ x.pllAlive = true) ∧ x.muxHung = false ∧ 0 + 1000 ≤ x.time ∧ x.coast = true) := by
  refine ⟨?_, ?_, ?_, ?_, ?_⟩ <;> decide +kernel

theorem witness_ClocksAndSensors_reference :
    let s := live []
    let at0 (f : Timing → Timing) : State := { s with tmg := f s.tmg }
    let here := at0 fun x => { x with refHere := true, pllAlive := true }
    let back := at0 fun x => { x with refHere := true, coast := true, refSince := 0, time := 1000 }
    let old := at0 fun x => { x with mux := some (false, 0), muxOld := true, pllAlive := true, refAlive := false }
    (here.alive = true ∧ here.tmg.refHere = true ∧ here.tmg.pllAlive = true ∧ here.tmg.coast = false) ∧
    (back.alive = true ∧ back.tmg.coast = true ∧ back.tmg.refHere = true ∧ back.tmg.refSince + 1000 ≤ back.tmg.time) ∧
    (at0 fun x => { x with refHere := true }).tmg.pllAlive = false ∧ (at0 fun x => { x with refHere := false }).tmg.refHere = false ∧
    (old.tmg.mux = some (false, 0) ∧ old.tmg.muxOld = true ∧ old.tmg.pllAlive = true ∧ old.tmg.muxHung = false) := by
  refine ⟨?_, ?_, ?_, ?_, ?_⟩ <;> decide +kernel

/-- The scrubber at the line of set 3071, way 14, with errors in it, its interval just over. -/
def scrubbed (dirty : Bool) (errs : Nat × Nat) (tagErr : Nat) : State :=
  let s := scrubbing 3071 14 1
  { s with ls := { s.ls with
      lines := [(16 * 3071 + 14, { line := 3071, dirty := dirty, data := List.replicate 128 1, pois := 0, errs := errs, tagErr := tagErr })] } }

theorem witness_ServiceWork_errors :
    let s := scrubbed true (0, 3) 0
    (s.alive = true ∧ s.en .lst = true ∧ s.quiescing .lst = false ∧ s.ls.scrub = (3071, 14) ∧ 14 + s.ls.ways < 16 ∧
      s.ls.scrubAt + 100 * (s.comN .lst 0x40 / 2 ^ 16 % 2 ^ 16) ≤ s.tmg.time ∧ wbit (s.com .rpr 0x50) 14 = true ∧
      (lookup s.ls.lines (s.cell 3071 14)).map (fun l => (l.line % 3072, l.errs, l.tagErr, l.dirty)) = some (3071, (0, 3), 0, true)) ∧
    s.ras.fatal = false ∧
    (lookup (scrubbed false (3, 0) 0).ls.lines (s.cell 3071 14)).map (fun l => (l.errs, l.tagErr, l.dirty)) = some ((3, 0), 0, false) ∧
    (lookup (scrubbed true (0, 2) 0).ls.lines (s.cell 3071 14)).map (fun l => (l.errs, l.tagErr)) = some ((0, 2), 0) ∧
    (lookup (scrubbed true (0, 0) 2).ls.lines (s.cell 3071 14)).map (fun l => (l.errs, l.tagErr)) = some ((0, 0), 2) ∧
    (lookup (scrubbed true (0, 0) 1).ls.lines (s.cell 3071 14)).map (fun l => (l.errs, l.tagErr)) = some ((0, 0), 1) := by
  refine ⟨?_, ?_, ?_, ?_, ?_, ?_⟩ <;> decide +kernel

/-- A calibration of group 39 that is over, with group 3 queued behind it. -/
def calibrated (want : Fin 8) : State :=
  let s := live []
  { s with tmg := { s.tmg with calNow := some (39, 0), calQ := [3], time := 5000, vlWant := want } }

theorem witness_Calibration_next :
    (let s := calibrated 6
     s.tmg.calNow = some (39, 0) ∧ s.tmg.calQ = [3] ∧ 0 + 5000 ≤ s.tmg.time ∧ s.en .tmg = true ∧ s.quiescing .tmg = false ∧ s.alive = true ∧
     s.tmg.move = none ∧ s.tmg.vhold = false ∧ s.tmg.vack = false ∧ s.tmg.vreqV = false ∧ s.tmg.waking = none ∧ s.crk.pfail = false ∧
     nbit (s.comN .tmg 0x90) 12 = false ∧ s.tmg.vlWant ≠ s.tmg.vlCur) ∧
    (calibrated 5).tmg.vlWant = (calibrated 5).tmg.vlCur ∧
    (let s := fired 7 true
     s.calibrating 39 = false ∧ (s.group 39).str = true ∧ s.ras.fatal = false ∧
     min 63 ((s.group 39).cal + s.margin s.tmg.vlMargin.val + (s.group 39).add) < 63) ∧
    (let s := live []
     let x : Group := { cal := 0, add := 0, can := false, str := true, temp := 0 }
     let c : State := { s with tmg := { s.tmg with calNow := some (39, 0), time := 5000, groups := vset s.tmg.groups 39 x } }
     c.tmg.calNow = some (39, 0) ∧ c.tmg.calQ = [] ∧ 0 + 5000 ≤ c.tmg.time ∧ (c.group 39).str = true) := by
  refine ⟨?_, ?_, ?_, ?_⟩ <;> decide +kernel

theorem witness_ClocksAndSensors_lost :
    let s := live []
    let at0 (f : Timing → Timing) : State := { s with tmg := f s.tmg }
    (s.alive = true ∧ s.tmg.refHere = true ∧ s.comN .tmg 0xB0 / 2 % 2 = 1 ∧ s.tmg.coast = false) ∧
    ((s.setCom .tmg 0xB0 1).comN .tmg 0xB0 / 2 % 2 = 0 ∧ (at0 fun x => { x with coast := true }).tmg.coast = true) ∧
    (let old := at0 fun x => { x with mux := some (true, 0), muxLost := true, pllAlive := true, time := 1000 }
     old.tmg.mux = some (true, 0) ∧ old.tmg.muxLost = true ∧ old.tmg.muxHung = false ∧ 0 + 1000 ≤ old.tmg.time) := by
  refine ⟨?_, ?_, ?_⟩ <;> decide +kernel

theorem witness_TableWalks_room :
    let k := walking 2 0x80 (.chan 0) .ready
    let e := request .write (.chan 0) 1 0x1000 5 true
    let s : State := { requesting e with xl := { (live []).xl with walks := [k] } }
    let full := s.setCom .ldl 0x40 0x1_0000
    full.xl.walks.find? (fun x => x.id = k.id) = some k ∧ full.alive = true ∧ Calm full ∧ k.again = false ∧
    full.shelfOff (0x80 * 2 ^ 14) = none ∧ full.deviceRegion (0x80 * 2 ^ 14) = false ∧ full.xl.wcache = [] ∧
    full.chanReqs 0 = 1 ∧ bits (full.comN .ldl 0x40) 26 16 = 1 ∧ s.chanReqs 0 < bits (s.comN .ldl 0x40) 26 16 := by decide +kernel

theorem witness_FetchAndWindowLoads_error :
    let s := with0 (live []) fun h => { h with stat := 0xB, pc := 18 }
    let t : State := { s with crk := { s.crk with errs := [(1, { normal := 5, margin := 5 })] } }
    t.running = true ∧ (t.th 0).fs = true ∧ (t.th 0).stopped = false ∧ (t.th 0).sleep = .awake ∧ t.runBit 0 = true ∧
    t.crk.fwLines.contains (0, 1) = false ∧ t.crockUe 1 = true ∧ s.crockUe 1 = false := by decide +kernel

/-- Words written out from the layouts of R83, R139, R141, R143 to R145 spell their instructions. -/
theorem test_words_decode :
    decodeWords 1 0x2400 0 0 = some (.addi 1 0 0) ∧ decodeWords 0 0x0112 0 0 = some (.add 0 1 2) ∧
    decodeWords 0 0x0F37 0 0 = some (.sxh 0 3) ∧ decodeWords 2 0x1B54 0x3FF8 0 = some (.ldd 2 5 4 (some 0x3FF8)) ∧
    decodeWords 0 0x1654 0 0 = some (.stw 0 5 4 none) ∧ decodeWords 3 0x300A 5 0 = none ∧ decodeWords 3 0x3002 5 0 = some (.jmp 3 0x8005) ∧
    decodeWords 0 0x3412 0x123 0 = some (.amoAdd 0 true 2 3 2) ∧ decodeWords 0 0x3580 0 0 = some (.rett 0) ∧
    decodeWords 0 0x3801 0 0 = some (.tclaim 0 1) ∧ decodeWords 0 0x3C05 0x21 0 = some (.wadd 0 5 1 2 0 0 0 0 false) ∧
    decodeWords 0 0x3EC1 2 0x2000 = some (.wredMax 0 1 2 0 0 0 false) := by decide +kernel

/-- The words of the worked example of 05_threads_volis14.md, and what it says that they spell. -/
theorem test_worked_example_decodes :
    decodeWords 1 0x33C0 0x0020 0 = some (.azero 1 0) ∧ decodeWords 1 0x3248 0x0408 0 = some (.loopi 1 8 0 0x0408) ∧
    decodeWords 1 0x1321 0 0 = some (.ldd 1 2 1 none) ∧ decodeWords 1 0x2481 0 0 = some (.addi 1 1 8) ∧
    decodeWords 1 0x0D22 0 0 = some (.mac0 1 2 2) ∧ decodeWords 1 0x2034 0 0 = some (.movi 1 4 3) ∧
    decodeWords 1 0x33C4 0x0090 0 = some (.ashr 1 0 4) ∧ decodeWords 1 0x33C3 0x0040 0 = some (.ast 1 0 3) := by decide +kernel

/-- The words that spell an instruction, read again, give it back. -/
theorem test_encoded_words_decode :
    [Instr.addi 1 1 8, .ldd 2 5 4 (some 0x3FF8), .loopi 1 8 0 0x0408, .jmp 3 0x8005, .amoCas 0 true 1 2 3, .csrw 0 3 0x123,
      .tmms 0 63 1 2 3 4 5 6 7, .wcvt 0 1 2 3 4 5 6 true false true false 1 true, .lsmClean 2 7 true, .tsyncDiscard 3].all
      (fun i => (encodeWords i).any fun c => decodeWords c.thr c.w0 c.e1 c.e2 = some i) = true := by decide +kernel

theorem witness_FetchAndWindowLoads_words :
    legalWords 0x3FFF 0 0 = false ∧ ([Instr.mov 0 1 2, .add 0 1 2][1]? = some (.add 0 1 2)) ∧
    ([Instr.movi 0 1 7, .addi 0 1 7][0]? = some (.movi 0 1 7)) ∧ (some 3 : Option IWord) = some 3 := by decide +kernel

/-! ### The Crock, resets and pages -/

theorem witness_FetchAndWindowLoads :
    (let s := with0 (live []) fun h => { h with stat := 0xB, pc := 18 }
     s.running = true ∧ (s.th 0).fs = true ∧ (s.th 0).stopped = false ∧ (s.th 0).halted = false ∧ (s.th 0).sleep = .awake ∧
     s.runBit 0 = true ∧ s.crk.fwLines.contains (0, 1) = false) ∧
    (∀ v, ((live []).th v).fs = false ∨ ((live []).th v).stopped = true) ∧
    (let x : Part := { va := 0, len := 8, pa := some ((live []).crockBase + 32 * 5 + 24, 3), asked := true, got := none }
     let p : PendLoad := { d := 1, size := 8, words := 1, parts := [x], held := false }
     let s : State := { with0 (live []) fun h => { h with wait := .load p } with crk := { Crock.reset with winReads := [(0, 5)] } }
     s.crk.winReads = [(0, 5)] ∧ s.running = true ∧ s.lineBusy 5 = false ∧ (s.th 0).wait = .load p ∧ 24 + x.len ≤ 32 ∧ s.crockUe 5 = false ∧
     ({ s with crk := { s.crk with errs := [(5, { normal := 5, margin := 5 })] } } : State).crockUe 5 = true) ∧
    (legalWords 0 0 0 = true ∧ legalWords 0x3FFF 0 0 = false ∧ Goes (live []) 0 (instrWords 0x3FFF)) := by
  refine ⟨?_, ?_, ?_, ?_⟩ <;> decide +kernel

/-- The Crock writes an entry: a line, with so many rewrites behind it. -/
def writing (rewrites : Nat) : State :=
  let s := live []
  let e : WqEntry := { ticket := 0, op := .write 0x5_0000 7, mc := false, drv := true }
  { s with crk := { s.crk with queue := [e], now := some { entry := e, line := 0, rewrites := rewrites, raw := false }, next := 1 } }

theorem witness_CrockWrites :
    (let s := live []
     s.served = true ∧ s.en .crk = true ∧ s.crk.queue = [] ∧ s.crk.halt = false ∧ s.crk.woken = false ∧ s.quiescing .crk = false ∧
     s.crk.pfail = false ∧ s.crk.mapBad = false ∧ (0x6_BFFF : BitVec 19).toNat ≤ 0x6_BFFF ∧ 0x4_C000 ≤ (0x6_BFFF : BitVec 19).toNat ∧
     (0x3FFFF : BitVec 19).toNat < 0x4_C000 ∧ s.crockUe 0x3FFFF = false ∧ s.crk.scanBusy = false ∧ fixedBlock 3455 = false ∧
     s.blockFree 3456 = true) ∧
    (0x6_BFFF < (0x6_C000 : BitVec 19).toNat ∧ fixedBlock 1024 = true) ∧
    (let s := writing 3
     (s.crk.now.map fun r => (r.entry.op, r.rewrites)) = some (.write 0x5_0000 7, 3) ∧ s.crk.pfail = false ∧
     s.retired (s.crockPhys 0x5_0000 / 128) = false ∧ s.crk.done + 1 = 0 ∧ s.crk.doneOut = []) ∧
    (let s := live []
     let t : State := { s with crk := { s.crk with scanBusy := true, scanPos := 0x6_BFFF } }
     let u : State := { s with crk := { s.crk with scanBusy := true, scanPos := 0x6_BFFE } }
     t.scanDue = true ∧ u.scanDue = true ∧ u.crk.scanPos < 0x6_BFFF ∧ s.scanDue = false ∧ (u.reg .crk 0x100).toNat % 8 = 2 ∧
     (u.lineErr 0x6_BFFE).margin < 2) ∧
    (let s := live []
     s.frun = true ∧ s.mapQueued = false ∧ (s.setCom .tmg 0xB8 0x2_2223).frun = false) := by
  refine ⟨?_, ?_, ?_, ?_, ?_⟩ <;> decide +kernel

/-- R328: a line write that reaches the inactive slot takes its pass away. -/
theorem test_slot_write_clears_pass :
    (let s := live []
     let e : WqEntry := { ticket := 0, op := .write 0x1_0000 7, mc := false, drv := false }
     let r : WqRun := { entry := e, line := 0, rewrites := 0, raw := false }
     let t : State := { s with crk := { s.crk with queue := [e], now := some r, next := 1, vpass := true } }
     (s.crk.active, (t.lineWritten r true).crk.vpass)) = (false, false) := by decide +kernel

/-- R329: a checkpoint waits while FRUN = 0 and lets a later write start. -/
theorem test_checkpoint_waits_for_frun :
    (let s := (live []).setCom .tmg 0xB8 0x2_2223
     let t := ((s.enqueueWrite .ckpt false false).enqueueWrite (.write 0x3_0000 7) true false).crockPump
     t.crk.now.map (·.entry.ticket)) = some 1 := by decide +kernel

/-- The Crock with entries queued, the first in progress at a line. -/
def engaged (es : List WqEntry) (line rewrites : Nat) (pfail : Bool) : State :=
  let s := live []
  { s with crk := { s.crk with
      queue := es
      next := BitVec.ofNat 16 es.length
      pfail := pfail
      now := es.head?.map fun e => { entry := e, line := line, rewrites := rewrites, raw := false } } }

/-- A queue entry. -/
def entryOf (ticket : BitVec 16) (op : WqOp) (mc : Bool) : WqEntry := { ticket := ticket, op := op, mc := mc, drv := false }

/-- What the engine has in progress: operation, line, rewrites; and the whole queue. -/
def engine (s : State) : Option (WqOp × Nat × Nat) × List (BitVec 16 × WqOp × Bool) :=
  (s.crk.now.map fun r => (r.entry.op, r.line, r.rewrites), s.crk.queue.map fun e => (e.ticket, e.op, e.mc))

theorem witness_CrockWrites_entries :
    (let s := engaged [entryOf 0 (.refresh 0x3_0000 true) false] 0 0 false
     engine s = (some (.refresh 0x3_0000 true, 0, 0), [(0, .refresh 0x3_0000 true, false)]) ∧ s.crk.pfail = false) ∧
    (engine (engaged [entryOf 0 (.move 3455 3456 true) false] 127 0 false) =
       (some (.move 3455 3456 true, 127, 0), [(0, .move 3455 3456 true, false)]) ∧
     engine (engaged [entryOf 0 (.move 3455 3456 true) false] 856 0 false) =
       (some (.move 3455 3456 true, 856, 0), [(0, .move 3455 3456 true, false)]) ∧
     engine (engaged [entryOf 0 (.move 3455 3456 true) false] 5 3 false) =
       (some (.move 3455 3456 true, 5, 3), [(0, .move 3455 3456 true, false)]) ∧ physBlock (live []).crk.wmap 3455 = 3455) ∧
    (engine (engaged [entryOf 0 .ckpt false] 728 0 false) = (some (.ckpt, 728, 0), [(0, .ckpt, false)]) ∧
     engine (engaged [entryOf 0 .ckpt false] 727 0 false) = (some (.ckpt, 727, 0), [(0, .ckpt, false)])) ∧
    (let w := WqOp.write 0x3_0000 7
     let s := engaged [entryOf 0 w false, entryOf 1 .ckpt false, entryOf 2 w true] 0 0 true
     engine s = (some (w, 0, 0), [(0, w, false), (1, .ckpt, false), (2, w, true)]) ∧ s.crk.pfail = true ∧ s.crk.doneOut = [] ∧
     s.crk.done + 1 = 0 ∧ (engaged [entryOf 0 .ckpt false, entryOf 2 w true] 728 0 true).crk.pfail = true ∧
     728 + 1 = WqOp.ckpt.lines ∧ WqOp.ckpt.isMap = true) := by
  refine ⟨?_, ⟨?_, ?_, ?_, ?_⟩, ?_, ?_⟩ <;> decide +kernel

/-- Entries wait while the engine is halted, or while the first of them is in progress. -/
def halted (es : List WqEntry) : State :=
  let s := engaged es 0 0 false
  { s with crk := { s.crk with now := none, halt := true } }

theorem witness_CrockWrites_control :
    let w := WqOp.write 0x3_0000 7
    (let s := halted [entryOf 0 w false, entryOf 1 (.move 3455 3456 false) false]
     s.served = true ∧ s.crk.now = none ∧ s.en .crk = true ∧ s.quiescing .crk = false ∧ s.crk.woken = false ∧ s.crk.pfail = false ∧
     s.frun = true ∧ (s.crk.queue.map (·.ticket)) = [0, 1] ∧ s.crk.doneOut = [] ∧ s.crk.done + 1 = 0 ∧ s.crk.queue.length ≤ 8) ∧
    (let s := halted [entryOf 0 (.refresh 0x3_0000 false) false]
     ({ s with crk := { s.crk with errs := [(0x3_0000, { normal := 5, margin := 5 })] } } : State).crockUe 0x3_0000 = true) ∧
    (let s := engaged [entryOf 0 w false, entryOf 1 w false] 0 0 false
     s.served = true ∧ (s.crk.queue.filter fun e => match s.crk.now with | some r => r.entry.ticket ≠ e.ticket | none => true).map (·.ticket) = [1] ∧
     s.crk.done + 2 = 1 ∧ s.crk.doneOut = []) := by
  refine ⟨?_, ?_, ?_⟩ <;> decide +kernel

theorem witness_CrockWrites_pfail :
    let w : WqOp := .write 0x5_0000 7
    let ends := engaged [entryOf 0 .ckpt false, entryOf 1 w true] 728 0 true
    let stops := engaged [entryOf 0 (.move 3455 3500 false) false, entryOf 1 w true] 856 0 true
    (engine ends = (some (.ckpt, 728, 0), [(0, .ckpt, false), (1, w, true)]) ∧ ends.crk.pfail = true ∧ ends.crk.done + 1 = 0 ∧
      ends.crk.doneOut = [] ∧ ends.crk.queue.map (·.mc) = [false, true]) ∧
    (engine stops = (some (.move 3455 3500 false, 856, 0), [(0, .move 3455 3500 false, false), (1, w, true)]) ∧
      stops.crk.pfail = true ∧
      (after (.crockLineWriteDone true) stops).map (fun u => (u.crk.wgen, u.crk.media, (u.crk.now.map fun r => r.entry.op))) =
        some (0, [], some w)) := by
  refine ⟨?_, ?_⟩ <;> decide +kernel

theorem witness_CrockReadsAndSlots :
    let s := live []
    let d : State := { s with crk := { s.crk with drRun := some 0x6_BFFF, vbusy := true, swpend := true } }
    (s.served = true ∧ s.crk.drRun = none ∧ s.crk.vbusy = false ∧ s.crk.vpass = false ∧ s.powered = true ∧ s.crk.pfail = false) ∧
    (d.crk.drRun = some 0x6_BFFF ∧ d.lineBusy 0x6_BFFF = false ∧ d.crk.vbusy = true ∧ d.crk.swpend = true ∧ (∀ t, t = 0 → (d.th t).fs = false)) ∧
    (let t : State := { d with thr := Vector.replicate 4 (thread []) }
     ∀ v, (t.th v).fs = false) ∧
    (let p : State := { s with crk := { s.crk with pfail := true } }
     p.powered = true ∧ p.crk.pfail = true ∧ p.crk.queue = []) := by
  refine ⟨?_, ?_, ?_, ?_⟩ <;> decide +kernel

theorem witness_CrockReadsAndSlots_pfail :
    let s := live []
    let e : WqEntry := { ticket := 0, op := .write 0x5_0000 7, mc := true, drv := true }
    (s.powered = true ∧ s.crk.pfail = false ∧ s.crk.queue = [] ∧ s.phase = .run ∧ s.tmg.ret = none) ∧
    (retained.powered = true ∧ retained.crk.pfail = false ∧ retained.tmg.ret = some 5) ∧
    (let b : State := { s with phase := .boot }
     b.powered = true ∧ b.phase = .boot) ∧
    (let q : State := { s with crk := { s.crk with queue := [e] } }
     q.powered = true ∧ q.crk.queue = [e] ∧ q.crk.now = none ∧ e.op = .write 0x5_0000 7 ∧ e.mc = true) ∧
    (s.crk.pfail = false ∧ s.powered = true) ∧ State.reset.powered = false := by
  refine ⟨?_, ?_, ?_, ?_, ?_, ?_⟩ <;> decide +kernel

theorem witness_ResetsAndWrapper :
    let s := live []
    (s.phase ≠ .testReset ∧ ¬ (s.phase = .coldReset ∨ s.phase = .testReset) ∧ s.crk.now = none ∧ s.crk.queue = []) ∧
    ({ s with phase := .testReset } : State).phase = .testReset ∧ State.reset.phase = .coldReset ∧
    (regInfo .tmg 0x48).isSome = true ∧ ({ s with phase := .boot } : State).phase = .boot ∧ ({ s with phase := .warmReset } : State).phase = .warmReset ∧
    ((Instr.wsExtest, (0x01 : BitVec 6)) ∈ [(Instr.wsExtest, (0x01 : BitVec 6)), (.wsIntestScan, 0x02), (.wsClamp, 0x04)]) ∧
    (s.served = true ∧ (0xFFF8 : BitVec 16).toNat % 8 = 0 ∧ (0xFFF9 : BitVec 16).toNat % 8 ≠ 0 ∧ s.tmg.ret = none ∧ s.tmg.waking = none) ∧
    ClearWaits (clearing true) 0x7078 0x1005 := by
  refine ⟨?_, ?_, ?_, ?_, ?_, ?_, ?_, ?_, ?_⟩ <;> decide +kernel

theorem witness_ResetsAndWrapper_phases :
    (let e := request (.writeBack false 14) (.maint 0) 1 0x1000 5 false
     let s := requesting e
     keysRise s.noc.rt = true ∧ lookup s.noc.rt 2047 = some e ∧ e.dead = false ∧ e.kind = .writeBack false 14 ∧ lookup s.noc.rt 0 = none) ∧
    ((writing 0).crk.now.isSome = true ∧ (writing 0).phase ≠ .coldReset ∧ (writing 0).phase ≠ .testReset) ∧
    (let t : State := { live [] with phase := .testReset }
     t.phase = .testReset ∧ t.crst = false ∧ ({ t with crst := true } : State).crst = true) ∧
    (State.reset.copyHeader false = none ∧ State.reset.copyHeader true = none) ∧
    ({ live [] with phase := .boot } : State).crk.mapBad = false ∧
    Serves (live []) .driver ∧ (retained.phase ≠ .testReset ∧ retained.tmg.ret ≠ none) := by
  refine ⟨?_, ?_, ?_, ?_, ?_, ?_, ?_⟩ <;> decide +kernel

theorem witness_PageControl :
    let s := live []
    let q := s.setFrame .rpr { s.frame .rpr with quiesce := true, quiesced := true }
    (s.served = true ∧ ctrlAccepts .rpr = .md ∧ Accepts.md.has .firmware ∧ (s.frame .rpr).quiesce = (s.frame .rpr).quiesced ∧ (s.frame .rpr).en = true ∧
      keysRise s.shadow = true ∧ keysRise s.committed = true) ∧
    ((q.frame .rpr).quiesced = true ∧ (q.frame .rpr).en = true ∧ ((core [.rpr] []).frame .rpr).en = false) ∧
    (let w := s.setFrame .wsk { s.frame .wsk with quiesce := true }
     (w.frame .wsk).quiesce = true ∧ (w.frame .wsk).quiesced = false ∧ w.tile.whisk = none) ∧
    (s.crk.queue = [] ∧ s.tmg.calQ = []) := by
  refine ⟨?_, ?_, ?_, ?_⟩ <;> decide +kernel

theorem witness_PageControl_checks :
    let s := live []
    let e : WqEntry := { ticket := 0, op := .ckpt, mc := false, drv := false }
    let off := core [.til, .ldl] []
    (Serves s .firmware ∧ Accepts.any.has .firmware ∧ ctrlAccepts .til = .any) ∧
    ((off.frame .til).en = false ∧ (off.frame .til).quiesce = (off.frame .til).quiesced ∧ keysRise off.shadow = true ∧
      keysRise off.committed = true) ∧
    ((s.setReg .ldl 0x40 0).frame .ldl).en = true ∧ (s.reg .ldl 0x40).toNat = 0x400_0000 ∧
    ({ s with crk := { s.crk with queue := [e] } } : State).crk.queue.any (fun e => e.op.isMap) = true ∧
    (s.frame .til).quiesce = false := by
  refine ⟨?_, ?_, ?_, ?_, ?_, ?_⟩ <;> decide +kernel

theorem witness_RegisterWindow :
    let s := live []
    (commandOf (.scanCmd .driver) = some (.driver, .crk, .m, "SCAN_CMD") ∧ ¬ Accepts.m.has .driver ∧ s.served = true ∧
      State.reset.served = false) ∧
    ((regInfo .tmg 0x48).isSome = true ∧ regInfo .til 0xEF8 = none ∧ (0xFF8 - 0xF00) / 8 = 31) ∧
    (let u := with0 (s.setReg .thr 0x50 0x2000) fun h => { h with halted := true }
     (u.reg .thr 0x50).toNat = 0x2000 ∧ fld 0x2000 13 8 = 0x20 ∧ u.en .thr = true ∧ (u.th 0).halted = true) ∧
    (ownWriter .ownUS ∧ s.en .dbg = true ∧ (core [.dbg] []).en .dbg = false) := by
  refine ⟨?_, ?_, ?_, ?_⟩ <;> decide +kernel

theorem witness_RegisterWindow_writers :
    (commandOf (.bistRow .otherCore 3) = some (.otherCore, .rpr, .md, "BIST_ROW") ∧ Serves (live []) .otherCore) ∧
    (commandOf (.scanCmd .otherCore) = some (.otherCore, .crk, .m, "SCAN_CMD")) ∧
    (retained.tmg.ret ≠ none ∧ waking.tmg.waking ≠ none ∧ heard.noc.inbox ≠ []) ∧
    (regInfo .scl 0x68).isSome = true ∧ (regInfo .rpr 0x48).isSome = true ∧ regInfo .til 0xEF8 = none ∧
    ((live []).en .ldl = true ∧ (0x40 : Nat) % 0x40 = 0) ∧ counterSlots .scl = 12 := by
  refine ⟨?_, ?_, ?_, ?_, ?_, ?_, ?_, ?_⟩ <;> decide +kernel

/-- The boot ROM in stage 1, over a boot record with a trial and so many tries left. -/
def booting (tries : Nat) : State :=
  let s := live []
  { s with
    phase := .boot
    crk := { s.crk with media := [(0x2_0000, BitVec.ofNat 256 (ofBytes (bootBytes 3 false true tries)))] } }

/-- Its boot record: copy, GEN, and whether there is one to write. -/
def recordOf (s : State) : Option (Nat × Nat × Byte) :=
  s.bootRecord.map fun x => (x.1, ofBytes ((x.2.drop 4).take 4), (x.2[9]?).getD 0)

theorem witness_CrockReadsAndSlots_boot :
    let s := booting 2
    s.powered = true ∧ s.crk.pfail = false ∧ s.phase = .boot ∧ s.crk.mapBad = false ∧ (s.bootPending.map (·.1)) = some 0x2_0001 ∧
    s.crk.queue = [] ∧ s.crk.now = none ∧ lookup s.crk.wmap 1024 = none ∧ recordOf s = some (0, 3, 1) ∧
    (live []).bootPending = none := by decide +kernel

/-- A second copy of the anti-rollback line: FLOOR 7, keys 0 and 1 revoked; the first is not valid. -/
def rolled : State :=
  let s := live []
  let b := sealLine (bytesOf 4 0x7C74_5256 ++ bytesOf 4 7 ++ bytesOf 4 (2 ^ 32 - 1 - 7) ++ bytesOf 1 3)
  { s with phase := .boot, crk := { s.crk with media := [(0x2_0003, BitVec.ofNat 256 (ofBytes b))] } }

theorem witness_ResetsAndWrapper_boot :
    (let s := booting 2
     s.phase = .boot ∧ s.crk.mapBad = false ∧ lookup s.crk.wmap 1024 = none ∧ s.crk.halt = false ∧ recordOf s = some (0, 3, 1) ∧
     s.rollCopy 0 = none ∧ s.rollCopy 1 = none ∧ s.verifyCode false ≠ 1 ∧ s.verifyCode true ≠ 1 ∧ (s.bootPending.map (·.1)) = some 0x2_0001) ∧
    (let s := rolled
     s.phase = .boot ∧ s.bootPending = none ∧ s.crk.halt = false ∧ s.rollCopy (1 - 0) = some s.rollBytes ∧ s.rollCopy 0 = none ∧ s.floor = 7) ∧
    (let s : State := { live [] with crk := { (live []).crk with mapBad := true }, phase := .boot }
     s.phase = .boot ∧ s.crk.mapBad = true) ∧
    (let s := engaged [entryOf 0 (.move 3455 3500 false) false] 856 0 true
     s.bootPending = none ∧ s.crk.pfail = true ∧ (s.crk.now.map fun r => (r.line, r.entry.op)) = some (856, .move 3455 3500 false)) := by
  refine ⟨?_, ?_, ?_, ?_⟩ <;> decide +kernel

/-- A cold and a warm reset put the WIR at its reset value (R18, R391); a cold reset ends a test. -/
theorem test_reset_restores_wir :
    let s : State := { live [] with wrap := { (live []).wrap with wir := 0x04 } }
    (after .warmReset s).map (fun u => u.wrap.wir) = some 0x3F ∧
    (after .coldReset { s with phase := .testReset }).map (fun u => (u.wrap.wir, u.phase)) = some (0x3F, .coldReset) := by
  refine ⟨?_, ?_⟩ <;> decide +kernel

theorem witness_ResetsAndWrapper_release :
    (let e : RtEntry := { request .write (.thread 0) 1 0x1000 4 true with dead := true }
     let s : State := { requesting e with phase := .warmReset }
     s.phase = .warmReset ∧ (∀ x ∈ s.noc.rt, x.2.dead = true) ∧ keysRise s.noc.rt = true ∧ (lookup s.noc.rt 2047).isSome = true) ∧
    (let s : State := { requesting (request (.writeBack false 14) (.maint 0) 1 0x1000 5 true) with phase := .warmReset }
     (s.noc.rt.map fun x => x.2.dead) = [false]) := by
  refine ⟨?_, ?_⟩ <;> decide +kernel

/-- A sleeping thread 0 whose RUN a COMMIT of TMG clears, while it sets that of thread 1, which takes machine checks. -/
def resleeping : State :=
  let s := with0 (live []) fun h => { h with sleep := .asleep }
  ((s.setReg .irq 0x58 1).setCom .irq 0x58 1).setReg .tmg 0xB8 0x3_2232

theorem witness_PageControl_timing :
    let s := resleeping
    s.served = true ∧ s.noc.inbox = [] ∧ fld (s.reg .tmg 0xB8).toNat 0 0 = 0 ∧ fld (s.reg .tmg 0xB8).toNat 4 4 = 1 ∧
    (s.com .irq 0x58).toNat = 1 ∧ (s.th 0).halted = false ∧ (s.th 0).stopped = false ∧ (s.th 0).sleep ≠ .awake ∧ (s.th 1).stopped = true ∧
    (s.th 1).halted = false ∧ s.tmg.calQ = [] ∧ s.tmg.mux = none ∧ (s.frame .tmg).quiesce = (s.frame .tmg).quiesced ∧
    keysRise s.shadow = true ∧ keysRise s.committed = true ∧
    (let m : State := { s with tmg := { s.tmg with move := some { fromL := 5, toL := 6, start := 0 } } }
     m.tmg.move.isSome = true ∧ m.tmg.mux = none ∧
     (after (.ctrlCommit .firmware .tmg) m).map (fun u => ((u.frame .tmg).refuse, (u.th 0).stopped, (u.th 1).stopped)) =
       some (0, true, false)) ∧
    fld (s.setReg .tmg 0xB0 3 |>.reg .tmg 0xB0).toNat 0 0 = 1 := by decide +kernel

theorem witness_RegisterWindow_regions :
    Serves (live []) .otherCore ∧ (regInfo .xlt 0x40).isSome = true ∧ (regInfo .xlt 0x1F8).isSome = true ∧
    (regInfo .xlt 0x50).isSome = true := by decide +kernel

/-- The state after reset meets the invariant. -/
theorem witness_InvariantKept_reset : Inv State.reset := by
  refine ⟨?_, ?_, ?_, ?_, ?_, ?_, ?_⟩ <;> decide +kernel

theorem witness_InvariantKept :
    let s : State := { loading 0x1000 [.xlt] 3 0 with pending := [.chipIrq 15] }
    Inv s ∧ s.tile.mem.length = 1 ∧
      (match step s with | .next u => decide (u.irq.edge = 0x8000_0000_0000_0000) | _ => false) = true := by
  refine ⟨⟨?_, ?_, ?_, ?_, ?_, ?_, ?_⟩, ?_, ?_⟩ <;> decide +kernel

theorem witness_EmptyQueuePassesOneCycle :
    let s := live []
    (s.pending = [] ∧ ¬ (s.phase = .coldReset ∨ s.phase = .testReset ∨ s.tmg.ret ≠ none) ∧ s.phase ≠ .warmReset ∧ s.ls.growth = none ∧
      s.ls.sweep = [] ∧ s.crk.queue = [] ∧ s.tmg.calQ = []) ∧ State.reset.pending = [] ∧
    (let h := ((with0 (atLevel s 1) fun h => { h with stat := 0x5, qlim := 7, quietCnt := 7 }).th 0)
     h.quiet = true ∧ h.pl ≠ 3 ∧ h.qlim ≠ 0 ∧ h.quietFired = false ∧ h.quietCnt ≤ h.qlim.toNat) ∧
    (let x : SpanClear := { s.inFlight true with who := .host (hdr 1 0xFA_0000_7078 3) }
     let c : State := { s with noc := { s.noc with clears := [x] } }
     let w : State := { s with noc := { s.noc with clears := [{ x with waitFor := [3] }] } }
     ¬ Unfinished c x.toInFlight ∧ c.ls.growth = none ∧ ∀ y ∈ w.noc.clears, Unfinished w y.toInFlight) := by
  refine ⟨?_, ?_, ?_, ?_⟩ <;> decide +kernel

theorem witness_EmptyQueuePassesOneCycle_inbox :
    (heard.pending = [] ∧ heard.noc.inbox = [.doorbell { hdr 3 0xFA_0000_0000 0 with mkind := 1 }] ∧ heard.noc.clears = [] ∧
      heard.served = true ∧ heard.portRuns = true ∧ Calm heard) ∧
    ((live []).tmg.refHere = true ∧ ({ (live []).tmg with refHere := false } : Timing).refHere = false) ∧
    (let s : State := { live [] with phase := .warmReset }
     s.pending = [] ∧ s.phase = .warmReset ∧ s.tmg.ret = none) ∧
    (waking.pending = [] ∧ waking.phase = .run ∧ waking.served = false) ∧
    (({ (live []).tmg with time := 99 } : Timing).time + 1) % 100 = 0 := by
  refine ⟨?_, ?_, ?_, ?_, ?_⟩ <;> decide +kernel

end Sys2Proof.Tests
end

section
namespace Sys2Proof.Machine
open Sys2Proof

/-! ## The state after reset -/

/-- Settles O58: every conjunct of the invariant is a finite check on the reset state. -/
theorem invariantAtReset : Obligations.InvariantAtReset := by
  unfold Obligations.InvariantAtReset
  refine ⟨?place, ?commands, ?canonical, ?entries, ?stores, ?writes, ?runs⟩ <;> decide +kernel

end Sys2Proof.Machine
end

section
namespace Sys2Proof.Machine
open Sys2Proof

/-! ### What a step keeps

`Sound F s` says that `s` has the place and the queue that `F` names and, where `F` asks for it, that
the sparse memories are canonical and the bounded queues have room. Every function of the model that
changes the state keeps `Sound F`, for every `F`. -/

/-- The place and the command queue of a state, and whether its memories and queues are kept too. -/
structure Keeps where
  full : Prop
  pos : Pos
  pending : List Instr

/-- A state with the place and the queue of `F`, its memories canonical and its queues within their bounds where `F` asks. -/
structure Sound (F : Keeps) (s : State) : Prop where
  pos : s.pos = F.pos
  pending : s.pending = F.pending
  pm : F.full → canon pmEmpty s.pm = true
  shadow : F.full → canon regReset s.shadow = true
  committed : F.full → canon regReset s.committed = true
  counters : F.full → canon zero48 s.counters = true
  shelf : F.full → canon zero8 s.ls.shelf = true
  lines : F.full → keysRise s.ls.lines = true
  l1 : F.full → keysRise s.ls.l1 = true
  stores : F.full → s.ls.sb.length ≤ 32
  data : F.full → canon zero8 s.tile.data = true
  entries : F.full → s.tile.queue.length ≤ 32
  runs : ∀ m ∈ s.tile.mem, F.full → m.sound
  rt : F.full → keysRise s.noc.rt = true
  gens : F.full → canon zero3 s.noc.gens = true
  media : F.full → canon zero256 s.crk.media = true
  wcount : F.full → canon zero32 s.crk.wcount = true
  wmap : F.full → keysRise s.crk.wmap = true
  errs : F.full → keysRise s.crk.errs = true
  writes : F.full → s.crk.queue.length ≤ 8

/-- A state that a search may find. -/
structure OptSound (F : Keeps) (o : Option State) : Prop where
  of_eq : ∀ u, o = some u → Sound F u

/-- A state that a search may find, with a value. -/
structure OptFstSound {α : Type} (F : Keeps) (o : Option (State × α)) : Prop where
  of_eq : ∀ u a, o = some (u, a) → Sound F u

/-- A state that an instruction may lead to. -/
structure ResSound (F : Keeps) (r : Res) : Prop where
  of_eq : ∀ u, r = .next u → Sound F u

/-- The states that an instruction's end names. -/
def Ends.states (r : Ends) : List State :=
  match r with
  | .done s _ => [s]
  | .jump s _ => [s]
  | .trap s _ _ _ => [s]
  | .waits s => [s]
  | .late s _ => [s]
  | .stall => []

/-- The states that an end of an instruction names. -/
structure EndsSound (F : Keeps) (r : Ends) : Prop where
  of_mem : ∀ u ∈ r.states, Sound F u

variable {F : Keeps} {s : State}

theorem OptSound.none : OptSound F none := ⟨fun _ e => nomatch e⟩
theorem OptSound.some (h : Sound F s) : OptSound F (some s) := ⟨fun _ e => by cases e; exact h⟩
theorem OptFstSound.none {α : Type} : OptFstSound (α := α) F none := ⟨fun _ _ e => nomatch e⟩
theorem OptFstSound.some {α : Type} {a : α} (h : Sound F s) :
    OptFstSound F (some (s, a)) := ⟨fun _ _ e => by cases e; exact h⟩
theorem ResSound.next (h : Sound F s) : ResSound F (.next s) := ⟨fun _ e => by cases e; exact h⟩
theorem ResSound.refused {r} : ResSound F (.refused r) := ⟨fun _ e => nomatch e⟩
theorem ResSound.fault {r} : ResSound F (.fault r) := ⟨fun _ e => nomatch e⟩
theorem EndsSound.done (h : Sound F s) {o} : EndsSound F (.done s o) := ⟨fun _ m => by cases List.mem_singleton.1 m; exact h⟩
theorem EndsSound.jump (h : Sound F s) {x} : EndsSound F (.jump s x) := ⟨fun _ m => by cases List.mem_singleton.1 m; exact h⟩
theorem EndsSound.trap (h : Sound F s) {c a i} : EndsSound F (.trap s c a i) := ⟨fun _ m => by cases List.mem_singleton.1 m; exact h⟩
theorem EndsSound.waits (h : Sound F s) :
    EndsSound F (.waits s) := ⟨fun _ m => by cases List.mem_singleton.1 m; exact h⟩
theorem EndsSound.late (h : Sound F s) {f} : EndsSound F (.late s f) := ⟨fun _ m => by cases List.mem_singleton.1 m; exact h⟩
theorem EndsSound.stall : EndsSound F .stall := ⟨fun _ m => nomatch m⟩
theorem Sound.pair {α : Type} {a : α} (h : Sound F s) : Sound F (s, a).1 := h

theorem Sound.of_fst {α : Type} {x : State × α} {u : State} {a : α} (h : Sound F x.1) (e : x = (u, a)) : Sound F u := by
  subst e; exact h

theorem OptSound.get {o : Option State} {u : State} (h : OptSound F o) (e : o = .some u) : Sound F u := h.of_eq u e
theorem OptFstSound.get {α : Type} {o : Option (State × α)} {u : State} {a : α} (h : OptFstSound F o) (e : o = .some (u, a)) :
    Sound F u := h.of_eq u a e
theorem OptFstSound.map_fst {α : Type} {o : Option (State × α)} (h : OptFstSound F o) : OptSound F (o.map (·.1)) := by
  cases o with
  | none => exact .none
  | some x => exact .some (h.of_eq x.1 x.2 rfl)
theorem foldl_kept {α β : Type} (P : β → Prop) {f : β → α → β} (hf : ∀ b a, P b → P (f b a)) (l : List α) {b : β} (hb : P b) :
    P (l.foldl f b) := by
  induction l generalizing b with
  | nil => exact hb
  | cons a l ih => exact ih (hf _ _ hb)

theorem Sound.foldl {α : Type} {f : State → α → State} (hf : ∀ s a, Sound F s → Sound F (f s a)) (l : List α)
    (h : Sound F s) : Sound F (l.foldl f s) := foldl_kept (Sound F) hf l h

theorem Sound.sealed {u : State} (h : Sound F s) (hu : Sound F u) : Sound F (s.sealed u) :=
  { hu with pos := h.pos, pending := h.pending }

theorem ResSound.due (h : Sound F s) {u : State} {c : Bool} (hu : Sound F u) : ResSound F (due s c u) := by
  unfold Machine.due
  split
  · exact .next (h.sealed hu)
  · exact .next h
/-- An event needs to keep soundness only where its condition holds. -/
theorem ResSound.due_of (h : Sound F s) {u : State} {c : Bool} (hu : c = true → Sound F u) :
    ResSound F (Machine.due s c u) := by
  unfold Machine.due
  split
  · rename_i e
    exact .next (h.sealed (hu e))
  · exact .next h
theorem ResSound.always (h : Sound F s) {u : State} (hu : Sound F u) : ResSound F (always s u) := .next (h.sealed hu)
theorem keysRise_filter {α : Type} (f : Nat × α → Bool) (m : List (Nat × α)) (hm : keysRise m = true) :
    keysRise (m.filter f) = true := by
  induction m with
  | nil => rfl
  | cons e r ih =>
    simp only [keysRise, Bool.and_eq_true] at hm
    rw [List.filter_cons]
    split
    · simp [keysRise, ih hm.2, keysAbove_filter f r e.1 hm.1]
    · exact ih hm.2
/-- A step on the values leaves the keys in order. -/
theorem keysRise_mapVal {α β : Type} (f : Nat × α → β) (m : List (Nat × α)) (hm : keysRise m = true) :
    keysRise (m.map fun e => (e.1, f e)) = true := by
  have above : ∀ (k : Nat) (l : List (Nat × α)), keysAbove k (l.map fun e => (e.1, f e)) = keysAbove k l := by
    intro k l
    induction l with
    | nil => rfl
    | cons e r ih => simp_all [keysAbove]
  induction m with
  | nil => rfl
  | cons e r ih =>
    simp only [keysRise, Bool.and_eq_true] at hm
    simp [keysRise, above, hm.1, ih hm.2]

theorem Sound.setTh (h : Sound F s) (t : Thread) (x : HThread) : Sound F (s.setTh t x) := { h with }
end Sys2Proof.Machine
end

section
namespace Sys2Proof.Machine
open Sys2Proof

variable {F : Keeps} {s : State}

/-! ## Register values: what each function keeps -/

theorem Sound.setReg (h : Sound F s) (pg o v) : Sound F (s.setReg pg o v) := by
  unfold State.setReg
  exact { h with shadow := fun c => canon_setD _ _ _ _ (h.shadow c) }

theorem Sound.setCom (h : Sound F s) (pg o v) : Sound F (s.setCom pg o v) := by
  unfold State.setCom
  exact { h with committed := fun c => canon_setD _ _ _ _ (h.committed c) }

theorem Sound.commitRegs (h : Sound F s) (pg) : Sound F (s.commitRegs pg) :=
  { h with committed := fun c => canon_takeSh _ _ _ (h.shadow c) (h.committed c) }

theorem Sound.revertRegs (h : Sound F s) (pg) : Sound F (s.revertRegs pg) :=
  { h with shadow := fun c => canon_takeSh _ _ _ (h.committed c) (h.shadow c) }

theorem Sound.setFrame (h : Sound F s) (pg f) : Sound F (s.setFrame pg f) := by
  unfold State.setFrame
  exact { h with }

theorem Sound.event (h : Sound F s) (pg i) : Sound F (s.event pg i) := by
  unfold State.event
  exact h.setFrame ..

theorem Sound.refuse (h : Sound F s) (pg code) : Sound F (s.refuse pg code) := by
  unfold State.refuse
  exact h.setFrame ..

theorem Sound.setCounter (h : Sound F s) (pg slot v) : Sound F (s.setCounter pg slot v) := by
  unfold State.setCounter
  exact { h with counters := fun c => canon_setD _ _ _ _ (h.counters c) }

theorem Sound.pmcAdd (h : Sound F s) (n k) : Sound F (pmcAdd s n k) := by
  unfold Machine.pmcAdd
  extract_lets _ s'
  have h' : Sound F s' := h.setCounter ..
  split
  · exact h'.event ..
  · exact h'

theorem Sound.pmc (h : Sound F s) (pg slot k who) : Sound F (s.pmc pg slot k who) := by
  unfold State.pmc
  split
  · refine Sound.foldl (fun u x hu => ?_) _ h
    split
    · exact hu.pmcAdd ..
    · exact hu
  · exact h

theorem Sound.bump (h : Sound F s) (pg slot k who) : Sound F (s.bump pg slot k who) := by
  unfold State.bump
  exact (h.setCounter ..).pmc ..

end Sys2Proof.Machine
end

section
namespace Sys2Proof.Machine
open Sys2Proof

variable {F : Keeps} {s : State}

/-! ## Charges, event counters and records: what each function keeps -/

theorem Sound.setBal (h : Sound F s) (b) : Sound F (s.setBal b) := by
  unfold State.setBal
  extract_lets _ _ s1 s2
  have h1 : Sound F s1 := { h with }
  have h2 : Sound F s2 := by
    unfold s2
    split
    · exact h1.event ..
    · exact h1
  split
  · exact h2.event ..
  · exact h2

theorem Sound.addEnergy (h : Sound F s) (i amt who) : Sound F (s.addEnergy i amt who) := by
  unfold State.addEnergy
  extract_lets _ _ _ s1
  have h1 : Sound F s1 := { h with }
  exact h1.pmc ..

theorem Sound.countEnergy (h : Sound F s) (cls amt who) : Sound F (s.countEnergy cls amt who) := by
  unfold State.countEnergy
  exact (h.addEnergy ..).addEnergy ..

theorem Sound.charge (h : Sound F s) (cls n who) : Sound F (s.charge cls n who) := by
  unfold State.charge
  split
  · exact h
  · extract_lets
    exact (h.setBal ..).countEnergy ..

end Sys2Proof.Machine
end

section
namespace Sys2Proof.Machine
open Sys2Proof

variable {F : Keeps} {s : State}

/-! ## Receive buffers of the port: what each function keeps -/

theorem Sound.request (h : Sound F s) (reserved e) : OptFstSound F (s.request reserved e) := by
  unfold State.request
  split
  · exact .none
  · exact .some { h with rt := fun c => keysRise_put _ _ _ (h.rt c) }

theorem Sound.joined (h : Sound F s) (old hit) : Sound F (s.joined old hit) := by
  unfold State.joined
  exact { h with }

theorem Sound.freeReq (h : Sound F s) (i) : Sound F (s.freeReq i) := by
  unfold State.freeReq
  exact { h with rt := fun c => keysRise_drop _ _ (h.rt c), gens := fun c => canon_setD _ _ _ _ (h.gens c) }

theorem Sound.setReq (h : Sound F s) (i e) : Sound F (s.setReq i e) := by
  unfold State.setReq
  exact { h with rt := fun c => keysRise_put _ _ _ (h.rt c) }

end Sys2Proof.Machine
end

section
namespace Sys2Proof.Machine
open Sys2Proof

variable {F : Keeps} {s : State}

/-! ## Fault records: what each function keeps -/

theorem Sound.record (h : Sound F s) (pg addr info fatal who) : Sound F (s.record pg addr info fatal who) := by
  unfold State.record
  extract_lets
  exact (h.setFrame ..).bump ..

theorem Sound.mcheck (h : Sound F s) (pg who) : Sound F (s.mcheck pg who) := by
  unfold State.mcheck
  extract_lets _ _ s1
  have h1 : Sound F s1 := { h with }
  exact h1.bump ..

theorem Sound.queueFatal (h : Sound F s) : Sound F s.queueFatal := by
  unfold State.queueFatal
  split
  · exact h
  · split
    · exact h
    · split
      · exact h
      · rename_i e
        have hb0 := (h.request ..).get e
        exact { hb0 with }

theorem Sound.queueReady (h : Sound F s) : Sound F s.queueReady := by
  unfold State.queueReady
  split
  · exact h
  · split
    · exact h
    · split
      · exact h
      · rename_i e
        have hb0 := (h.request ..).get e
        exact { hb0 with }

theorem Sound.fatalCond (h : Sound F s) (reason pg who) : Sound F (s.fatalCond reason pg who) := by
  unfold State.fatalCond
  extract_lets s0 _ s1 s2
  have h0 : Sound F s0 := h.bump ..
  clear_value s0
  have h1 : Sound F s1 := { h0 with }
  have h2 : Sound F s2 := h1.mcheck ..
  clear_value s1 s2
  split
  · exact h0
  · refine Sound.queueFatal ?_ ..
    exact { h2 with }

theorem Sound.ceEvent (h : Sound F s) : Sound F s.ceEvent := by
  unfold State.ceEvent
  split
  · exact h.event ..
  · exact h

theorem Sound.lstError (h : Sound F s) (kind addr way half nsym src mc) :
    Sound F (s.lstError kind addr way half nsym src mc) := by
  unfold State.lstError
  extract_lets _ s1 s2 s3 s4 s5
  have h1 : Sound F s1 := h.record ..
  have h2 : Sound F s2 := by
    unfold s2
    split
    · exact h1.bump ..
    · exact h1
  have h3 : Sound F s3 := by
    unfold s3
    split
    · exact h2.ceEvent ..
    · exact h2
  have h4 : Sound F s4 := by
    unfold s4
    split
    · exact h3.event ..
    · exact h3
  have h5 : Sound F s5 := by
    unfold s5
    split
    · exact h4.mcheck ..
    · exact h4
  split
  · exact h5.fatalCond ..
  · exact h5

theorem Sound.ldlError (h : Sound F s) (kind addr src) : Sound F (s.ldlError kind addr src) := by
  unfold State.ldlError
  exact (h.record ..).mcheck ..

end Sys2Proof.Machine
end

section
namespace Sys2Proof.Machine
open Sys2Proof

variable {F : Keeps} {s : State}

/-! ## The shelf, the store buffer and the L1D: what each function keeps -/

theorem Sound.lsCharge (h : Sound F s) (cls src) : Sound F (s.lsCharge cls src) := by
  unfold State.lsCharge
  split
  · exact h
  · exact h.charge ..

theorem Sound.l1Touch (h : Sound F s) (set w) : Sound F (s.l1Touch set w) := by
  unfold State.l1Touch
  exact { h with }

theorem Sound.l1Drop (h : Sound F s) (blk) : Sound F (s.l1Drop blk) := by
  unfold State.l1Drop
  split
  · exact h
  · exact { h with l1 := fun c => keysRise_drop _ _ (h.l1 c) }

theorem Sound.l1DropLine (h : Sound F s) (line) : Sound F (s.l1DropLine line) := by
  unfold State.l1DropLine
  exact (h.l1Drop ..).l1Drop ..

theorem Sound.l1Read (h : Sound F s) (blk src) : Sound F (s.l1Read blk src).1 := by
  unfold State.l1Read
  extract_lets s0
  have h0 : Sound F s0 := h.charge ..
  split
  · exact .pair h0
  · split
    · exact .pair h0
    · split
      · exact .pair ((h0.l1Drop ..).lstError ..)
      · exact .pair (h0.l1Touch ..)

theorem Sound.l1Fill (h : Sound F s) (blk data) : Sound F (s.l1Fill blk data) := by
  unfold State.l1Fill
  extract_lets
  refine Sound.l1Touch ?_ ..
  exact { h with l1 := fun c => keysRise_put _ _ _ (h.l1 c) }

theorem Sound.l1Update (h : Sound F s) (pa bytes) : Sound F (s.l1Update pa bytes) := by
  unfold State.l1Update
  split
  · exact h
  · split
    · exact h
    · extract_lets
      exact { h with l1 := fun c => keysRise_put _ _ _ (h.l1 c) }

theorem Sound.shelfCheck (h : Sound F s) (src b) : Sound F (s.shelfCheck src b) := by
  unfold State.shelfCheck
  split
  · exact h
  · extract_lets _ s1
    have h1 : Sound F s1 := { h with }
    clear_value s1
    split
    · exact h1.lstError ..
    · refine Sound.lstError ?_ ..
      exact { h1 with }

theorem Sound.shelfRead (h : Sound F s) (src o n) : Sound F (s.shelfRead src o n).1 := by
  unfold State.shelfRead
  extract_lets s1
  have h1 : Sound F s1 := by
    unfold s1
    refine Sound.foldl (fun u x hu => ?_) _ h
    exact hu.shelfCheck ..
  exact .pair h1

theorem Sound.shelfPrep (h : Sound F s) (src o ms b) : Sound F (s.shelfPrep src o ms b) := by
  unfold State.shelfPrep
  split
  · exact { h with }
  · exact h.shelfCheck ..

theorem Sound.shelfMerge (h : Sound F s) (src o ms) : Sound F (s.shelfMerge src o ms) := by
  unfold State.shelfMerge
  extract_lets s1
  have h1 : Sound F s1 := by
    unfold s1
    refine Sound.foldl (fun u x hu => ?_) _ h
    exact hu.shelfPrep ..
  clear_value s1
  exact { h1 with shelf := fun c => canon_setMasked _ _ _ _ (h1.shelf c) }

theorem Sound.shelfL1Drop (h : Sound F s) (o n) : Sound F (s.shelfL1Drop o n) := by
  unfold State.shelfL1Drop
  refine Sound.foldl (fun u x hu => ?_) _ h
  exact hu.l1Drop ..

theorem Sound.shelfWriteM (h : Sound F s) (src o ms) : Sound F (s.shelfWriteM src o ms) := by
  unfold State.shelfWriteM
  exact (h.shelfMerge ..).shelfL1Drop ..

theorem Sound.shelfWrite (h : Sound F s) (src o bytes) : Sound F (s.shelfWrite src o bytes) := by
  unfold State.shelfWrite
  exact h.shelfWriteM ..

theorem Sound.shelfPoison (h : Sound F s) (o n) : Sound F (s.shelfPoison o n) := by
  unfold State.shelfPoison
  exact { h with }

theorem Sound.shelfRefused (h : Sound F s) (o src mc) : Sound F (s.shelfRefused o src mc) := by
  unfold State.shelfRefused
  exact h.lstError ..

theorem Sound.sbWritten (h : Sound F s) (t o bs) : Sound F (s.sbWritten t o bs) := by
  unfold State.sbWritten
  exact { h with stores := fun c => (List.length_map ..).trans_le (h.stores c) }

theorem Sound.shelfWriteBy (h : Sound F s) (t o bs) : Sound F (s.shelfWriteBy t o bs) := by
  unfold State.shelfWriteBy
  exact (h.shelfWrite ..).sbWritten ..

theorem Sound.lsTouch (h : Sound F s) (line w) : Sound F (s.lsTouch line w) := by
  unfold State.lsTouch
  extract_lets
  exact { h with }

theorem Sound.lsDrop (h : Sound F s) (line w) : Sound F (s.lsDrop line w) := by
  unfold State.lsDrop
  refine Sound.l1DropLine ?_ ..
  exact { h with lines := fun c => keysRise_drop _ _ (h.lines c) }

theorem Sound.lsPut (h : Sound F s) (line w l) : Sound F (s.lsPut line w l) := by
  unfold State.lsPut
  exact { h with lines := fun c => keysRise_put _ _ _ (h.lines c) }

theorem Sound.lsHalf (h : Sound F s) (line w src h') : Sound F (s.lsHalf line w src h').1 := by
  unfold State.lsHalf
  split
  · exact .pair h
  · extract_lets
    split
    · exact .pair h
    · split
      · exact .pair ((h.lsPut ..).lstError ..)
      · split
        · exact .pair ((h.lsPut ..).lstError ..)
        · exact .pair ((h.lsDrop ..).lstError ..)

theorem Sound.lsTag (h : Sound F s) (line w src) : Sound F (s.lsTag line w src) := by
  unfold State.lsTag
  split
  · exact h
  · split
    · exact (h.lsDrop ..).lstError ..
    · split
      · exact (h.lsPut ..).lstError ..
      · exact h

theorem Sound.lsCheck (h : Sound F s) (line w src) : Sound F (s.lsCheck line w src).1 := by
  unfold State.lsCheck
  split
  · rename_i e
    split
    · exact .pair (((h.lsTag ..).lsHalf ..).of_fst e)
    · exact (((h.lsTag ..).lsHalf ..).of_fst e).lsHalf ..

theorem Sound.lsClean (h : Sound F s) (line w src evict) : OptFstSound F (s.lsClean line w src evict) := by
  unfold State.lsClean
  extract_lets s0 s1
  have h0 : Sound F s0 := h.lsTag ..
  have h1 : Sound F s1 := h0.lsCheck ..
  split
  · split
    · exact .some h1
    · split
      · exact .none
      · rename_i e
        exact .some (((((h1.request ..).get e).lsPut ..).bump ..).charge ..)
  · exact .some h0

theorem Sound.lsRoom (h : Sound F s) (line src) : OptFstSound F (s.lsRoom line src) := by
  unfold State.lsRoom
  extract_lets ok
  split
  · exact .some h
  · split
    · exact .none
    · split
      · exact .some h
      · split
        · exact .none
        · rename_i e
          exact .some (((h.lsClean ..).get e).lsDrop ..)

theorem Sound.lsInstall (h : Sound F s) (line w data pois errs src) :
    Sound F (s.lsInstall line w data pois errs src) := by
  unfold State.lsInstall
  exact ((h.lsPut ..).lsTouch ..).charge ..

theorem Sound.sideRemove (h : Sound F s) (line) : Sound F (s.sideRemove line) := by
  unfold State.sideRemove
  exact { h with }

theorem Sound.sideKill (h : Sound F s) (line src) : Sound F (s.sideKill line src) := by
  unfold State.sideKill
  split
  · exact h
  · extract_lets
    refine Sound.bump ?_ ..
    exact { h with }

theorem Sound.newFill (h : Sound F s) (line src k again) : Sound F (s.newFill line src k again).1 := by
  unfold State.newFill
  split
  · exact .pair h
  · rename_i e
    split
    · exact .pair ((h.lsRoom ..).get e)
    · rename_i e1
      exact .pair ((((h.lsRoom ..).get e).request ..).get e1)

theorem Sound.corrected (h : Sound F s) (addr way errs src) : Sound F (s.corrected addr way errs src) := by
  unfold State.corrected
  extract_lets fixed s1
  have h1 : Sound F s1 := by
    unfold s1
    split
    · exact h.lstError ..
    · exact h
  split
  · exact h1.lstError ..
  · exact h1

theorem Sound.lsMiss (h : Sound F s) (line src k again) : Sound F (s.lsMiss line src k again).1 := by
  unfold State.lsMiss
  split
  · exact .pair (h.setReq ..)
  · split
    · split
      · split
        · extract_lets
          exact (((h.sideRemove ..).bump ..).lstError ..).newFill ..
        · split
          · exact .pair h
          · rename_i e1
            exact .pair ((((((h.lsRoom ..).get e1).sideRemove ..).corrected ..).lsInstall ..).bump ..)
      · split
        · exact .pair (((h.sideRemove ..).setReq ..).bump ..)
        · exact h.newFill ..
    · exact h.newFill ..

theorem Sound.lsMissed (h : Sound F s) (line src k again) : Sound F (s.lsMissed line src k again).1 := by
  unfold State.lsMissed
  extract_lets r
  have hr : Sound F r.1 := h.lsMiss ..
  split
  · exact hr
  · exact .pair (hr.bump ..)

theorem Sound.lsDemand (h : Sound F s) (line src k rd) : Sound F (s.lsDemand line src k rd).1 := by
  unfold State.lsDemand
  split
  · exact .pair h
  · split
    · exact h.lsMissed ..
    · split
      · rename_i e
        split
        · extract_lets s2
          have h2 : Sound F s2 := ((h.lsCheck ..).of_fst e).lsTouch ..
          split
          · exact .pair (h2.lsCharge ..)
          · exact .pair h2
        · exact ((h.lsCheck ..).of_fst e).lsMissed ..

theorem Sound.lsRead (h : Sound F s) (line src k) : Sound F (s.lsRead line src k).1 := by
  unfold State.lsRead
  exact h.lsDemand ..

end Sys2Proof.Machine
end

section
namespace Sys2Proof.Machine
open Sys2Proof

variable {F : Keeps} {s : State}

/-! ## Trays and slots: what each function keeps -/

theorem Sound.setTray (h : Sound F s) (T x') : Sound F (s.setTray T x') := by
  unfold State.setTray
  exact { h with }

theorem Sound.setMark (h : Sound F s) (T r b) : Sound F (s.setMark T r b) := by
  unfold State.setMark
  exact h.setTray ..

theorem Sound.rowParity (h : Sound F s) (T r u' who) : Sound F (s.rowParity T r u' who) := by
  unfold State.rowParity
  extract_lets _ s1
  have h1 : Sound F s1 := { h with }
  exact (((h1.setMark ..).record ..).event ..).mcheck ..

theorem Sound.checkRow (h : Sound F s) (T u' r who) : Sound F (s.checkRow T u' r who) := by
  unfold State.checkRow
  split
  · exact h.rowParity ..
  · exact h

theorem Sound.checkRows (h : Sound F s) (T u' r n who) : Sound F (s.checkRows T u' r n who) := by
  unfold State.checkRows
  refine Sound.foldl (fun u x hu => ?_) _ h
  exact hu.checkRow ..

theorem Sound.putRow (h : Sound F s) (T r bs mark) : Sound F (s.putRow T r bs mark) := by
  unfold State.putRow
  extract_lets _ s1
  have h1 : Sound F s1 := { h with data := fun c => canon_setN _ _ _ _ (h.data c) }
  exact h1.setTray ..

theorem Sound.zeroData (h : Sound F s) (T) : Sound F (s.zeroData T) := by
  unfold State.zeroData
  exact { h with data := fun c => canon_filter _ _ _ (h.data c) }

theorem Sound.zeroTray (h : Sound F s) (T rows bytes) : Sound F (s.zeroTray T rows bytes) := by
  unfold State.zeroTray
  exact (h.zeroData ..).setTray ..

theorem Sound.setSlot (h : Sound F s) (i x') : Sound F (s.setSlot i x') := by
  unfold State.setSlot
  exact { h with }

theorem Sound.setElem (h : Sound F s) (k v) : Sound F (s.setElem k v) := by
  unfold State.setElem
  exact { h with }

theorem Sound.elemRecord (h : Sound F s) (sl i j who) : Sound F (s.elemRecord sl i j who) := by
  unfold State.elemRecord
  exact ((h.record ..).event ..).mcheck ..

theorem Sound.checkElem (h : Sound F s) (fp k who) : Sound F (s.checkElem fp k who) := by
  unfold State.checkElem
  split
  · exact (h.setElem ..).elemRecord ..
  · exact h

theorem Sound.setEntry (h : Sound F s) (q') : Sound F (s.setEntry q') := by
  unfold State.setEntry
  exact { h with entries := fun c => (List.length_map ..).trans_le (h.entries c) }

theorem Sound.freeze (h : Sound F s) (q' f) : Sound F (s.freeze q' f) := by
  unfold State.freeze
  extract_lets _ s1 _ s2
  have h1 : Sound F s1 := h.setEntry ..
  clear_value s1
  have h2 : Sound F s2 := { h1 with }
  exact (h2.event ..).bump ..

theorem Sound.retire (h : Sound F s) (id) : Sound F (s.retire id) := by
  unfold State.retire
  exact { h with entries := fun c => (List.length_filter_le ..).trans (h.entries c) }

theorem Sound.ownerFlags (h : Sound F s) (v) : Sound F (s.ownerFlags v) := by
  unfold State.ownerFlags
  split
  · exact h
  · exact { h with }

end Sys2Proof.Machine
end

section
namespace Sys2Proof.Machine
open Sys2Proof

variable {F : Keeps} {s : State}

/-! ## The array: what each function keeps -/

theorem Sound.peStep (h : Sound F s) (r kw pe) : Sound F (s.peStep r kw pe) := by
  unfold State.peStep
  split
  · extract_lets _ _ s1
    have h1 : Sound F s1 := h.checkElem ..
    exact (h1.setElem ..).setSlot ..

theorem Sound.checkOperands (h : Sound F s) (r) : Sound F (s.checkOperands r) := by
  unfold State.checkOperands
  extract_lets _ s1 s2
  have h1 : Sound F s1 := (h.checkRows ..).checkRows ..
  have h2 : Sound F s2 := by
    unfold s2
    split
    · exact (h1.checkRows ..).checkRows ..
    · exact h1
  split
  · exact h2.checkRows ..
  · exact h2

theorem Sound.arrayStep (h : Sound F s) (r) : Sound F (s.arrayStep r) := by
  unfold State.arrayStep
  extract_lets _ _ s0 s1 s2 _ _ s3
  have h0 : Sound F s0 := h.checkOperands ..
  have h1 : Sound F s1 := by
    unfold s1
    split
    · exact h0
    · refine Sound.foldl (fun u x hu => ?_) _ h0
      exact hu.peStep ..
  have h2 : Sound F s2 := (h1.bump ..).bump ..
  have h3 : Sound F s3 := h2.setSlot ..
  clear_value s0 s1 s2 s3
  split
  · exact { h2 with }
  · refine Sound.retire ?_ ..
    exact { h3 with }

theorem Sound.mmaStart (h : Sound F s) (q' i) : Sound F (s.mmaStart q' i) := by
  unfold State.mmaStart
  extract_lets _ _ _ s1
  have h1 : Sound F s1 := h.setSlot ..
  clear_value s1
  exact { h1 with }

theorem Sound.copyElem (h : Sound F s) (n f h' who rj) : Sound F (s.copyElem n f h' who rj) := by
  unfold State.copyElem
  split
  · extract_lets _ _ s1 _ _ s2
    have h1 : Sound F s1 := by
      unfold s1
      refine Sound.foldl (fun u x hu => ?_) _ h
      exact hu.checkElem ..
    clear_value s1
    have h2 : Sound F s2 := { h1 with }
    exact h2.setSlot ..

theorem Sound.copyStep (h : Sound F s) (n who) : Sound F (s.copyStep n who) := by
  unfold State.copyStep
  extract_lets _ _ _ s0 s1
  have h0 : Sound F s0 := { h with }
  have h11 : Sound F s1 := by
    unfold s1
    refine Sound.foldl (fun u x hu => ?_) _ h0
    exact hu.copyElem ..
  exact h11.setSlot ..

end Sys2Proof.Machine
end

section
namespace Sys2Proof.Machine
open Sys2Proof

variable {F : Keeps} {s : State}

/-! ## Drains: what each function keeps -/

theorem Sound.drainStart (h : Sound F s) (q' n c) : Sound F (s.drainStart q' n c) := by
  unfold State.drainStart
  extract_lets s1 _ s2
  have h1 : Sound F s1 := h.copyStep ..
  have h2 : Sound F s2 := by
    unfold s2
    split
    · exact h1.setSlot ..
    · exact h1
  clear_value s1 s2
  refine (Sound.bump ?_ ..).bump ..
  exact { h2 with }

theorem Sound.setDrain (h : Sound F s) (d) : Sound F (s.setDrain d) := by
  unfold State.setDrain
  exact { h with }

theorem Sound.writeLatch (h : Sound F s) (d c) : Sound F (s.writeLatch d c) := by
  unfold State.writeLatch
  split
  · exact h
  · extract_lets s1
    have h1 : Sound F s1 := h.putRow ..
    split
    · exact h1.putRow ..
    · exact h1

theorem Sound.checkShadow (h : Sound F s) (fp r who) : Sound F (s.checkShadow fp r who) := by
  unfold State.checkShadow
  refine Sound.foldl (fun u x hu => ?_) _ h
  extract_lets
  split
  · refine Sound.elemRecord ?_ ..
    exact { hu with }
  · exact hu

theorem Sound.streamStep (h : Sound F s) (d) : Sound F (s.streamStep d) := by
  unfold State.streamStep
  extract_lets _ _ _ s1 s2 s3
  have h1 : Sound F s1 := (h.writeLatch ..).checkShadow ..
  have h2 : Sound F s2 := by
    unfold s2
    split
    · exact h1.checkRow ..
    · exact h1
  have h3 : Sound F s3 := by
    unfold s3
    split
    · exact h2.checkRow ..
    · exact h2
  clear_value s1 s2 s3
  split
  · split
    · extract_lets
      refine Sound.setDrain ?_ ..
      exact { h3 with }
  · refine Sound.setDrain ?_ ..
    exact { h1 with }

theorem Sound.drainEnd (h : Sound F s) (d) : Sound F (s.drainEnd d) := by
  unfold State.drainEnd
  extract_lets s1 _ s2
  have h1 : Sound F s1 := h.writeLatch ..
  have h2 : Sound F s2 := (h1.setReg ..).ownerFlags ..
  clear_value s1 s2
  refine Sound.retire ?_ ..
  exact { h2 with }

theorem Sound.tzeroGo (h : Sound F s) (q' n) : Sound F (s.tzeroGo q' n) := by
  unfold State.tzeroGo
  extract_lets _ s1
  have h1 : Sound F s1 := h.setSlot ..
  clear_value s1
  refine ((Sound.bump ?_ ..).bump ..).retire ..
  exact { h1 with }

theorem Sound.trelSlotGo (h : Sound F s) (q' n) : Sound F (s.trelSlotGo q' n) := by
  unfold State.trelSlotGo
  exact ((h.setSlot ..).bump ..).retire ..

theorem Sound.trelTrayGo (h : Sound F s) (q' T) : Sound F (s.trelTrayGo q' T) := by
  unfold State.trelTrayGo
  refine Sound.retire ?_ ..
  split
  · exact h.zeroTray ..
  · exact h

theorem Sound.tcfgGo (h : Sound F s) (q' T) : Sound F (s.tcfgGo q' T) := by
  unfold State.tcfgGo
  exact (h.zeroTray ..).retire ..

theorem Sound.tmovCopy (h : Sound F s) (dst src who) : Sound F (s.tmovCopy dst src who) := by
  unfold State.tmovCopy
  split
  · exact h
  · extract_lets _ s1 s2
    have h1 : Sound F s1 := h.checkRows ..
    have h2 : Sound F s2 := by
      unfold s2
      refine Sound.foldl (fun u x hu => ?_) _ h1
      exact hu.putRow ..
    exact h2.setTray ..

theorem Sound.tmovTurn (h : Sound F s) (dst src e who) : Sound F (s.tmovTurn dst src e who) := by
  unfold State.tmovTurn
  extract_lets _ s1
  have h1 : Sound F s1 := h.checkRows ..
  refine Sound.foldl (fun u x hu => ?_) _ h1
  exact hu.putRow ..

theorem Sound.tmovEnd (h : Sound F s) (m) : Sound F (s.tmovEnd m) := by
  unfold State.tmovEnd
  extract_lets _ s1
  have h1 : Sound F s1 := by
    unfold s1
    split
    · exact h.tmovCopy ..
    · exact h.tmovTurn ..
  clear_value s1
  refine Sound.retire ?_ ..
  exact { h1 with }

end Sys2Proof.Machine
end

section
namespace Sys2Proof.Machine
open Sys2Proof

variable {F : Keeps} {s : State}

/-! ## Translation: what each function keeps -/

/-! A structural recursion on fuel keeps an invariant when one unfolding of it does. -/

/-- The value of the recursion at the fuel below, if there is one. -/
def belowHead {α : Type} : (n : Nat) → Nat.below (motive := fun _ => α) n → Option α
  | 0, _ => none
  | _ + 1, b => some b.1

theorem brecOn_invariant {α : Type} (F : (n : Nat) → Nat.below (motive := fun _ => α) n → α) (P : α → Prop)
    (step : ∀ n b, (∀ a, belowHead n b = some a → P a) → P (F n b)) (n : Nat) : P (Nat.brecOn n F) := by
  induction n with
  | zero => exact step 0 _ fun _ e => nomatch e
  | succ n ih => exact step (n + 1) (Nat.brecOn.go (n + 1) F).2 fun a e => by cases e; exact ih

theorem Sound.tlb1Put (h : Sound F s) (who e) : Sound F (s.tlb1Put who e) := by
  unfold State.tlb1Put
  extract_lets same
  split
  · exact { h with }
  · exact { h with }

theorem Sound.fresh (h : Sound F s) : Sound F s.fresh := by
  unfold State.fresh
  exact { h with }

theorem Sound.mtlbPut (h : Sound F s) (e) : Sound F (s.mtlbPut e) := by
  unfold State.mtlbPut
  extract_lets
  split
  · exact { h with }
  · split
    · exact { h with }
    · exact { h with }

theorem Sound.mtlbGet (h : Sound F s) (va) : Sound F (s.mtlbGet va).1 := by
  unfold State.mtlbGet
  extract_lets key
  split
  · exact .pair h
  · split
    · exact .pair h
    · split
      · exact .pair { h with }
      · exact .pair h

theorem Sound.startWalk (h : Sound F s) (va pl rd wr who) : Sound F (s.startWalk va pl rd wr who).1 := by
  unfold State.startWalk
  split
  · exact .pair h
  · split
    · exact .pair h
    · extract_lets
      refine .pair (Sound.bump ?_ ..)
      exact { h with }

theorem Sound.dropCopies (h : Sound F s) (i) : Sound F (s.dropCopies i) := by
  unfold State.dropCopies
  exact { h with }

theorem Sound.loseSpan (h : Sound F s) (i x' who) : Sound F (s.loseSpan i x' who) := by
  unfold State.loseSpan
  extract_lets s0 _ s1
  have h0 : Sound F s0 := h.dropCopies ..
  clear_value s0
  have h1 : Sound F s1 := { h0 with }
  exact ((h1.record ..).event ..).mcheck ..

theorem Sound.translate (h : Sound F s) (va pl rd wr who) : Sound F (s.translate va pl rd wr who).1 := by
  unfold State.translate
  extract_lets _ hit missed fromWalked
  have hm : Sound F missed := (h.bump ..).charge ..
  have hw : ∀ s' e, Sound F s' → Sound F (fromWalked s' e).1 := by
    intro s' e hs
    dsimp only [fromWalked]
    split
    · exact hs.startWalk ..
    · split
      · exact .pair (hs.tlb1Put ..)
      · exact .pair hs
  clear_value hit missed fromWalked
  split
  · exact .pair h
  · split
    · split
      · exact .pair h
      · exact .pair h
    · split
      · extract_lets copy s1 _ s2 r
        split
        · exact .pair (hm.loseSpan ..)
        · have h1 : Sound F s1 := by
            unfold s1
            split
            · exact h
            · exact hm
          clear_value s1 r
          refine .pair ?_
          split
          · exact h1.tlb1Put ..
          · exact h1
      · split
        · split
          · exact .pair h
          · exact .pair hm
        · split
          · exact hw _ _ h
          · split
            rename_i e
            have h1 := (hm.mtlbGet ..).of_fst e
            split
            · exact hw _ _ h1
            · exact (h1.bump ..).startWalk ..

theorem Sound.setWalk (h : Sound F s) (w) : Sound F (s.setWalk w) := by
  unfold State.setWalk
  exact { h with }

theorem Sound.dropWalk (h : Sound F s) (id) : Sound F (s.dropWalk id) := by
  unfold State.dropWalk
  exact { h with }

theorem Sound.walkRecord (h : Sound F s) (kind ea who) : Sound F (s.walkRecord kind ea who) := by
  unfold State.walkRecord
  split
  · exact (h.record ..).event ..
  · exact h

theorem Sound.installLeaf (h : Sound F s) (w n) : Sound F (s.installLeaf w n) := by
  unfold State.installLeaf
  extract_lets
  exact (h.mtlbPut ..).tlb1Put ..

theorem Sound.wcPut (h : Sound F s) (level ea v) : Sound F (s.wcPut level ea v) := by
  unfold State.wcPut
  exact { h with }

/-- One unfolding of a walk, over any meaning `b` of the recursive calls.  (The equations of `walkGo` itself would have the
kernel compare window addresses in unary.) -/
theorem Sound.walkGo_step (n : Nat) (b : Nat.below (motive := fun _ => State → Walk → State × WalkEnd) n)
    (ih : ∀ g, belowHead n b = some g → ∀ s w, Sound F s → Sound F (g s w).1) (s : State) (w : Walk) (h : Sound F s) :
    Sound F (State.walkGo._f n b s w).1 := by
  delta State.walkGo._f
  revert b
  split
  · exact fun _ _ => h.setWalk ..
  · intro b ih
    have go : ∀ s w, Sound F s → Sound F (b.1 s w).1 := ih _ rfl
    extract_lets ea restart bad s0
    have hbad : ∀ k, Sound F (bad k).1 := fun k => (h.dropWalk ..).walkRecord ..
    have h0 : Sound F s0 := h.charge ..
    clear_value s0 bad
    split
    · exact .pair h
    · exact .pair h
    · split
      · exact hbad _
      · generalize List.find? _ s.xl.wcache = hit
        generalize s.shelfOff ea = place
        cases hit with
        | some e => exact go _ _ (h0.wcPut ..)
        | none =>
          cases place with
          | some o =>
            dsimp only
            split
            · exact go _ _ (h0.shelfRefused ..)
            · exact go _ _ ((h0.charge ..).shelfRead ..)
          | none =>
            dsimp only
            split
            · exact .pair h
            · rename_i e
              split at e
              · exact .pair (((h0.request ..).get e).setWalk ..)
              · cases e
    · split
      · exact go _ _ h
      · exact hbad _
    · split
      · exact go _ _ h
      · split
        · exact hbad _
        · split
          · exact hbad _
          · split
            · exact go _ _ (h.wcPut ..)
            · split
              · exact .pair (h.dropWalk ..)
              · extract_lets
                split
                · exact .pair ((h.dropWalk ..).installLeaf ..)
                · split
                  · exact .pair (h.dropWalk ..)
                  · split
                    · split
                      rename_i e
                      have h1 := ((h.charge ..).shelfRead ..).of_fst e
                      split
                      · exact hbad _
                      · split
                        · exact .pair ((((h1.charge ..).shelfWrite ..).dropWalk ..).installLeaf ..)
                        · exact go _ _ (h1.bump ..)
                    · split
                      · exact .pair (h.setWalk ..)
                      · rename_i e
                        split at e
                        · exact .pair (((h.request ..).get e).setWalk ..)
                        · cases e
    · split
      · exact go _ _ h
      · exact hbad _
    · split
      · exact go _ _ h
      · split
        · exact .pair ((h.dropWalk ..).installLeaf ..)
        · exact go _ _ (h.bump ..)

theorem Sound.walkGo (h : Sound F s) (fuel w) : Sound F (s.walkGo fuel w).1 := by
  have := brecOn_invariant State.walkGo._f (fun g => ∀ s w, Sound F s → Sound F (g s w).1) Sound.walkGo_step fuel
  delta State.walkGo
  exact this s w h

theorem Sound.orphanWalks (h : Sound F s) (who) : Sound F (s.orphanWalks who) := by
  unfold State.orphanWalks
  exact { h with }

theorem Sound.xinvApply (h : Sound F s) (kind va least) : Sound F (s.xinvApply kind va least) := by
  unfold State.xinvApply
  exact { h with }

theorem Sound.tlbFlush (h : Sound F s) : Sound F s.tlbFlush := by
  unfold State.tlbFlush
  exact { h with }

theorem Sound.spanLoad (h : Sound F s) (i rsv) : Sound F (s.spanLoad i rsv) := by
  unfold State.spanLoad
  extract_lets _ _ _ covered
  split
  · exact h.refuse ..
  · refine Sound.refuse ?_ ..
    exact { h with }

theorem Sound.spanReadBack (h : Sound F s) (i rsv) : Sound F (s.spanReadBack i rsv) := by
  unfold State.spanReadBack
  split
  · exact h.refuse ..
  · extract_lets
    exact (((h.setReg ..).setReg ..).setReg ..).refuse ..

theorem Sound.spanSetAD (h : Sound F s) (i rsv) : Sound F (s.spanSetAD i rsv) := by
  unfold State.spanSetAD
  split
  · exact h.refuse ..
  · split
    · split
      · extract_lets
        refine Sound.refuse ?_ ..
        exact { h with }
      · exact h.refuse ..
    · exact h.refuse ..

end Sys2Proof.Machine
end

section
namespace Sys2Proof.Machine
open Sys2Proof

variable {F : Keeps} {s : State}

/-! ## Operand reads and writes: what each function keeps -/

theorem Sound.setG (h : Sound F s) (t r v) : Sound F (s.setG t r v) := by
  unfold State.setG
  exact h.setTh ..

theorem Sound.setAcc (h : Sound F s) (t a v) : Sound F (s.setAcc t a v) := by
  unfold State.setAcc
  exact h.setTh ..

theorem Sound.setFlg (h : Sound F s) (t i) : Sound F (s.setFlg t i) := by
  unfold State.setFlg
  exact h.setTh ..

theorem Sound.flgIf (h : Sound F s) (t i c) : Sound F (s.flgIf t i c) := by
  unfold State.flgIf
  split
  · exact h.setFlg ..
  · exact h

theorem Sound.edge (h : Sound F s) (n) : Sound F (s.edge n) := by
  unfold State.edge
  exact { h with }

theorem Sound.rouse (h : Sound F s) : Sound F s.rouse := by
  unfold State.rouse
  split
  · exact h
  · exact { h with }

theorem Sound.arrives (h : Sound F s) (c) : Sound F (s.arrives c) := by
  unfold State.arrives
  refine Sound.rouse ?_ ..
  exact { h with }

theorem Sound.orphanReads (h : Sound F s) (t) : Sound F (s.orphanReads t) :=
  { h with rt := fun c => keysRise_mapVal _ _ (h.rt c) }

theorem Sound.wipeTile (h : Sound F s) (t) : Sound F (s.wipeTile t) := by
  unfold State.wipeTile
  extract_lets s1
  have h1 : Sound F s1 := h.charge ..
  clear_value s1
  exact { h1 with data := fun _ => rfl, entries := fun _ => Nat.zero_le _ }

theorem Sound.orphan (h : Sound F s) (t) : Sound F (s.orphan t) := by
  unfold State.orphan
  refine Sound.orphanWalks ?_ ..
  refine Sound.orphanReads ?_ ..
  split
  · exact h.wipeTile ..
  · exact h

theorem Sound.abandon (h : Sound F s) (t) : Sound F (s.abandon t) := by
  unfold State.abandon
  extract_lets s1
  have h1 : Sound F s1 := h.orphan ..
  exact h1.setTh ..

theorem Sound.readDesc (h : Sound F s) (t c) : Sound F (s.readDesc t c).1 := by
  unfold State.readDesc
  extract_lets
  split
  · exact .pair h
  · split
    · rename_i e
      extract_lets
      split
      · exact .pair ((h.shelfRead ..).of_fst e)
      · split
        · exact .pair ((h.shelfRead ..).of_fst e)
        · exact .pair ((h.shelfRead ..).of_fst e)

theorem Sound.writeTsb (h : Sound F s) (t b e fallback) : Sound F (s.writeTsb t b e fallback) := by
  unfold State.writeTsb
  exact h.shelfWriteBy ..

theorem Sound.clearLatch (h : Sound F s) (t e) : Sound F (s.clearLatch t e) := by
  unfold State.clearLatch
  split
  · split
    · exact h
    · exact { h with }
  · split
    · exact { h with }
    · split
      · exact { h with }
      · split
        · exact h.setTh ..
        · split
          · exact { h with }
          · split
            · exact h.setTh ..
            · exact h

theorem Sound.fallback (h : Sound F s) (t e reason) : Sound F (s.fallback t e reason) := by
  unfold State.fallback
  extract_lets _ _ s1
  have h11 : Sound F s1 := h.writeTsb ..
  split
  · exact ((h.setTh ..).record ..).fatalCond ..
  · exact (((h11.setTh ..).clearLatch ..).bump ..).charge ..

theorem Sound.enter (h : Sound F s) (t e) : Sound F (s.enter t e) := by
  unfold State.enter
  extract_lets
  split
  · rename_i e1
    split
    · exact ((h.readDesc ..).of_fst e1).fallback ..
    · extract_lets _ _ s2
      have h21 : Sound F s2 := ((h.readDesc ..).of_fst e1).writeTsb ..
      split
      · exact ((h.readDesc ..).of_fst e1).fallback ..
      · split
        · exact ((h.readDesc ..).of_fst e1).fallback ..
        · split
          · exact ((h.readDesc ..).of_fst e1).fallback ..
          · exact (((h21.setTh ..).clearLatch ..).bump ..).charge ..

theorem Sound.trap (h : Sound F s) (t cause addr info) : Sound F (s.trap t cause addr info) := by
  unfold State.trap
  extract_lets
  exact ((h.setTh ..).orphan ..).enter ..

theorem Sound.trapNext (h : Sound F s) (t n cause) : Sound F (s.trapNext t n cause) := by
  unfold State.trapNext
  extract_lets
  exact ((h.setTh ..).orphan ..).enter ..

theorem Sound.btbPush (h : Sound F s) (t nxt) : Sound F (s.btbPush t nxt) := by
  unfold State.btbPush
  extract_lets
  split
  · exact { h with }
  · exact h

theorem Sound.complete (h : Sound F s) (t n jump o) : Sound F (s.complete t n jump o) := by
  unfold State.complete
  exact (h.setTh ..).btbPush ..

theorem Sound.fetchTrap (h : Sound F s) (t cause info) : Sound F (s.fetchTrap t cause info) := by
  unfold State.fetchTrap
  extract_lets
  exact (h.setTh ..).enter ..

theorem EndsSound.finish {r : Ends} (h : Sound F s) (hr : EndsSound F r) (t n) : Sound F (r.finish s t n) := by
  cases r with
  | done u o => exact (hr.of_mem u (List.mem_singleton.2 rfl)).complete ..
  | jump u pc => exact (hr.of_mem u (List.mem_singleton.2 rfl)).complete ..
  | trap u c a i => exact (hr.of_mem u (List.mem_singleton.2 rfl)).trap ..
  | waits u => exact hr.of_mem u (List.mem_singleton.2 rfl)
  | late u f => exact ((hr.of_mem u (List.mem_singleton.2 rfl)).complete ..).setTh ..
  | stall => exact h.setTh ..

theorem Sound.issued (h : Sound F s) (t) : Sound F (s.issued t) := by
  unfold State.issued
  exact ((h.setTh ..).bump ..).charge ..

theorem ResSound.keep (h : Sound F s) {u : State} (hu : Sound F u) :
    ResSound F (keep s (.next u)) := .next (h.sealed hu)

theorem Sound.issue (h : Sound F s) (t n) {body : State → Ends} (hb : ∀ u, Sound F u → EndsSound F (body u)) :
    ResSound F (issue s t n body) := by
  unfold Machine.issue
  split
  · refine .keep h ?_
    split
    · exact h.fetchTrap ..
    · exact (hb _ (h.issued t)).finish h ..
  · exact .refused

end Sys2Proof.Machine
end

section
namespace Sys2Proof.Machine
open Sys2Proof

variable {F : Keeps} {s : State}

/-! ## The charge budget: what each function keeps -/

theorem Sound.applyGrant (h : Sound F s) (data) : Sound F (s.applyGrant data) := by
  unfold State.applyGrant
  extract_lets _ _ _ _ s1 s2 _ s3
  have h1 : Sound F s1 := by
    unfold s1
    split
    · exact (h.setReg ..).setCom ..
    · exact h
  have h2 : Sound F s2 := h1.setBal ..
  clear_value s1 s2
  have h3 : Sound F s3 := { h2 with }
  exact (h3.event ..).bump ..

theorem Sound.grant (h : Sound F s) (data) : Sound F (s.grant data) := by
  unfold State.grant
  split
  · exact h.bump ..
  · split
    · exact h.event ..
    · exact h.applyGrant ..

theorem Sound.countItems (h : Sound F s) (items who) : Sound F (s.countItems items who) := by
  unfold State.countItems
  refine Sound.foldl (fun u x hu => ?_) _ h
  exact hu.countEnergy ..

theorem Sound.admission (h : Sound F s) (items who) : OptSound F (s.admission items who) := by
  unfold State.admission
  extract_lets
  split
  · exact .some ((h.setBal ..).countItems ..)
  · split
    · refine .some (Sound.countItems ?_ ..)
      exact { h with }
    · split
      · exact .some ((h.setBal ..).countItems ..)
      · exact .none

theorem Sound.deferHead (h : Sound F s) : Sound F s.deferHead := by
  unfold State.deferHead
  refine Sound.event ?_ ..
  exact { h with }

theorem Sound.execScalePolicyMove (h : Sound F s) : ResSound F (execScalePolicyMove s) := by
  unfold Machine.execScalePolicyMove
  split
  · exact .next h
  · exact ResSound.due h { h with }

theorem Sound.execLeakageCharge (h : Sound F s) : ResSound F (execLeakageCharge s) := by
  unfold Machine.execLeakageCharge
  exact ResSound.due h (h.charge ..)

end Sys2Proof.Machine
end

section
namespace Sys2Proof.Machine
open Sys2Proof

variable {F : Keeps} {s : State}

/-! ## The memory path: what each function keeps -/

theorem Sound.crockRefused (h : Sound F s) (o src) : Sound F (s.crockRefused o src) := by
  unfold State.crockRefused
  exact (h.record ..).event ..

theorem Sound.l1DropUsed (h : Sound F s) (line ms) : Sound F (s.l1DropUsed line ms) := by
  unfold State.l1DropUsed
  extract_lets s1
  have h1 : Sound F s1 := by
    unfold s1
    split
    · exact h.l1Drop ..
    · exact h
  split
  · exact h1.l1Drop ..
  · exact h1

theorem Sound.sendWrite (h : Sound F s) (reserved e after) : Sound F (s.sendWrite reserved e after).1 := by
  unfold State.sendWrite
  split
  · exact .pair h
  · rename_i e1
    exact .pair ((h.request ..).get e1)

theorem Sound.cleaned (h : Sound F s) (line src) : OptFstSound F (s.cleaned line src) := by
  unfold State.cleaned
  split
  · exact .none
  · split
    · exact .some h
    · exact h.lsClean ..

theorem Sound.lsPart (h : Sound F s) (line w ms src) : Sound F (s.lsPart line w ms src) := by
  unfold State.lsPart
  extract_lets part s1
  have h1 : Sound F s1 := by
    unfold s1
    split
    · exact h.lsHalf ..
    · exact h
  split
  · exact h1.lsHalf ..
  · exact h1

theorem Sound.throughMiss (h : Sound F s) (e src) : Sound F (s.throughMiss e src).1 := by
  unfold State.throughMiss
  split
  · rename_i e1
    exact .pair (((h.sendWrite ..).of_fst e1).bump ..)
  · exact h.sendWrite ..

theorem Sound.refetch (h : Sound F s) (line src k) : Sound F (s.refetch line src k).1 := by
  unfold State.refetch
  split
  · rename_i e
    exact .pair ((h.lsMissed ..).of_fst e)
  · exact .pair h

theorem Sound.writeThrough (h : Sound F s) (line ms pois src k) : Sound F (s.writeThrough line ms pois src k).1 := by
  unfold State.writeThrough
  extract_lets
  split
  · exact h.throughMiss ..
  · split
    · exact .pair h
    · rename_i e1
      extract_lets s2
      have h2 : Sound F s2 := ((h.lsClean ..).get e1).lsPart ..
      split
      · split
        · rename_i e2
          exact .pair h
        · split
          · exact h2.refetch ..
          · exact h2.sendWrite ..
      · split
        · rename_i e2
          exact .pair h
        · rename_i e2
          exact .pair (((((h2.sendWrite ..).of_fst e2).lsPut ..).lsTouch ..).lsCharge ..)

theorem Sound.writeBack (h : Sound F s) (line ms pois src k) : Sound F (s.writeBack line ms pois src k).1 := by
  unfold State.writeBack
  split
  · rename_i e
    exact .pair ((h.lsDemand ..).of_fst e)
  · rename_i e
    exact .pair h
  · rename_i e
    split
    · exact .pair ((h.lsDemand ..).of_fst e)
    · split
      · exact .pair ((h.lsDemand ..).of_fst e)
      · exact .pair ((((h.lsDemand ..).of_fst e).lsPut ..).lsCharge ..)

theorem Sound.writeUncached (h : Sound F s) (line ms pois src) : Sound F (s.writeUncached line ms pois src).1 := by
  unfold State.writeUncached
  split
  · exact .pair h
  · rename_i e
    split
    · rename_i e1
      exact .pair h
    · exact ((h.cleaned ..).get e).sendWrite ..

theorem Sound.writeShelf (h : Sound F s) (o ms pois src keepL1) : Sound F (s.writeShelf o ms pois src keepL1) := by
  unfold State.writeShelf
  split
  · exact h.shelfRefused ..
  · extract_lets s1 s2 s3 s4
    have h1 : Sound F s1 := (h.shelfMerge ..).lsCharge ..
    have h2 : Sound F s2 := by
      unfold s2
      split
      · exact h1
      · split
        · exact h1.shelfL1Drop ..
        · exact h1
    have h3 : Sound F s3 := by
      unfold s3
      split
      · exact h2
      · split
        · exact h2.shelfL1Drop ..
        · exact h2
    have h4 : Sound F s4 := by
      unfold s4
      split
      · exact h3.shelfPoison ..
      · exact h3
    split
    · exact h4.shelfPoison ..
    · exact h4

theorem Sound.storeLine (h : Sound F s) (line ms pol pois src k scalar) :
    Sound F (s.storeLine line ms pol pois src k scalar).1 := by
  generalize ef : @State.storeLine = f
  delta State.storeLine at ef
  obtain ⟨window, ewindow⟩ : ∃ f, @State.window = f := ⟨_, rfl⟩
  rw [ewindow] at ef
  subst ef
  beta_reduce
  split
  · exact .pair (h.writeShelf ..)
  · exact .pair (h.ldlError ..)
  · extract_lets s1
    have h1 : Sound F s1 := h.crockRefused ..
    split
    · exact .pair (h1.ldlError ..)
    · exact .pair (h1.mcheck ..)
  · split
    · exact .pair h
    · extract_lets s0
      have h0 : Sound F s0 := by
        unfold s0
        split
        · exact h
        · exact h.l1DropUsed ..
      split
      · refine Sound.writeUncached ?_ ..
        split
        · exact h0
        · exact h0.sideKill ..
      · split
        · refine Sound.writeBack ?_ ..
          split
          · exact h0
          · exact h0.sideKill ..
        · split
          · exact .pair h
          · exact (h0.sideKill ..).writeThrough ..

theorem Sound.writeAround (h : Sound F s) (line ms pois src) : OptSound F (s.writeAround line ms pois src) := by
  unfold State.writeAround
  exact (h.request ..).map_fst

theorem Sound.readShelfBlock (h : Sound F s) (o src) : Sound F (s.readShelfBlock o src).1 := by
  unfold State.readShelfBlock
  split
  · exact .pair (h.shelfRefused ..)
  · split
    · rename_i e
      exact .pair (((h.lsCharge ..).shelfRead ..).of_fst e)

theorem Sound.readCached (h : Sound F s) (blk src k) : Sound F (s.readCached blk src k).1 := by
  unfold State.readCached
  split
  · rename_i e
    exact .pair ((h.lsRead ..).of_fst e)
  · rename_i e
    exact .pair ((h.lsRead ..).of_fst e)
  · rename_i e
    exact .pair h

theorem Sound.askUncached (h : Sound F s) (dev src after rs) : OptSound F (s.askUncached dev src after rs) := by
  induction rs generalizing s with
  | nil => exact .some h
  | cons r rs ih =>
    unfold State.askUncached
    split
    · exact .none
    · rename_i e
      exact ih ((h.request ..).get e)

theorem Sound.readPast (h : Sound F s) (line dev src rs) : OptSound F (s.readPast line dev src rs) := by
  unfold State.readPast
  split
  · exact .none
  · rename_i e
    exact ((h.cleaned ..).get e).askUncached ..

theorem Sound.readUncached (h : Sound F s) (addr size dev src k) : Sound F (s.readUncached addr size dev src k).1 := by
  unfold State.readUncached
  split
  · rename_i e
    exact .pair ((h.readPast ..).get e)
  · exact .pair h

theorem Sound.readBlock (h : Sound F s) (blk pol src k) : Sound F (s.readBlock blk pol src k).1 := by
  generalize ef : @State.readBlock = f
  delta State.readBlock at ef
  obtain ⟨window, ewindow⟩ : ∃ f, @State.window = f := ⟨_, rfl⟩
  rw [ewindow] at ef
  subst ef
  beta_reduce
  split
  · exact h.readShelfBlock ..
  · exact .pair (h.crockRefused ..)
  · exact .pair (h.record ..)
  · split
    · exact h.readUncached ..
    · exact h.readCached ..

theorem Sound.readHalves (h : Sound F s) (line halves src k) : OptSound F (s.readHalves line halves src k) := by
  unfold State.readHalves
  exact h.readPast ..

theorem Sound.readLine (h : Sound F s) (line pol halves src k) : Sound F (s.readLine line pol halves src k).1 := by
  generalize ef : @State.readLine = f
  delta State.readLine at ef
  obtain ⟨window, ewindow⟩ : ∃ f, @State.window = f := ⟨_, rfl⟩
  rw [ewindow] at ef
  subst ef
  beta_reduce
  split
  · split
    · exact .pair (h.shelfRefused ..)
    · split
      · rename_i e
        exact .pair (((h.lsCharge ..).shelfRead ..).of_fst e)
  · exact .pair (h.crockRefused ..)
  · exact .pair (h.record ..)
  · split
    · split
      · rename_i e
        exact .pair ((h.readHalves ..).get e)
      · exact .pair h
    · split
      · rename_i e
        exact .pair ((h.lsRead ..).of_fst e)
      · rename_i e
        exact .pair ((h.lsRead ..).of_fst e)
      · rename_i e
        exact .pair h

end Sys2Proof.Machine
end

section
namespace Sys2Proof.Machine
open Sys2Proof

variable {F : Keeps} {s : State}

/-! ## Tile memory runs: what each function keeps -/

/-! ### Sound runs -/

theorem MemRun.sound.setLine {m : MemRun} (hm : m.sound) (l : MemLine) : (m.setLine l).sound := by
  obtain ⟨once, known, clean⟩ := hm
  have same : (m.setLine l).lines.map (·.line) = m.lines.map (·.line) := by
    simp only [MemRun.setLine, List.map_map]
    refine List.map_congr_left fun x _ => ?_
    simp only [Function.comp_apply]
    split
    case isTrue e => exact e.1.symm
    case isFalse => rfl
  refine ⟨same ▸ once, fun x hx => ?_, clean⟩
  have : x.line ∈ m.lines.map (·.line) := same ▸ List.mem_map_of_mem hx
  obtain ⟨y, hy, e⟩ := List.mem_map.1 this
  exact e ▸ known y hy

theorem MemRun.newLine_line {m : MemRun} {line stop : Nat} {l : MemLine} (e : m.newLine line stop = some l) :
    l.line = line := by
  obtain ⟨x, -, rfl⟩ := Option.map_eq_some_iff.1 e
  rfl

theorem MemRun.newLines_sublist (m : MemRun) (ls : List Nat) (stop : Nat) :
    ((ls.filterMap fun l => m.newLine l stop).map (·.line)).Sublist ls := by
  induction ls with
  | nil => exact .slnil
  | cons a r ih =>
    cases e : m.newLine a stop with
    | none => simpa [List.filterMap_cons, e] using ih.cons a
    | some l => simpa [List.filterMap_cons, e, MemRun.newLine_line e] using ih.cons_cons a

theorem MemRun.sound.issue {m : MemRun} (hm : m.sound) {ls : List Nat} (once : ls.Nodup) (new : ∀ l ∈ ls, l ∉ m.issued) (stop : Nat) :
    MemRun.sound { m with
      issued := m.issued ++ ls
      lines := m.lines ++ (ls.filterMap fun l => m.newLine l stop) } := by
  obtain ⟨hold, known, clean⟩ := hm
  have hsub := m.newLines_sublist ls stop
  refine ⟨?_, fun x hx => ?_, clean⟩
  · simp only [List.map_append]
    refine hold.append (once.sublist hsub) fun a ha hb => ?_
    obtain ⟨x, hx, rfl⟩ := List.mem_map.1 ha
    exact new _ (hsub.subset hb) (known x hx)
  · rcases List.mem_append.1 hx with h | h
    · exact List.mem_append_left _ (known x h)
    · exact List.mem_append_right _ (hsub.subset (List.mem_map_of_mem h))

theorem nodup_foldl_new (l acc : List Nat) (h : acc.Nodup) :
    (l.foldl (fun l x => if l.contains x then l else l ++ [x]) acc).Nodup := by
  induction l generalizing acc with
  | nil => exact h
  | cons a r ih =>
    rw [List.foldl_cons]
    refine ih _ ?_
    split
    case isTrue => exact h
    case isFalse e =>
      have e : a ∉ acc := by simpa using e
      exact h.append (List.nodup_singleton a) (by simpa using e)

theorem MemRun.linesBelow_nodup (m : MemRun) (stop : Nat) : (m.linesBelow stop).Nodup := nodup_foldl_new _ _ .nil

theorem MemRun.unissued (m : MemRun) {ls : List Nat} {f : Nat → Bool} (l : Nat)
    (hl : l ∈ ls.filter fun l => !m.issued.contains l && f l) : l ∉ m.issued := by
  have := (List.mem_filter.1 hl).2
  simp only [Bool.and_eq_true, Bool.not_eq_true', List.contains_eq_mem, decide_eq_false_iff_not] at this
  exact this.1

theorem Sound.run (h : Sound F s) {id : Nat} {m : MemRun} (e : s.memRun id = some m) : F.full → m.sound :=
  h.runs m (List.mem_of_find?_eq_some e)

theorem Sound.setRun (h : Sound F s) {m : MemRun} (hm : F.full → m.sound) : Sound F (s.setRun m) := by
  have : ∀ x ∈ (s.setRun m).tile.mem, F.full → x.sound := by
    intro x hx
    obtain ⟨y, hy, rfl⟩ := List.mem_map.1 hx
    split
    · exact hm
    · exact h.runs y hy
  exact { h with runs := this }

theorem Sound.tldAsk (h : Sound F s) {m : MemRun} (hm : F.full → m.sound) (l) : Sound F (s.tldAsk m l) := by
  generalize e : s.tldAsk m l = r
  generalize ef : @State.tldAsk = f at e
  delta State.tldAsk at ef
  subst ef
  beta_reduce at e
  subst e
  have hr := fun line pol halves src k => h.readLine line pol halves src k
  generalize s.readLine = read at hr ⊢
  split
  · rename_i e
    exact ((hr ..).of_fst e).setRun (fun c => (hm c).setLine _)
  · rename_i e
    exact ((hr ..).of_fst e).setRun (fun c => (hm c).setLine _)
  · exact h

theorem Sound.tstAsk (h : Sound F s) {m : MemRun} (hm : F.full → m.sound) (l) : Sound F (s.tstAsk m l) := by
  generalize e : s.tstAsk m l = r
  generalize ef : @State.tstAsk = f at e
  delta State.tstAsk at ef
  subst ef
  beta_reduce at e
  subst e
  extract_lets s0
  have h0 : Sound F s0 := by
    unfold s0
    refine Sound.foldl (fun u x hu => ?_) _ h
    exact hu.checkRow ..
  clear_value s0
  have hw := fun line ms pol pois src k scalar => h0.storeLine line ms pol pois src k scalar
  obtain ⟨write, ew⟩ : ∃ f, s0.storeLine = f := ⟨_, rfl⟩
  rw [ew] at hw ⊢
  split
  split
  · rename_i e
    exact ((hw ..).of_fst e).setRun (fun c => (hm c).setLine _)
  · rename_i e
    exact (hw ..).of_fst e
  · exact h

theorem Sound.memAsk (h : Sound F s) (id line rowEnd) : Sound F (s.memAsk id line rowEnd) := by
  unfold State.memAsk
  split
  · exact h
  · rename_i m e
    have hm := h.run e
    split
    · exact h
    · split
      · exact h
      · refine Sound.joined ?_ ..
        split
        · exact h.tldAsk hm ..
        · exact h.tstAsk hm ..

theorem Sound.memAskAll (h : Sound F s) (id) : Sound F (s.memAskAll id) := by
  unfold State.memAskAll
  split
  · exact h
  · refine Sound.foldl (fun u x1 hu => ?_) _ h
    split
    · exact hu
    · exact hu.memAsk ..

theorem Sound.memIssue (h : Sound F s) {m : MemRun} (hm : F.full → m.sound) {ls : List Nat} (once : ls.Nodup) (new : ∀ l ∈ ls, l ∉ m.issued)
    (stop) : Sound F (s.memIssue m ls stop) := by
  unfold State.memIssue
  exact (h.setRun (fun c => (hm c).issue once new stop)).memAskAll ..

theorem Sound.memFault (h : Sound F s) {m : MemRun} (hm : F.full → m.sound) (pg r cause detail) :
    Sound F (s.memFault m pg r cause detail) := by
  unfold State.memFault
  extract_lets m1
  have hm1 : F.full → m1.sound := fun c => ⟨(hm c).1, (hm c).2.1, fun e => (e rfl).elim⟩
  refine h.memIssue hm1 ((MemRun.linesBelow_nodup ..).filter _) (fun l hl => ?_) _
  exact m1.unissued (ls := m1.linesBelow r) (f := fun _ => true) l (by simpa [m1] using hl)

theorem Sound.markSafe (h : Sound F s) (id) : Sound F (s.markSafe id) := by
  unfold State.markSafe
  exact { h with entries := fun c => (List.length_map ..).trans_le (h.entries c) }

theorem Sound.memPage (h : Sound F s) {m : MemRun} (hm : F.full → m.sound) (pg r pa pol) :
    Sound F (s.memPage m pg r pa pol) := by
  unfold State.memPage
  extract_lets _ m1 s1
  have h1 : Sound F s1 := by
    have hm1 : F.full → m1.sound := by
      intro c
      obtain ⟨once, known, clean⟩ := hm c
      refine ⟨once, known, fun e => clean fun e1 => e ?_⟩
      simp [m1, e1]
    exact h.memIssue hm1 ((MemRun.linesBelow_nodup ..).filter _) (MemRun.unissued m1) _
  split
  · exact h.memFault hm ..
  · split
    · exact h.memFault hm ..
    · split
      · exact h1.markSafe ..
      · exact h1

theorem Sound.memXlate (h : Sound F s) {m : MemRun} (hm : F.full → m.sound) : Sound F (s.memXlate m) := by
  unfold State.memXlate
  split
  · exact h
  · split
    · rename_i e
      exact ((h.translate ..).of_fst e).memPage hm ..
    · rename_i e
      exact ((h.translate ..).of_fst e).memFault hm ..
    · rename_i e
      exact (h.translate ..).of_fst e
    · exact h

theorem Sound.tldRows (h : Sound F s) {m : MemRun} (hm : F.full → m.sound) : Sound F (s.tldRows m) := by
  unfold State.tldRows
  extract_lets _ s1
  have h1 : Sound F s1 := by
    unfold s1
    refine Sound.foldl (fun u x hu => ?_) _ h
    exact hu.putRow ..
  exact h1.setRun hm

theorem Sound.memFinish (h : Sound F s) (id) : Sound F (s.memFinish id) := by
  unfold State.memFinish
  split
  · exact h
  · split
    · extract_lets _ s1
      have h1 : Sound F s1 := { h with runs := fun m hm => h.runs m (List.mem_of_mem_filter hm) }
      split
      · exact h1.retire ..
      · split
        · exact h1
        · exact h1.freeze ..
    · exact h

theorem Sound.memLineDone (h : Sound F s) {m : MemRun} (hm : F.full → m.sound) (l) : Sound F (s.memLineDone m l) := by
  unfold State.memLineDone
  extract_lets _ s1
  have h1 : Sound F s1 := by
    unfold s1
    split
    · exact h.tldRows (fun c => (hm c).setLine _)
    · exact h.setRun (fun c => (hm c).setLine _)
  exact h1.memFinish ..

theorem Sound.memStart (h : Sound F s) (q') : Sound F (s.memStart q') := by
  unfold State.memStart
  extract_lets m _ s1
  have hm : m.sound := ⟨.nil, (fun _ hx => nomatch hx), fun _ => rfl⟩
  have h1 : Sound F s1 := { h with runs := List.forall_mem_append.2 ⟨h.runs, List.forall_mem_singleton.2 fun _ => hm⟩ }
  split
  · exact (h1.markSafe ..).memFinish ..
  · exact h1

theorem Sound.tileData (h : Sound F s) (id line h' d pois) : Sound F (s.tileData id line h' d pois) := by
  unfold State.tileData
  split
  · exact h
  · refine Sound.foldl (fun u x1 hu => ?_) _ h
    split
    · exact hu
    · rename_i e
      have hm := fun l c => (hu.run e c).setLine l
      split
      · split
        · exact hu
        · split
          · exact hu.setRun (hm _)
          · exact hu.setRun (hm _)
      · exact hu

theorem Sound.tstAround (h : Sound F s) (id line) : Sound F (s.tstAround id line) := by
  unfold State.tstAround
  split
  · exact h
  · refine Sound.foldl (fun u x1 hu => ?_) _ h
    split
    · split
      · split
        · rename_i e
          extract_lets s2
          have h2 : Sound F s2 := ((hu.writeAround ..).get e).joined ..
          split
          · rename_i e2
            exact h2.setRun (fun c => (h2.run e2 c).setLine _)
          · exact h2
        · exact hu
    · exact hu

end Sys2Proof.Machine
end

section
namespace Sys2Proof.Machine
open Sys2Proof

variable {F : Keeps} {s : State}

/-! ## The Whisk: what each function keeps -/

theorem Sound.checkSources (h : Sound F s) (w r who) : Sound F (s.checkSources w r who) := by
  unfold State.checkSources
  refine Sound.foldl (fun u x hu => ?_) _ h
  exact hu.checkRow ..

theorem Sound.whiskPut (h : Sound F s) (w id x') : Sound F (s.whiskPut w id x') := by
  unfold State.whiskPut
  extract_lets s1 s2
  have h1 : Sound F s1 := h.putRow ..
  have h2 : Sound F s2 := by
    unfold s2
    split
    · exact h1.putRow ..
    · exact h1
  exact h2.bump ..

theorem Sound.whiskOut (h : Sound F s) (w run) : Sound F (s.whiskOut w run).1 := by
  unfold State.whiskOut
  split
  · exact .pair h
  · split
    · exact .pair (h.whiskPut ..)
    · exact .pair h

theorem Sound.whiskIn (h : Sound F s) (w run) : Sound F (s.whiskIn w run).1 := by
  unfold State.whiskIn
  split
  · extract_lets s1
    have h1 : Sound F s1 := h.checkSources ..
    split
    · extract_lets
      exact .pair h1
  · exact .pair h

theorem Sound.whiskStep (h : Sound F s) (run) : Sound F (s.whiskStep run) := by
  unfold State.whiskStep
  extract_lets
  split
  · rename_i e
    split
    · rename_i e1
      have hb0 := (((h.whiskIn ..).of_fst e).whiskOut ..).of_fst e1
      exact { hb0 with }

theorem Sound.whiskStart (h : Sound F s) (q' w) : Sound F (s.whiskStart q' w) := by
  unfold State.whiskStart
  extract_lets _ _ s1 s2
  have h1 : Sound F s1 := by
    unfold s1
    split
    · exact h.checkRow ..
    · exact h
  have h2 : Sound F s2 := by
    unfold s2
    split
    · exact h1.checkRow ..
    · exact h1
  clear_value s1 s2
  refine Sound.bump ?_ ..
  exact { h2 with }

theorem Sound.whiskEnd (h : Sound F s) (run) : Sound F (s.whiskEnd run) := by
  unfold State.whiskEnd
  extract_lets _ s1
  have h1 : Sound F s1 := (h.setReg ..).ownerFlags ..
  clear_value s1
  refine Sound.retire ?_ ..
  exact { h1 with }

end Sys2Proof.Machine
end

section
namespace Sys2Proof.Machine
open Sys2Proof

variable {F : Keeps} {s : State}

/-! ## The tile queue: what each function keeps -/

theorem Sound.tileChecks (h : Sound F s) (t) (r : TileRule) {body : State → Ends}
    (hb : (r.queued = true → s.tile.queue.length < 32) → EndsSound F (body s)) : EndsSound F (tileChecks t r body s) := by
  unfold Machine.tileChecks
  split
  · exact .trap h
  · split
    · exact .trap h
    · split
      · exact .trap h
      · split
        · exact .stall
        · rename_i full
          refine hb fun queued => ?_
          simp only [queued, Bool.true_and, Bool.or_eq_true, decide_eq_true_eq, not_or, not_le] at full
          exact full.2

theorem Sound.enqueue (h : Sound F s) (room : s.tile.queue.length < 32) (q') : Sound F (s.enqueue q') :=
  { h with entries := fun _ => by simpa [State.enqueue] using room }

theorem Sound.tileIssue (h : Sound F s) (t w0 e1 e2 v1 v2) : ResSound F (tileIssue t w0 e1 e2 v1 v2 s) := by
  unfold Machine.tileIssue
  refine h.issue _ _ fun u hu => ?_
  exact hu.tileChecks _ _ fun room => .done (hu.enqueue (room rfl) _)

theorem Sound.execTrelTray (h : Sound F s) (t tray) : ResSound F (execTrelTray t tray s) := by
  unfold Machine.execTrelTray
  exact h.tileIssue ..

theorem Sound.execTrelSlot (h : Sound F s) (t slot) : ResSound F (execTrelSlot t slot s) := by
  unfold Machine.execTrelSlot
  exact h.tileIssue ..

theorem Sound.execTcfg (h : Sound F s) (t tray rows len) : ResSound F (execTcfg t tray rows len s) := by
  unfold Machine.execTcfg
  exact h.tileIssue ..

theorem Sound.execTzero (h : Sound F s) (t slot gc gs) : ResSound F (execTzero t slot gc gs s) := by
  unfold Machine.execTzero
  exact h.tileIssue ..

theorem Sound.execTld (h : Sound F s) (t tray ga gb) : ResSound F (execTld t tray ga gb s) := by
  unfold Machine.execTld
  exact h.tileIssue ..

theorem Sound.execTst (h : Sound F s) (t tray ga gb) : ResSound F (execTst t tray ga gb s) := by
  unfold Machine.execTst
  exact h.tileIssue ..

theorem Sound.execTmma (h : Sound F s) (t slot a b fa fb sa sb) : ResSound F (execTmma t slot a b fa fb sa sb s) := by
  unfold Machine.execTmma
  extract_lets
  exact h.tileIssue ..

theorem Sound.execTmms (h : Sound F s) (t slot a b fa fb sa sb mt) :
    ResSound F (execTmms t slot a b fa fb sa sb mt s) := by
  unfold Machine.execTmms
  extract_lets
  exact h.tileIssue ..

theorem Sound.execTdrain (h : Sound F s) (t slot gd) : ResSound F (execTdrain t slot gd s) := by
  unfold Machine.execTdrain
  exact h.tileIssue ..

theorem Sound.execTmovCopy (h : Sound F s) (t dst src) : ResSound F (execTmovCopy t dst src s) := by
  unfold Machine.execTmovCopy
  exact h.tileIssue ..

theorem Sound.execTmovTranspose (h : Sound F s) (t dst src op) : ResSound F (execTmovTranspose t dst src op s) := by
  unfold Machine.execTmovTranspose
  split
  · exact .refused
  · exact h.tileIssue ..

theorem Sound.wskIssue (h : Sound F s) (t xop D x' v) : ResSound F (wskIssue t xop D x' v s) := by
  unfold Machine.wskIssue
  exact h.tileIssue ..

theorem Sound.execWadd (h : Sound F s) (t D A B T U BB RND SAT) : ResSound F (execWadd t D A B T U BB RND SAT s) := by
  unfold Machine.execWadd
  exact h.wskIssue ..

theorem Sound.execWaddSub (h : Sound F s) (t D A B T U BB RND SAT) :
    ResSound F (execWaddSub t D A B T U BB RND SAT s) := by
  unfold Machine.execWaddSub
  exact h.wskIssue ..

theorem Sound.execWmul (h : Sound F s) (t D A B T U BB RND SAT) : ResSound F (execWmul t D A B T U BB RND SAT s) := by
  unfold Machine.execWmul
  exact h.wskIssue ..

theorem Sound.execWfma (h : Sound F s) (t D A B C T U BB BC RND SAT) :
    ResSound F (execWfma t D A B C T U BB BC RND SAT s) := by
  unfold Machine.execWfma
  exact h.wskIssue ..

theorem Sound.execWfmaNeg (h : Sound F s) (t D A B C T U BB BC RND SAT) :
    ResSound F (execWfmaNeg t D A B C T U BB BC RND SAT s) := by
  unfold Machine.execWfmaNeg
  exact h.wskIssue ..

theorem Sound.execWmax (h : Sound F s) (t D A B T U BB RND SAT) : ResSound F (execWmax t D A B T U BB RND SAT s) := by
  unfold Machine.execWmax
  exact h.wskIssue ..

theorem Sound.execWmin (h : Sound F s) (t D A B T U BB RND SAT) : ResSound F (execWmin t D A B T U BB RND SAT s) := by
  unfold Machine.execWmin
  exact h.wskIssue ..

theorem Sound.execWsel (h : Sound F s) (t D A B C T U BB BC RND SAT) :
    ResSound F (execWsel t D A B C T U BB BC RND SAT s) := by
  unfold Machine.execWsel
  exact h.wskIssue ..

theorem Sound.execWexp (h : Sound F s) (t D A T U RND SAT) : ResSound F (execWexp t D A T U RND SAT s) := by
  unfold Machine.execWexp
  exact h.wskIssue ..

theorem Sound.execWrcp (h : Sound F s) (t D A T U RND SAT) : ResSound F (execWrcp t D A T U RND SAT s) := by
  unfold Machine.execWrcp
  exact h.wskIssue ..

theorem Sound.execWrsq (h : Sound F s) (t D A T U RND SAT) : ResSound F (execWrsq t D A T U RND SAT s) := by
  unfold Machine.execWrsq
  exact h.wskIssue ..

theorem Sound.execWcvt (h : Sound F s) (t D A SS DS SF DF SW DW SF4 DF4 RND SAT) :
    ResSound F (execWcvt t D A SS DS SF DF SW DW SF4 DF4 RND SAT s) := by
  unfold Machine.execWcvt
  exact h.wskIssue ..

theorem Sound.execWspl (h : Sound F s) (t D gA T U RND SAT) : ResSound F (execWspl t D gA T U RND SAT s) := by
  unfold Machine.execWspl
  exact h.wskIssue ..

theorem Sound.execWredSum (h : Sound F s) (t D A T U RND SAT) : ResSound F (execWredSum t D A T U RND SAT s) := by
  unfold Machine.execWredSum
  exact h.wskIssue ..

theorem Sound.execWredMax (h : Sound F s) (t D A T U RND SAT) : ResSound F (execWredMax t D A T U RND SAT s) := by
  unfold Machine.execWredMax
  exact h.wskIssue ..

theorem Sound.claim (h : Sound F s) (t gd) : Sound F (s.claim t gd) := by
  unfold State.claim
  extract_lets _ s1
  have h1 : Sound F s1 := { h with }
  exact h1.setG ..

theorem Sound.execTclaim (h : Sound F s) (t gd) : ResSound F (execTclaim t gd s) := by
  unfold Machine.execTclaim
  refine h.issue _ _ fun u hu => ?_
  split
  · exact .done (hu.claim ..)
  · exact .done (hu.setG ..)

theorem Sound.execTclaimForce (h : Sound F s) (t gd) : ResSound F (execTclaimForce t gd s) := by
  unfold Machine.execTclaimForce
  refine h.issue _ _ fun u hu => ?_
  split
  · exact .trap hu
  · split
    · exact .done (hu.claim ..)
    · exact .waits (hu.setTh ..)

theorem Sound.execTclaimForceDone (h : Sound F s) (t) : ResSound F (execTclaimForceDone t s) := by
  unfold Machine.execTclaimForceDone
  split
  · exact ResSound.due h ((h.claim ..).complete ..)
  · exact .next h

theorem Sound.disown (h : Sound F s) : Sound F s.disown := by
  unfold State.disown
  exact { h with }

theorem Sound.execTrelUnit (h : Sound F s) (t) : ResSound F (execTrelUnit t s) := by
  unfold Machine.execTrelUnit
  refine h.issue _ _ fun u hu => ?_
  refine hu.tileChecks _ _ fun room => ?_
  split
  · exact .done (hu.disown ..)
  · exact .waits (hu.setTh ..)

theorem Sound.execTrelUnitDone (h : Sound F s) (t) : ResSound F (execTrelUnitDone t s) := by
  unfold Machine.execTrelUnitDone
  exact ResSound.due h ((h.disown ..).complete ..)

theorem Sound.syncFlags (h : Sound F s) (t) : Sound F (s.syncFlags t) := by
  unfold State.syncFlags
  exact h.setTh ..

theorem Sound.execTsyncWait (h : Sound F s) (t) : ResSound F (execTsyncWait t s) := by
  unfold Machine.execTsyncWait
  refine h.issue _ _ fun u hu => ?_
  refine hu.tileChecks _ _ fun room => ?_
  split
  · exact .done (hu.syncFlags ..)
  · exact .waits (hu.setTh ..)

theorem Sound.execTsyncWaitDone (h : Sound F s) (t) : ResSound F (execTsyncWaitDone t s) := by
  unfold Machine.execTsyncWaitDone
  exact ResSound.due h ((h.syncFlags ..).complete ..)

theorem Sound.thaw (h : Sound F s) : Sound F s.thaw := by
  unfold State.thaw
  exact { h with }

theorem Sound.execTsyncResume (h : Sound F s) (t) : ResSound F (execTsyncResume t s) := by
  unfold Machine.execTsyncResume
  refine h.issue _ _ fun u hu => ?_
  refine hu.tileChecks _ _ fun room => ?_
  refine .done ?_
  split
  · exact hu.thaw ..
  · exact hu

theorem Sound.discard (h : Sound F s) : Sound F s.discard := by
  unfold State.discard
  extract_lets s1
  have h1 : Sound F s1 := h.thaw ..
  clear_value s1
  exact { h1 with entries := fun c => (List.length_filter_le ..).trans (h1.entries c) }

theorem Sound.execTsyncDiscard (h : Sound F s) (t) : ResSound F (execTsyncDiscard t s) := by
  unfold Machine.execTsyncDiscard
  refine h.issue _ _ fun u hu => ?_
  refine hu.tileChecks _ _ fun room => ?_
  refine .done ?_
  split
  · exact hu.discard ..
  · exact hu

theorem Sound.entryRun (h : Sound F s) (q') : Sound F (s.entryRun q') := by
  unfold State.entryRun
  extract_lets
  split
  · exact h.tzeroGo ..
  · exact h.mmaStart ..
  · exact h.trelSlotGo ..
  · exact h.drainStart ..
  · exact h.memStart ..
  · exact h.tcfgGo ..
  · exact h.trelTrayGo ..
  · exact { h with }
  · exact h.whiskStart ..

theorem Sound.entryStart (h : Sound F s) (q') : Sound F (s.entryStart q') := by
  unfold State.entryStart
  extract_lets _ _ s0 s1
  have h0 : Sound F s0 := { h with }
  have h1 : Sound F s1 := (h0.setEntry ..).bump ..
  split
  · exact h1.freeze ..
  · exact h1.entryRun ..

theorem Sound.execTileEntryStart (h : Sound F s) : ResSound F (execTileEntryStart s) := by
  unfold Machine.execTileEntryStart
  split
  · exact .next h
  · refine ResSound.due h ?_
    split
    · exact h.deferHead ..
    · rename_i e
      exact ((h.admission ..).get e).entryStart ..

theorem Sound.execSkilletStep (h : Sound F s) : ResSound F (execSkilletStep s) := by
  unfold Machine.execSkilletStep
  split
  · exact .next h
  · exact ResSound.due h (h.arrayStep ..)

theorem Sound.execTileMemPage (h : Sound F s) (run) : ResSound F (execTileMemPage run s) := by
  unfold Machine.execTileMemPage
  split
  · exact .next h
  · rename_i e
    exact ResSound.due h ((h.memXlate (h.run e)).memFinish ..)

theorem Sound.execTileMemLineDone (h : Sound F s) (run line) : ResSound F (execTileMemLineDone run line s) := by
  unfold Machine.execTileMemLineDone
  split
  · exact .next h
  · rename_i e
    split
    · exact .next h
    · exact ResSound.due h (h.memLineDone (h.run e) _)

theorem Sound.execDrainStreamRow (h : Sound F s) : ResSound F (execDrainStreamRow s) := by
  unfold Machine.execDrainStreamRow
  split
  · exact .next h
  · exact ResSound.due h (h.streamStep ..)

theorem Sound.execDrainComplete (h : Sound F s) : ResSound F (execDrainComplete s) := by
  unfold Machine.execDrainComplete
  split
  · exact .next h
  · exact ResSound.due h (h.drainEnd ..)

theorem Sound.execTmovComplete (h : Sound F s) : ResSound F (execTmovComplete s) := by
  unfold Machine.execTmovComplete
  split
  · exact .next h
  · exact ResSound.due h (h.tmovEnd ..)

theorem Sound.execWhiskRow (h : Sound F s) : ResSound F (execWhiskRow s) := by
  unfold Machine.execWhiskRow
  split
  · exact .next h
  · exact ResSound.due h (h.whiskStep ..)

theorem Sound.execWhiskComplete (h : Sound F s) : ResSound F (execWhiskComplete s) := by
  unfold Machine.execWhiskComplete
  split
  · exact .next h
  · extract_lets s1
    have h1 : Sound F s1 := h.whiskStep ..
    refine ResSound.due h ?_
    split
    · exact h1
    · exact h1.whiskEnd ..

end Sys2Proof.Machine
end

section
namespace Sys2Proof.Machine
open Sys2Proof

variable {F : Keeps} {s : State}

/-! ## Branches and loops: what each function keeps -/

theorem Sound.branchIf (h : Sound F s) (taken target) : EndsSound F (branchIf taken target s) := by
  unfold Machine.branchIf
  split
  · exact .jump h
  · exact .done h

theorem Sound.execJmp (h : Sound F s) (t target) : ResSound F (execJmp t target s) := by
  unfold Machine.execJmp
  refine h.issue _ _ fun u hu => ?_
  exact .jump hu

theorem Sound.execCall (h : Sound F s) (t target) : ResSound F (execCall t target s) := by
  unfold Machine.execCall
  refine h.issue _ _ fun u hu => ?_
  exact .jump (hu.setG ..)

theorem Sound.execJr (h : Sound F s) (t r) : ResSound F (execJr t r s) := by
  unfold Machine.execJr
  refine h.issue _ _ fun u hu => ?_
  exact .jump hu

theorem Sound.execCallr (h : Sound F s) (t r) : ResSound F (execCallr t r s) := by
  unfold Machine.execCallr
  refine h.issue _ _ fun u hu => ?_
  exact .jump (hu.setG ..)

theorem Sound.execBeqz (h : Sound F s) (t r target) : ResSound F (execBeqz t r target s) := by
  unfold Machine.execBeqz
  refine h.issue _ _ fun u hu => ?_
  exact hu.branchIf ..

theorem Sound.execBnez (h : Sound F s) (t r target) : ResSound F (execBnez t r target s) := by
  unfold Machine.execBnez
  refine h.issue _ _ fun u hu => ?_
  exact hu.branchIf ..

theorem Sound.execBltz (h : Sound F s) (t r target) : ResSound F (execBltz t r target s) := by
  unfold Machine.execBltz
  refine h.issue _ _ fun u hu => ?_
  exact hu.branchIf ..

theorem Sound.execBgez (h : Sound F s) (t r target) : ResSound F (execBgez t r target s) := by
  unfold Machine.execBgez
  refine h.issue _ _ fun u hu => ?_
  exact hu.branchIf ..

theorem Sound.armLoop (h : Sound F s) (t c l stop w0) : EndsSound F (armLoop t c l stop w0 s) := by
  unfold Machine.armLoop
  extract_lets
  split
  · exact .trap h
  · split
    · exact .jump (h.setTh ..)
    · exact .done (h.setTh ..)

theorem Sound.execLoop (h : Sound F s) (t r l stop) : ResSound F (execLoop t r l stop s) := by
  unfold Machine.execLoop
  refine h.issue _ _ fun u hu => ?_
  exact hu.armLoop ..

theorem Sound.execLoopi (h : Sound F s) (t count l stop) : ResSound F (execLoopi t count l stop s) := by
  unfold Machine.execLoopi
  refine h.issue _ _ fun u hu => ?_
  exact hu.armLoop ..

end Sys2Proof.Machine
end

section
namespace Sys2Proof.Machine
open Sys2Proof

variable {F : Keeps} {s : State}

/-! ## The Crock: what each function keeps -/

theorem keysRise_leaveErr (m : List (Nat × LineErr)) (k : Nat) (e : LineErr) (hm : keysRise m = true) :
    keysRise (leaveErr m k e) = true := by
  unfold leaveErr
  split
  · exact keysRise_drop _ _ hm
  · exact keysRise_put _ _ _ hm

theorem Sound.crockReads (h : Sound F s) (n bits_ who) : Sound F (s.crockReads n bits_ who) := by
  unfold State.crockReads
  exact ((h.charge ..).bump ..).bump ..

theorem Sound.crockRecord (h : Sound F s) (kind line src who) : Sound F (s.crockRecord kind line src who) := by
  unfold State.crockRecord
  exact h.record ..

theorem Sound.crockFound (h : Sound F s) (line src who) : Sound F (s.crockFound line src who) := by
  unfold State.crockFound
  exact (h.crockRecord ..).event ..

theorem Sound.lowSpare (h : Sound F s) : Sound F s.lowSpare := by
  unfold State.lowSpare
  split
  · exact h.event ..
  · exact h

theorem Sound.retireBlock (h : Sound F s) (b) : Sound F (s.retireBlock b) := by
  have hw : F.full → canon zero32 (setD zero32 s.crk.wcount b 0xFFFF_FFFF) = true := fun c => canon_setD _ _ _ _ (h.wcount c)
  unfold State.retireBlock
  refine Sound.lowSpare ?_
  exact { h with wcount := hw }

theorem Sound.countWrite (h : Sound F s) (b) : Sound F (s.countWrite b) := by
  unfold State.countWrite
  split
  · exact h
  · exact { h with wcount := fun c => canon_setD _ _ _ _ (h.wcount c) }

theorem Sound.loadCopy (h : Sound F s) (copy gen) : Sound F (s.loadCopy copy gen) := by
  unfold State.loadCopy
  extract_lets bs m c
  have hm : keysRise m = true := by
    unfold m
    refine foldl_kept (keysRise · = true) (fun m i hm => ?_) _ rfl
    dsimp only
    split
    · exact hm
    · exact keysRise_put _ _ _ hm
  have hc : canon zero32 c = true := by
    unfold c
    exact foldl_kept (canon zero32 · = true) (fun c j hc => canon_setD _ _ _ _ hc) _ rfl
  clear_value m c
  exact { h with wcount := fun _ => hc, wmap := fun _ => hm }

theorem Sound.badCopy (h : Sound F s) (copy bad) : Sound F (s.badCopy copy bad) := by
  unfold State.badCopy
  split
  · exact h.crockRecord ..
  · exact h

theorem Sound.loadMap (h : Sound F s) : Sound F s.loadMap := by
  unfold State.loadMap
  extract_lets s2 a b s1
  have h2 : Sound F s2 := h.crockReads ..
  have h1 : Sound F s1 := (h2.badCopy ..).badCopy ..
  clear_value s2 s1 a b
  split
  · refine Sound.event ?_ ..
    exact { h1 with }
  · exact (h1.loadCopy ..).lowSpare
  · exact (h1.loadCopy ..).lowSpare
  · refine Sound.lowSpare ?_
    split
    · exact h1.loadCopy ..
    · exact h1.loadCopy ..

theorem Sound.ticketDone (h : Sound F s) (k failed) : Sound F (s.ticketDone k failed) := by
  unfold State.ticketDone
  extract_lets
  split
  · extract_lets s1
    have h1 : Sound F s1 := { h with }
    split
    · exact h1.event ..
    · exact h1

theorem Sound.entryDone (h : Sound F s) (e failed) : Sound F (s.entryDone e failed) := by
  unfold State.entryDone
  refine Sound.ticketDone ?_ ..
  exact { h with writes := fun c => (List.length_filter_le ..).trans (h.writes c) }

theorem Sound.pumpGo (h : Sound F s) (fuel) : Sound F (s.pumpGo fuel) := by
  induction fuel generalizing s with
  | zero => exact h
  | succ f ih =>
    unfold State.pumpGo
    split
    · exact h
    · split
      · exact h
      · split
        · exact h
        · split
          · split
            · exact ih (((h.crockReads ..).crockFound ..).entryDone ..)
            · exact { h with }
          · exact { h with }

theorem Sound.crockPump (h : Sound F s) : Sound F s.crockPump := by
  unfold State.crockPump
  exact h.pumpGo ..

theorem Sound.enqueueWrite (h : Sound F s) (room : s.crk.queue.length < 8) (op mc drv) :
    Sound F (s.enqueueWrite op mc drv) :=
  { h with writes := fun _ => by simpa [State.enqueueWrite] using room }

/-! An accepted command finds room in the write queue (R302, R303). -/

theorem State.room_of_writeCode {s : State} {driver : Bool} {line rsv : Nat} {mc : Bool} (e : s.writeCode driver line rsv mc = 0) :
    s.crk.queue.length < 8 := by
  unfold State.writeCode at e
  split_ifs at e
  all_goals omega

theorem State.room_of_moveCode {s : State} {l b : Nat} (e : s.moveCode l b = 0) : s.crk.queue.length < 8 := by
  unfold State.moveCode at e
  split_ifs at e
  all_goals omega

theorem Accounts.crockReads (s : State) (n b who) : Accounts s (s.crockReads n b who) :=
  ((Accounts.charge ..).trans (Accounts.bump ..)).trans (Accounts.bump ..)

theorem Sound.crockCode (h : Sound F s) (driver c) : Sound F (s.crockCode driver c) := by
  unfold State.crockCode
  split
  · exact { h with }
  · exact h.refuse ..

theorem Sound.slotTouched (h : Sound F s) (line) : Sound F (s.slotTouched line) := by
  unfold State.slotTouched
  split
  · exact { h with }
  · exact h

theorem Sound.writeCmd (h : Sound F s) (driver line rsv mc op) : Sound F (s.writeCmd driver line rsv mc op) := by
  unfold State.writeCmd
  extract_lets
  split
  · exact h.crockCode ..
  · rename_i ok
    have room := State.room_of_writeCode (not_not.1 ok)
    exact (((h.enqueueWrite room ..).slotTouched ..).crockCode ..).crockPump ..

theorem Sound.byTag (h : Sound F s) (pg g w) {f : State → State} (hf : Sound F (f s)) : Sound F (s.byTag pg g w f) := by
  unfold State.byTag
  split
  · exact hf
  · split
    · exact h
    · exact h.refuse ..

theorem Sound.byOwn (h : Sound F s) (pg w) {f : State → State} (hf : Sound F (f s)) : Sound F (s.byOwn pg w f) := by
  unfold State.byOwn
  split
  · exact hf
  · exact h.refuse ..

theorem Sound.access (h : Sound F s) (w c) {u : State} (hu : Sound F u) : ResSound F (s.access w c u) := by
  unfold State.access
  extract_lets
  split
  · exact .next (h.sealed (h.arrives ..))
  · exact .due h hu

theorem Sound.wcmd (h : Sound F s) (line mc rsv) : Sound F (s.wcmd line mc rsv) := by
  unfold State.wcmd
  exact h.writeCmd ..

theorem Sound.wcmdRefresh (h : Sound F s) (line mc rsv) : Sound F (s.wcmdRefresh line mc rsv) := by
  unfold State.wcmdRefresh
  exact h.writeCmd ..

theorem Sound.dwcmd (h : Sound F s) (line mc rsv) : Sound F (s.dwcmd line mc rsv) := by
  unfold State.dwcmd
  exact h.writeCmd ..

theorem Sound.moveCmd (h : Sound F s) (l pg retire) : Sound F (s.moveCmd l pg retire) := by
  unfold State.moveCmd
  extract_lets
  split
  · exact h.refuse ..
  · rename_i ok
    have room := State.room_of_moveCode (not_not.1 ok)
    exact ((h.enqueueWrite room ..).refuse ..).crockPump ..

theorem Sound.mapCmd (h : Sound F s) : Sound F s.mapCmd := by
  unfold State.mapCmd
  extract_lets c
  split
  · exact h.refuse ..
  · rename_i ok
    have room : s.crk.queue.length < 8 := by
      have e := not_not.1 ok
      unfold c at e
      split_ifs at e
      all_goals omega
    exact ((h.enqueueWrite room ..).refuse ..).crockPump ..

theorem Sound.tearLine (h : Sound F s) (pg d new) : Sound F (s.tearLine pg d new) := by
  have hm : F.full → canon zero256 (if new then setD zero256 s.crk.media pg d else s.crk.media) = true := by
    split
    · exact fun c => canon_setD _ _ _ _ (h.media c)
    · exact h.media
  exact { h with media := hm, errs := fun c => keysRise_leaveErr _ _ _ (h.errs c) }

theorem Sound.slotWritten (h : Sound F s) (op) : Sound F (s.slotWritten op) := by
  unfold State.slotWritten
  split
  · exact h.slotTouched ..
  · exact h.slotTouched ..
  · exact h

theorem Sound.sourceRead (h : Sound F s) (r) : Sound F (s.sourceRead r) := by
  unfold State.sourceRead
  split
  · exact h
  · split
    · exact h.crockReads ..
    · split
      · exact h.crockReads ..
      · exact h
    · exact h

theorem Sound.putLine (h : Sound F s) (r good) : Sound F (s.putLine r good) := by
  unfold State.putLine
  extract_lets s1
  have h1 : Sound F s1 := h.sourceRead ..
  clear_value s1
  split
  · extract_lets s11
    have h11 : Sound F s11 := { h1 with media := fun c => canon_setD _ _ _ _ (h1.media c), errs := fun c => keysRise_leaveErr _ _ _ (h1.errs c) }
    exact (((h11.slotWritten ..).countWrite ..).charge ..).bump ..

theorem Sound.mapWritten (h : Sound F s) (op) : Sound F (s.mapWritten op) := by
  unfold State.mapWritten
  extract_lets _ s1
  have h1 : Sound F s1 := { h with }
  clear_value s1
  split
  · rename_i l pg _
    extract_lets _ s2
    have hm : F.full → keysRise (if pg = l then drop s1.crk.wmap l else put s1.crk.wmap l pg) = true := by
      split
      · exact fun c => keysRise_drop _ _ (h1.wmap c)
      · exact fun c => keysRise_put _ _ _ (h1.wmap c)
    have h2 : Sound F s2 := { h1 with wmap := hm }
    refine Sound.event ?_ ..
    split
    · exact h2.retireBlock ..
    · exact h2.lowSpare ..
  · exact h1.event ..

theorem Sound.entryGood (h : Sound F s) (e) : Sound F (s.entryGood e) := by
  unfold State.entryGood
  split
  · exact h.entryDone ..
  · extract_lets s1
    have h1 : Sound F s1 := (h.entryDone ..).bump ..
    clear_value s1
    split
    · exact { h1 with }
    · exact h1
  · exact (h.mapWritten ..).entryDone ..
  · exact (h.mapWritten ..).entryDone ..

theorem Sound.entryBad (h : Sound F s) (r) : Sound F (s.entryBad r) := by
  unfold State.entryBad
  split
  · extract_lets _ s1
    have h1 : Sound F s1 := { h with }
    exact (((h1.crockRecord ..).retireBlock ..).entryDone ..).event ..
  · extract_lets s1 _ s2
    have h1 : Sound F s1 := ((h.crockRecord ..).event ..).entryDone ..
    clear_value s1
    have h2 : Sound F s2 := { h1 with }
    split
    · exact h2.event ..
    · exact h2

theorem Sound.lineWritten (h : Sound F s) (r good) : Sound F (s.lineWritten r good) := by
  unfold State.lineWritten
  extract_lets s0 s1 _ idle
  have h0 : Sound F s0 := by
    unfold s0
    split
    · exact h
    · exact h.putLine ..
  have h1 : Sound F s1 := by
    unfold s1
    split
    · exact h0
    · exact h0.crockReads ..
  clear_value s0 s1
  have hidle : Sound F idle := { h1 with }
  clear_value idle
  split
  · split
    · exact hidle
    · exact hidle.entryGood ..
  · split
    · split
      · exact { h1 with }
      · exact hidle.entryGood ..
    · split
      · refine Sound.bump ?_ ..
        exact { h1 with }
      · exact hidle.entryBad ..

theorem Sound.execCrockLineWriteDone (h : Sound F s) (good) : ResSound F (execCrockLineWriteDone good s) := by
  unfold Machine.execCrockLineWriteDone
  split
  · exact .next h
  · exact ResSound.always h ((h.lineWritten ..).crockPump ..)

theorem Sound.wqResume (h : Sound F s) : Sound F s.wqResume := by
  unfold State.wqResume
  refine Sound.crockPump ?_ ..
  exact { h with }

theorem Sound.wqDiscard (h : Sound F s) : Sound F s.wqDiscard := by
  unfold State.wqDiscard
  extract_lets inRun _ s1
  have h1 : Sound F s1 := by
    unfold s1
    refine Sound.foldl (fun u x hu => ?_) _ h
    extract_lets s2
    have h2 : Sound F s2 := hu.entryDone ..
    clear_value s2
    split
    · refine Sound.event ?_ ..
      exact { h2 with }
    · exact h2.event ..
    · exact h2
  clear_value s1
  refine Sound.crockPump ?_ ..
  exact { h1 with }

theorem Sound.drcmd (h : Sound F s) (line rsv) : Sound F (s.drcmd line rsv) := by
  unfold State.drcmd
  extract_lets
  split
  · exact h.crockCode ..
  · refine Sound.crockCode ?_ ..
    exact { h with }

theorem Sound.driverRead (h : Sound F s) (line) : Sound F (s.driverRead line) := by
  unfold State.driverRead
  extract_lets _ s1 _ _ s2
  have h1 : Sound F s1 := h.crockReads ..
  clear_value s1
  have h2 : Sound F s2 := { h1 with }
  split
  · exact h2.crockFound ..
  · exact h2

theorem Sound.execDriverReadDone (h : Sound F s) : ResSound F (execDriverReadDone s) := by
  unfold Machine.execDriverReadDone
  split
  · exact .next h
  · exact ResSound.due h (h.driverRead ..)

theorem Sound.scanCmd (h : Sound F s) : Sound F s.scanCmd := by
  unfold State.scanCmd
  extract_lets
  split
  · exact h.refuse ..
  · refine Sound.refuse ?_ ..
    exact { h with }

theorem Sound.scanLine (h : Sound F s) (room : s.crk.queue.length < 8) : Sound F s.scanLine := by
  unfold State.scanLine
  extract_lets _ _ s1 _ s2
  have h1 : Sound F s1 := h.crockReads ..
  have room : s1.crk.queue.length < 8 := (Accounts.crockReads s ..).crk ▸ room
  clear_value s1
  have h2 : Sound F s2 := { h1 with }
  have room : s2.crk.queue.length < 8 := room
  clear_value s2
  split
  · refine Sound.crockFound ?_ ..
    exact { h1 with }
  · split
    · exact (h2.enqueueWrite room ..).crockPump ..
    · exact h1

theorem Sound.execCrockScanRead (h : Sound F s) : ResSound F (execCrockScanRead s) := by
  unfold Machine.execCrockScanRead
  extract_lets s1
  refine ResSound.due_of h fun due => ?_
  have room : s.crk.queue.length < 8 := by
    simp only [State.scanDue, Bool.and_eq_true, decide_eq_true_eq] at due
    exact due.1.2
  have h1 : Sound F s1 := h.scanLine room
  clear_value s1
  split
  · refine Sound.event ?_ ..
    exact { h1 with }
  · exact { h1 with }

theorem Sound.bootPut (h : Sound F s) (line bs good) : Sound F (s.bootPut line bs good) := by
  unfold State.bootPut
  extract_lets _ _ s1
  have h1 : Sound F s1 := { h with media := fun c => canon_setD _ _ _ _ (h.media c), errs := fun c => keysRise_leaveErr _ _ _ (h.errs c) }
  exact ((h1.countWrite ..).charge ..).bump ..

theorem Sound.bootHalts (h : Sound F s) (line) : Sound F (s.bootHalts line) := by
  unfold State.bootHalts
  extract_lets s1
  have h1 : Sound F s1 := (h.crockRecord ..).event ..
  clear_value s1
  exact { h1 with }

theorem Sound.bootTry (h : Sound F s) (line bs n) : Sound F (s.bootTry line bs n) := by
  induction n generalizing s with
  | zero =>
    unfold State.bootTry
    extract_lets good s1
    have h1 : Sound F s1 := (h.bootPut ..).crockReads ..
    clear_value s1
    show Sound F (if good then s1 else s1.bootHalts line)
    split
    · exact h1
    · exact h1.bootHalts ..
  | succ k ih =>
    unfold State.bootTry
    extract_lets good s1
    have h1 : Sound F s1 := (h.bootPut ..).crockReads ..
    clear_value s1
    show Sound F (if good then s1 else (s1.bump .crk 3 1).bootTry line bs k)
    split
    · exact h1
    · exact ih (h1.bump ..)

theorem Sound.bootWrite (h : Sound F s) (line bs) : Sound F (s.bootWrite line bs) := by
  unfold State.bootWrite
  split
  · exact h
  · exact h.bootTry ..

theorem Sound.bootUpdate (h : Sound F s) : Sound F s.bootUpdate := by
  unfold State.bootUpdate
  split
  · exact h
  · exact h.bootWrite ..

theorem Sound.bootReads (h : Sound F s) : Sound F s.bootReads := by
  unfold State.bootReads
  exact h.crockReads ..

theorem Sound.bootStopped (h : Sound F s) : Sound F s.bootStopped := by
  unfold State.bootStopped
  split
  · exact h
  · split
    · exact ((h.bootReads ..).fresh ..).bootPut ..
    · exact h.fresh ..

theorem Sound.bootTorn (h : Sound F s) : Sound F s.bootTorn := by
  unfold State.bootTorn
  split
  · exact h
  · split
    · exact (h.fresh ..).tearLine ..
    · exact h.fresh ..

theorem Sound.verifyReads (h : Sound F s) (slot) : Sound F (s.verifyReads slot) := by
  unfold State.verifyReads
  extract_lets
  exact h.crockReads ..

theorem Sound.verifyCmd (h : Sound F s) : Sound F s.verifyCmd := by
  unfold State.verifyCmd
  extract_lets
  split
  · exact h.refuse ..
  · refine Sound.refuse ?_ ..
    exact { h with }

theorem Sound.verifyEnd (h : Sound F s) : Sound F s.verifyEnd := by
  unfold State.verifyEnd
  extract_lets _ _ s1 s2
  have h1 : Sound F s1 := h.verifyReads ..
  have h2 : Sound F s2 := by
    unfold s2
    split
    · exact h1.crockFound ..
    · exact h1
  clear_value s1 s2
  refine Sound.event ?_ ..
  exact { h2 with }

theorem Sound.execVdone (h : Sound F s) : ResSound F (execVdone s) := by
  unfold Machine.execVdone
  exact ResSound.due h (h.verifyEnd ..)

theorem Sound.switchCmd (h : Sound F s) : Sound F s.switchCmd := by
  unfold State.switchCmd
  split
  · exact h.refuse ..
  · split
    · exact h.refuse ..
    · refine Sound.refuse ?_ ..
      exact { h with }

theorem Sound.switched (h : Sound F s) : Sound F s.switched := by
  unfold State.switched
  extract_lets
  refine Sound.event ?_ ..
  exact { h with }

theorem Sound.execSwitched (h : Sound F s) : ResSound F (execSwitched s) := by
  unfold Machine.execSwitched
  exact ResSound.due h (h.switched ..)

theorem Sound.stopVerify (h : Sound F s) : Sound F s.stopVerify := by
  unfold State.stopVerify
  split
  · exact { h with }
  · exact h

theorem Sound.execPfailAssert (h : Sound F s) : ResSound F (execPfailAssert s) := by
  unfold Machine.execPfailAssert
  extract_lets _ s0 _ _ s1
  have h0 : Sound F s0 := by
    refine Sound.bootStopped ?_ ..
    exact { h with }
  clear_value s0
  have h1 : Sound F s1 := { h0 with }
  exact ResSound.due h ((((h1.stopVerify ..).event ..).crockPump ..).rouse ..)

theorem Sound.execPfailDeassert (h : Sound F s) : ResSound F (execPfailDeassert s) := by
  unfold Machine.execPfailDeassert
  refine ResSound.due h (Sound.crockPump ?_ ..)
  exact { h with }

theorem Sound.execWcmd (h : Sound F s) (w line mc rsv) : ResSound F (execWcmd w line mc rsv s) := by
  unfold Machine.execWcmd
  exact h.access _ _ (h.byTag _ _ _ (h.wcmd ..))

theorem Sound.execWcmdRefresh (h : Sound F s) (w line mc rsv) : ResSound F (execWcmdRefresh w line mc rsv s) := by
  unfold Machine.execWcmdRefresh
  exact h.access _ _ (h.byTag _ _ _ (h.wcmdRefresh ..))

theorem Sound.execDwcmd (h : Sound F s) (w line mc rsv) : ResSound F (execDwcmd w line mc rsv s) := by
  unfold Machine.execDwcmd
  exact h.access _ _ (h.byTag _ _ _ (h.dwcmd ..))

theorem Sound.execDrcmd (h : Sound F s) (w line rsv) : ResSound F (execDrcmd w line rsv s) := by
  unfold Machine.execDrcmd
  exact h.access _ _ (h.byTag _ _ _ (h.drcmd ..))

theorem Sound.execWqResume (h : Sound F s) (w) : ResSound F (execWqResume w s) := by
  unfold Machine.execWqResume
  exact h.access _ _ (h.byTag _ _ _ (h.wqResume ..))

theorem Sound.execWqDiscard (h : Sound F s) (w) : ResSound F (execWqDiscard w s) := by
  unfold Machine.execWqDiscard
  exact h.access _ _ (h.byTag _ _ _ (h.wqDiscard ..))

theorem Sound.execMoveCmd (h : Sound F s) (w l pg retire) : ResSound F (execMoveCmd w l pg retire s) := by
  unfold Machine.execMoveCmd
  exact h.access _ _ (h.byTag _ _ _ (h.moveCmd ..))

theorem Sound.execMapCmd (h : Sound F s) (w) : ResSound F (execMapCmd w s) := by
  unfold Machine.execMapCmd
  exact h.access _ _ (h.byTag _ _ _ (h.mapCmd ..))

theorem Sound.execScanCmd (h : Sound F s) (w) : ResSound F (execScanCmd w s) := by
  unfold Machine.execScanCmd
  exact h.access _ _ (h.byTag _ _ _ (h.scanCmd ..))

theorem Sound.execVerify (h : Sound F s) (w) : ResSound F (execVerify w s) := by
  unfold Machine.execVerify
  exact h.access _ _ (h.byTag _ _ _ (h.verifyCmd ..))

theorem Sound.execSwitch (h : Sound F s) (w) : ResSound F (execSwitch w s) := by
  unfold Machine.execSwitch
  exact h.access _ _ (h.byTag _ _ _ (h.switchCmd ..))

end Sys2Proof.Machine
end

section
namespace Sys2Proof.Machine
open Sys2Proof

variable {F : Keeps} {s : State}

/-! ## Control and status registers: what each function keeps -/

theorem Sound.timerCheck (h : Sound F s) (t) : Sound F (s.timerCheck t) := by
  unfold State.timerCheck
  extract_lets
  split
  · exact (h.setTh ..).edge ..
  · exact h

theorem Sound.growReserve (h : Sound F s) (n) : Sound F (s.growReserve n) := by
  unfold State.growReserve
  extract_lets
  split
  · exact { h with }
  · exact { h with }

theorem Sound.sresWrite (h : Sound F s) (t g) : Sound F (s.sresWrite t g) := by
  unfold State.sresWrite
  extract_lets _ mark s11 _ _ s1
  have h11 : Sound F s11 := h.setBal ..
  have h1 : Sound F s1 := h.setBal ..
  clear_value s11 s1
  split
  · split
    · exact (h11.growReserve ..).setTh ..
    · exact h.setTh ..
  · refine Sound.setTh ?_ ..
    exact { h1 with }

theorem Sound.swi (h : Sound F s) (v) : Sound F (s.swi v) := by
  unfold State.swi
  refine Sound.foldl (fun u x hu => ?_) _ h
  split
  · exact hu.edge ..
  · exact hu

theorem Sound.csrPut (h : Sound F s) (t n v w0) : EndsSound F (csrPut t n v w0 s) := by
  unfold Machine.csrPut
  extract_lets _ set
  split
  · split
    · exact .done h
    · exact .trap h
  · exact .done (h.setTh ..)
  · exact .done (h.setTh ..)
  · exact .done (h.setTh ..)
  · exact .done (h.setTh ..)
  · split
    · exact .done (h.setTh ..)
    · exact .trap h
  · exact .done (h.setTh ..)
  · exact .done (h.setTh ..)
  · exact .done (h.setTh ..)
  · exact .done (h.setTh ..)
  · exact .done (h.swi ..)
  · exact .done (h.setTh ..)
  · exact .done (h.setTh ..)
  · exact .done ((h.setTh ..).timerCheck ..)
  · exact .done (h.sresWrite ..)
  · exact .late h

theorem Sound.csrRead (h : Sound F s) (t g n) : EndsSound F (csrRead t g n s) := by
  unfold Machine.csrRead
  extract_lets
  split
  · exact .trap h
  · split
    · exact .trap h
    · split
      · exact .done ((h.setG ..).fresh ..)
      · exact .done (h.setG ..)

theorem Sound.csrModify (h : Sound F s) (t g n op f) : EndsSound F (csrModify t g n op f s) := by
  unfold Machine.csrModify
  extract_lets
  split
  · exact .trap h
  · exact .trap h
  · split
    · exact .trap h
    · split
      · exact .trap h
      · exact h.csrPut ..

theorem Sound.execCsrr (h : Sound F s) (t g csr) : ResSound F (execCsrr t g csr s) := by
  unfold Machine.execCsrr
  refine h.issue _ _ fun u hu => ?_
  exact hu.csrRead ..

theorem Sound.execCsrw (h : Sound F s) (t g csr) : ResSound F (execCsrw t g csr s) := by
  unfold Machine.execCsrw
  refine h.issue _ _ fun u hu => ?_
  exact hu.csrModify ..

theorem Sound.execCsrs (h : Sound F s) (t g csr) : ResSound F (execCsrs t g csr s) := by
  unfold Machine.execCsrs
  refine h.issue _ _ fun u hu => ?_
  exact hu.csrModify ..

theorem Sound.execCsrc (h : Sound F s) (t g csr) : ResSound F (execCsrc t g csr s) := by
  unfold Machine.execCsrc
  refine h.issue _ _ fun u hu => ?_
  exact hu.csrModify ..

theorem Sound.setPm (h : Sound F s) (w x') : Sound F (s.setPm w x') := by
  unfold State.setPm
  exact { h with pm := fun c => canon_setD _ _ _ _ (h.pm c) }

theorem Sound.pmAccess (h : Sound F s) (t ga w0) {go : Nat → State → Ends} (hg : ∀ a, EndsSound F (go a s)) :
    EndsSound F (pmAccess t ga w0 go s) := by
  unfold Machine.pmAccess
  extract_lets
  split
  · exact .trap h
  · split
    · exact .trap h
    · exact hg _

theorem Sound.execPmw (h : Sound F s) (t ga gs) : ResSound F (execPmw t ga gs s) := by
  unfold Machine.execPmw
  refine h.issue _ _ fun u hu => hu.pmAccess _ _ _ fun a => ?_
  exact .done (hu.setPm ..)

theorem Sound.execPmr (h : Sound F s) (t gd ga) : ResSound F (execPmr t gd ga s) := by
  unfold Machine.execPmr
  refine h.issue _ _ fun u hu => hu.pmAccess _ _ _ fun a => ?_
  exact .done (hu.setG ..)

theorem Sound.execTrap (h : Sound F s) (t code) : ResSound F (execTrap t code s) := by
  unfold Machine.execTrap
  refine h.issue _ _ fun u hu => ?_
  exact .waits (hu.trapNext ..)

theorem Sound.chain (h : Sound F s) (t b st e d nl) : Sound F (s.chain t b st e d nl) := by
  unfold State.chain
  extract_lets s1
  have h11 : Sound F s1 := h.shelfWriteBy ..
  exact (((h11.setTh ..).clearLatch ..).bump ..).charge ..

theorem Sound.rettBack (h : Sound F s) (t tsb) : Sound F (s.rettBack t tsb) := by
  unfold State.rettBack
  exact h.setTh ..

theorem Sound.rettGo (h : Sound F s) (t b tsb) : Sound F (s.rettGo t b tsb) := by
  unfold State.rettGo
  extract_lets _ _ _ s1
  have h11 : Sound F s1 := h.setTh ..
  split
  · exact h11.rettBack ..
  · split
    · rename_i e1
      extract_lets
      split
      · exact ((h11.readDesc ..).of_fst e1).chain ..
      · exact ((h11.readDesc ..).of_fst e1).rettBack ..
    · rename_i e1
      exact ((h11.readDesc ..).of_fst e1).rettBack ..

theorem Sound.rettBody (h : Sound F s) (t) : EndsSound F (rettBody t s) := by
  unfold Machine.rettBody
  extract_lets _ s1
  have h1 : Sound F s1 := h.charge ..
  split
  · exact .trap h
  · split
    · exact .trap h1
    · split
      · rename_i e
        split
        · exact .trap ((h1.shelfRead ..).of_fst e)
        · extract_lets
          split
          · exact .trap ((h1.shelfRead ..).of_fst e)
          · exact .waits (((h1.shelfRead ..).of_fst e).rettGo ..)

theorem Sound.execRett (h : Sound F s) (t) : ResSound F (execRett t s) := by
  unfold Machine.execRett
  refine h.issue _ _ fun u hu => ?_
  exact hu.rettBody ..

theorem Sound.waitBody (h : Sound F s) (t) : EndsSound F (waitBody t s) := by
  unfold Machine.waitBody
  extract_lets s1
  have h11 : Sound F s1 := h.complete ..
  split
  · exact .waits h11
  · exact .waits (h11.setTh ..)

theorem Sound.execWait (h : Sound F s) (t) : ResSound F (execWait t s) := by
  unfold Machine.execWait
  refine h.issue _ _ fun u hu => ?_
  exact hu.waitBody ..

end Sys2Proof.Machine
end

section
namespace Sys2Proof.Machine
open Sys2Proof

variable {F : Keeps} {s : State}

/-! ## The timing domain: what each function keeps -/

theorem Sound.setGroup (h : Sound F s) (g x') : Sound F (s.setGroup g x') := by
  unfold State.setGroup
  exact { h with }

theorem Sound.stretch (h : Sound F s) (g) : Sound F (s.stretch g) := by
  unfold State.stretch
  split
  · exact (h.record ..).fatalCond ..
  · exact (((h.setGroup ..).record ..).event ..).mcheck ..

theorem Sound.canary (h : Sound F s) (g) : Sound F (s.canary g) := by
  unfold State.canary
  split
  · exact h
  · extract_lets _ _ s1
    have h1 : Sound F s1 := (h.setGroup ..).bump ..
    refine Sound.event ?_ ..
    split
    · exact h1.stretch ..
    · exact h1

theorem Sound.execCanaryFire (h : Sound F s) (g) : ResSound F (execCanaryFire g s) := by
  unfold Machine.execCanaryFire
  exact ResSound.due h (h.canary ..)

theorem Sound.startCal (h : Sound F s) : Sound F s.startCal := by
  unfold State.startCal
  split
  · split
    · exact h
    · exact { h with }
  · exact h

theorem Sound.queueCal (h : Sound F s) (gs) : Sound F (s.queueCal gs) := by
  unfold State.queueCal
  refine Sound.startCal ?_ ..
  exact { h with }

theorem Sound.execAutoCalibration (h : Sound F s) : ResSound F (execAutoCalibration s) := by
  unfold Machine.execAutoCalibration
  extract_lets _ s1
  have h1 : Sound F s1 := { h with }
  clear_value s1
  refine ResSound.due h ?_
  split
  · exact h1.queueCal ..
  · refine Sound.queueCal ?_ ..
    exact { h1 with }

theorem Sound.nextCal (h : Sound F s) : Sound F s.nextCal := by
  unfold State.nextCal
  split
  · exact h
  · exact h.startCal ..

theorem Sound.calDone (h : Sound F s) (g m) : Sound F (s.calDone g m) := by
  unfold State.calDone
  extract_lets _ s21 _ s2 _ s1 _ s3 _ s4
  have h21 : Sound F s21 := h.stretch ..
  have h2 : Sound F s2 := h21.setGroup ..
  clear_value s21 s2
  have h1 : Sound F s1 := by
    unfold s1
    split
    · exact { h2 with }
    · extract_lets s22
      have h22 : Sound F s22 := h.setGroup ..
      clear_value s22
      exact { h22 with }
  have h3 : Sound F s3 := h1.setGroup ..
  clear_value s1 s3
  have h4 : Sound F s4 := { h3 with }
  exact (((h4.event ..).bump ..).charge ..).nextCal ..

theorem Sound.execRecalibrationDone (h : Sound F s) (m) : ResSound F (execRecalibrationDone m s) := by
  unfold Machine.execRecalibrationDone
  split
  · exact .next h
  · exact ResSound.due h (h.calDone ..)

theorem Sound.beginMove (h : Sound F s) (n) : Sound F (s.beginMove n) := by
  unfold State.beginMove
  extract_lets
  exact { h with }

theorem Sound.execVoltageMove (h : Sound F s) : ResSound F (execVoltageMove s) := by
  unfold Machine.execVoltageMove
  extract_lets
  exact ResSound.due h (h.beginMove ..)

theorem Sound.moveAcked (h : Sound F s) (m) : Sound F (s.moveAcked m) := by
  unfold State.moveAcked
  extract_lets _ _ s1
  have h1 : Sound F s1 := { h with }
  exact (h1.bump ..).startCal ..

theorem Sound.execVack (h : Sound F s) : ResSound F (execVack s) := by
  unfold Machine.execVack
  refine ResSound.due h ?_
  split
  · exact h.moveAcked ..
  · exact { h with }

theorem Sound.execVackFall (h : Sound F s) : ResSound F (execVackFall s) := by
  unfold Machine.execVackFall
  exact ResSound.due h { h with }

theorem Sound.execVoltageAckTimeout (h : Sound F s) : ResSound F (execVoltageAckTimeout s) := by
  unfold Machine.execVoltageAckTimeout
  split
  · exact .next h
  · refine ResSound.due h (((Sound.event ?_ ..).mcheck ..).startCal ..)
    exact { h with }

theorem Sound.execRetentionEntry (h : Sound F s) : ResSound F (execRetentionEntry s) := by
  unfold Machine.execRetentionEntry
  exact ResSound.due h { h with }

theorem Sound.execRetentionWake (h : Sound F s) : ResSound F (execRetentionWake s) := by
  unfold Machine.execRetentionWake
  exact ResSound.due h (h.rouse ..)

theorem Sound.execRetentionWakeDone (h : Sound F s) : ResSound F (execRetentionWakeDone s) := by
  unfold Machine.execRetentionWakeDone
  split
  · exact .next h
  · refine ResSound.due h (Sound.event ?_ ..)
    exact { h with }

theorem Sound.execOscTrimWindow (h : Sound F s) (cnt) : ResSound F (execOscTrimWindow cnt s) := by
  unfold Machine.execOscTrimWindow
  extract_lets
  exact ResSound.due h { h with }

theorem Sound.execSyncMarkLost (h : Sound F s) : ResSound F (execSyncMarkLost s) := by
  unfold Machine.execSyncMarkLost
  refine ResSound.due h (Sound.event ?_ ..)
  exact { h with }

theorem Sound.execTimerExpiry (h : Sound F s) (t) : ResSound F (execTimerExpiry t s) := by
  unfold Machine.execTimerExpiry
  extract_lets
  exact ResSound.due h ((h.setTh ..).edge ..)

theorem Sound.execTempReading (h : Sound F s) (temp) : ResSound F (execTempReading temp s) := by
  unfold Machine.execTempReading
  extract_lets _ _ s1
  have h1 : Sound F s1 := { h with }
  refine ResSound.due h ?_
  split
  · exact h1.event ..
  · exact h1

theorem Sound.execPllLock (h : Sound F s) : ResSound F (execPllLock s) := by
  unfold Machine.execPllLock
  exact ResSound.due h { h with }

theorem Sound.execPllCoast (h : Sound F s) : ResSound F (execPllCoast s) := by
  unfold Machine.execPllCoast
  extract_lets _ s1
  have h1 : Sound F s1 := { h with }
  refine ResSound.due h ?_
  split
  · exact h1.event ..
  · exact h1

theorem Sound.execPllRelock (h : Sound F s) : ResSound F (execPllRelock s) := by
  unfold Machine.execPllRelock
  refine ResSound.due h (Sound.event ?_ ..)
  exact { h with }

theorem Sound.refReturns (h : Sound F s) : Sound F s.refReturns := by
  unfold State.refReturns
  split
  · exact h
  · extract_lets
    exact { h with }

theorem Sound.muxPhase (h : Sound F s) : Sound F s.muxPhase := by
  unfold State.muxPhase
  exact { h with }

theorem Sound.execMuxSwitchDone (h : Sound F s) : ResSound F (execMuxSwitchDone s) := by
  unfold Machine.execMuxSwitchDone
  split
  · exact .next h
  · exact ResSound.due h { h with }

theorem Sound.execMuxHang (h : Sound F s) : ResSound F (execMuxHang s) := by
  unfold Machine.execMuxHang
  split
  · exact .next h
  · refine ResSound.due h (Sound.event ?_ ..)
    exact { h with }

theorem Sound.stopThread (h : Sound F s) (t) : Sound F (s.stopThread t) := by
  unfold State.stopThread
  extract_lets s1
  have h1 : Sound F s1 := h.abandon ..
  exact h1.setTh ..

theorem Sound.execThreadStop (h : Sound F s) (t) : ResSound F (execThreadStop t s) := by
  unfold Machine.execThreadStop
  extract_lets
  exact ResSound.due h (h.stopThread ..)

theorem Sound.execThreadWake (h : Sound F s) (t) : ResSound F (execThreadWake t s) := by
  unfold Machine.execThreadWake
  extract_lets
  exact ResSound.due h (h.setTh ..)

theorem Sound.execQuietOverrun (h : Sound F s) (t) : ResSound F (execQuietOverrun t s) := by
  unfold Machine.execQuietOverrun
  extract_lets
  exact ResSound.due h (h.setTh ..)

theorem Sound.execHandlerEntry (h : Sound F s) (t) : ResSound F (execHandlerEntry t s) := by
  unfold Machine.execHandlerEntry
  split
  · exact .next h
  · extract_lets s1
    have h1 : Sound F s1 := h.abandon ..
    exact ResSound.due h ((h1.setTh ..).enter ..)

end Sys2Proof.Machine
end

section
namespace Sys2Proof.Machine
open Sys2Proof

variable {F : Keeps} {s : State}

/-! ## The Ladle: what each function keeps -/

theorem Sound.setChan (h : Sound F s) (c x') : Sound F (s.setChan c x') := by
  unfold State.setChan
  exact { h with }

theorem Sound.headWrite (h : Sound F s) (c v) : Sound F (s.headWrite c v) := by
  unfold State.headWrite
  extract_lets
  split
  · exact h.setChan ..
  · exact h.setChan ..

theorem Sound.chHalt (h : Sound F s) (c err kind r) : Sound F (s.chHalt c err kind r) := by
  unfold State.chHalt
  exact (h.setChan ..).event ..

theorem Sound.descRead (h : Sound F s) (c ws bad) : Sound F (s.descRead c ws bad) := by
  unfold State.descRead
  split
  · exact h.chHalt ..
  · split
    · exact h.chHalt ..
    · exact h.setChan ..

theorem Sound.descStart (h : Sound F s) (c) : Sound F (s.descStart c) := by
  unfold State.descStart
  extract_lets
  split
  · exact h.descRead ..
  · split
    · rename_i e
      exact (((h.lsCharge ..).shelfRead ..).of_fst e).descRead ..

theorem Sound.execLadleDescriptorStart (h : Sound F s) (c) : ResSound F (execLadleDescriptorStart c s) := by
  unfold Machine.execLadleDescriptorStart
  extract_lets
  exact ResSound.due h (h.descStart ..)

theorem Sound.sideSet (h : Sound F s) (l) : Sound F (s.sideSet l) := by
  unfold State.sideSet
  exact { h with }

theorem Sound.sideRoom (h : Sound F s) : OptSound F s.sideRoom := by
  unfold State.sideRoom
  split
  · exact .some h
  · split
    · exact .none
    · exact .some ((h.sideSet ..).bump ..)

theorem Sound.warmLine (h : Sound F s) (c line) : OptFstSound F (s.warmLine c line) := by
  unfold State.warmLine
  split
  · exact .some h
  · split
    · exact .none
    · split
      · exact .none
      · rename_i e
        split
        · exact .none
        · rename_i e1
          exact .some (((((h.sideRoom ..).get e).request ..).get e1).sideSet ..)

theorem Sound.warmOut (h : Sound F s) (c o) : OptFstSound F (s.warmOut c o) := by
  unfold State.warmOut
  split
  · exact .some (h.bump ..)
  · split
    · exact .some h
    · split
      · exact .some h
      · exact h.warmLine ..

theorem Sound.setLRun (h : Sound F s) (c r) : Sound F (s.setLRun c r) := by
  unfold State.setLRun
  extract_lets
  exact h.setChan ..

theorem Sound.askRead (h : Sound F s) (c r x') : Sound F (s.askRead c r x') := by
  unfold State.askRead
  split
  · exact h
  · split
    · rename_i e
      extract_lets
      split
      · exact ((h.readLine ..).of_fst e).setLRun ..
      · exact (h.readLine ..).of_fst e
    · rename_i e
      split
      · exact ((h.readLine ..).of_fst e).setLRun ..
      · exact (h.readLine ..).of_fst e
    · rename_i e
      exact h

theorem Sound.chPois (h : Sound F s) (c pg) : Sound F (s.chPois c pg) := by
  unfold State.chPois
  split
  · exact h.setChan ..
  · exact h

theorem Sound.outDone (h : Sound F s) (c i line idx) : Sound F (s.outDone c i line idx) := by
  unfold State.outDone
  extract_lets
  exact h.setChan ..

theorem Sound.putOut (h : Sound F s) (c d r o) : Sound F (s.putOut c d r o) := by
  unfold State.putOut
  split
  · exact h
  · split
    · exact h
    · split
      · split
        · exact h
        · rename_i e
          exact (((h.request ..).get e).outDone ..).chPois ..
      · split
        · rename_i e
          exact (((h.storeLine ..).of_fst e).outDone ..).chPois ..
        · rename_i e
          split
          · exact (h.storeLine ..).of_fst e
          · exact ((h.storeLine ..).of_fst e).setLRun ..
        · rename_i e
          exact h

theorem Sound.warmPut (h : Sound F s) (c r o) : Sound F (s.warmPut c r o) := by
  unfold State.warmPut
  split
  · exact h
  · rename_i e
    exact ((h.warmOut ..).get e).outDone ..

theorem Sound.putTray (h : Sound F s) (c d r) : Sound F (s.putTray c d r) := by
  unfold State.putTray
  split
  · exact h
  · extract_lets _ _ s1
    have h1 : Sound F s1 := (h.putRow ..).charge ..
    split
    · exact h
    · refine Sound.chPois ?_ ..
      split
      · exact h1.setLRun ..
      · exact h1

theorem Sound.runGo (h : Sound F s) (c d i) : Sound F (s.runGo c d i) := by
  unfold State.runGo
  extract_lets s1 s2 s3
  have h1 : Sound F s1 := by
    unfold s1
    split
    · exact h
    · refine Sound.foldl (fun u x1 hu => ?_) _ h
      exact hu.askRead ..
  have h2 : Sound F s2 := by
    unfold s2
    split
    · exact h1
    · refine Sound.foldl (fun u x1 hu => ?_) _ h1
      split
      · exact hu.warmPut ..
      · exact hu.putOut ..
  have h3 : Sound F s3 := by
    unfold s3
    split
    · exact h2
    · exact h2.putTray ..
  split
  · exact h3
  · split
    · exact h3.setChan ..
    · exact h3

theorem Sound.ladleGo (h : Sound F s) (c) : Sound F (s.ladleGo c) := by
  unfold State.ladleGo
  split
  · exact h
  · refine Sound.foldl (fun u x1 hu => ?_) _ h
    exact hu.runGo ..

theorem Sound.ladleData (h : Sound F s) (c i line h' d pg) : Sound F (s.ladleData c i line h' d pg) := by
  unfold State.ladleData
  split
  · exact h
  · exact (h.setLRun ..).ladleGo ..

theorem Sound.ladleFilled (h : Sound F s) (c i line) : Sound F (s.ladleFilled c i line) := by
  unfold State.ladleFilled
  split
  · exact h
  · exact (h.setLRun ..).ladleGo ..

theorem Sound.ladleAround (h : Sound F s) (c i line) : Sound F (s.ladleAround c i line) := by
  unfold State.ladleAround
  split
  · split
    · split
      · rename_i e
        split at e
        · exact ((((h.request ..).get e).outDone ..).chPois ..).ladleGo ..
        · cases e
      · exact h.ladleFilled ..
    · exact h
  · exact h

theorem Sound.pageDone (h : Sound F s) (c pg base pol) : Sound F (s.pageDone c pg base pol) := by
  unfold State.pageDone
  exact h.setChan ..

theorem Sound.warmSkip (h : Sound F s) (c pg) : Sound F (s.warmSkip c pg) := by
  unfold State.warmSkip
  extract_lets s1
  have h1 : Sound F s1 := h.pageDone ..
  exact h1.setChan ..

theorem Sound.runXlate (h : Sound F s) (c d ps) : Sound F (s.runXlate c d ps).1 := by
  induction ps generalizing s with
  | nil => exact h
  | cons b rest ih =>
    unfold State.runXlate
    split
    · exact ih h
    · extract_lets fail
      have hf : ∀ u e k, Sound F u → Sound F (fail u e k) := fun u e k hu => hu.setChan ..
      clear_value fail
      split
      · rename_i e
        have h1 := (h.translate ..).of_fst e
        split
        · exact ih (h1.pageDone ..)
        · split
          · exact .pair (hf _ _ _ h1)
          · split
            · exact .pair (hf _ _ _ h1)
            · exact ih (h1.pageDone ..)
      · rename_i e
        have h1 := (h.translate ..).of_fst e
        split
        · exact ih (h1.warmSkip ..)
        · exact .pair (hf _ _ _ h1)
      · rename_i e
        exact .pair ((h.translate ..).of_fst e)
      · exact .pair h

theorem Sound.openRun (h : Sound F s) (c d) : Sound F (s.openRun c d) := by
  unfold State.openRun
  extract_lets _ _ s1
  have h1 : Sound F s1 := by
    unfold s1
    split
    · exact (h.checkRow ..).charge ..
    · exact h
  exact (h1.setChan ..).runGo ..

theorem Sound.nextRun (h : Sound F s) (c d) : Sound F (s.nextRun c d) := by
  unfold State.nextRun
  extract_lets _ _ s1
  have h1 : Sound F s1 := h.setChan ..
  split
  · exact h.chHalt ..
  · split
    · split
      · split
        · exact h1.warmSkip ..
        · exact h1
      · exact h.chHalt ..
    · split
      · rename_i e
        split
        · exact ((h.runXlate ..).of_fst e).openRun ..
        · split
          · split
            · exact ((h.runXlate ..).of_fst e).chHalt ..
            · exact (h.runXlate ..).of_fst e
          · exact (h.runXlate ..).of_fst e

theorem Sound.execLadleRun (h : Sound F s) (c) : ResSound F (execLadleRun c s) := by
  unfold Machine.execLadleRun
  split
  · exact .next h
  · exact ResSound.due h (h.nextRun ..)

theorem Sound.descDone (h : Sound F s) (c) : Sound F (s.descDone c) := by
  unfold State.descDone
  extract_lets _ s1
  have h1 : Sound F s1 := h.setChan ..
  split
  · split
    · exact h1.edge ..
    · exact h1
  · exact h1

theorem Sound.execLadleDescriptorComplete (h : Sound F s) (c) : ResSound F (execLadleDescriptorComplete c s) := by
  unfold Machine.execLadleDescriptorComplete
  split
  · exact .next h
  · exact ResSound.due h (h.descDone ..)

theorem Sound.chanAcked (h : Sound F s) (i) : Sound F (s.chanAcked i) := by
  unfold State.chanAcked
  refine Sound.foldl (fun u x hu => ?_) _ h
  exact hu.setChan ..

theorem Sound.bcastFailed (h : Sound F s) (c i) : Sound F (s.bcastFailed c i) := by
  unfold State.bcastFailed
  extract_lets _ s1
  have h1 : Sound F s1 := h.setChan ..
  split
  · exact h1.chHalt ..
  · exact h1

theorem Sound.chResume (h : Sound F s) (c) : Sound F (s.chResume c) := by
  unfold State.chResume
  split
  · exact h.setChan ..
  · exact h

theorem Sound.chSkip (h : Sound F s) (c) : Sound F (s.chSkip c) := by
  unfold State.chSkip
  split
  · exact (h.setChan ..).descDone ..
  · exact h

theorem Sound.chAbort (h : Sound F s) (c) : Sound F (s.chAbort c) := by
  unfold State.chAbort
  extract_lets
  split
  · exact h.setChan ..
  · exact h

theorem Sound.holdLoads (h : Sound F s) : Sound F s.holdLoads := by
  unfold State.holdLoads
  exact { h with }

theorem Sound.retranslate (h : Sound F s) (clear) : Sound F (s.retranslate clear) := by
  unfold State.retranslate
  exact { h with }

theorem Sound.holdClear (h : Sound F s) (who) : Sound F (s.holdClear who) := by
  unfold State.holdClear
  extract_lets s1
  have h1 : Sound F s1 := h.holdLoads ..
  clear_value s1
  exact { h1 with }

end Sys2Proof.Machine
end

section
namespace Sys2Proof.Machine
open Sys2Proof

variable {F : Keeps} {s : State}

/-! ## Pages of the window: what each function keeps -/

theorem Sound.workAgain (h : Sound F s) (pg) : Sound F (s.workAgain pg) := by
  unfold State.workAgain
  split
  · exact h.startCal ..
  · exact h.crockPump ..
  · exact h

theorem Sound.setQuiesce (h : Sound F s) (pg v) : Sound F (s.setQuiesce pg v) := by
  unfold State.setQuiesce
  extract_lets
  split
  · exact h.setFrame ..
  · exact (h.setFrame ..).workAgain ..

theorem Sound.execQuiesceComplete (h : Sound F s) (pg) : ResSound F (execQuiesceComplete pg s) := by
  unfold Machine.execQuiesceComplete
  extract_lets
  exact ResSound.due h (h.setFrame ..)

theorem Sound.shrinkShelf (h : Sound F s) (n) : Sound F (s.shrinkShelf n) := by
  unfold State.shrinkShelf
  extract_lets _ _ keep
  exact { h with shelf := fun c => canon_filter _ _ _ (h.shelf c), l1 := fun c => keysRise_filter _ _ (h.l1 c) }

theorem Sound.resize (h : Sound F s) (old new) : Sound F (s.resize old new) := by
  unfold State.resize
  split
  · exact h.shrinkShelf ..
  · split
    · exact { h with }
    · exact h

theorem Sound.tmgCommit (h : Sound F s) : Sound F s.tmgCommit := by
  unfold State.tmgCommit
  extract_lets s2 _ _ s1
  have h2 : Sound F s2 := h.commitRegs ..
  clear_value s2
  have h1 : Sound F s1 := { h2 with }
  refine Sound.startCal ?_ ..
  refine Sound.foldl (fun u x hu => ?_) _ h1
  split
  · exact hu.setTh ..
  · split
    · exact hu.stopThread ..
    · exact hu

theorem Sound.rprCommit (h : Sound F s) : Sound F s.rprCommit := by
  have hc := h.commitRegs .rpr
  exact { hc with shelf := h.shelf, lines := fun c => keysRise_filter _ _ (h.lines c), l1 := h.l1, stores := h.stores }

theorem Sound.commitPage (h : Sound F s) (pg) : Sound F (s.commitPage pg) := by
  unfold State.commitPage
  split
  · exact h.tmgCommit ..
  · exact h.rprCommit ..
  · exact (h.commitRegs ..).resize ..
  · extract_lets s1
    have h1 : Sound F s1 := h.commitRegs ..
    clear_value s1
    exact { h1 with }
  · exact h.commitRegs ..

theorem Sound.checked (h : Sound F s) (pg code) : Sound F (s.checked pg code) := by
  unfold State.checked
  exact (h.setFrame ..).refuse ..

theorem Sound.commit (h : Sound F s) (pg) : Sound F (s.commit pg) := by
  unfold State.commit
  extract_lets
  split
  · exact h.checked ..
  · exact (h.commitPage ..).checked ..

theorem Sound.revert (h : Sound F s) (pg) : Sound F (s.revert pg) := by
  unfold State.revert
  extract_lets s1
  have h1 : Sound F s1 := h.revertRegs ..
  clear_value s1
  split
  · exact { h1 with }
  · exact { h1 with }
  · exact h1

theorem Sound.enabled (h : Sound F s) (pg) : Sound F (s.enabled pg) := by
  unfold State.enabled
  extract_lets _ s1
  have h1 : Sound F s1 := h.setFrame ..
  split
  · exact h1.tlbFlush ..
  · exact h1.workAgain ..

theorem Sound.setEn (h : Sound F s) (pg v com) : Sound F (s.setEn pg v com) := by
  unfold State.setEn
  split
  · exact h
  · split
    · extract_lets
      split
      · exact h.checked ..
      · exact ((h.commitPage ..).enabled ..).checked ..
    · extract_lets
      split
      · exact h.checked ..
      · exact (h.setFrame ..).checked ..

theorem Sound.ctrlWrite (h : Sound F s) (pg v) : Sound F (s.ctrlWrite pg v) := by
  unfold State.ctrlWrite
  extract_lets _ s1 s2 s3
  have h1 : Sound F s1 := h.setQuiesce ..
  have h2 : Sound F s2 := h1.setEn ..
  have h3 : Sound F s3 := by
    unfold s3
    split
    · exact h2.commit ..
    · exact h2
  split
  · exact h3.revert ..
  · exact h3

theorem Sound.ctrlBy (h : Sound F s) (w pg v) : Sound F (s.ctrlBy w pg v) := by
  unfold State.ctrlBy
  exact h.byTag _ _ _ (h.ctrlWrite ..)

theorem Sound.execCtrlEn (h : Sound F s) (w pg v) : ResSound F (execCtrlEn w pg v s) := by
  unfold Machine.execCtrlEn
  exact h.access _ _ (h.ctrlBy ..)

theorem Sound.execCtrlQuiesce (h : Sound F s) (w pg v) : ResSound F (execCtrlQuiesce w pg v s) := by
  unfold Machine.execCtrlQuiesce
  exact h.access _ _ (h.ctrlBy ..)

theorem Sound.execCtrlCommit (h : Sound F s) (w pg) : ResSound F (execCtrlCommit w pg s) := by
  unfold Machine.execCtrlCommit
  exact h.access _ _ (h.ctrlBy ..)

theorem Sound.execCtrlRevert (h : Sound F s) (w pg) : ResSound F (execCtrlRevert w pg s) := by
  unfold Machine.execCtrlRevert
  exact h.access _ _ (h.ctrlBy ..)

end Sys2Proof.Machine
end

section
namespace Sys2Proof.Machine
open Sys2Proof

variable {F : Keeps} {s : State}

/-! ## Service of the window: what each function keeps -/

theorem Sound.scrubLine (h : Sound F s) (set way) : Sound F (s.scrubLine set way) := by
  unfold State.scrubLine
  split
  · extract_lets
    exact (((h.charge ..).shelfCheck ..).shelfCheck ..).bump ..
  · split
    · exact h
    · split
      · exact h
      · exact ((h.charge ..).lsCheck ..).bump ..

theorem Sound.execScrubRead (h : Sound F s) : ResSound F (execScrubRead s) := by
  unfold Machine.execScrubRead
  extract_lets s1
  have h1 : Sound F s1 := h.scrubLine ..
  clear_value s1
  exact ResSound.due h { h1 with }

theorem Sound.sweepSet (h : Sound F s) (way set) : OptSound F (s.sweepSet way set) := by
  unfold State.sweepSet
  split
  · exact .some h
  · split
    · exact .none
    · rename_i e
      exact .some ((((h.lsClean ..).get e).lsDrop ..).sideKill ..)

theorem Sound.growthStep (h : Sound F s) : Sound F s.growthStep := by
  unfold State.growthStep
  split
  · exact h
  · split
    · exact h
    · split
      · exact h
      · rename_i e
        extract_lets
        have hb0 := (h.sweepSet ..).get e
        exact { hb0 with }

theorem Sound.growthEnd (h : Sound F s) (n) : Sound F (s.growthEnd n) := by
  unfold State.growthEnd
  extract_lets _ s1
  have h1 : Sound F s1 := { h with }
  exact h1.event ..

theorem Sound.execShelfGrowthDone (h : Sound F s) : ResSound F (execShelfGrowthDone s) := by
  unfold Machine.execShelfGrowthDone
  split
  · exact .next h
  · exact ResSound.due h (h.growthEnd ..)

theorem Sound.waySweepStep (h : Sound F s) : Sound F s.waySweepStep := by
  unfold State.waySweepStep
  split
  · exact h
  · split
    · exact h
    · split
      · exact h
      · rename_i e
        have hb0 := (h.sweepSet ..).get e
        exact { hb0 with }

theorem Sound.execWaySweepDone (h : Sound F s) : ResSound F (execWaySweepDone s) := by
  unfold Machine.execWaySweepDone
  split
  · exact .next h
  · extract_lets _ s1
    have h1 : Sound F s1 := { h with }
    exact ResSound.due h ((h1.event ..).bump ..)

theorem Sound.bistCmd (h : Sound F s) (tgt i) : Sound F (s.bistCmd tgt i) := by
  unfold State.bistCmd
  extract_lets _ _ s1
  have h1 : Sound F s1 := { h with }
  split
  · exact h.refuse ..
  · exact h1.refuse ..

theorem Sound.execBistRow (h : Sound F s) (w i) : ResSound F (execBistRow w i s) := by
  unfold Machine.execBistRow
  exact h.access _ _ (h.byOwn _ _ (h.bistCmd ..))

theorem Sound.execBistColumn (h : Sound F s) (w i) : ResSound F (execBistColumn w i s) := by
  unfold Machine.execBistColumn
  exact h.access _ _ (h.byOwn _ _ (h.bistCmd ..))

theorem Sound.execBistWay (h : Sound F s) (w i) : ResSound F (execBistWay w i s) := by
  unfold Machine.execBistWay
  exact h.access _ _ (h.byOwn _ _ (h.bistCmd ..))

theorem Sound.execBistWholeArray (h : Sound F s) (w) : ResSound F (execBistWholeArray w s) := by
  unfold Machine.execBistWholeArray
  exact h.access _ _ (h.byOwn _ _ (h.bistCmd ..))

theorem Sound.arrayCleared (h : Sound F s) : Sound F s.arrayCleared := by
  unfold State.arrayCleared
  exact { h with }

theorem Sound.bistEnd (h : Sound F s) (tgt fails) : Sound F (s.bistEnd tgt fails) := by
  unfold State.bistEnd
  extract_lets s0 _ s1
  have h0 : Sound F s0 := by
    unfold s0
    split
    · exact h.arrayCleared ..
    · exact h
  clear_value s0
  have h1 : Sound F s1 := { h0 with }
  exact (h1.event ..).bump ..

theorem Sound.execBistDone (h : Sound F s) (fails) : ResSound F (execBistDone fails s) := by
  unfold Machine.execBistDone
  split
  · exact .next h
  · exact ResSound.due h (h.bistEnd ..)

theorem Sound.migrated (h : Sound F s) : Sound F s.migrated := by
  unfold State.migrated
  extract_lets _ s1 _ s2
  have h1 : Sound F s1 := by
    unfold s1
    refine Sound.foldl (fun u x hu => ?_) _ h
    split
    · exact hu.checkShadow ..
    · exact hu.checkElem ..
  clear_value s1
  have h2 : Sound F s2 := { h1 with }
  exact (h2.event ..).bump ..

theorem Sound.execMigrationDone (h : Sound F s) : ResSound F (execMigrationDone s) := by
  unfold Machine.execMigrationDone
  exact ResSound.due h (h.migrated ..)

end Sys2Proof.Machine
end

section
namespace Sys2Proof.Machine
open Sys2Proof

variable {F : Keeps} {s : State}

/-! ## Thread resets: what each function keeps -/

theorem Sound.giveUpTile (h : Sound F s) (t) : Sound F (s.giveUpTile t) := by
  unfold State.giveUpTile
  split
  · exact (h.discard ..).disown ..
  · exact h

theorem Sound.dropClears (h : Sound F s) (t) : Sound F (s.dropClears t) := by
  unfold State.dropClears
  exact { h with }

theorem Sound.threadReset (h : Sound F s) (t) : Sound F (s.threadReset t) := by
  unfold State.threadReset
  exact (((h.orphan ..).giveUpTile ..).dropClears ..).setTh ..

theorem Sound.askReset (h : Sound F s) (t) : Sound F (s.askReset t) := by
  unfold State.askReset
  extract_lets s1
  have h1 : Sound F s1 := by
    unfold s1
    split
    · exact h.abandon ..
    · exact h
  split
  · exact h1.threadReset ..
  · exact h1.setTh ..

theorem Sound.trst (h : Sound F s) (mask) : Sound F (s.trst mask) := by
  unfold State.trst
  refine Sound.foldl (fun u x hu => ?_) _ h
  split
  · exact hu.askReset ..
  · exact hu

theorem Sound.execTrst (h : Sound F s) (w mask) : ResSound F (execTrst w mask s) := by
  unfold Machine.execTrst
  exact h.access _ _ (h.byTag _ _ _ (h.trst ..))

theorem Sound.execThreadResetEffect (h : Sound F s) (t) : ResSound F (execThreadResetEffect t s) := by
  unfold Machine.execThreadResetEffect
  extract_lets
  refine ResSound.due h ?_
  split
  · exact h.threadReset ..
  · exact h.abandon ..

end Sys2Proof.Machine
end

section
namespace Sys2Proof.Machine
open Sys2Proof

variable {F : Keeps} {s : State}

/-! ## Accesses of the window: what each function keeps -/

theorem Sound.sendReady (h : Sound F s) (status) : Sound F (s.sendReady status) := by
  unfold State.sendReady
  extract_lets
  refine Sound.queueReady ?_ ..
  exact { h with }

theorem Sound.eventClear (h : Sound F s) (pg v) : Sound F (s.eventClear pg v) := by
  unfold State.eventClear
  extract_lets
  exact h.setFrame ..

theorem Sound.counterWrite (h : Sound F s) (pg k v) : Sound F (s.counterWrite pg k v) := by
  unfold State.counterWrite
  split
  · exact h
  · split
    · exact { h with }
    · exact h.setCounter ..

theorem Sound.regDataRead (h : Sound F s) : Sound F s.regDataRead.1 := by
  unfold State.regDataRead
  extract_lets
  split
  · exact .pair (h.refuse ..)
  · exact .pair h

theorem Sound.regDataWrite (h : Sound F s) (v) : Sound F (s.regDataWrite v) := by
  unfold State.regDataWrite
  extract_lets
  split
  · exact h.refuse ..
  · exact h.setTh ..

theorem Sound.mmioRead (h : Sound F s) (off) : Sound F (s.mmioRead off).1 := by
  unfold State.mmioRead
  split
  · exact h.regDataRead ..
  · exact .pair h

theorem Sound.barArrive (h : Sound F s) : Sound F s.barArrive := by
  unfold State.barArrive
  split
  · exact { h with }
  · extract_lets
    exact { h with }

theorem Sound.chClear (h : Sound F s) (c v) : Sound F (s.chClear c v) := by
  unfold State.chClear
  extract_lets
  exact h.setChan ..

theorem Sound.chCtrl (h : Sound F s) (c v) : Sound F (s.chCtrl c v) := by
  unfold State.chCtrl
  extract_lets s1 s2
  have h1 : Sound F s1 := by
    unfold s1
    split
    · exact h.chResume ..
    · exact h
  have h2 : Sound F s2 := by
    unfold s2
    split
    · exact h1.chSkip ..
    · exact h1
  split
  · exact h2.chAbort ..
  · exact h2

theorem Sound.barClear (h : Sound F s) (v) : Sound F (s.barClear v) := by
  unfold State.barClear
  exact { h with }

theorem Sound.spanClear (h : Sound F s) (i rsv) : Sound F (s.spanClear i rsv) := by
  unfold State.spanClear
  split
  · exact h.refuse ..
  · extract_lets s1
    have h1 : Sound F s1 := h.dropCopies ..
    clear_value s1
    refine (Sound.retranslate ?_ ..).refuse ..
    exact { h1 with }

theorem Sound.spanCmd (h : Sound F s) (v) : Sound F (s.spanCmd v) := by
  unfold State.spanCmd
  extract_lets
  split
  · exact h.spanLoad ..
  · exact h.spanClear ..
  · exact h.spanReadBack ..
  · exact h.spanSetAD ..

theorem Sound.pendClr (h : Sound F s) (v) : Sound F (s.pendClr v) := by
  unfold State.pendClr
  exact { h with }

theorem Sound.pendSet (h : Sound F s) (v) : Sound F (s.pendSet v) := by
  unfold State.pendSet
  exact { h with }

theorem Sound.wtWrite (h : Sound F s) (v) : Sound F (s.wtWrite v) := by
  unfold State.wtWrite
  exact { h with }

theorem Sound.calCmd (h : Sound F s) (v) : Sound F (s.calCmd v) := by
  unfold State.calCmd
  split
  · exact h.queueCal ..
  · split
    · exact h.queueCal ..
    · exact h.refuse ..

theorem Sound.lrepWrite (h : Sound F s) (v) : Sound F (s.lrepWrite v) := by
  unfold State.lrepWrite
  exact { h with }

theorem Sound.bistWrite (h : Sound F s) (v) : Sound F (s.bistWrite v) := by
  unfold State.bistWrite
  exact h.bistCmd ..

theorem Sound.pmCmdRead (h : Sound F s) : Sound F s.pmCmdRead := by
  unfold State.pmCmdRead
  extract_lets
  exact h.setReg ..

theorem Sound.pmCmdWrite (h : Sound F s) : Sound F s.pmCmdWrite := by
  unfold State.pmCmdWrite
  extract_lets
  exact h.setPm ..

theorem Sound.pmCmd (h : Sound F s) (v) : Sound F (s.pmCmd v) := by
  unfold State.pmCmd
  split
  · exact h.refuse ..
  · split
    · exact h.refuse ..
    · split
      · exact h.pmCmdRead ..
      · split
        · exact h.pmCmdWrite ..
        · exact h

theorem Sound.wcmdWrite (h : Sound F s) (v) : Sound F (s.wcmdWrite v) := by
  unfold State.wcmdWrite
  split
  · exact h.wcmdRefresh ..
  · exact h.wcmd ..

theorem Sound.wqCtrl (h : Sound F s) (v) : Sound F (s.wqCtrl v) := by
  unfold State.wqCtrl
  extract_lets s1
  have h1 : Sound F s1 := by
    unfold s1
    split
    · exact h.wqDiscard ..
    · exact h
  split
  · exact h1.wqResume ..
  · exact h1

theorem Sound.slotCtrl (h : Sound F s) (v) : Sound F (s.slotCtrl v) := by
  unfold State.slotCtrl
  extract_lets s1
  have h1 : Sound F s1 := by
    unfold s1
    split
    · exact h.verifyCmd ..
    · exact h
  split
  · exact h1.switchCmd ..
  · exact h1

theorem Sound.regPut (h : Sound F s) (pg o r v) : Sound F (s.regPut pg o r v) := by
  unfold State.regPut
  extract_lets _ _ s1
  have h1 : Sound F s1 := h.setReg ..
  split
  · exact h1
  · exact h1.refuse ..

theorem Sound.cmdLow (h : Sound F s) (w pg o v) : Sound F (s.cmdLow w pg o v) := by
  unfold State.cmdLow
  split
  · split
    · exact h.byTag _ _ _ (h.sendReady ..)
    · exact h
  · split
    · exact h.byTag _ _ _ (h.trst ..)
    · split
      · exact h.byTag _ _ _ (h.regDataWrite ..)
      · exact h
  · split
    · exact h.byTag _ _ _ (h.setReg ..)
    · exact h
  · split
    · exact h.byTag _ _ _ (h.setReg ..)
    · exact h
  · refine h.byTag _ _ _ ?_
    split
    · extract_lets
      split
      · exact h.headWrite ..
      · split
        · exact h.chClear ..
        · split
          · exact h.chCtrl ..
          · exact h
    · split
      · exact h.barArrive ..
      · split
        · exact h.barClear ..
        · exact h
  · split
    · exact h.byTag _ _ _ (h.spanCmd ..)
    · exact h
  · split
    · exact h.byTag _ _ _ (h.pendClr ..)
    · split
      · exact h.byTag _ _ _ (h.pendSet ..)
      · exact h
  · exact h

theorem Sound.cmdCrk (h : Sound F s) (w o v) : Sound F (s.cmdCrk w o v) := by
  unfold State.cmdCrk
  split
  · exact h.byTag _ _ _ (h.wcmdWrite ..)
  · split
    · exact h.byTag _ _ _ (h.wqCtrl ..)
    · split
      · exact h.byTag _ _ _ (h.dwcmd ..)
      · split
        · exact h.byTag _ _ _ (h.drcmd ..)
        · split
          · exact h.byTag _ _ _ (h.moveCmd ..)
          · split
            · refine h.byTag _ _ _ ?_
              split
              · exact h.mapCmd ..
              · exact h
            · split
              · refine h.byTag _ _ _ ?_
                split
                · exact h.scanCmd ..
                · exact h
              · split
                · exact h.byTag _ _ _ (h.slotCtrl ..)
                · exact h

theorem Sound.cmdHigh (h : Sound F s) (w pg o v who) : Sound F (s.cmdHigh w pg o v who) := by
  unfold State.cmdHigh
  split
  · split
    · exact h.byTag _ _ _ (h.wtWrite ..)
    · exact h
  · split
    · exact h.byTag _ _ _ (h.calCmd ..)
    · exact h
  · exact h.cmdCrk ..
  · split
    · exact h.byTag _ _ _ (h.fatalCond ..)
    · split
      · refine h.byTag _ _ _ ?_
        exact { h with }
      · exact h
  · split
    · exact h.byTag _ _ _ (h.pmCmd ..)
    · exact h
  · split
    · exact h.byOwn _ _ (h.lrepWrite ..)
    · split
      · exact h.byOwn _ _ (h.bistWrite ..)
      · split
        · exact h.byOwn _ _ h
        · exact h
  · exact h

theorem Sound.frameWrite (h : Sound F s) (w pg o v) : Sound F (s.frameWrite w pg o v) := by
  unfold State.frameWrite
  split
  · exact h.byTag _ _ _ (h.ctrlWrite ..)
  · split
    · exact h.byTag _ _ _ (h.eventClear ..)
    · split
      · exact h.byTag _ _ _ (h.setFrame ..)
      · exact h

theorem Sound.pageWrite (h : Sound F s) (w pg o v who) : Sound F (s.pageWrite w pg o v who) := by
  unfold State.pageWrite
  split
  · exact h.frameWrite ..
  · split
    · exact h.byTag _ _ _ (h.counterWrite ..)
    · split
      · split
        · exact h.byOwn _ _ (h.regPut ..)
        · exact h.byTag _ _ _ (h.regPut ..)
      · split
        · exact h.cmdLow ..
        · exact h.cmdLow ..
        · exact h.cmdLow ..
        · exact h.cmdLow ..
        · exact h.cmdLow ..
        · exact h.cmdLow ..
        · exact h.cmdLow ..
        · exact h.cmdHigh ..
        · exact h.cmdHigh ..
        · exact h.cmdHigh ..
        · exact h.cmdHigh ..
        · exact h.cmdHigh ..
        · exact h.cmdHigh ..
        · exact h
        · exact h
        · exact h

theorem Sound.mmioWrite (h : Sound F s) (w off v who) : Sound F (s.mmioWrite w off v who) := by
  unfold State.mmioWrite
  split
  · exact h
  · exact h.pageWrite ..

theorem Sound.execRegisterWrite (h : Sound F s) (w off v) : ResSound F (execRegisterWrite w off v s) := by
  unfold Machine.execRegisterWrite
  exact h.access _ _ (h.mmioWrite ..)

theorem Sound.execRegDataRead (h : Sound F s) (w) : ResSound F (execRegDataRead w s) := by
  unfold Machine.execRegDataRead
  exact h.access _ _ (h.regDataRead ..)

theorem Sound.execRegDataWrite (h : Sound F s) (w v) : ResSound F (execRegDataWrite w v s) := by
  unfold Machine.execRegDataWrite
  exact h.access _ _ (h.byTag _ _ _ (h.regDataWrite ..))

theorem Sound.execChnHeadWrite (h : Sound F s) (w ch v) : ResSound F (execChnHeadWrite w ch v s) := by
  unfold Machine.execChnHeadWrite
  exact h.access _ _ (h.byTag _ _ _ (h.headWrite ..))

theorem Sound.execResume (h : Sound F s) (w ch) : ResSound F (execResume w ch s) := by
  unfold Machine.execResume
  exact h.access _ _ (h.byTag _ _ _ (h.chResume ..))

theorem Sound.execSkip (h : Sound F s) (w ch) : ResSound F (execSkip w ch s) := by
  unfold Machine.execSkip
  exact h.access _ _ (h.byTag _ _ _ (h.chSkip ..))

theorem Sound.execAbort (h : Sound F s) (w ch) : ResSound F (execAbort w ch s) := by
  unfold Machine.execAbort
  exact h.access _ _ (h.byTag _ _ _ (h.chAbort ..))

theorem Sound.execBarArrive (h : Sound F s) (w) : ResSound F (execBarArrive w s) := by
  unfold Machine.execBarArrive
  exact h.access _ _ (h.byTag _ _ _ (h.barArrive ..))

theorem Sound.execSpanLoad (h : Sound F s) (w i rsv) : ResSound F (execSpanLoad w i rsv s) := by
  unfold Machine.execSpanLoad
  exact h.access _ _ (h.byTag _ _ _ (h.spanLoad ..))

theorem Sound.execSpanClear (h : Sound F s) (w i rsv) : ResSound F (execSpanClear w i rsv s) := by
  unfold Machine.execSpanClear
  exact h.access _ _ (h.byTag _ _ _ (h.spanClear ..))

theorem Sound.execSpanReadBack (h : Sound F s) (w i rsv) : ResSound F (execSpanReadBack w i rsv s) := by
  unfold Machine.execSpanReadBack
  exact h.access _ _ (h.byTag _ _ _ (h.spanReadBack ..))

theorem Sound.execSpanSetAAndD (h : Sound F s) (w i rsv) : ResSound F (execSpanSetAAndD w i rsv s) := by
  unfold Machine.execSpanSetAAndD
  exact h.access _ _ (h.byTag _ _ _ (h.spanSetAD ..))

theorem Sound.execCalCmdGroup (h : Sound F s) (w g) : ResSound F (execCalCmdGroup w g s) := by
  unfold Machine.execCalCmdGroup
  exact h.access _ _ (h.byTag _ _ _ (h.calCmd ..))

theorem Sound.execCalCmdAll (h : Sound F s) (w) : ResSound F (execCalCmdAll w s) := by
  unfold Machine.execCalCmdAll
  exact h.access _ _ (h.byTag _ _ _ (h.calCmd ..))

theorem Sound.execPendClr (h : Sound F s) (w v) : ResSound F (execPendClr w v s) := by
  unfold Machine.execPendClr
  exact h.access _ _ (h.byTag _ _ _ (h.pendClr ..))

theorem Sound.execPendSet (h : Sound F s) (w v) : ResSound F (execPendSet w v s) := by
  unfold Machine.execPendSet
  exact h.access _ _ (h.byTag _ _ _ (h.pendSet ..))

theorem Sound.execReadySend (h : Sound F s) (w status) : ResSound F (execReadySend w status s) := by
  unfold Machine.execReadySend
  exact h.access _ _ (h.byTag _ _ _ (h.sendReady ..))

theorem Sound.execFatalRaise (h : Sound F s) (w reason) : ResSound F (execFatalRaise w reason s) := by
  unfold Machine.execFatalRaise
  exact h.access _ _ (h.byTag _ _ _ (h.fatalCond ..))

theorem Sound.execPmCmdRead (h : Sound F s) (w) : ResSound F (execPmCmdRead w s) := by
  unfold Machine.execPmCmdRead
  exact h.access _ _ (h.byTag _ _ _ (h.pmCmd ..))

theorem Sound.execPmCmdWrite (h : Sound F s) (w) : ResSound F (execPmCmdWrite w s) := by
  unfold Machine.execPmCmdWrite
  exact h.access _ _ (h.byTag _ _ _ (h.pmCmd ..))

end Sys2Proof.Machine
end

section
namespace Sys2Proof.Machine
open Sys2Proof

variable {F : Keeps} {s : State}

/-! ## Loads and stores: what each function keeps -/

/-- The value of a recursion on a list at the tail, if there is one. -/
def belowTail {α β : Type} : (l : List α) → List.below (motive := fun _ => β) l → Option β
  | [], _ => none
  | _ :: _, b => some b.1

theorem listBrecOn_invariant {α β : Type} (F : (l : List α) → List.below (motive := fun _ => β) l → β) (P : β → Prop)
    (step : ∀ l b, (∀ a, belowTail l b = some a → P a) → P (F l b)) (l : List α) : P (List.brecOn l F) := by
  induction l with
  | nil => exact step [] _ fun _ e => nomatch e
  | cons x l ih => exact step (x :: l) (List.brecOn.go (x :: l) F).2 fun a e => by cases e; exact ih

theorem Sound.blockEnd {r : State × BRead} (h : Sound F r.1) (x) : Sound F (State.blockEnd x r).1 := by
  unfold State.blockEnd
  split
  · refine .pair ?_
    split
    · exact h.l1Fill ..
    · exact h
  · exact h
  · exact h

theorem Sound.xlParts (h : Sound F s) (t rd wr done todo) : Sound F (s.xlParts t rd wr done todo).1 := by
  induction todo generalizing s done with
  | nil => exact h
  | cons x r ih =>
    unfold State.xlParts
    split
    · exact ih h _
    · split
      · rename_i e
        exact ih ((h.translate ..).of_fst e) _
      · rename_i e
        exact .pair ((h.translate ..).of_fst e)
      · rename_i e
        exact .pair ((h.translate ..).of_fst e)

theorem Sound.askPart (h : Sound F s) (t x) : Sound F (s.askPart t x).1 := by
  generalize ef : @State.askPart = f
  delta State.askPart at ef
  obtain ⟨window, ew⟩ : ∃ w, @State.window = w := ⟨_, rfl⟩
  rw [ew] at ef
  subst ef
  beta_reduce
  extract_lets a src poison
  clear_value a src poison
  split
  · split
    · split
      rename_i e
      exact .pair ((h.mmioRead ..).of_fst e)
    · exact .pair (h.record ..)
  · split
    · exact .pair { h with }
    · exact .pair (h.crockRefused ..)
  · split
    · exact (h.readShelfBlock ..).blockEnd _
    · split
      · rename_i e
        exact .pair ((h.l1Read ..).of_fst e)
      · rename_i e
        exact (((h.l1Read ..).of_fst e).readShelfBlock ..).blockEnd _
  · split
    · exact (h.readUncached ..).blockEnd _
    · split
      · exact (h.readUncached ..).blockEnd _
      · split
        · rename_i e
          exact .pair ((h.l1Read ..).of_fst e)
        · rename_i e
          exact (((h.l1Read ..).of_fst e).readCached ..).blockEnd _

theorem Sound.askParts_step (t : Thread) (todo : List Part)
    (b : List.below (motive := fun _ => State → List Part → State × List Part) todo)
    (ih : ∀ g, belowTail todo b = some g → ∀ s done, Sound F s → Sound F (g s done).1) (s : State) (done : List Part)
    (h : Sound F s) : Sound F (State.askParts._f t todo b s done).1 := by
  delta State.askParts._f
  revert b
  split
  · exact fun _ _ => .pair h
  · intro b ih
    have go : ∀ s done, Sound F s → Sound F (b.1 s done).1 := ih _ rfl
    have ha := fun x => h.askPart t x
    obtain ⟨ask, ea⟩ : ∃ f, s.askPart t = f := ⟨_, rfl⟩
    rw [ea] at ha ⊢
    split
    · exact go _ _ h
    · split
      · rename_i e
        exact go _ _ ((ha ..).of_fst e)
      · rename_i e
        exact go _ _ ((ha ..).of_fst e)
      · exact .pair h

theorem Sound.askParts (h : Sound F s) (t done todo) : Sound F (s.askParts t done todo).1 := by
  have := listBrecOn_invariant (State.askParts._f t) (fun g => ∀ s done, Sound F s → Sound F (g s done).1)
    (Sound.askParts_step t) todo
  delta State.askParts
  exact this s done h

theorem Sound.loadEnd (h : Sound F s) (pg) : EndsSound F (loadEnd s pg) := by
  unfold Machine.loadEnd
  split
  · exact .trap h
  · exact .done h

theorem Sound.loadAsk (h : Sound F s) (t pg) : EndsSound F (loadAsk s t pg) := by
  unfold Machine.loadAsk
  extract_lets wait
  split
  · exact .waits (h.setTh ..)
  · split
    · exact .waits (h.setTh ..)
    · split
      · rename_i e
        extract_lets
        split
        · exact ((h.askParts ..).of_fst e).loadEnd ..
        · exact .waits (((h.askParts ..).of_fst e).setTh ..)

theorem Sound.loadGo (h : Sound F s) (t pg) : EndsSound F (loadGo s t pg) := by
  unfold Machine.loadGo
  split
  · rename_i e
    exact .trap ((h.xlParts ..).of_fst e)
  · rename_i e
    exact .waits (((h.xlParts ..).of_fst e).setTh ..)
  · rename_i e
    exact ((h.xlParts ..).of_fst e).loadAsk ..

theorem Sound.loadBody (h : Sound F s) (t d b ext k) : EndsSound F (loadBody t d b ext k s) := by
  unfold Machine.loadBody
  exact h.loadGo ..

theorem Sound.execLdb (h : Sound F s) (t d b ext) : ResSound F (execLdb t d b ext s) := by
  unfold Machine.execLdb
  refine h.issue _ _ fun u hu => ?_
  exact hu.loadBody ..

theorem Sound.execLdh (h : Sound F s) (t d b ext) : ResSound F (execLdh t d b ext s) := by
  unfold Machine.execLdh
  refine h.issue _ _ fun u hu => ?_
  exact hu.loadBody ..

theorem Sound.execLdw (h : Sound F s) (t d b ext) : ResSound F (execLdw t d b ext s) := by
  unfold Machine.execLdw
  refine h.issue _ _ fun u hu => ?_
  exact hu.loadBody ..

theorem Sound.execLdd (h : Sound F s) (t d b ext) : ResSound F (execLdd t d b ext s) := by
  unfold Machine.execLdd
  refine h.issue _ _ fun u hu => ?_
  exact hu.loadBody ..

theorem Sound.loadData (h : Sound F s) (t lo data pois keep) : Sound F (s.loadData t lo data pois keep) := by
  unfold State.loadData
  split
  · extract_lets _ _ s1
    have h1 : Sound F s1 := by
      unfold s1
      refine Sound.foldl (fun u x1 hu => ?_) _ h
      split
      · exact hu.l1Fill ..
      · exact hu
    split
    · exact (h1.loadEnd ..).finish h1 ..
    · exact h1.setTh ..
  · exact h

theorem sbEntries_length (seq t lvl ps bytes) : (sbEntries seq t lvl ps bytes).length = ps.length := by
  induction ps generalizing seq bytes with
  | nil => rfl
  | cons x r ih => simp [sbEntries, ih]

theorem Sound.sbPush (h : Sound F s) (t) {ps : List Part} (room : s.ls.sb.length + ps.length ≤ 32) (bytes) :
    Sound F (s.sbPush t ps bytes) :=
  { h with stores := fun _ => by simpa [State.sbPush, sbEntries_length] using room }

theorem Sound.storeGo (h : Sound F s) (t pg) : EndsSound F (storeGo s t pg) := by
  unfold Machine.storeGo
  extract_lets wait
  split
  · rename_i e
    exact .trap ((h.xlParts ..).of_fst e)
  · rename_i e
    exact .waits (((h.xlParts ..).of_fst e).setTh ..)
  · rename_i e
    split
    · exact .trap ((h.xlParts ..).of_fst e)
    · split
      · exact .waits (((h.xlParts ..).of_fst e).setTh ..)
      · rename_i room
        exact .done (((h.xlParts ..).of_fst e).sbPush _ (not_lt.1 room) _)

theorem Sound.storeBody (h : Sound F s) (t d b ext k) : EndsSound F (storeBody t d b ext k s) := by
  unfold Machine.storeBody
  exact h.storeGo ..

theorem Sound.execStb (h : Sound F s) (t d b ext) : ResSound F (execStb t d b ext s) := by
  unfold Machine.execStb
  refine h.issue _ _ fun u hu => ?_
  exact hu.storeBody ..

theorem Sound.execSth (h : Sound F s) (t d b ext) : ResSound F (execSth t d b ext s) := by
  unfold Machine.execSth
  refine h.issue _ _ fun u hu => ?_
  exact hu.storeBody ..

theorem Sound.execStw (h : Sound F s) (t d b ext) : ResSound F (execStw t d b ext s) := by
  unfold Machine.execStw
  refine h.issue _ _ fun u hu => ?_
  exact hu.storeBody ..

theorem Sound.execStd (h : Sound F s) (t d b ext) : ResSound F (execStd t d b ext s) := by
  unfold Machine.execStd
  refine h.issue _ _ fun u hu => ?_
  exact hu.storeBody ..

theorem Sound.sbPop (h : Sound F s) : Sound F s.sbPop :=
  { h with stores := fun c => (List.drop_sublist 1 _).length_le.trans (h.stores c) }

theorem Sound.sbMark (h : Sound F s) : Sound F s.sbMark := by
  unfold State.sbMark
  split
  · exact h
  · rename_i e
    have hs := h.stores
    rw [e] at hs
    exact { h with stores := hs }

theorem Sound.devWrites (h : Sound F s) (src after us) : OptSound F (s.devWrites src after us) := by
  induction us generalizing s with
  | nil => exact .some h
  | cons x r ih =>
    unfold State.devWrites
    split
    · exact .none
    · rename_i e
      exact ih ((h.request ..).get e)

theorem Sound.devStore (h : Sound F s) (src line us) : OptSound F (s.devStore src line us) := by
  unfold State.devStore
  split
  · exact .none
  · rename_i e
    exact ((h.cleaned ..).get e).devWrites ..

theorem Sound.devLeave (h : Sound F s) (e) : OptSound F (s.devLeave e) := by
  unfold State.devLeave
  exact h.devStore ..

theorem Sound.shelfLeave (h : Sound F s) (e o) : Sound F (s.shelfLeave e o) := by
  unfold State.shelfLeave
  extract_lets _ s1
  have h1 : Sound F s1 := (h.shelfMerge ..).lsCharge ..
  split
  · exact h.shelfRefused ..
  · split
    · exact (h1.charge ..).l1Update ..
    · exact h1.l1Drop ..

theorem Sound.sbAround (h : Sound F s) (line) : Sound F (s.sbAround line) := by
  unfold State.sbAround
  split
  · exact h
  · rename_i e
    split
    · split
      · rename_i e1
        exact (((h.writeAround ..).get e1).joined ..).sbPop ..
      · have hs := h.stores
        rw [e] at hs
        exact { h with stores := hs }
    · exact h

end Sys2Proof.Machine
end

section
namespace Sys2Proof.Machine
open Sys2Proof

variable {F : Keeps} {s : State}

/-! ## Atomics: what each function keeps -/

theorem Sound.amoWait (h : Sound F s) (t pg sent) : EndsSound F (s.amoWait t pg sent) := by
  unfold State.amoWait
  exact .waits (h.setTh ..)

theorem Sound.amoShelf (h : Sound F s) (t pg o pa) : Sound F (s.amoShelf t pg o pa) := by
  unfold State.amoShelf
  extract_lets _ _ s0
  have h0 : Sound F s0 := h.l1Drop ..
  split
  · exact h0.shelfRefused ..
  · split
    · rename_i e
      split
      · exact (((h0.lsCharge ..).shelfRead ..).of_fst e).ldlError ..
      · extract_lets _ s2
        have h2 : Sound F s2 := ((((h0.lsCharge ..).shelfRead ..).of_fst e).lsCharge ..).shelfWrite ..
        exact h2.setG ..

theorem Sound.amoFar (h : Sound F s) (t pg pa pol) : EndsSound F (s.amoFar t pg pa pol) := by
  unfold State.amoFar
  extract_lets _ s0
  have h0 : Sound F s0 := (h.l1DropLine ..).sideKill ..
  split
  · exact h.amoWait ..
  · split
    · split
      · exact h0.amoWait ..
      · rename_i e
        exact ((h0.request ..).get e).amoWait ..
    · split
      · exact h0.amoWait ..
      · rename_i e
        split
        · exact (((h0.lsClean ..).get e).lsDrop ..).amoWait ..
        · rename_i e1
          exact (((((h0.lsClean ..).get e).lsDrop ..).request ..).get e1).amoWait ..

theorem Sound.amoGo (h : Sound F s) (t pg) : EndsSound F (amoGo s t pg) := by
  unfold Machine.amoGo
  split
  · rename_i e
    exact .trap ((h.translate ..).of_fst e)
  · rename_i e
    exact ((h.translate ..).of_fst e).amoWait ..
  · rename_i e
    exact ((h.translate ..).of_fst e).amoWait ..
  · rename_i e
    extract_lets
    split
    · exact .trap ((h.translate ..).of_fst e)
    · split
      · exact ((h.translate ..).of_fst e).amoWait ..
      · split
        · exact .done (((h.translate ..).of_fst e).amoShelf ..)
        · exact .done (((h.translate ..).of_fst e).ldlError ..)
        · exact .done ((((h.translate ..).of_fst e).crockRefused ..).mcheck ..)
        · exact ((h.translate ..).of_fst e).amoFar ..

theorem Sound.amoBody (h : Sound F s) (t op wide gd ga gs) : EndsSound F (amoBody t op wide gd ga gs s) := by
  unfold Machine.amoBody
  extract_lets
  split
  · split
    · exact .trap h
    · exact h.amoGo ..
  · split
    · exact .trap h
    · exact h.amoGo ..

theorem Sound.execAmoSwap (h : Sound F s) (t wide gd ga gs) : ResSound F (execAmoSwap t wide gd ga gs s) := by
  unfold Machine.execAmoSwap
  refine h.issue _ _ fun u hu => ?_
  exact hu.amoBody ..

theorem Sound.execAmoAdd (h : Sound F s) (t wide gd ga gs) : ResSound F (execAmoAdd t wide gd ga gs s) := by
  unfold Machine.execAmoAdd
  refine h.issue _ _ fun u hu => ?_
  exact hu.amoBody ..

theorem Sound.execAmoAnd (h : Sound F s) (t wide gd ga gs) : ResSound F (execAmoAnd t wide gd ga gs s) := by
  unfold Machine.execAmoAnd
  refine h.issue _ _ fun u hu => ?_
  exact hu.amoBody ..

theorem Sound.execAmoOr (h : Sound F s) (t wide gd ga gs) : ResSound F (execAmoOr t wide gd ga gs s) := by
  unfold Machine.execAmoOr
  refine h.issue _ _ fun u hu => ?_
  exact hu.amoBody ..

theorem Sound.execAmoXor (h : Sound F s) (t wide gd ga gs) : ResSound F (execAmoXor t wide gd ga gs s) := by
  unfold Machine.execAmoXor
  refine h.issue _ _ fun u hu => ?_
  exact hu.amoBody ..

theorem Sound.execAmoMin (h : Sound F s) (t wide gd ga gs) : ResSound F (execAmoMin t wide gd ga gs s) := by
  unfold Machine.execAmoMin
  refine h.issue _ _ fun u hu => ?_
  exact hu.amoBody ..

theorem Sound.execAmoMax (h : Sound F s) (t wide gd ga gs) : ResSound F (execAmoMax t wide gd ga gs s) := by
  unfold Machine.execAmoMax
  refine h.issue _ _ fun u hu => ?_
  exact hu.amoBody ..

theorem Sound.execAmoMinu (h : Sound F s) (t wide gd ga gs) : ResSound F (execAmoMinu t wide gd ga gs s) := by
  unfold Machine.execAmoMinu
  refine h.issue _ _ fun u hu => ?_
  exact hu.amoBody ..

theorem Sound.execAmoMaxu (h : Sound F s) (t wide gd ga gs) : ResSound F (execAmoMaxu t wide gd ga gs s) := by
  unfold Machine.execAmoMaxu
  refine h.issue _ _ fun u hu => ?_
  exact hu.amoBody ..

theorem Sound.execAmoCas (h : Sound F s) (t wide gd ga gs) : ResSound F (execAmoCas t wide gd ga gs s) := by
  unfold Machine.execAmoCas
  refine h.issue _ _ fun u hu => ?_
  exact hu.amoBody ..

theorem Sound.fenceGo (h : Sound F s) (t sc) : EndsSound F (fenceGo s t sc) := by
  unfold Machine.fenceGo
  split
  · exact .done h
  · exact .waits (h.setTh ..)

theorem Sound.execFence (h : Sound F s) (t sc) : ResSound F (execFence t sc s) := by
  unfold Machine.execFence
  refine h.issue _ _ fun u hu => ?_
  exact hu.fenceGo ..

theorem Sound.xinvGo (h : Sound F s) (t kind ga sc) : EndsSound F (xinvGo s t kind ga sc) := by
  unfold Machine.xinvGo
  extract_lets _ wait s1
  have hw : EndsSound F wait := .waits (h.setTh ..)
  have h1 : Sound F s1 := h.xinvApply ..
  clear_value wait s1
  split
  · exact hw
  · split
    · exact .done h1
    · split
      · exact hw
      · rename_i e
        exact .done ((h1.request ..).get e)

theorem Sound.xinvBody (h : Sound F s) (t kind ga sc) : EndsSound F (xinvBody t kind ga sc s) := by
  unfold Machine.xinvBody
  split
  · exact .trap h
  · exact h.xinvGo ..

theorem Sound.execXinvAddress (h : Sound F s) (t ga sc) : ResSound F (execXinvAddress t ga sc s) := by
  unfold Machine.execXinvAddress
  refine h.issue _ _ fun u hu => ?_
  exact hu.xinvBody ..

theorem Sound.execXinvNonglobal (h : Sound F s) (t ga sc) : ResSound F (execXinvNonglobal t ga sc s) := by
  unfold Machine.execXinvNonglobal
  refine h.issue _ _ fun u hu => ?_
  exact hu.xinvBody ..

theorem Sound.execXinvAll (h : Sound F s) (t ga sc) : ResSound F (execXinvAll t ga sc s) := by
  unfold Machine.execXinvAll
  refine h.issue _ _ fun u hu => ?_
  exact hu.xinvBody ..

theorem Sound.lsmLine (h : Sound F s) (t op line w) : OptSound F (s.lsmLine t op line w) := by
  unfold State.lsmLine
  split
  · exact .some (h.lsDrop ..)
  · split
    · exact .none
    · rename_i e
      refine .some ?_
      split
      · exact ((h.lsClean ..).get e).lsDrop ..
      · exact (h.lsClean ..).get e

theorem Sound.lsmUpper (h : Sound F s) (t line) : Sound F (s.lsmUpper t line) := by
  unfold State.lsmUpper
  exact (h.l1DropLine ..).sideKill ..

theorem Sound.lsmWay (h : Sound F s) (t op ga) : OptSound F (s.lsmWay t op ga) := by
  unfold State.lsmWay
  extract_lets
  split
  · exact .some h
  · split
    · exact .some h
    · split
      · exact .none
      · exact (h.lsmUpper ..).lsmLine ..

theorem Sound.lsmAddr (h : Sound F s) (t op pa pol) : OptSound F (s.lsmAddr t op pa pol) := by
  generalize ef : @State.lsmAddr = f
  delta State.lsmAddr at ef
  obtain ⟨window, ewindow⟩ : ∃ f, @State.window = f := ⟨_, rfl⟩
  rw [ewindow] at ef
  subst ef
  beta_reduce
  extract_lets _ s1
  have h1 : Sound F s1 := h.lsmUpper ..
  split
  · split
    · exact .none
    · split
      · exact .some (h.lsmUpper ..)
      · split
        · exact .some h1
        · exact h1.lsmLine ..
  · exact .some (h.l1DropLine ..)

theorem Sound.lsmGo (h : Sound F s) (t op ga byWay) : EndsSound F (lsmGo s t op ga byWay) := by
  generalize ef : @Machine.lsmGo = f
  delta Machine.lsmGo at ef
  have hlsmAddr := @Sound.lsmAddr F
  obtain ⟨lsmAddr, elsmAddr⟩ : ∃ f, @State.lsmAddr = f := ⟨_, rfl⟩
  rw [elsmAddr] at ef hlsmAddr
  subst ef
  beta_reduce
  extract_lets wait
  split
  · split
    · exact .waits (h.setTh ..)
    · rename_i e
      exact .done ((h.lsmWay ..).get e)
  · split
    · rename_i e
      exact .trap ((h.translate ..).of_fst e)
    · rename_i e
      exact .waits (((h.translate ..).of_fst e).setTh ..)
    · rename_i e
      exact .waits (((h.translate ..).of_fst e).setTh ..)
    · rename_i e
      split
      · exact .waits (((h.translate ..).of_fst e).setTh ..)
      · rename_i e1
        exact .done ((hlsmAddr ((h.translate ..).of_fst e) ..).get e1)

theorem Sound.lsmBody (h : Sound F s) (t op ga byWay) : EndsSound F (lsmBody t op ga byWay s) := by
  unfold Machine.lsmBody
  split
  · exact .trap h
  · exact h.lsmGo ..

theorem Sound.execLsmClean (h : Sound F s) (t ga bySetWay) : ResSound F (execLsmClean t ga bySetWay s) := by
  unfold Machine.execLsmClean
  refine h.issue _ _ fun u hu => ?_
  exact hu.lsmBody ..

theorem Sound.execLsmInvalidate (h : Sound F s) (t ga bySetWay) : ResSound F (execLsmInvalidate t ga bySetWay s) := by
  unfold Machine.execLsmInvalidate
  refine h.issue _ _ fun u hu => ?_
  exact hu.lsmBody ..

theorem Sound.execLsmCleanInvalidate (h : Sound F s) (t ga bySetWay) :
    ResSound F (execLsmCleanInvalidate t ga bySetWay s) := by
  unfold Machine.execLsmCleanInvalidate
  refine h.issue _ _ fun u hu => ?_
  exact hu.lsmBody ..

end Sys2Proof.Machine
end

section
namespace Sys2Proof.Machine
open Sys2Proof

variable {F : Keeps} {s : State}

/-! ## TSAVE and TRSTR: what each function keeps -/

theorem Sound.imageBlock (h : Sound F s) (k who) : Sound F (s.imageBlock k who).1 := by
  unfold State.imageBlock
  extract_lets
  split
  · exact .pair h
  · split
    · refine Sound.foldl (fun u1 x hu => ?_) _ (h.fresh ..)
      exact hu.checkRow ..
    · split
      · exact .pair h
      · exact .pair h

theorem Sound.ctxWait (h : Sound F s) (t r) : EndsSound F (s.ctxWait t r) := by
  unfold State.ctxWait
  exact .waits (h.setTh ..)

theorem Sound.ctxBody (h : Sound F s) (t save ga) : EndsSound F (ctxBody t save ga s) := by
  unfold Machine.ctxBody
  split
  · exact .trap h
  · refine h.tileChecks _ _ fun room => ?_
    extract_lets
    split
    · exact .trap h
    · exact h.ctxWait ..

theorem Sound.execTsave (h : Sound F s) (t ga) : ResSound F (execTsave t ga s) := by
  unfold Machine.execTsave
  refine h.issue _ _ fun u hu => ?_
  exact hu.ctxBody ..

theorem Sound.execTrstr (h : Sound F s) (t ga) : ResSound F (execTrstr t ga s) := by
  unfold Machine.execTrstr
  refine h.issue _ _ fun u hu => ?_
  exact hu.ctxBody ..

theorem Sound.saveCheck (h : Sound F s) (t r len ps) : EndsSound F (saveCheck s t r len ps) := by
  induction ps generalizing s r with
  | nil => exact h.ctxWait ..
  | cons b rest ih =>
    unfold Machine.saveCheck
    split
    · exact ih h _
    · extract_lets
      split
      · rename_i e
        exact .trap ((h.translate ..).of_fst e)
      · rename_i e
        have h1 := (h.translate ..).of_fst e
        split
        · exact .trap h1
        · exact ih h1 _
      · rename_i e
        exact ((h.translate ..).of_fst e).ctxWait ..

theorem Sound.savePiece (h : Sound F s) (t pa pol bs b) : Sound F (s.savePiece t pa pol bs b).1 := by
  unfold State.savePiece
  split
  · split
    · rename_i e
      exact .pair ((h.devStore ..).get e)
    · exact .pair h
  · exact h.storeLine ..

theorem Sound.savePieces (h : Sound F s) (t r k ps i) : Sound F (s.savePieces t r k ps i).1 := by
  induction ps generalizing s r i with
  | nil => exact h
  | cons bs rest ih =>
    unfold State.savePieces
    split
    · exact ih h ..
    · split
      · exact .pair h
      · split
        · exact .pair h
        · split
          · rename_i e
            exact ih ((h.savePiece ..).of_fst e) ..
          · rename_i e
            exact .pair ((h.savePiece ..).of_fst e)
          · exact .pair h

theorem Sound.saveDone (h : Sound F s) : Sound F s.saveDone := by
  unfold State.saveDone
  split
  · exact { h with }
  · exact h

theorem Sound.saveMove (h : Sound F s) (t r) : EndsSound F (saveMove s t r) := by
  unfold Machine.saveMove
  extract_lets
  split
  · rename_i e
    split
    · rename_i e1
      extract_lets s2
      have h2 : Sound F s2 := ((((h.imageBlock ..).of_fst e).savePieces ..).of_fst e1).joined ..
      split
      · exact h2.ctxWait ..
      · split
        · exact .done (h2.saveDone ..)
        · exact h2.ctxWait ..

theorem Sound.saveStep (h : Sound F s) (t r) : EndsSound F (saveStep s t r) := by
  have hc := h.saveCheck t r s.imageLen (imagePages r.base.toNat s.imageLen)
  unfold Machine.saveStep
  split
  · exact h.saveMove ..
  · split
    · rename_i u e
      have hu : Sound F u := hc.of_mem u (by rw [e]; exact List.mem_singleton.2 rfl)
      split
      · split
        · exact hu.saveMove ..
        · exact .waits hu
      · exact .waits hu
    · exact hc

theorem Sound.execTsaveBlock (h : Sound F s) (t) : ResSound F (execTsaveBlock t s) := by
  unfold Machine.execTsaveBlock
  split
  · exact .due h ((h.saveStep ..).finish h ..)
  · exact .next h

theorem Sound.ctxAround (h : Sound F s) (t line) : Sound F (s.ctxAround t line) := by
  unfold State.ctxAround
  split
  · extract_lets
    split
    · exact h
    · split
      · exact h
      · rename_i e
        exact (((h.writeAround ..).get e).joined ..).setTh ..
  · exact h

theorem Sound.restoreTray (h : Sound F s) (t T im pois o) : Sound F (s.restoreTray t T im pois o) := by
  unfold State.restoreTray
  extract_lets _ _ _ _ s1 _ s2
  have h1 : Sound F s1 := h.zeroData ..
  clear_value s1
  have hd : F.full → canon zero8 (setN zero8 s1.tile.data (trayAt T 0) ((im.drop o).take 4096)) = true := fun c => canon_setN _ _ _ _ (h1.data c)
  have h2 : Sound F s2 := { h1 with data := hd }
  exact (h2.setTray ..).charge ..

theorem Sound.restoreTrays (h : Sound F s) (t im pois) : Sound F (s.restoreTrays t im pois).1 := by
  unfold State.restoreTrays
  refine foldl_kept (fun x : State × Nat => Sound F x.1) (fun x T hx => ?_) _ h
  extract_lets
  split
  · exact .pair (hx.restoreTray ..)
  · exact .pair ((hx.zeroTray ..).charge ..)

theorem Sound.restoreSlot (h : Sound F s) (i im pois o) : Sound F (s.restoreSlot i im pois o) := by
  have put : ∀ es bad, Sound F { s with tile := { s.tile with elems := es, badElem := bad } } := fun _ _ => { h with }
  unfold State.restoreSlot
  exact (put _ _).setSlot ..

theorem Sound.restoreSlots (h : Sound F s) (im pois o) : Sound F (s.restoreSlots im pois o) := by
  unfold State.restoreSlots
  refine foldl_kept (fun x : State × Nat => Sound F x.1) (fun x T hx => ?_) _ h
  dsimp only
  split
  · exact hx.restoreSlot ..
  · exact hx.setSlot ..

theorem State.restored_length (s : State) (t im) : (s.restored t im).length ≤ 32 := by
  simp [State.restored]

theorem Sound.restore (h : Sound F s) (t im pois) : Sound F (s.restore t im pois) := by
  have hq := s.restored_length t im
  unfold State.restore
  extract_lets entries
  split
  · rename_i e
    extract_lets s2
    have h2 : Sound F s2 := ((h.restoreTrays ..).of_fst e).restoreSlots ..
    clear_value s2
    exact { h2 with entries := fun _ => hq }

theorem Sound.ctxDevice (h : Sound F s) (t pa u') : OptSound F (s.ctxDevice t pa u') := by
  unfold State.ctxDevice
  exact h.readPast ..

theorem Sound.ctxAsk_step (t : Thread) (bs : List Nat)
    (b : List.below (motive := fun _ => State → CtxRun → State × CtxRun) bs)
    (ih : ∀ g, belowTail bs b = some g → ∀ s r, Sound F s → Sound F (g s r).1) (s : State) (r : CtxRun)
    (h : Sound F s) : Sound F (State.ctxAsk._f t bs b s r).1 := by
  delta State.ctxAsk._f
  have hread := @Sound.readBlock F
  obtain ⟨window, ew⟩ : ∃ f, @State.window = f := ⟨_, rfl⟩
  obtain ⟨readBlock, er⟩ : ∃ f, @State.readBlock = f := ⟨_, rfl⟩
  rw [er] at hread
  rw [ew, er]
  revert b
  split
  · exact fun _ _ => .pair h
  · intro b ih
    have go : ∀ s r, Sound F s → Sound F (b.1 s r).1 := ih _ rfl
    split
    · exact go _ _ h
    · split
      · exact .pair h
      · extract_lets
        split
        · exact .pair h
        · split
          · split
            · rename_i e
              exact go _ _ ((h.ctxDevice ..).get e)
            · exact .pair h
          · split
            · rename_i e
              exact go _ _ ((hread h ..).of_fst e)
            · rename_i e
              exact go _ _ ((hread h ..).of_fst e)
            · exact .pair h

theorem Sound.ctxAsk (h : Sound F s) (t r bs) : Sound F (s.ctxAsk t r bs).1 := by
  have := listBrecOn_invariant (State.ctxAsk._f t) (fun g => ∀ s r, Sound F s → Sound F (g s r).1)
    (Sound.ctxAsk_step t) bs
  delta State.ctxAsk
  exact this s r h

theorem Sound.wiped (h : Sound F s) (t r) : Sound F (s.wiped t r) := by
  unfold State.wiped
  split
  · exact h.wipeTile ..
  · exact h

theorem Sound.restoreMoved (h : Sound F s) (t r) : EndsSound F (restoreMoved s t r) := by
  unfold Machine.restoreMoved
  extract_lets
  split
  · exact .trap h
  · split
    · exact h.ctxWait ..
    · split
      · exact .trap h
      · exact .done (h.restore ..)

theorem Sound.restoreMove (h : Sound F s) (t r) : EndsSound F (restoreMove s t r) := by
  unfold Machine.restoreMove
  extract_lets
  split
  · rename_i e
    split
    · exact ((h.ctxAsk ..).of_fst e).ctxWait ..
    · exact ((h.ctxAsk ..).of_fst e).restoreMoved ..

theorem Sound.restoreStep (h : Sound F s) (t r) : EndsSound F (restoreStep s t r) := by
  unfold Machine.restoreStep
  extract_lets
  split
  · exact h.restoreMove ..
  · split
    · rename_i e
      exact .trap (((h.translate ..).of_fst e).wiped ..)
    · rename_i e
      exact ((h.translate ..).of_fst e).restoreMove ..
    · rename_i e
      exact ((h.translate ..).of_fst e).ctxWait ..

theorem Sound.execTrstrBlock (h : Sound F s) (t) : ResSound F (execTrstrBlock t s) := by
  unfold Machine.execTrstrBlock
  split
  · exact .due h ((h.restoreStep ..).finish h ..)
  · exact .next h

theorem Sound.ctxData (h : Sound F s) (t u' bs pois) : Sound F (s.ctxData t u' bs pois) := by
  unfold State.ctxData
  split
  · exact h.setTh ..
  · exact h

end Sys2Proof.Machine
end

section
namespace Sys2Proof.Machine
open Sys2Proof

variable {F : Keeps} {s : State}

/-! ## Answers and requests: what each function keeps -/

/-- The state that the head entry leaves behind. -/
def Leave.state : Leave → State
  | .gone s => s
  | .stays s => s

theorem Sound.sbLeave (h : Sound F s) (e) : Sound F (s.sbLeave e).state := by
  generalize ef : @State.sbLeave = f
  delta State.sbLeave at ef
  have hstore := @Sound.storeLine F
  obtain ⟨window, ew⟩ : ∃ f, @State.window = f := ⟨_, rfl⟩
  obtain ⟨storeLine, es⟩ : ∃ f, @State.storeLine = f := ⟨_, rfl⟩
  rw [es] at hstore
  rw [ew, es] at ef
  subst ef
  beta_reduce
  extract_lets src
  split
  · exact h.shelfLeave ..
  · split
    · exact h.mmioWrite ..
    · exact h.ldlError ..
  · exact (h.crockRefused ..).mcheck ..
  · split
    · split
      · rename_i e1
        exact (h.devLeave ..).get e1
      · exact h
    · split
      · rename_i e1
        have h1 := (hstore h ..).of_fst e1
        dsimp only [Leave.state]
        split
        · exact (h1.charge ..).l1Update ..
        · exact h1
      · rename_i e1
        exact ((hstore h ..).of_fst e1).sbMark
      · exact h

theorem Sound.retryThread (h : Sound F s) (t) : Sound F (s.retryThread t) := by
  unfold State.retryThread
  split
  · exact h
  · split
    · exact (h.loadGo ..).finish h ..
    · exact (h.storeGo ..).finish h ..
    · split
      · exact h
      · exact (h.amoGo ..).finish h ..
    · exact (h.fenceGo ..).finish h ..
    · exact (h.xinvGo ..).finish h ..
    · exact (h.lsmGo ..).finish h ..
    · exact h

theorem Sound.retryAll (h : Sound F s) : Sound F s.retryAll := by
  unfold State.retryAll
  extract_lets s1 s2
  have h1 : Sound F s1 := by
    unfold s1
    refine Sound.foldl (fun u x hu => ?_) _ h
    exact hu.retryThread ..
  have h2 : Sound F s2 := by
    unfold s2
    refine Sound.foldl (fun u x hu => ?_) _ h1
    exact hu.ladleGo ..
  refine Sound.foldl (fun u x hu => ?_) _ h2
  exact hu.memAskAll ..

theorem Sound.lineTo (h : Sound F s) (k line d pg keep) : Sound F (s.lineTo k line d pg keep) := by
  unfold State.lineTo
  split
  · exact h.loadData ..
  · split
    · exact h.tileData ..
    · exact h
  · split
    · exact h.ladleFilled ..
    · exact h.ladleData ..
  · split
    · exact h
    · exact h.ctxData ..
  · exact h

theorem Sound.aroundTo (h : Sound F s) (k line d pg) : Sound F (s.aroundTo k line d pg) := by
  unfold State.aroundTo
  split
  · exact h.sbAround ..
  · split
    · exact h.tileData ..
    · exact h.tstAround ..
  · split
    · exact h.ladleAround ..
    · exact h.ladleData ..
  · split
    · exact h.ctxAround ..
    · exact h.lineTo ..
  · exact h.lineTo ..

theorem Sound.walkValue (h : Sound F s) (w v) : Sound F (s.walkValue w v) := by
  unfold State.walkValue
  split
  · exact h
  · exact h.setWalk ..

theorem Sound.walkSwapped (h : Sound F s) (w v) : Sound F (s.walkSwapped w v) := by
  unfold State.walkSwapped
  split
  · exact h
  · split
    · exact h.setWalk ..
    · exact h

theorem Sound.unitTo (h : Sound F s) (k addr size d pois) : Sound F (s.unitTo k addr size d pois) := by
  unfold State.unitTo
  extract_lets
  split
  · exact h.loadData ..
  · exact h.tileData ..
  · exact h.ladleData ..
  · exact h.ctxData ..
  · exact h.walkValue ..
  · exact h
  · exact h

theorem Sound.installFill (h : Sound F s) (line way d pg src) : Sound F (s.installFill line way d pg src).1 := by
  unfold State.installFill
  split
  · split
    · exact .pair (h.lsInstall ..)
    · exact .pair h
  · split
    · rename_i e
      exact .pair (((h.lsRoom ..).get e).lsInstall ..)
    · exact .pair h

theorem Sound.fillArrives (h : Sound F s) (e line way again ks d pg errs) :
    Sound F (s.fillArrives e line way again ks d pg errs) := by
  unfold State.fillArrives
  split
  · split
    · rename_i e1
      refine Sound.foldl (fun u x1 hu => ?_) _ (((h.corrected ..).installFill ..).of_fst e1)
      exact hu.lineTo ..
  · extract_lets _ s1
    have h1 : Sound F s1 := h.lstError ..
    split
    · split
      · rename_i e1
        exact (h1.request ..).get e1
      · refine Sound.foldl (fun u x1 hu => ?_) _ h1
        exact hu.aroundTo ..
    · refine Sound.foldl (fun u x1 hu => ?_) _ (h.lstError ..)
      exact hu.aroundTo ..

theorem Sound.warmArrives (h : Sound F s) (src line d pg errs) : Sound F (s.warmArrives src line d pg errs) := by
  unfold State.warmArrives
  split
  · exact h
  · extract_lets
    split
    · exact h.sideSet ..
    · exact ((h.corrected ..).sideSet ..).charge ..

theorem Sound.warmFails (h : Sound F s) (line) : Sound F (s.warmFails line) := by
  unfold State.warmFails
  split
  · exact h
  · extract_lets s1
    have h1 : Sound F s1 := h.sideSet ..
    split
    · exact h1
    · exact h1.bump ..

theorem Sound.fillError (h : Sound F s) (kind e mc) : Sound F (s.fillError kind e mc) := by
  unfold State.fillError
  split
  · exact h.ldlError ..
  · exact h.record ..

theorem Sound.reportFailed (h : Sound F s) (i) : Sound F (s.reportFailed i) := by
  unfold State.reportFailed
  extract_lets f
  exact { h with }

theorem Sound.reportDone (h : Sound F s) (i) : Sound F (s.reportDone i) := by
  unfold State.reportDone
  extract_lets f
  exact { h with }

theorem Sound.amoEnds (h : Sound F s) (t old) : Sound F (s.amoEnds t old) := by
  unfold State.amoEnds
  split
  · split
    · refine Sound.complete ?_ ..
      split
      · exact h.setG ..
      · exact h
    · exact h
  · exact h

theorem Sound.fails (h : Sound F s) (i e kind) : Sound F (s.fails i e kind) := by
  unfold State.fails
  split
  · refine Sound.foldl (fun u x hu => ?_) _ (h.fillError ..)
    exact hu.aroundTo ..
  · exact h.warmFails ..
  · exact h.walkValue ..
  · exact (h.fillError ..).unitTo ..
  · exact h.ldlError ..
  · exact h.lstError ..
  · exact (h.ldlError ..).amoEnds ..
  · exact h.walkSwapped ..
  · exact (h.ldlError ..).reportFailed ..
  · exact (h.ldlError ..).reportFailed ..
  · exact h.ldlError ..
  · exact h.bcastFailed ..

theorem Sound.settled (h : Sound F s) (i) : Sound F (s.settled i) := by
  unfold State.settled
  extract_lets s1
  have h1 : Sound F s1 := h.chanAcked ..
  clear_value s1
  exact { h1 with }

theorem Sound.walkFaults (h : Sound F s) (w kind level) : Sound F (s.walkFaults w kind level) := by
  unfold State.walkFaults
  split
  · refine Sound.trap ?_ ..
    split
    · exact h.wiped ..
    · exact h
  · split
    · exact h
    · rename_i e
      split
      · exact h
      · exact (h.memFault (h.run e) ..).memFinish ..
  · exact h.setChan ..
  · exact h

theorem Sound.walkStep (h : Sound F s) (w) : Sound F (s.walkStep w) := by
  unfold State.walkStep
  split
  · rename_i e
    exact (h.walkGo ..).of_fst e
  · rename_i e
    exact ((h.walkGo ..).of_fst e).retryAll ..
  · rename_i e
    exact ((h.walkGo ..).of_fst e).walkFaults ..

theorem Sound.execTableWalk (h : Sound F s) (walk) : ResSound F (execTableWalk walk s) := by
  unfold Machine.execTableWalk
  split
  · exact .next h
  · exact ResSound.due h (h.walkStep ..)

theorem Sound.clearStored (h : Sound F s) (e) : Sound F (s.clearStored e) := by
  generalize ef : @State.clearStored = f
  delta State.clearStored at ef
  obtain ⟨window, ewindow⟩ : ∃ f, @State.window = f := ⟨_, rfl⟩
  rw [ewindow] at ef
  subst ef
  beta_reduce
  split
  · split
    · exact h.holdClear ..
    · exact h
  · exact h

theorem Sound.execStoreBufferLeave (h : Sound F s) : ResSound F (execStoreBufferLeave s) := by
  generalize ef : @Machine.execStoreBufferLeave = f
  delta Machine.execStoreBufferLeave at ef
  have hleave := @Sound.sbLeave F
  obtain ⟨sbLeave, el⟩ : ∃ f, @State.sbLeave = f := ⟨_, rfl⟩
  rw [el] at ef hleave
  subst ef
  beta_reduce
  split
  · exact .next h
  · rename_i e r _
    have h1 := hleave h e
    split
    · rename_i el
      rw [el] at h1
      exact .due h ((((h1.joined ..).sbPop ..).clearStored ..).retryAll ..)
    · rename_i el
      rw [el] at h1
      exact .due h h1

end Sys2Proof.Machine
end

section
namespace Sys2Proof.Machine
open Sys2Proof

variable {F : Keeps} {s : State}

/-! ## Fetch: what each function keeps -/

theorem Sound.lineHeld (h : Sound F s) (t l) : Sound F (s.lineHeld t l) := by
  unfold State.lineHeld
  extract_lets
  exact { h with }

theorem Sound.fetchRead (h : Sound F s) (t l) : Sound F (s.fetchRead t l) := by
  unfold State.fetchRead
  extract_lets s1
  have h1 : Sound F s1 := h.crockReads ..
  refine Sound.lineHeld ?_ ..
  split
  · exact h1.crockFound ..
  · exact h1

theorem Sound.execFirmwareLineReadDone (h : Sound F s) : ResSound F (execFirmwareLineReadDone s) := by
  unfold Machine.execFirmwareLineReadDone
  split
  · exact .next h
  · exact ResSound.due h (h.fetchRead ..)

theorem Sound.windowRead (h : Sound F s) (t line) : Sound F (s.windowRead t line) := by
  unfold State.windowRead
  extract_lets _ _ s1 s2 s3
  have h1 : Sound F s1 := { h with }
  have h2 : Sound F s2 := h1.crockReads ..
  have h3 : Sound F s3 := by
    unfold s3
    split
    · exact h2.crockFound ..
    · exact h2
  exact h3.loadData ..

theorem Sound.execCrockWindowReadDone (h : Sound F s) (t) : ResSound F (execCrockWindowReadDone t s) := by
  unfold Machine.execCrockWindowReadDone
  split
  · exact .next h
  · exact ResSound.due h (h.windowRead ..)

theorem Sound.execIllegalInstruction (h : Sound F s) (t w0 e1 e2) :
    ResSound F (execIllegalInstruction t w0 e1 e2 s) := by
  unfold Machine.execIllegalInstruction
  split
  · exact .refused
  · refine h.issue _ _ fun u hu => ?_
    exact .trap hu

end Sys2Proof.Machine
end

section
namespace Sys2Proof.Machine
open Sys2Proof

variable {F : Keeps} {s : State}

/-! ## The NoC port: what each function keeps -/

theorem Sound.txCharge (h : Sound F s) (flits who) : Sound F (s.txCharge flits who) := by
  unfold State.txCharge
  split
  · exact h.charge ..
  · exact h.charge ..

theorem Sound.rxCharge (h : Sound F s) (flits who) : Sound F (s.rxCharge flits who) := by
  unfold State.rxCharge
  split
  · exact h.charge ..
  · exact h.charge ..

theorem Sound.sendReq (h : Sound F s) (i e) : Sound F (s.sendReq i e) := by
  unfold State.sendReq
  extract_lets e1 rt _ n s1
  have hr : F.full → keysRise rt = true := fun c => keysRise_mapVal _ _ (keysRise_put _ _ _ (h.rt c))
  clear_value rt
  have h1 : Sound F s1 := by
    refine Sound.txCharge ?_ ..
    exact { h with rt := hr }
  split
  · exact h1.bump ..
  · exact h1.bump ..
  · exact h1

theorem Sound.retryLive (h : Sound F s) : Sound F s.retryLive := by
  unfold State.retryLive
  split
  · exact h.retryAll ..
  · exact h

theorem Sound.execNocRequestSend (h : Sound F s) (idx) : ResSound F (execNocRequestSend idx s) := by
  unfold Machine.execNocRequestSend
  split
  · exact .next h
  · exact ResSound.due h ((h.sendReq ..).retryLive ..)

theorem Sound.lateRsp (h : Sound F s) : Sound F s.lateRsp := by
  unfold State.lateRsp
  exact h.bump ..

theorem Sound.answered (h : Sound F s) (i) : Sound F (s.answered i) := by
  unfold State.answered
  exact (h.freeReq ..).settled ..

theorem Sound.unitArrives (h : Sound F s) (e k d pois errs) : Sound F (s.unitArrives e k d pois errs) := by
  unfold State.unitArrives
  exact (h.corrected ..).unitTo ..

theorem Sound.readAnswer (h : Sound F s) (e d psn errs) : Sound F (s.readAnswer e d psn errs) := by
  unfold State.readAnswer
  split
  · exact h.fillArrives ..
  · exact h.warmArrives ..
  · exact h.unitArrives ..
  · exact h

theorem Sound.response (h : Sound F s) (tag typ sts) {f : State → RtEntry → State} (hf : ∀ u e, Sound F u → Sound F (f u e)) :
    Sound F (s.response tag typ sts f) := by
  unfold State.response
  split
  · exact h.lateRsp ..
  · split
    · exact h.lateRsp ..
    · split
      · exact h.setReq ..
      · extract_lets s1
        have h1 : Sound F s1 := h.answered ..
        refine Sound.retryLive ?_ ..
        split
        · exact h1.fails ..
        · exact hf _ _ h1

theorem Sound.execRdRsp (h : Sound F s) (tag sts psn data errs) : ResSound F (execRdRsp tag sts psn data errs s) := by
  unfold Machine.execRdRsp
  extract_lets
  split
  · exact .due h ((h.rxCharge ..).response _ _ _ fun u e hu => hu.readAnswer ..)
  · exact .refused

theorem Sound.execWrAck (h : Sound F s) (tag sts _sc) : ResSound F (execWrAck tag sts _sc s) := by
  unfold Machine.execWrAck
  exact .due h ((h.rxCharge ..).response _ _ _ fun u _ hu => hu.reportDone ..)

theorem Sound.execAtomRsp (h : Sound F s) (tag sts old) : ResSound F (execAtomRsp tag sts old s) := by
  unfold Machine.execAtomRsp
  refine .due h ((h.rxCharge ..).response _ _ _ fun u e hu => ?_)
  split
  · exact hu.amoEnds ..
  · exact hu.walkSwapped ..
  · exact hu

theorem Sound.execXinvAck (h : Sound F s) (tag sts) : ResSound F (execXinvAck tag sts s) := by
  unfold Machine.execXinvAck
  exact .due h ((h.rxCharge ..).response _ _ _ fun _ _ hu => hu)

theorem Sound.notice (h : Sound F s) (tag) {f : State → RtEntry → State} (hf : ∀ u e, Sound F u → Sound F (f u e)) :
    Sound F (s.notice tag f) := by
  unfold State.notice
  split
  · exact h.lateRsp ..
  · exact hf _ _ h

theorem Sound.execHold (h : Sound F s) (tag) : ResSound F (execHold tag s) := by
  unfold Machine.execHold
  exact .due h ((h.rxCharge ..).notice _ fun u e hu => hu.setReq ..)

theorem Sound.execHoldEnd (h : Sound F s) (tag) : ResSound F (execHoldEnd tag s) := by
  unfold Machine.execHoldEnd
  exact .due h ((h.rxCharge ..).notice _ fun u e hu => hu.setReq ..)

theorem Sound.execLinkfail (h : Sound F s) (tag) : ResSound F (execLinkfail tag s) := by
  unfold Machine.execLinkfail
  exact .due h ((h.rxCharge ..).notice _ fun u e hu => ((hu.answered ..).fails ..).retryLive ..)

theorem Sound.dies (h : Sound F s) (i e) : Sound F (s.dies i e) := by
  unfold State.dies
  exact (((h.setReq ..).settled ..).fails ..).retryLive ..

theorem Sound.execRequestTimeout (h : Sound F s) (idx) : ResSound F (execRequestTimeout idx s) := by
  unfold Machine.execRequestTimeout
  split
  · exact .next h
  · exact ResSound.due h (h.dies ..)

theorem Sound.execHoldExpiry (h : Sound F s) (idx) : ResSound F (execHoldExpiry idx s) := by
  unfold Machine.execHoldExpiry
  split
  · exact .next h
  · exact ResSound.due h (h.setReq ..)

theorem Sound.execQuarantineEnd (h : Sound F s) (idx) : ResSound F (execQuarantineEnd idx s) := by
  unfold Machine.execQuarantineEnd
  split
  · exact .next h
  · exact ResSound.due h ((h.freeReq ..).retryLive ..)

theorem Sound.execBarSend (h : Sound F s) : ResSound F (execBarSend s) := by
  unfold Machine.execBarSend
  split
  · exact .next h
  · refine ResSound.due h (Sound.txCharge ?_ ..)
    exact { h with }

theorem Sound.execBarRel (h : Sound F s) : ResSound F (execBarRel s) := by
  unfold Machine.execBarRel
  exact ResSound.due h { h with }

theorem Sound.execChipIrq (h : Sound F s) (i) : ResSound F (execChipIrq i s) := by
  unfold Machine.execChipIrq
  exact ResSound.due h (h.edge ..)

theorem Sound.execReadyResend (h : Sound F s) : ResSound F (execReadyResend s) := by
  unfold Machine.execReadyResend
  exact ResSound.due h (h.queueReady ..)

theorem Sound.execFatalReportResend (h : Sound F s) : ResSound F (execFatalReportResend s) := by
  unfold Machine.execFatalReportResend
  exact ResSound.due h (h.queueFatal ..)

end Sys2Proof.Machine
end

section
namespace Sys2Proof.Machine
open Sys2Proof

variable {F : Keeps} {s : State}

/-! ## Inbound requests: what each function keeps -/

theorem Sound.reply (h : Sound F s) (pg) : Sound F (s.reply pg) := by
  unfold State.reply
  refine Sound.txCharge ?_ ..
  exact { h with }

theorem Sound.replySts (h : Sound F s) (h' typ sts) : Sound F (s.replySts h' typ sts) := by
  unfold State.replySts
  refine Sound.reply ?_ ..
  split
  · exact h.fresh ..
  · exact h

theorem Sound.receives (h : Sound F s) (c) {u : State} (hu : Sound F u) : ResSound F (s.receives c u) := by
  unfold State.receives
  split
  · exact .next (h.sealed (h.arrives ..))
  · exact .due h hu

theorem Sound.shelfTurns (h : Sound F s) (o) : Sound F (s.shelfTurns o) := by
  unfold State.shelfTurns
  exact h.shelfRefused ..

theorem Sound.shelfServe (h : Sound F s) (h' o) : Sound F (s.shelfServe h' o) := by
  unfold State.shelfServe
  extract_lets
  split
  · exact (h.shelfTurns ..).replySts ..
  · split
    · rename_i e
      extract_lets
      exact (((h.lsCharge ..).shelfRead ..).of_fst e).reply ..

theorem Sound.flitPoison (h : Sound F s) (o ms psn) : Sound F (s.flitPoison o ms psn) := by
  unfold State.flitPoison
  extract_lets s1
  have h1 : Sound F s1 := by
    unfold s1
    split
    · exact h.shelfPoison ..
    · exact h
  split
  · exact h1.shelfPoison ..
  · exact h1

theorem Sound.shelfTakes (h : Sound F s) (o ms psn) : Sound F (s.shelfTakes o ms psn).1 := by
  unfold State.shelfTakes
  split
  · exact .pair (h.shelfTurns ..)
  · exact .pair (((h.lsCharge ..).shelfWriteM ..).flitPoison ..)

theorem Sound.shelfAtom (h : Sound F s) (h' o gs gd) : Sound F (s.shelfAtom h' o gs gd) := by
  unfold State.shelfAtom
  extract_lets
  split
  · exact (h.shelfTurns ..).replySts ..
  · split
    · rename_i e
      split
      · exact ((((h.lsCharge ..).shelfRead ..).of_fst e).shelfTurns ..).replySts ..
      · extract_lets _ s2
        have h2 : Sound F s2 := ((((h.lsCharge ..).shelfRead ..).of_fst e).lsCharge ..).shelfWrite ..
        exact h2.reply ..

theorem Sound.mmioServe (h : Sound F s) (h' o) : Sound F (s.mmioServe h' o) := by
  unfold State.mmioServe
  split
  · split
    · rename_i e
      exact ((h.mmioRead ..).of_fst e).reply ..
  · exact h.replySts ..

theorem Sound.mmioTakes (h : Sound F s) (h' o ms) : Sound F (s.mmioTakes h' o ms) := by
  unfold State.mmioTakes
  split
  · split
    · extract_lets _ s1
      have h1 : Sound F s1 := h.mmioWrite ..
      split
      · exact h1.holdClear ..
      · exact h1.reply ..
    · exact (h.mmioWrite ..).replySts ..
  · exact h.replySts ..

theorem Sound.elsewhere (h : Sound F s) (h' typ) : Sound F (s.elsewhere h' typ) := by
  generalize ef : @State.elsewhere = f
  delta State.elsewhere at ef
  obtain ⟨window, ewindow⟩ : ∃ f, @State.window = f := ⟨_, rfl⟩
  rw [ewindow] at ef
  subst ef
  beta_reduce
  split
  · exact (h.crockRefused ..).replySts ..
  · exact h.replySts ..

theorem Sound.rdIn (h : Sound F s) (h') : Sound F (s.rdIn h') := by
  generalize ef : @State.rdIn = f
  delta State.rdIn at ef
  obtain ⟨window, ewindow⟩ : ∃ f, @State.window = f := ⟨_, rfl⟩
  rw [ewindow] at ef
  subst ef
  beta_reduce
  split
  · exact h.shelfServe ..
  · exact h.mmioServe ..
  · exact h.elsewhere ..

theorem Sound.wrIn (h : Sound F s) (h' ms) : Sound F (s.wrIn h' ms) := by
  generalize ef : @State.wrIn = f
  delta State.wrIn at ef
  obtain ⟨window, ewindow⟩ : ∃ f, @State.window = f := ⟨_, rfl⟩
  rw [ewindow] at ef
  subst ef
  beta_reduce
  split
  · split
    · rename_i e
      split
      · exact ((h.shelfTakes ..).of_fst e).replySts ..
      · exact ((h.shelfTakes ..).of_fst e).reply ..
  · exact h.mmioTakes ..
  · exact h.elsewhere ..

theorem Sound.atomIn (h : Sound F s) (h' gs gd) : Sound F (s.atomIn h' gs gd) := by
  generalize ef : @State.atomIn = f
  delta State.atomIn at ef
  obtain ⟨window, ewindow⟩ : ∃ f, @State.window = f := ⟨_, rfl⟩
  rw [ewindow] at ef
  subst ef
  beta_reduce
  split
  · exact h.shelfAtom ..
  · exact h.elsewhere ..

theorem Sound.execNocRdIn (h : Sound F s) (h') : ResSound F (execNocRdIn h' s) := by
  unfold Machine.execNocRdIn
  split
  · exact h.receives _ ((h.rxCharge ..).rdIn ..)
  · exact .refused

theorem Sound.execNocWrIn (h : Sound F s) (h' data mask) : ResSound F (execNocWrIn h' data mask s) := by
  unfold Machine.execNocWrIn
  split
  · exact h.receives _ ((h.rxCharge ..).wrIn ..)
  · exact .refused

theorem Sound.execNocAtomIn (h : Sound F s) (h' gs gd) : ResSound F (execNocAtomIn h' gs gd s) := by
  unfold Machine.execNocAtomIn
  split
  · exact h.receives _ ((h.rxCharge ..).atomIn ..)
  · exact .refused

theorem Sound.execBcastIn (h : Sound F s) (h' data mask) : ResSound F (execBcastIn h' data mask s) := by
  unfold Machine.execBcastIn
  split
  · split
    · rename_i e
      refine h.receives _ ?_
      split
      · exact (((h.rxCharge ..).shelfTakes ..).of_fst e).replySts ..
      · exact (((h.rxCharge ..).shelfTakes ..).of_fst e).reply ..
  · exact .refused

theorem Sound.xinvTakes (h : Sound F s) (h') : Sound F (s.xinvTakes h') := by
  unfold State.xinvTakes
  extract_lets s1
  have h1 : Sound F s1 := ((h.xinvApply ..).bump ..).retranslate ..
  clear_value s1
  exact { h1 with }

theorem Sound.execXinvIn (h : Sound F s) (h') : ResSound F (execXinvIn h' s) := by
  unfold Machine.execXinvIn
  split
  · exact h.receives _ ((h.rxCharge ..).xinvTakes ..)
  · exact .refused

theorem Sound.execXinvAckSend (h : Sound F s) : ResSound F (execXinvAckSend s) := by
  unfold Machine.execXinvAckSend
  split
  · exact .next h
  · refine ResSound.due h (Sound.replySts ?_ ..)
    exact { h with }

theorem Sound.badMsg (h : Sound F s) (h') : Sound F (s.badMsg h') := by
  unfold State.badMsg
  exact (h.bump ..).replySts ..

theorem Sound.msgIn (h : Sound F s) (x) {f : State → State} (hf : Sound F (f s)) : Sound F (s.msgIn x f) := by
  unfold State.msgIn
  split
  · exact hf.replySts ..
  · exact h.badMsg ..

theorem Sound.execDoorbell (h : Sound F s) (x) : ResSound F (execDoorbell x s) := by
  have h1 : Sound F (s.rxCharge 1) := h.rxCharge ..
  unfold Machine.execDoorbell
  split
  · exact h.receives _ (h1.msgIn _ (h1.edge ..))
  · exact .refused

theorem Sound.execBudgetGrant (h : Sound F s) (x data) : ResSound F (execBudgetGrant x data s) := by
  have h1 : Sound F (s.rxCharge 1) := h.rxCharge ..
  unfold Machine.execBudgetGrant
  split
  · exact h.receives _ (h1.msgIn _ (h1.grant ..))
  · exact .refused

theorem Sound.execBadHeader (h : Sound F s) (h') : ResSound F (execBadHeader h' s) := by
  unfold Machine.execBadHeader
  split
  · exact h.receives _ ((h.rxCharge ..).bump ..)
  · split
    · exact h.receives _ ((h.rxCharge ..).badMsg ..)
    · exact .refused

end Sys2Proof.Machine
end

section
namespace Sys2Proof.Machine
open Sys2Proof

variable {F : Keeps} {s : State}

/-! ## Resets: what each function keeps -/

theorem Sound.reset (full : Prop) : Sound ⟨full, State.reset.pos, State.reset.pending⟩ State.reset where
  pos := rfl
  pending := rfl
  pm := fun _ => rfl
  shadow := fun _ => rfl
  committed := fun _ => rfl
  counters := fun _ => rfl
  shelf := fun _ => rfl
  lines := fun _ => rfl
  l1 := fun _ => rfl
  stores := fun _ => Nat.zero_le _
  data := fun _ => rfl
  entries := fun _ => Nat.zero_le _
  runs := fun _ m => nomatch m
  rt := fun _ => rfl
  gens := fun _ => rfl
  media := fun _ => rfl
  wcount := fun _ => rfl
  wmap := fun _ => rfl
  errs := fun _ => rfl
  writes := fun _ => Nat.zero_le _

theorem keysRise_portReset (h : Sound F s) (keeps) :
    F.full → keysRise (s.portReset keeps).rt = true := fun c => keysRise_filter _ _ (h.rt c)

theorem canon_portReset_gens (h : Sound F s) (keeps) : F.full → canon zero3 (s.portReset keeps).gens = true :=
  fun c => foldl_kept (canon zero3 · = true) (fun _ _ hm => canon_setD _ _ _ _ hm) _ (h.gens c)

theorem Sound.commitGo (h : Sound F s) (fuel) : Sound F (s.commitGo fuel) := by
  induction fuel generalizing s with
  | zero => exact h
  | succ f ih =>
    unfold State.commitGo
    split
    · exact h
    · exact ih (((h.fresh ..).lineWritten ..).crockPump ..)

theorem Sound.crockCommit (h : Sound F s) : Sound F s.crockCommit := by
  unfold State.crockCommit
  extract_lets _ s1
  have h1 : Sound F s1 := by
    refine ((Sound.bootStopped ?_ ..).stopVerify ..).crockPump ..
    exact { h with }
  exact h1.commitGo ..

theorem Sound.crockTorn (h : Sound F s) : Sound F s.crockTorn := by
  unfold State.crockTorn
  extract_lets s1
  have h1 : Sound F s1 := h.bootTorn ..
  split
  · exact h1
  · split
    · exact h1.tearLine ..

theorem Sound.coldReset (h : Sound F s) (ph cut) : Sound F (s.coldReset ph cut) := by
  unfold State.coldReset
  extract_lets s1
  have h1 : Sound F s1 := by
    unfold s1
    split
    · exact h.crockTorn ..
    · exact h.crockCommit ..
  have hpm : F.full → canon pmEmpty (if cut then [] else s.pm) = true := by
    split
    · exact fun _ => rfl
    · exact h.pm
  clear_value s1
  exact { Sound.reset F.full with
    pos := h.pos, pending := h.pending, pm := hpm, rt := keysRise_portReset h1 _, gens := canon_portReset_gens h1 _
    media := h1.media, wcount := h1.wcount, wmap := h1.wmap, errs := h1.errs, writes := fun _ => Nat.zero_le _ }

theorem Sound.warmReset (h : Sound F s) : Sound F s.warmReset := by
  unfold State.warmReset
  extract_lets s1
  have h1 : Sound F s1 := h.crockCommit ..
  clear_value s1
  exact { Sound.reset F.full with
    pos := h.pos, pending := h.pending, pm := h.pm, rt := keysRise_portReset h1 _, gens := canon_portReset_gens h1 _
    shadow := fun c => canon_filter _ _ _ (h.shadow c), committed := fun c => canon_filter _ _ _ (h.committed c), counters := h1.counters
    shelf := h.shelf, lines := h.lines, l1 := fun _ => rfl, stores := fun _ => Nat.zero_le _
    media := h1.media, wcount := h1.wcount, wmap := h1.wmap, errs := h1.errs, writes := fun _ => Nat.zero_le _ }

theorem Sound.execColdReset (h : Sound F s) : ResSound F (execColdReset s) := by
  unfold Machine.execColdReset
  extract_lets s1
  have h1 : Sound F s1 := { h with }
  exact ResSound.always h ((h1.coldReset ..).fresh ..)

theorem Sound.execWarmReset (h : Sound F s) : ResSound F (execWarmReset s) := by
  unfold Machine.execWarmReset
  refine ResSound.always h ?_
  split
  · exact h
  · exact h.warmReset ..

theorem Sound.coldStart (h : Sound F s) : Sound F s.coldStart := by
  unfold State.coldStart
  refine Sound.loadMap ?_ ..
  exact { h with }

theorem Sound.execColdResetRelease (h : Sound F s) (level) : ResSound F (execColdResetRelease level s) := by
  unfold Machine.execColdResetRelease
  extract_lets s1
  have h1 : Sound F s1 := { h with }
  split
  · exact ResSound.always h h1
  · split
    · exact .fault
    · exact ResSound.always h (h1.coldStart ..)

theorem Sound.rollRepair (h : Sound F s) (bs i) : Sound F (s.rollRepair bs i) := by
  unfold State.rollRepair
  split
  · exact h
  · split
    · exact h
    · exact h.bootWrite ..

theorem Sound.bootVerify (h : Sound F s) (slot r) : Sound F (s.bootVerify slot r) := by
  unfold State.bootVerify
  extract_lets s1
  have h1 : Sound F s1 := h.verifyReads ..
  split
  · exact h1.crockFound ..
  · exact h1

theorem Sound.bootStart (h : Sound F s) (slot) : Sound F (s.bootStart slot) := by
  unfold State.bootStart
  exact { h with }

theorem Sound.bootFails (h : Sound F s) (pref vres status) : Sound F (s.bootFails pref vres status) := by
  unfold State.bootFails
  refine Sound.sendReady ?_ ..
  exact { h with }

theorem Sound.bootSettle (h : Sound F s) : Sound F s.bootSettle := by
  unfold State.bootSettle
  extract_lets s2 _ s1
  have h2 : Sound F s2 := h.bootReads ..
  have h1 : Sound F s1 := ((h2.bootUpdate ..).rollRepair ..).rollRepair ..
  clear_value s1 s2
  split
  · refine Sound.bootFails ?_ ..
    exact { h2 with }
  · split
    extract_lets _ s3 _ s4
    have h3 : Sound F s3 := by
      refine Sound.bootVerify ?_ ..
      exact { h1 with }
    clear_value s3
    have h4 : Sound F s4 := h3.bootVerify ..
    split
    · exact h3.bootStart ..
    · split
      · exact h4.bootStart ..
      · exact h4.bootFails ..

theorem Sound.execBootVerifyDone (h : Sound F s) : ResSound F (execBootVerifyDone s) := by
  unfold Machine.execBootVerifyDone
  exact ResSound.due h (h.bootSettle ..)

theorem Sound.tableEmptied (h : Sound F s) : Sound F s.tableEmptied :=
  { h with rt := fun _ => rfl, gens := canon_portReset_gens h fun _ => false }

theorem Sound.execWarmResetRelease (h : Sound F s) : ResSound F (execWarmResetRelease s) := by
  unfold Machine.execWarmResetRelease
  have hb0 : Sound F s.tableEmptied := h.tableEmptied ..
  exact ResSound.due h { hb0 with }

theorem Sound.execTimingDomainReset (h : Sound F s) : ResSound F (execTimingDomainReset s) := by
  unfold Machine.execTimingDomainReset
  exact ResSound.always h { h with }

theorem Sound.setWir (h : Sound F s) (w) : Sound F (s.setWir w) := by
  unfold State.setWir
  extract_lets s1
  have h1 : Sound F s1 := by
    unfold s1
    split
    · split
      · exact h
      · exact h.coldReset ..
    · split
      · split
        · exact { h with }
        · exact h.coldStart ..
      · exact h
  clear_value s1
  exact { h1 with }

theorem Sound.selBypass (h : Sound F s) : Sound F s.selBypass := by
  unfold State.selBypass
  exact { h with }

theorem Sound.selBoundary (h : Sound F s) : Sound F s.selBoundary := by
  unfold State.selBoundary
  exact { h with }

theorem Sound.execWsBypass (h : Sound F s) : ResSound F (execWsBypass s) := by
  unfold Machine.execWsBypass
  exact ResSound.always h (((h.setWir ..).selBypass ..).fresh ..)

theorem Sound.execWsExtest (h : Sound F s) : ResSound F (execWsExtest s) := by
  unfold Machine.execWsExtest
  exact ResSound.always h ((h.setWir ..).selBoundary ..)

theorem Sound.execWsIntestScan (h : Sound F s) : ResSound F (execWsIntestScan s) := by
  unfold Machine.execWsIntestScan
  exact ResSound.always h (h.setWir ..)

theorem Sound.execWsPreload (h : Sound F s) : ResSound F (execWsPreload s) := by
  unfold Machine.execWsPreload
  exact ResSound.always h ((h.setWir ..).selBoundary ..)

theorem Sound.execWsClamp (h : Sound F s) : ResSound F (execWsClamp s) := by
  unfold Machine.execWsClamp
  exact ResSound.always h ((h.setWir ..).selBypass ..)

theorem Sound.wrapAccess (h : Sound F s) (data off wr) : Sound F (s.wrapAccess data off wr) := by
  unfold State.wrapAccess
  extract_lets put s1
  have hput : ∀ u v done, Sound F u → Sound F (put u v done) := fun _ _ _ hu => { hu with }
  have h1 : Sound F s1 := h.mmioWrite ..
  clear_value put s1
  split
  · exact hput _ _ _ h
  · split
    · exact hput _ _ _ h
    · split
      · split
        · exact hput _ _ _ (h1.holdClear ..)
        · exact hput _ _ _ h1
      · split
        rename_i e
        exact hput _ _ _ ((h.mmioRead ..).of_fst e)

theorem Sound.dropTap (h : Sound F s) : Sound F s.dropTap := by
  unfold State.dropTap
  exact { h with }

theorem Sound.execMmioAccess (h : Sound F s) (dr) : ResSound F (execMmioAccess dr s) := by
  unfold Machine.execMmioAccess
  extract_lets _ s1 __src1
  have h1 : Sound F s1 := (h.setWir ..).dropTap ..
  have h__rc1 : Sound F __src1 := h1.arrives ..
  clear_value s1 __src1
  split
  · exact ResSound.always h { h__rc1 with }
  · exact ResSound.always h (h1.wrapAccess ..)

end Sys2Proof.Machine
end

section
namespace Sys2Proof.Machine
open Sys2Proof

variable {F : Keeps} {s : State}

/-! ## Scalar instructions: what each function keeps -/

theorem Sound.writeG (h : Sound F s) (t d f) : EndsSound F (writeG t d f s) := by
  unfold Machine.writeG
  exact .done (h.setG ..)

theorem Sound.arith (h : Sound F s) (t d f) : EndsSound F (arith t d f s) := by
  unfold Machine.arith
  extract_lets
  split
  · split
    · exact .trap h
    · exact .done ((h.setG ..).setFlg ..)
  · exact .done (h.setG ..)

theorem Sound.scalarDraw (h : Sound F s) (t) : Sound F (s.scalarDraw t).1 := by
  unfold State.scalarDraw
  extract_lets
  split
  · exact .pair (h.setTh ..)
  · exact .pair h

theorem Sound.round (h : Sound F s) (t num k) : Sound F (s.round t num k).1 := by
  unfold State.round
  split
  · rename_i e
    exact .pair (((h.scalarDraw ..).of_fst e).flgIf ..)

theorem Sound.setFit80 (h : Sound F s) (t a x') : Sound F (s.setFit80 t a x') := by
  unfold State.setFit80
  extract_lets
  exact (h.setAcc ..).flgIf ..

theorem Sound.macc (h : Sound F s) (t a sign x' y) : EndsSound F (macc t a sign x' y s) := by
  unfold Machine.macc
  split
  · rename_i e
    exact .done (((h.round ..).of_fst e).setFit80 ..)

theorem Sound.divide (h : Sound F s) (t d x' y zero) {go : State → Ends} (hg : EndsSound F (go s)) :
    EndsSound F (divide t d x' y zero go s) := by
  unfold Machine.divide
  split
  · split
    · exact .trap h
    · exact .done ((h.setG ..).setFlg ..)
  · exact hg

theorem Sound.execMov (h : Sound F s) (t d r) : ResSound F (execMov t d r s) := by
  unfold Machine.execMov
  refine h.issue _ _ fun u hu => ?_
  exact hu.writeG ..

theorem Sound.execAdd (h : Sound F s) (t d r) : ResSound F (execAdd t d r s) := by
  unfold Machine.execAdd
  refine h.issue _ _ fun u hu => ?_
  exact hu.arith ..

theorem Sound.execSub (h : Sound F s) (t d r) : ResSound F (execSub t d r s) := by
  unfold Machine.execSub
  refine h.issue _ _ fun u hu => ?_
  exact hu.arith ..

theorem Sound.execAnd (h : Sound F s) (t d r) : ResSound F (execAnd t d r s) := by
  unfold Machine.execAnd
  refine h.issue _ _ fun u hu => ?_
  exact hu.writeG ..

theorem Sound.execOr (h : Sound F s) (t d r) : ResSound F (execOr t d r s) := by
  unfold Machine.execOr
  refine h.issue _ _ fun u hu => ?_
  exact hu.writeG ..

theorem Sound.execXor (h : Sound F s) (t d r) : ResSound F (execXor t d r s) := by
  unfold Machine.execXor
  refine h.issue _ _ fun u hu => ?_
  exact hu.writeG ..

theorem Sound.execSll (h : Sound F s) (t d r) : ResSound F (execSll t d r s) := by
  unfold Machine.execSll
  refine h.issue _ _ fun u hu => ?_
  exact hu.writeG ..

theorem Sound.execSrl (h : Sound F s) (t d r) : ResSound F (execSrl t d r s) := by
  unfold Machine.execSrl
  refine h.issue _ _ fun u hu => ?_
  exact hu.writeG ..

theorem Sound.execSra (h : Sound F s) (t d r) : ResSound F (execSra t d r s) := by
  unfold Machine.execSra
  refine h.issue _ _ fun u hu => ?_
  exact hu.writeG ..

theorem Sound.execSlt (h : Sound F s) (t d r) : ResSound F (execSlt t d r s) := by
  unfold Machine.execSlt
  refine h.issue _ _ fun u hu => ?_
  exact hu.writeG ..

theorem Sound.execSltu (h : Sound F s) (t d r) : ResSound F (execSltu t d r s) := by
  unfold Machine.execSltu
  refine h.issue _ _ fun u hu => ?_
  exact hu.writeG ..

theorem Sound.execMul (h : Sound F s) (t d r) : ResSound F (execMul t d r s) := by
  unfold Machine.execMul
  refine h.issue _ _ fun u hu => ?_
  exact hu.arith ..

theorem Sound.execMulh (h : Sound F s) (t d r) : ResSound F (execMulh t d r s) := by
  unfold Machine.execMulh
  refine h.issue _ _ fun u hu => ?_
  exact hu.writeG ..

theorem Sound.execMac0 (h : Sound F s) (t d r) : ResSound F (execMac0 t d r s) := by
  unfold Machine.execMac0
  refine h.issue _ _ fun u hu => ?_
  exact hu.macc ..

theorem Sound.execMac1 (h : Sound F s) (t d r) : ResSound F (execMac1 t d r s) := by
  unfold Machine.execMac1
  refine h.issue _ _ fun u hu => ?_
  exact hu.macc ..

theorem Sound.execNot (h : Sound F s) (t d) : ResSound F (execNot t d s) := by
  unfold Machine.execNot
  refine h.issue _ _ fun u hu => ?_
  exact hu.writeG ..

theorem Sound.execNeg (h : Sound F s) (t d) : ResSound F (execNeg t d s) := by
  unfold Machine.execNeg
  refine h.issue _ _ fun u hu => ?_
  exact hu.arith ..

theorem Sound.execAbs (h : Sound F s) (t d) : ResSound F (execAbs t d s) := by
  unfold Machine.execAbs
  refine h.issue _ _ fun u hu => ?_
  exact hu.arith ..

theorem Sound.execZxb (h : Sound F s) (t d) : ResSound F (execZxb t d s) := by
  unfold Machine.execZxb
  refine h.issue _ _ fun u hu => ?_
  exact hu.writeG ..

theorem Sound.execZxh (h : Sound F s) (t d) : ResSound F (execZxh t d s) := by
  unfold Machine.execZxh
  refine h.issue _ _ fun u hu => ?_
  exact hu.writeG ..

theorem Sound.execZxw (h : Sound F s) (t d) : ResSound F (execZxw t d s) := by
  unfold Machine.execZxw
  refine h.issue _ _ fun u hu => ?_
  exact hu.writeG ..

theorem Sound.execSxb (h : Sound F s) (t d) : ResSound F (execSxb t d s) := by
  unfold Machine.execSxb
  refine h.issue _ _ fun u hu => ?_
  exact hu.writeG ..

theorem Sound.execSxh (h : Sound F s) (t d) : ResSound F (execSxh t d s) := by
  unfold Machine.execSxh
  refine h.issue _ _ fun u hu => ?_
  exact hu.writeG ..

theorem Sound.execSxw (h : Sound F s) (t d) : ResSound F (execSxw t d s) := by
  unfold Machine.execSxw
  refine h.issue _ _ fun u hu => ?_
  exact hu.writeG ..

theorem Sound.execClz (h : Sound F s) (t d) : ResSound F (execClz t d s) := by
  unfold Machine.execClz
  refine h.issue _ _ fun u hu => ?_
  exact hu.writeG ..

theorem Sound.execPopc (h : Sound F s) (t d) : ResSound F (execPopc t d s) := by
  unfold Machine.execPopc
  refine h.issue _ _ fun u hu => ?_
  exact hu.writeG ..

theorem Sound.execMovi (h : Sound F s) (t d imm) : ResSound F (execMovi t d imm s) := by
  unfold Machine.execMovi
  refine h.issue _ _ fun u hu => ?_
  exact hu.writeG ..

theorem Sound.execAddi (h : Sound F s) (t d imm) : ResSound F (execAddi t d imm s) := by
  unfold Machine.execAddi
  refine h.issue _ _ fun u hu => ?_
  exact hu.arith ..

theorem Sound.execSlli (h : Sound F s) (t d imm) : ResSound F (execSlli t d imm s) := by
  unfold Machine.execSlli
  refine h.issue _ _ fun u hu => ?_
  exact hu.writeG ..

theorem Sound.execSrai (h : Sound F s) (t d imm) : ResSound F (execSrai t d imm s) := by
  unfold Machine.execSrai
  refine h.issue _ _ fun u hu => ?_
  exact hu.writeG ..

theorem Sound.execMovl (h : Sound F s) (t d imm) : ResSound F (execMovl t d imm s) := by
  unfold Machine.execMovl
  refine h.issue _ _ fun u hu => ?_
  exact hu.writeG ..

theorem Sound.execShol (h : Sound F s) (t d imm) : ResSound F (execShol t d imm s) := by
  unfold Machine.execShol
  refine h.issue _ _ fun u hu => ?_
  exact hu.writeG ..

theorem Sound.execAddl (h : Sound F s) (t d imm) : ResSound F (execAddl t d imm s) := by
  unfold Machine.execAddl
  refine h.issue _ _ fun u hu => ?_
  exact hu.arith ..

theorem Sound.execAndl (h : Sound F s) (t d imm) : ResSound F (execAndl t d imm s) := by
  unfold Machine.execAndl
  refine h.issue _ _ fun u hu => ?_
  exact hu.writeG ..

theorem Sound.execDiv (h : Sound F s) (t d r) : ResSound F (execDiv t d r s) := by
  unfold Machine.execDiv
  refine h.issue _ _ fun u hu => ?_
  exact hu.divide _ _ _ _ _ (hu.arith ..)

theorem Sound.execDivu (h : Sound F s) (t d r) : ResSound F (execDivu t d r s) := by
  unfold Machine.execDivu
  refine h.issue _ _ fun u hu => ?_
  exact hu.divide _ _ _ _ _ (hu.writeG ..)

theorem Sound.execRem (h : Sound F s) (t d r) : ResSound F (execRem t d r s) := by
  unfold Machine.execRem
  refine h.issue _ _ fun u hu => ?_
  exact hu.divide _ _ _ _ _ (hu.writeG ..)

theorem Sound.execRemu (h : Sound F s) (t d r) : ResSound F (execRemu t d r s) := by
  unfold Machine.execRemu
  refine h.issue _ _ fun u hu => ?_
  exact hu.divide _ _ _ _ _ (hu.writeG ..)

theorem Sound.execMsu (h : Sound F s) (t a g g2) : ResSound F (execMsu t a g g2 s) := by
  unfold Machine.execMsu
  refine h.issue _ _ fun u hu => ?_
  exact hu.macc ..

theorem Sound.execAzero (h : Sound F s) (t a) : ResSound F (execAzero t a s) := by
  unfold Machine.execAzero
  refine h.issue _ _ fun u hu => ?_
  exact .done (hu.setAcc ..)

theorem Sound.execAld (h : Sound F s) (t a g) : ResSound F (execAld t a g s) := by
  unfold Machine.execAld
  refine h.issue _ _ fun u hu => ?_
  exact .done (hu.setAcc ..)

theorem Sound.astBody (h : Sound F s) (t a g) : EndsSound F (astBody t a g s) := by
  unfold Machine.astBody
  split
  · rename_i e
    extract_lets
    exact .done ((((h.round ..).of_fst e).setG ..).flgIf ..)

theorem Sound.execAst (h : Sound F s) (t a g) : ResSound F (execAst t a g s) := by
  unfold Machine.execAst
  refine h.issue _ _ fun u hu => ?_
  exact hu.astBody ..

theorem Sound.execArdl (h : Sound F s) (t a g) : ResSound F (execArdl t a g s) := by
  unfold Machine.execArdl
  refine h.issue _ _ fun u hu => ?_
  exact hu.writeG ..

theorem Sound.execArdh (h : Sound F s) (t a g) : ResSound F (execArdh t a g s) := by
  unfold Machine.execArdh
  refine h.issue _ _ fun u hu => ?_
  exact hu.writeG ..

theorem Sound.execAwr (h : Sound F s) (t a g g2) : ResSound F (execAwr t a g g2 s) := by
  unfold Machine.execAwr
  refine h.issue _ _ fun u hu => ?_
  exact .done (hu.setAcc ..)

theorem Sound.ashrBody (h : Sound F s) (t a g) : EndsSound F (ashrBody t a g s) := by
  unfold Machine.ashrBody
  split
  · rename_i e
    exact .done (((h.round ..).of_fst e).setAcc ..)

theorem Sound.execAshl (h : Sound F s) (t a g) : ResSound F (execAshl t a g s) := by
  unfold Machine.execAshl
  refine h.issue _ _ fun u hu => ?_
  exact .done (hu.setFit80 ..)

theorem Sound.execAshr (h : Sound F s) (t a g) : ResSound F (execAshr t a g s) := by
  unfold Machine.execAshr
  refine h.issue _ _ fun u hu => ?_
  exact hu.ashrBody ..

theorem Sound.execAadd (h : Sound F s) (t a) : ResSound F (execAadd t a s) := by
  unfold Machine.execAadd
  refine h.issue _ _ fun u hu => ?_
  exact .done (hu.setFit80 ..)

end Sys2Proof.Machine
end

section
namespace Sys2Proof.Machine
open Sys2Proof

variable {F : Keeps} {s : State}

/-! ## Instructions and the cycle: what each function keeps -/

theorem Sound.exec (i : Instr) (h : Sound F s) : ResSound F (exec i s) := by
  cases i with
  | mov => exact h.execMov ..
  | add => exact h.execAdd ..
  | sub => exact h.execSub ..
  | and => exact h.execAnd ..
  | or => exact h.execOr ..
  | xor => exact h.execXor ..
  | sll => exact h.execSll ..
  | srl => exact h.execSrl ..
  | sra => exact h.execSra ..
  | slt => exact h.execSlt ..
  | sltu => exact h.execSltu ..
  | mul => exact h.execMul ..
  | mulh => exact h.execMulh ..
  | mac0 => exact h.execMac0 ..
  | mac1 => exact h.execMac1 ..
  | not => exact h.execNot ..
  | neg => exact h.execNeg ..
  | abs => exact h.execAbs ..
  | zxb => exact h.execZxb ..
  | zxh => exact h.execZxh ..
  | zxw => exact h.execZxw ..
  | sxb => exact h.execSxb ..
  | sxh => exact h.execSxh ..
  | sxw => exact h.execSxw ..
  | clz => exact h.execClz ..
  | popc => exact h.execPopc ..
  | movi => exact h.execMovi ..
  | addi => exact h.execAddi ..
  | slli => exact h.execSlli ..
  | srai => exact h.execSrai ..
  | ldb => exact h.execLdb ..
  | ldh => exact h.execLdh ..
  | ldw => exact h.execLdw ..
  | ldd => exact h.execLdd ..
  | stb => exact h.execStb ..
  | sth => exact h.execSth ..
  | stw => exact h.execStw ..
  | std => exact h.execStd ..
  | jmp => exact h.execJmp ..
  | call => exact h.execCall ..
  | jr => exact h.execJr ..
  | callr => exact h.execCallr ..
  | beqz => exact h.execBeqz ..
  | bnez => exact h.execBnez ..
  | bltz => exact h.execBltz ..
  | bgez => exact h.execBgez ..
  | loop => exact h.execLoop ..
  | loopi => exact h.execLoopi ..
  | movl => exact h.execMovl ..
  | shol => exact h.execShol ..
  | addl => exact h.execAddl ..
  | andl => exact h.execAndl ..
  | div => exact h.execDiv ..
  | divu => exact h.execDivu ..
  | rem => exact h.execRem ..
  | remu => exact h.execRemu ..
  | msu => exact h.execMsu ..
  | azero => exact h.execAzero ..
  | ald => exact h.execAld ..
  | ast => exact h.execAst ..
  | ardl => exact h.execArdl ..
  | ardh => exact h.execArdh ..
  | awr => exact h.execAwr ..
  | ashl => exact h.execAshl ..
  | ashr => exact h.execAshr ..
  | aadd => exact h.execAadd ..
  | amoSwap => exact h.execAmoSwap ..
  | amoAdd => exact h.execAmoAdd ..
  | amoAnd => exact h.execAmoAnd ..
  | amoOr => exact h.execAmoOr ..
  | amoXor => exact h.execAmoXor ..
  | amoMin => exact h.execAmoMin ..
  | amoMax => exact h.execAmoMax ..
  | amoMinu => exact h.execAmoMinu ..
  | amoMaxu => exact h.execAmoMaxu ..
  | amoCas => exact h.execAmoCas ..
  | fence => exact h.execFence ..
  | csrr => exact h.execCsrr ..
  | csrw => exact h.execCsrw ..
  | csrs => exact h.execCsrs ..
  | csrc => exact h.execCsrc ..
  | pmw => exact h.execPmw ..
  | pmr => exact h.execPmr ..
  | trap => exact h.execTrap ..
  | rett => exact h.execRett ..
  | wait => exact h.execWait ..
  | xinvAddress => exact h.execXinvAddress ..
  | xinvNonglobal => exact h.execXinvNonglobal ..
  | xinvAll => exact h.execXinvAll ..
  | lsmClean => exact h.execLsmClean ..
  | lsmInvalidate => exact h.execLsmInvalidate ..
  | lsmCleanInvalidate => exact h.execLsmCleanInvalidate ..
  | tclaim => exact h.execTclaim ..
  | tclaimForce => exact h.execTclaimForce ..
  | tclaimForceDone => exact h.execTclaimForceDone ..
  | trelTray => exact h.execTrelTray ..
  | trelSlot => exact h.execTrelSlot ..
  | trelUnit => exact h.execTrelUnit ..
  | trelUnitDone => exact h.execTrelUnitDone ..
  | tcfg => exact h.execTcfg ..
  | tzero => exact h.execTzero ..
  | tld => exact h.execTld ..
  | tst => exact h.execTst ..
  | tmma => exact h.execTmma ..
  | tmms => exact h.execTmms ..
  | tdrain => exact h.execTdrain ..
  | tmovCopy => exact h.execTmovCopy ..
  | tmovTranspose => exact h.execTmovTranspose ..
  | tsyncWait => exact h.execTsyncWait ..
  | tsyncWaitDone => exact h.execTsyncWaitDone ..
  | tsyncResume => exact h.execTsyncResume ..
  | tsyncDiscard => exact h.execTsyncDiscard ..
  | tsave => exact h.execTsave ..
  | tsaveBlock => exact h.execTsaveBlock ..
  | trstr => exact h.execTrstr ..
  | trstrBlock => exact h.execTrstrBlock ..
  | tileEntryStart => exact h.execTileEntryStart ..
  | skilletStep => exact h.execSkilletStep ..
  | tileMemPage => exact h.execTileMemPage ..
  | tileMemLineDone => exact h.execTileMemLineDone ..
  | drainStreamRow => exact h.execDrainStreamRow ..
  | drainComplete => exact h.execDrainComplete ..
  | wadd => exact h.execWadd ..
  | waddSub => exact h.execWaddSub ..
  | wmul => exact h.execWmul ..
  | wfma => exact h.execWfma ..
  | wfmaNeg => exact h.execWfmaNeg ..
  | wmax => exact h.execWmax ..
  | wmin => exact h.execWmin ..
  | wsel => exact h.execWsel ..
  | wexp => exact h.execWexp ..
  | wrcp => exact h.execWrcp ..
  | wrsq => exact h.execWrsq ..
  | wcvt => exact h.execWcvt ..
  | wspl => exact h.execWspl ..
  | wredSum => exact h.execWredSum ..
  | wredMax => exact h.execWredMax ..
  | whiskRow => exact h.execWhiskRow ..
  | whiskComplete => exact h.execWhiskComplete ..
  | handlerEntry => exact h.execHandlerEntry ..
  | quietOverrun => exact h.execQuietOverrun ..
  | storeBufferLeave => exact h.execStoreBufferLeave ..
  | nocRequestSend => exact h.execNocRequestSend ..
  | rdRsp => exact h.execRdRsp ..
  | wrAck tag sts sc => exact h.execWrAck tag sts sc
  | atomRsp => exact h.execAtomRsp ..
  | xinvAck => exact h.execXinvAck ..
  | hold => exact h.execHold ..
  | holdEnd => exact h.execHoldEnd ..
  | linkfail => exact h.execLinkfail ..
  | requestTimeout => exact h.execRequestTimeout ..
  | holdExpiry => exact h.execHoldExpiry ..
  | quarantineEnd => exact h.execQuarantineEnd ..
  | nocRdIn => exact h.execNocRdIn ..
  | nocWrIn => exact h.execNocWrIn ..
  | nocAtomIn => exact h.execNocAtomIn ..
  | bcastIn => exact h.execBcastIn ..
  | xinvIn => exact h.execXinvIn ..
  | xinvAckSend => exact h.execXinvAckSend ..
  | doorbell => exact h.execDoorbell ..
  | budgetGrant => exact h.execBudgetGrant ..
  | badHeader => exact h.execBadHeader ..
  | chnHeadWrite => exact h.execChnHeadWrite ..
  | ladleDescriptorStart => exact h.execLadleDescriptorStart ..
  | ladleRun => exact h.execLadleRun ..
  | ladleDescriptorComplete => exact h.execLadleDescriptorComplete ..
  | resume => exact h.execResume ..
  | skip => exact h.execSkip ..
  | abort => exact h.execAbort ..
  | barArrive => exact h.execBarArrive ..
  | barSend => exact h.execBarSend ..
  | barRel => exact h.execBarRel ..
  | chipIrq => exact h.execChipIrq ..
  | scrubRead => exact h.execScrubRead ..
  | shelfGrowthDone => exact h.execShelfGrowthDone ..
  | tableWalk => exact h.execTableWalk ..
  | spanLoad => exact h.execSpanLoad ..
  | spanClear => exact h.execSpanClear ..
  | spanReadBack => exact h.execSpanReadBack ..
  | spanSetAAndD => exact h.execSpanSetAAndD ..
  | canaryFire => exact h.execCanaryFire ..
  | autoCalibration => exact h.execAutoCalibration ..
  | calCmdGroup => exact h.execCalCmdGroup ..
  | calCmdAll => exact h.execCalCmdAll ..
  | recalibrationDone => exact h.execRecalibrationDone ..
  | voltageMove => exact h.execVoltageMove ..
  | vack => exact h.execVack ..
  | vackFall => exact h.execVackFall ..
  | voltageAckTimeout => exact h.execVoltageAckTimeout ..
  | scalePolicyMove => exact h.execScalePolicyMove ..
  | retentionEntry => exact h.execRetentionEntry ..
  | retentionWake => exact h.execRetentionWake ..
  | retentionWakeDone => exact h.execRetentionWakeDone ..
  | oscTrimWindow => exact h.execOscTrimWindow ..
  | syncMarkLost => exact h.execSyncMarkLost ..
  | timerExpiry => exact h.execTimerExpiry ..
  | pllLock => exact h.execPllLock ..
  | pllCoast => exact h.execPllCoast ..
  | pllRelock => exact h.execPllRelock ..
  | muxSwitchDone => exact h.execMuxSwitchDone ..
  | muxHang => exact h.execMuxHang ..
  | threadStop => exact h.execThreadStop ..
  | threadWake => exact h.execThreadWake ..
  | tempReading => exact h.execTempReading ..
  | firmwareLineReadDone => exact h.execFirmwareLineReadDone ..
  | pfailAssert => exact h.execPfailAssert ..
  | pfailDeassert => exact h.execPfailDeassert ..
  | wcmd => exact h.execWcmd ..
  | wcmdRefresh => exact h.execWcmdRefresh ..
  | dwcmd => exact h.execDwcmd ..
  | drcmd => exact h.execDrcmd ..
  | driverReadDone => exact h.execDriverReadDone ..
  | crockLineWriteDone => exact h.execCrockLineWriteDone ..
  | wqResume => exact h.execWqResume ..
  | wqDiscard => exact h.execWqDiscard ..
  | moveCmd => exact h.execMoveCmd ..
  | mapCmd => exact h.execMapCmd ..
  | scanCmd => exact h.execScanCmd ..
  | crockScanRead => exact h.execCrockScanRead ..
  | verify => exact h.execVerify ..
  | vdone => exact h.execVdone ..
  | switch => exact h.execSwitch ..
  | switched => exact h.execSwitched ..
  | coldReset => exact h.execColdReset ..
  | coldResetRelease => exact h.execColdResetRelease ..
  | bootVerifyDone => exact h.execBootVerifyDone ..
  | warmReset => exact h.execWarmReset ..
  | warmResetRelease => exact h.execWarmResetRelease ..
  | timingDomainReset => exact h.execTimingDomainReset ..
  | trst => exact h.execTrst ..
  | threadResetEffect => exact h.execThreadResetEffect ..
  | wsBypass => exact h.execWsBypass ..
  | wsExtest => exact h.execWsExtest ..
  | wsIntestScan => exact h.execWsIntestScan ..
  | wsPreload => exact h.execWsPreload ..
  | wsClamp => exact h.execWsClamp ..
  | mmioAccess => exact h.execMmioAccess ..
  | ctrlEn => exact h.execCtrlEn ..
  | ctrlQuiesce => exact h.execCtrlQuiesce ..
  | quiesceComplete => exact h.execQuiesceComplete ..
  | ctrlCommit => exact h.execCtrlCommit ..
  | ctrlRevert => exact h.execCtrlRevert ..
  | registerWrite => exact h.execRegisterWrite ..
  | regDataRead => exact h.execRegDataRead ..
  | regDataWrite => exact h.execRegDataWrite ..
  | pendClr => exact h.execPendClr ..
  | pendSet => exact h.execPendSet ..
  | readySend => exact h.execReadySend ..
  | readyResend => exact h.execReadyResend ..
  | fatalRaise => exact h.execFatalRaise ..
  | fatalReportResend => exact h.execFatalReportResend ..
  | pmCmdRead => exact h.execPmCmdRead ..
  | pmCmdWrite => exact h.execPmCmdWrite ..
  | bistRow => exact h.execBistRow ..
  | bistColumn => exact h.execBistColumn ..
  | bistWay => exact h.execBistWay ..
  | bistWholeArray => exact h.execBistWholeArray ..
  | bistDone => exact h.execBistDone ..
  | migrationDone => exact h.execMigrationDone ..
  | waySweepDone => exact h.execWaySweepDone ..
  | tmovComplete => exact h.execTmovComplete ..
  | crockWindowReadDone => exact h.execCrockWindowReadDone ..
  | leakageCharge => exact h.execLeakageCharge ..
  | illegalInstruction => exact h.execIllegalInstruction ..

theorem Sound.sweepSteps (h : Sound F s) (k) : Sound F (s.sweepSteps k) := by
  induction k generalizing s with
  | zero => exact h
  | succ n ih => exact ih ((h.growthStep ..).waySweepStep ..)

theorem Sound.timeTick (h : Sound F s) : Sound F s.timeTick := { h with rt := fun c => keysRise_mapVal _ _ (h.rt c) }

theorem Sound.stepsPass (h : Sound F s) (k) : Sound F (s.stepsPass k) := by
  unfold State.stepsPass
  extract_lets s1 s2 s3
  have h1 : Sound F s1 := { h with }
  have h2 : Sound F s2 := h1.bump ..
  have h3 : Sound F s3 := by
    unfold s3
    split
    · exact h2.bump ..
    · exact h2
  exact h3.sweepSteps ..

theorem Sound.clearAck (h : Sound F s) : Sound F s.clearAck := by
  unfold State.clearAck
  split
  · exact h
  · extract_lets _ s1
    have h1 : Sound F s1 := { h with }
    clear_value s1
    split
    · exact h1.reply ..
    · exact h1.retryThread ..
    · split
      · exact { h1 with }
      · exact h1

theorem Sound.serveInbox (h : Sound F s) : Sound F s.serveInbox := by
  unfold State.serveInbox
  split
  · exact h
  · rename_i c r _
    have h0 : Sound F { s with noc := { s.noc with inbox := [] } } := { h with }
    have hx := Sound.exec c h0
    extract_lets
    split
    · split
      · rename_i e
        have ht := hx.of_eq _ e
        exact { ht with }
      · exact { h with }
    · exact h

theorem Sound.runTick (h : Sound F s) : Sound F s.runTick := by
  unfold State.runTick
  extract_lets s1
  have h1 : Sound F s1 := ((h.timeTick ..).refReturns ..).muxPhase ..
  exact (((((h1.stepsPass ..).nextCal ..).crockPump ..).clearAck ..).serveInbox ..).retryAll ..

theorem Sound.tick (h : Sound F s) : Sound F s.tick := by
  unfold State.tick
  split
  · exact h
  · split
    · extract_lets s1
      have h1 : Sound F s1 := h.timeTick ..
      clear_value s1
      exact { h1 with }
    · exact h.runTick ..

end Sys2Proof.Machine
end

section
namespace Sys2Proof.Machine
open Sys2Proof

/-- An outcome that is no fault. -/
structure Faultless (r : Res) : Prop where
  ne : ∀ f, r ≠ .fault f

theorem Faultless.next (s : State) : Faultless (.next s) := ⟨fun _ e => nomatch e⟩
theorem Faultless.refused (r : Refusal) : Faultless (.refused r) := ⟨fun _ e => nomatch e⟩
theorem Faultless.always (s t : State) : Faultless (always s t) := .next _
theorem Faultless.due (s : State) (c : Bool) (t : State) : Faultless (due s c t) := by
  unfold Machine.due
  split
  · exact .next _
  · exact .next _
theorem Faultless.issue (s : State) (t : Thread) (n : Nat) (body : State → Ends) : Faultless (issue s t n body) := by
  unfold Machine.issue
  split
  · exact .next _
  · exact .refused _
theorem Faultless.access (s : State) (w : Writer) (c : Instr) (t : State) : Faultless (s.access w c t) := by
  unfold State.access
  extract_lets
  split
  · exact Faultless.next _
  · exact Faultless.due ..
theorem Faultless.receives (s : State) (c : Instr) (t : State) : Faultless (s.receives c t) := by
  unfold State.receives
  split
  · exact Faultless.next _
  · exact Faultless.due ..

theorem Faultless.execStoreBufferLeave (s) : Faultless (execStoreBufferLeave s) := by
  generalize ef : @Machine.execStoreBufferLeave = f
  delta Machine.execStoreBufferLeave at ef
  obtain ⟨sbLeave, el⟩ : ∃ f, @State.sbLeave = f := ⟨_, rfl⟩
  rw [el] at ef
  subst ef
  beta_reduce
  split
  · exact .next _
  · split
    · exact .due ..
    · exact .due ..
theorem Faultless.execRdRsp (tag sts psn data errs s) : Faultless (execRdRsp tag sts psn data errs s) := by
  unfold Machine.execRdRsp
  extract_lets
  split
  · exact .due ..
  · exact .refused _

theorem Faultless.exec (i : Instr) (s : State) (hi : ∀ l, i ≠ .coldResetRelease l) : Faultless (exec i s) := by
  cases i with
  | mov | add | sub | and | or | xor | sll | srl | sra | slt | sltu | mul | mulh | mac0 | mac1 | not | neg | abs
  | zxb | zxh | zxw | sxb | sxh | sxw | clz | popc | movi | addi | slli | srai | ldb | ldh | ldw | ldd | stb | sth
  | stw | std | beqz | bnez | bltz | bgez | loop | loopi | movl | shol | addl | andl | div | divu | rem | remu
  | msu | ast | ardl | ardh | ashr | amoSwap | amoAdd | amoAnd | amoOr | amoXor | amoMin | amoMax | amoMinu
  | amoMaxu | amoCas | csrr | csrw | csrs | csrc | pmw | pmr | rett | wait | xinvAddress | xinvNonglobal | xinvAll
  | lsmClean | lsmInvalidate | lsmCleanInvalidate | trelTray | trelSlot | trelUnit | tcfg | tzero | tld | tst
  | tmma | tmms | tdrain | tmovCopy | tsyncWait | tsyncResume | tsyncDiscard | tsave | trstr | wadd | waddSub
  | wmul | wfma | wfmaNeg | wmax | wmin | wsel | wexp | wrcp | wrsq | wcvt | wspl | wredSum | wredMax => exact .issue ..
  | trelUnitDone | tsyncWaitDone | quietOverrun | wrAck | atomRsp | xinvAck | hold | holdEnd | linkfail
  | ladleDescriptorStart | barRel | chipIrq | scrubRead | canaryFire | autoCalibration | voltageMove | vack
  | vackFall | retentionEntry | retentionWake | oscTrimWindow | syncMarkLost | timerExpiry | pllLock | pllCoast
  | pllRelock | threadStop | threadWake | tempReading | pfailAssert | pfailDeassert | crockScanRead | vdone
  | migrationDone | leakageCharge | switched | bootVerifyDone | warmResetRelease | threadResetEffect
  | quiesceComplete | readyResend | fatalReportResend => exact .due ..
  | coldReset | warmReset | timingDomainReset | wsBypass | wsExtest | wsIntestScan | wsPreload | wsClamp => exact .always ..
  | chnHeadWrite | resume | skip | abort | barArrive | spanLoad | spanClear | spanReadBack | spanSetAAndD
  | calCmdGroup | calCmdAll | wcmd | wcmdRefresh | dwcmd | drcmd | wqResume | wqDiscard | moveCmd | mapCmd
  | scanCmd | verify | switch | trst | ctrlEn | ctrlQuiesce | ctrlCommit | ctrlRevert | registerWrite
  | regDataRead | regDataWrite | pendClr | pendSet | readySend | fatalRaise | pmCmdRead | pmCmdWrite | bistRow
  | bistColumn | bistWay | bistWholeArray => exact .access ..
  | jmp | call | jr | callr | azero | ald | awr | ashl | aadd | fence | trap | tclaim | tclaimForce =>
    simp only [Machine.exec, Machine.execJmp, Machine.execCall, Machine.execJr, Machine.execCallr, Machine.execAzero, Machine.execAld,
      Machine.execAwr, Machine.execAshl, Machine.execAadd, Machine.execFence, Machine.execTrap,
      Machine.execTclaim, Machine.execTclaimForce]
    exact .issue ..
  | tclaimForceDone | tsaveBlock | trstrBlock =>
    simp only [Machine.exec, Machine.execTclaimForceDone, Machine.execTsaveBlock, Machine.execTrstrBlock]
    split
    · exact .due ..
    · exact .next _
  | tmovTranspose | illegalInstruction =>
    simp only [Machine.exec, Machine.execTmovTranspose, Machine.execIllegalInstruction]
    split
    · exact .refused _
    · exact .issue ..
  | tileEntryStart | skilletStep | tileMemPage | drainStreamRow | drainComplete | whiskRow | whiskComplete
  | handlerEntry | nocRequestSend | requestTimeout | holdExpiry | quarantineEnd | xinvAckSend | ladleRun
  | ladleDescriptorComplete | barSend | shelfGrowthDone | tableWalk | recalibrationDone | voltageAckTimeout
  | scalePolicyMove | retentionWakeDone | muxSwitchDone | muxHang | firmwareLineReadDone | driverReadDone
  | bistDone | waySweepDone | tmovComplete | crockWindowReadDone =>
    simp only [Machine.exec, Machine.execTileEntryStart, Machine.execSkilletStep, Machine.execTileMemPage, Machine.execDrainStreamRow,
      Machine.execDrainComplete, Machine.execWhiskRow, Machine.execWhiskComplete, Machine.execHandlerEntry,
      Machine.execNocRequestSend, Machine.execRequestTimeout, Machine.execHoldExpiry, Machine.execQuarantineEnd,
      Machine.execXinvAckSend, Machine.execLadleRun, Machine.execLadleDescriptorComplete, Machine.execBarSend,
      Machine.execShelfGrowthDone, Machine.execTableWalk, Machine.execRecalibrationDone,
      Machine.execVoltageAckTimeout, Machine.execScalePolicyMove, Machine.execRetentionWakeDone,
      Machine.execMuxSwitchDone, Machine.execMuxHang, Machine.execFirmwareLineReadDone,
      Machine.execDriverReadDone, Machine.execBistDone, Machine.execWaySweepDone, Machine.execTmovComplete,
      Machine.execCrockWindowReadDone]
    split
    · exact .next _
    · exact .due ..
  | tileMemLineDone =>
    simp only [Machine.exec, Machine.execTileMemLineDone]
    split
    · exact .next _
    · split
      · exact .next _
      · exact .due ..
  | storeBufferLeave => exact .execStoreBufferLeave s
  | rdRsp => exact .execRdRsp ..
  | nocRdIn | nocWrIn | nocAtomIn | bcastIn | xinvIn | doorbell | budgetGrant =>
    simp only [Machine.exec, Machine.execNocRdIn, Machine.execNocWrIn, Machine.execNocAtomIn, Machine.execBcastIn, Machine.execXinvIn,
      Machine.execDoorbell, Machine.execBudgetGrant]
    split
    · exact .receives ..
    · exact .refused _
  | badHeader =>
    simp only [Machine.exec, Machine.execBadHeader]
    split
    · exact .receives ..
    · split
      · exact .receives ..
      · exact .refused _
  | crockLineWriteDone =>
    simp only [Machine.exec, Machine.execCrockLineWriteDone]
    split
    · exact .next _
    · exact .always ..
  | mmioAccess =>
    simp only [Machine.exec, Machine.execMmioAccess]
    split
    · exact .always ..
    · exact .always ..
  | coldResetRelease l => exact absurd rfl (hi l)

end Sys2Proof.Machine
end

section
namespace Sys2Proof.Machine
open Sys2Proof

/-! ## The invariant -/

/-- The invariant is soundness at the state's own place and queue, besides what it says of these two. -/
theorem inv_iff_sound (s : State) : Inv s ↔
    s.pos.cluster.toNat < 48 ∧ (∀ c ∈ s.pending, c.wf = true) ∧ Sound ⟨True, s.pos, s.pending⟩ s := by
  constructor
  · intro ⟨place, commands, canonical, entries, stores, writes, runs⟩
    simp only [State.canonical, Bool.and_eq_true, and_assoc] at canonical
    obtain ⟨pm, shadow, committed, counters, shelf, data, media, wcount, gens, rt, lines, l1, wmap, errs⟩ := canonical
    exact ⟨place, commands, {
      pos := rfl, pending := rfl, pm := fun _ => pm, shadow := fun _ => shadow, committed := fun _ => committed
      counters := fun _ => counters, shelf := fun _ => shelf, data := fun _ => data, media := fun _ => media
      wcount := fun _ => wcount, gens := fun _ => gens, rt := fun _ => rt, lines := fun _ => lines, l1 := fun _ => l1
      wmap := fun _ => wmap, errs := fun _ => errs, entries := fun _ => entries, stores := fun _ => stores
      writes := fun _ => writes, runs := fun m hm _ => runs m hm }⟩
  · intro ⟨place, commands, h⟩
    refine ⟨place, commands, ?_, h.entries ⟨⟩, h.stores ⟨⟩, h.writes ⟨⟩, fun m hm => h.runs m hm ⟨⟩⟩
    simp only [State.canonical, Bool.and_eq_true, and_assoc]
    exact ⟨h.pm ⟨⟩, h.shadow ⟨⟩, h.committed ⟨⟩, h.counters ⟨⟩, h.shelf ⟨⟩, h.data ⟨⟩, h.media ⟨⟩, h.wcount ⟨⟩,
      h.gens ⟨⟩, h.rt ⟨⟩, h.lines ⟨⟩, h.l1 ⟨⟩, h.wmap ⟨⟩, h.errs ⟨⟩⟩

/-- Every state is sound at its own place and queue where nothing is asked of its memories. -/
theorem Sound.bare (s : State) : Sound ⟨False, s.pos, s.pending⟩ s where
  pos := rfl
  pending := rfl
  pm := False.elim
  shadow := False.elim
  committed := False.elim
  counters := False.elim
  shelf := False.elim
  lines := False.elim
  l1 := False.elim
  stores := False.elim
  data := False.elim
  entries := False.elim
  runs := fun _ _ => False.elim
  rt := False.elim
  gens := False.elim
  media := False.elim
  wcount := False.elim
  wmap := False.elim
  errs := False.elim
  writes := False.elim

/-- A step keeps what `full` asks for, and takes the front command from the queue. -/
theorem Sound.step {full : Prop} {s u : State} (h : Sound ⟨full, s.pos, s.pending⟩ s) (e : step s = .next u) :
    Sound ⟨full, s.pos, s.pending.tail⟩ u := by
  unfold Machine.step at e
  split at e
  case h_1 q =>
    cases e
    rw [q] at h ⊢
    exact h.tick
  case h_2 c rest q =>
    rw [q]
    have taken : Sound ⟨full, s.pos, rest⟩ { s with pending := rest } := { h with pending := rfl }
    exact (taken.exec c).of_eq u e

theorem Inv.step {s u : State} (h : Inv s) (e : step s = .next u) : Inv u := by
  obtain ⟨place, commands, hs⟩ := (inv_iff_sound s).1 h
  have hu := hs.step e
  have pos : u.pos = s.pos := hu.pos
  have pending : u.pending = s.pending.tail := hu.pending
  rw [inv_iff_sound, pos, pending]
  exact ⟨place, fun c hc => commands c (List.mem_of_mem_tail hc), hu⟩

theorem pageVal_core_place (s : State) : s.pageVal .core 0x40 =
    BitVec.ofNat 64 (s.pos.core.toNat + 2 ^ 4 * s.pos.cluster.toNat + 2 ^ 10 * s.pos.chip.toNat) := by
  simp [State.pageVal, State.readCore, regInfo, Nat.mul_comm]

theorem execColdResetRelease_fault {level : Fin 8} {s : State} {f : Fault} (e : execColdResetRelease level s = .fault f) :
    f = .undefinedVcore ∧ s.phase = .coldReset ∧ level = 0 := by
  unfold execColdResetRelease at e
  extract_lets at e
  split at e
  case isTrue => exact absurd e ((Faultless.always ..).ne f)
  case isFalse hp =>
    split at e
    case isTrue hl => cases e; exact ⟨rfl, not_not.1 hp, hl⟩
    case isFalse => exact absurd e ((Faultless.always ..).ne f)

theorem step_fault {s : State} {f : Fault} (e : step s = .fault f) :
    f = .undefinedVcore ∧ s.phase = .coldReset ∧ ∃ rest, s.pending = .coldResetRelease 0 :: rest := by
  unfold Machine.step at e
  split at e
  case h_1 => cases e
  case h_2 c rest q =>
    by_cases hc : ∃ level, c = .coldResetRelease level
    · obtain ⟨level, rfl⟩ := hc
      obtain ⟨hf, hp, rfl⟩ := execColdResetRelease_fault e
      exact ⟨hf, hp, rest, q⟩
    · exact absurd e ((Faultless.exec c _ fun l hl => hc ⟨l, hl⟩).ne f)

/-- Settles O59: every function of the model keeps `Sound`, instruction by instruction. -/
theorem invariantKept : Obligations.InvariantKept := by
  unfold Obligations.InvariantKept
  refine ⟨fun s u e h => h.step e, fun s u e => ?_, pageVal_core_place, fun s f e => step_fault e⟩
  have hu := (Sound.bare s).step e
  exact ⟨hu.pos, hu.pending⟩
end Sys2Proof.Machine
end

section
namespace Sys2Proof.Machine
open Sys2Proof

/-! ## An access of the register window -/

/-- A state with the place and the queue of another. -/
theorem State.sealed_eq {s u : State} (h : Sound ⟨False, s.pos, s.pending⟩ u) : s.sealed u = u := by
  have hp : u.pos = s.pos := h.pos
  have hq : u.pending = s.pending := h.pending
  cases u
  simp_all [State.sealed]

@[simp] theorem State.sealed_self (s : State) : s.sealed s = s := rfl

theorem State.served_iff (s : State) : s.served = true ↔
    (s.phase ≠ .coldReset ∧ s.phase ≠ .testReset ∧ s.phase ≠ .warmReset) ∧ s.tmg.ret = none ∧ s.tmg.waking = none := by
  simp [State.served, and_assoc]

theorem State.portHolds_iff (s : State) :
    s.portHolds = true ↔ s.tmg.ret ≠ none ∨ s.tmg.waking ≠ none ∨ s.noc.inbox ≠ [] := by
  simp [State.portHolds, Option.isSome_iff_ne_none, or_assoc]

theorem access_serves {s : State} {w : Writer} (h : Serves s w) (c : Instr) (t : State) :
    s.access w c t = .next (s.sealed t) := by
  obtain ⟨served, clear⟩ := h
  have open' : ¬ ((w = .driver ∨ w = .otherCore) ∧ s.portHolds = true) := by
    rintro ⟨hw, hp⟩
    obtain ⟨-, ret, waking⟩ := s.served_iff.1 served
    rcases s.portHolds_iff.1 hp with h | h | h
    · exact h ret
    · exact h waking
    · exact h (clear hw)
  simp [State.access, due, served, open']

theorem State.arrived_arrives (s : State) (c : Instr) : Arrived s c (s.sealed (s.arrives c)) := by
  unfold State.arrives State.rouse
  split
  · rename_i e
    refine ⟨rfl, rfl, fun _ => ⟨rfl, rfl⟩, fun l h => ?_⟩
    exact absurd (e.symm.trans h) nofun
  · rename_i l e
    refine ⟨rfl, rfl, fun h => absurd (e.symm.trans h) nofun, fun k h => ?_⟩
    cases e.symm.trans h
    exact ⟨rfl, rfl⟩

theorem access_waits {s : State} {w : Writer} (hw : w = .driver ∨ w = .otherCore)
    (h : s.tmg.ret ≠ none ∨ s.tmg.waking ≠ none ∨ s.noc.inbox ≠ []) (c : Instr) (t : State) :
    s.access w c t = .next (s.sealed (s.arrives c)) := by
  simp [State.access, hw, s.portHolds_iff.2 h]

theorem access_unserved {s : State} {w : Writer} (h : s.served = false)
    (open' : ¬ ((w = .driver ∨ w = .otherCore) ∧ (s.tmg.ret ≠ none ∨ s.tmg.waking ≠ none ∨ s.noc.inbox ≠ [])))
    (c : Instr) (t : State) : s.access w c t = .next s := by
  have open' : ¬ ((w = .driver ∨ w = .otherCore) ∧ s.portHolds = true) := by rwa [s.portHolds_iff]
  simp [State.access, due, h, open']

/-! ## The writers that a register accepts -/

theorem has_acceptsOf (g : WTag) (w : Writer) : (acceptsOf g).has w ↔ g.allows w = true := by
  cases g <;> cases w <;> simp [acceptsOf, Accepts.has, WTag.allows]

theorem acceptsOf_ctrlTag (p : Page) : acceptsOf (ctrlTag p) = ctrlAccepts p := by
  cases p <;> rfl

theorem State.byTag_of_has {s : State} {g : WTag} {w : Writer} (h : (acceptsOf g).has w) (p : Page) (f : State → State) :
    s.byTag p g w f = f s := by
  simp [State.byTag, (has_acceptsOf g w).1 h]

theorem State.byTag_of_not_has {s : State} {g : WTag} {w : Writer} (h : ¬ (acceptsOf g).has w) (hw : w ≠ .otherCore) (p : Page)
    (f : State → State) : s.byTag p g w f = s.refuse p 5 := by
  have h := mt (has_acceptsOf g w).2 h
  simp [State.byTag, h, hw]

theorem State.byTag_otherCore (s : State) (p : Page) (g : WTag) (f : State → State) : s.byTag p g .otherCore f = s := by
  simp [State.byTag, WTag.allows]

theorem State.byOwn_otherCore (s : State) (p : Page) (f : State → State) : s.byOwn p .otherCore f = s.refuse p 5 := by
  simp [State.byOwn, WTag.allows]

theorem State.byOwn_of_has {s : State} {w : Writer} (h : Accepts.md.has w) (p : Page) (f : State → State) :
    s.byOwn p w f = f s := by
  simp [State.byOwn, (has_acceptsOf .md w).1 h]

theorem State.byOwn_of_not_has {s : State} {w : Writer} (h : ¬ Accepts.md.has w) (p : Page) (f : State → State) :
    s.byOwn p w f = s.refuse p 5 := by
  have h := mt (has_acceptsOf .md w).2 h
  simp [State.byOwn, h]

/-! ## Commands by a register write -/

/-- The commands of the built-in tests, whose register has a rule of its own (R335). -/
abbrev bistNames : List String := ["BIST_ROW", "BIST_COLUMN", "BIST_WAY", "BIST_WHOLE_ARRAY"]

/-- A command by a register write is an access of the window behind the register's rule of who may write. -/
theorem exec_command {i : Instr} {w : Writer} {p : Page} {a : Accepts} {mn : String} (h : commandOf i = some (w, p, a, mn))
    (s : State) :
    (mn ∉ bistNames ∧ ∃ g f, a = acceptsOf g ∧ exec i s = s.access w i (s.byTag p g w f)) ∨
      (mn ∈ bistNames ∧ p = .rpr ∧ a = .md ∧ ∃ f, exec i s = s.access w i (s.byOwn p w f)) := by
  cases i with
  | chnHeadWrite | resume | skip | abort | barArrive | spanLoad | spanClear | spanReadBack | spanSetAAndD | calCmdGroup
  | calCmdAll | wcmd | wcmdRefresh | dwcmd | drcmd | wqResume | wqDiscard | moveCmd | mapCmd | scanCmd | verify | switch | trst
  | regDataWrite | pendClr | pendSet | readySend | fatalRaise | pmCmdRead | pmCmdWrite =>
    cases h
    exact .inl ⟨by decide, _, _, rfl, rfl⟩
  | ctrlEn | ctrlQuiesce | ctrlCommit | ctrlRevert =>
    cases h
    exact .inl ⟨by decide, _, _, (acceptsOf_ctrlTag _).symm, rfl⟩
  | bistRow | bistColumn | bistWay | bistWholeArray =>
    cases h
    exact .inr ⟨by decide, rfl, rfl, _, rfl⟩
  | _ => cases h

end Sys2Proof.Machine
end

section
namespace Sys2Proof.Machine
open Sys2Proof

/-! ## A write of the window -/

theorem pageOf_pageNo (p : Page) : pageOf (pageNo p).val = p := by
  cases p <;> rfl

theorem poff_inj {p q : Page} {o k : Nat} (ho : o < 0x1000) (hk : k < 0x1000) (h : poff q k = poff p o) : q = p ∧ k = o := by
  unfold poff at h
  have hn : (pageNo q).val = (pageNo p).val := by omega
  exact ⟨pageNo_inj (Fin.ext hn), by omega⟩

theorem State.reg_setReg_same (s : State) (p : Page) (o : Nat) (v : Word) : (s.setReg p o v).reg p o = v := by
  simp [State.reg, State.setReg]

theorem State.reg_setReg_ne (s : State) {p q : Page} {o k : Nat} (ho : o < 0x1000) (hk : k < 0x1000) (ne : q ≠ p ∨ k ≠ o) (v : Word) :
    (s.setReg p o v).reg q k = s.reg q k := by
  have : poff q k ≠ poff p o := fun e => by
    obtain ⟨rfl, rfl⟩ := poff_inj ho hk e
    simp at ne
  simp [State.reg, State.setReg, this]

/-- A served register write at offset `o` of page `p`. -/
theorem exec_registerWrite {s : State} {w : Writer} (h : Serves s w) {p : Page} {o : Nat} (ho : o < 0x1000) (v : Word) :
    exec (.registerWrite w (BitVec.ofNat 16 (4096 * (pageNo p).val + o)) v) s =
      .next (s.sealed (if o % 8 ≠ 0 then s else s.pageWrite w p o v none)) := by
  have hp := (pageNo p).isLt
  have off : (BitVec.ofNat 16 (4096 * (pageNo p).val + o)).toNat = 4096 * (pageNo p).val + o := by
    rw [BitVec.toNat_ofNat]
    omega
  have page : (4096 * (pageNo p).val + o) / 0x1000 = (pageNo p).val := by omega
  have place : (4096 * (pageNo p).val + o) % 0x1000 = o := by omega
  have align : (4096 * (pageNo p).val + o) % 8 = o % 8 := by omega
  rw [show exec (.registerWrite w _ v) s = s.access w _ _ from rfl, access_serves h, off, State.mmioWrite, page, place, align,
    pageOf_pageNo]

/-- The registers that hold a value and refuse other writers by a rule of their own take firmware at M and the driver. -/
theorem tag_of_ownRule {p : Page} {o : Nat} {i : RegInfo} (h : regInfo p o = some i) (own : ownRule p o = true) :
    i.tag = .md := by
  simp only [ownRule, Bool.or_eq_true, Bool.and_eq_true, decide_eq_true_eq] at own
  rcases own with (rfl | ⟨rfl, rfl⟩) | ⟨rfl, (rfl | rfl) | ⟨h1, h2⟩⟩
  · simp only [regInfo, regPmcRpr] at h
    split_ifs at h <;> cases h <;> rfl
  · cases h; rfl
  · cases h; rfl
  · cases h; rfl
  · have : o ≠ 0x40 ∧ o ≠ 0x48 ∧ o ≠ 0x50 ∧ o ≠ 0x58 ∧ o ≠ 0x60 ∧ o ≠ 0x68 ∧ o ≠ 0x70 := by omega
    simp only [regInfo, regLstScl, this, h1, h2] at h
    simp only [or_self, if_false, and_self, if_true] at h
    split_ifs at h <;> cases h <;> rfl

/-- The places where another core's write sets 0x05 (R244, R258, R276, R335). -/
abbrev Repairs (p : Page) (o : Nat) : Prop :=
  (p = .rpr ∧ 0x40 ≤ o ∧ o < 0x98) ∨ (p = .xlt ∧ (o = 0x40 ∨ o = 0x48 ∨ (0x100 ≤ o ∧ o < 0x200))) ∨ (p = .tmg ∧ o = 0x90)

theorem State.cmdLow_otherCore (s : State) (p : Page) (o : Nat) (v : Word) : s.cmdLow .otherCore p o v = s := by
  cases p <;> simp only [State.cmdLow, State.byTag_otherCore, ite_self]

theorem State.cmdCrk_otherCore (s : State) (o : Nat) (v : Word) : s.cmdCrk .otherCore o v = s := by
  simp only [State.cmdCrk, State.byTag_otherCore, ite_self]

theorem State.cmdHigh_otherCore (s : State) (p : Page) {o : Nat} (v : Word) (who : Option Thread) (ha : o % 8 = 0) (hi : 0x40 ≤ o)
    (hr : regInfo p o = none) :
    s.cmdHigh .otherCore p o v who = if p = .rpr ∧ o < 0x98 then s.refuse p 5 else s := by
  cases p
  case rpr =>
    have : o ≠ 0x40 ∧ o ≠ 0x48 ∧ o ≠ 0x50 ∧ o ≠ 0x58 := by
      refine ⟨?_, ?_, ?_, ?_⟩ <;> (rintro rfl; cases hr)
    by_cases hl : o < 0x98
    · rcases (by omega : o = 0x60 ∨ o = 0x68 ∨ 0x70 ≤ o) with rfl | rfl | h70
      · simp [State.cmdHigh, State.byOwn_otherCore]
      · simp [State.cmdHigh, State.byOwn_otherCore]
      · have : o ≠ 0x60 ∧ o ≠ 0x68 := by omega
        simp [State.cmdHigh, State.byOwn_otherCore, this, h70, hl]
    · have : o ≠ 0x60 ∧ o ≠ 0x68 := by omega
      simp [State.cmdHigh, this, hl]
  all_goals simp [State.cmdHigh, State.byTag_otherCore, State.cmdCrk_otherCore]

theorem State.pageWrite_special_otherCore {s : State} {p : Page} {o : Nat} (hr : regInfo p o = none) (v : Word) (hi : 0x40 ≤ o)
    (hl : o < 0xF00) (ha : o % 8 = 0) :
    s.pageWrite .otherCore p o v none = if p = .rpr ∧ o < 0x98 then s.refuse p 5 else s := by
  have h1 : ¬ o < 0x40 := by omega
  have h2 : ¬ 0xF00 ≤ o := by omega
  simp only [State.pageWrite, h1, h2, if_false, hr]
  cases p
  case scl | tmg | crk | ras | dbg | rpr => exact s.cmdHigh_otherCore _ v none ha hi hr
  case core | thr | stk | wsk | ldl | xlt | irq => exact s.cmdLow_otherCore _ o v
  case til | lst | pmc => rfl

/-- A register that holds a value has a rule of its own exactly at the places where another core's write sets 0x05. -/
theorem ownRule_iff_repairs {p : Page} {o : Nat} {i : RegInfo} (hr : regInfo p o = some i) :
    ownRule p o = true ↔ Repairs p o := by
  have rpr : p = .rpr → 0x40 ≤ o ∧ o < 0x98 := by
    rintro rfl
    simp only [regInfo, regPmcRpr] at hr
    split_ifs at hr <;> omega
  simp only [ownRule, Repairs, Bool.or_eq_true, Bool.and_eq_true, decide_eq_true_eq]
  grind

theorem regInfo_isSome_of_repairs {p : Page} {o : Nat} (h : Repairs p o) (ha : o % 8 = 0) (hp : p ≠ .rpr) :
    ∃ i, regInfo p o = some i := by
  rcases h with ⟨rfl, -⟩ | ⟨rfl, rfl | rfl | ⟨h1, h2⟩⟩ | ⟨rfl, rfl⟩
  · exact absurd rfl hp
  · exact ⟨_, rfl⟩
  · exact ⟨_, rfl⟩
  · have : o ≠ 0x40 ∧ o ≠ 0x48 ∧ o ≠ 0x50 ∧ o ≠ 0x58 ∧ o ≠ 0x60 ∧ o ≠ 0x68 ∧ o ≠ 0x70 := by omega
    by_cases h16 : o % 16 = 0
    · simp [regInfo, regLstScl, this, h1, h2, h16]
    · have h8 : o % 16 = 8 := by omega
      simp [regInfo, regLstScl, this, h1, h2, h8]
  · exact ⟨_, rfl⟩

/-- Another core's write of an aligned place of the window. -/
theorem State.pageWrite_otherCore (s : State) (p : Page) (o : Nat) (v : Word) (ha : o % 8 = 0) :
    (Repairs p o → s.pageWrite .otherCore p o v none = s.refuse p 5) ∧ (¬ Repairs p o → s.pageWrite .otherCore p o v none = s) := by
  by_cases h1 : o < 0x40
  · have : ¬ Repairs p o := by unfold Repairs; omega
    simp [State.pageWrite, State.frameWrite, State.byTag_otherCore, h1, this]
  · by_cases h2 : 0xF00 ≤ o
    · have : ¬ Repairs p o := by unfold Repairs; omega
      simp [State.pageWrite, State.byTag_otherCore, h1, h2, this]
    · cases hr : regInfo p o with
      | none =>
        have : Repairs p o ↔ p = .rpr ∧ o < 0x98 := by
          refine ⟨fun h => ?_, fun h => .inl ⟨h.1, by omega, h.2⟩⟩
          by_cases hp : p = .rpr
          · subst hp
            simpa [Repairs, Nat.not_lt.1 h1] using h
          · obtain ⟨i, hi⟩ := regInfo_isSome_of_repairs h ha hp
            exact absurd (hr.symm.trans hi) nofun
        rw [State.pageWrite_special_otherCore hr v (by omega) (by omega) ha, this]
        exact ⟨fun h => if_pos h, fun h => if_neg h⟩
      | some i =>
        rw [← ownRule_iff_repairs hr]
        simp only [State.pageWrite, h1, h2, if_false, hr, State.byTag_otherCore, State.byOwn_otherCore]
        exact ⟨fun h => if_pos h, fun h => if_neg h⟩

end Sys2Proof.Machine
end

section
namespace Sys2Proof.Machine
open Sys2Proof

/-! ## Common registers, registers that hold a value, and counters -/

theorem has_any {w : Writer} (hw : w ≠ .otherCore) : (acceptsOf .any).has w := by
  cases w with
  | otherCore => exact absurd rfl hw
  | driver => exact .inl rfl
  | firmware => exact .inr (.inl rfl)
  | ownUS => exact .inr (.inr rfl)

theorem State.pageWrite_fixed {o : Nat} (h : o ∈ [0, 0x10, 0x18, 0x30, 0x38]) (s : State) (w : Writer) (p : Page) (v : Word) :
    s.pageWrite w p o v none = s := by
  fin_cases h <;> rfl

theorem State.pageWrite_event {w : Writer} (hw : w ≠ .otherCore) (s : State) (p : Page) (v : Word) :
    s.pageWrite w p 0x20 v none =
      (let f := s.frame p
       let e := f.event &&& ~~~ v
       s.setFrame p { f with event := e, held := decide (e ≠ 0) && f.held, errFatal := decide (e ≠ 0) && f.errFatal }) := by
  have written : s.pageWrite w p 0x20 v none = s.eventClear p v := State.byTag_of_has (has_any hw) p (·.eventClear p v)
  rw [written]
  unfold State.eventClear
  extract_lets f e
  split
  case isTrue he => simp [he]
  case isFalse he => simp only [ne_eq, he, not_false_eq_true, decide_true, Bool.true_and]

theorem State.pageWrite_mask {w : Writer} (hw : w ≠ .otherCore) (s : State) (p : Page) (v : Word) :
    s.pageWrite w p 0x28 v none = s.setFrame p { s.frame p with mask := v } :=
  State.byTag_of_has (s := s) (has_any hw) p fun s => s.setFrame p { s.frame p with mask := v }

theorem State.pageWrite_counter {w : Writer} (hw : w ≠ .otherCore) (s : State) (p : Page) {o : Nat} (h : 0xF00 ≤ o) (v : Word) :
    s.pageWrite w p o v none = s.counterWrite p ((o - 0xF00) / 8) v := by
  have h1 : ¬ o < 0x40 := by omega
  simp only [State.pageWrite, h1, h, if_false, if_true]
  exact State.byTag_of_has (has_any hw) ..

theorem State.pageWrite_empty {p : Page} (hp : p = .til ∨ p = .lst ∨ p = .pmc) {o : Nat} (h1 : 0x40 ≤ o) (h2 : o < 0xF00)
    (hr : regInfo p o = none) (s : State) (w : Writer) (v : Word) : s.pageWrite w p o v none = s := by
  have h1 : ¬ o < 0x40 := by omega
  have h2 : ¬ 0xF00 ≤ o := by omega
  rcases hp with rfl | rfl | rfl <;> simp [State.pageWrite, h1, h2, hr]

theorem State.pageWrite_reg {p : Page} {o : Nat} {i : RegInfo} (h1 : 0x40 ≤ o) (h2 : o < 0xF00) (hr : regInfo p o = some i)
    (s : State) {w : Writer} (hw : w ≠ .otherCore) (v : Word) :
    s.pageWrite w p o v none = open Classical in if (acceptsOf i.tag).has w then s.regPut p o i v else s.refuse p 5 := by
  have h1 : ¬ o < 0x40 := by omega
  have h2 : ¬ 0xF00 ≤ o := by omega
  simp only [State.pageWrite, h1, h2, if_false, hr]
  by_cases own : ownRule p o = true
  · have tag : acceptsOf i.tag = .md := by rw [tag_of_ownRule hr own]; rfl
    rw [if_pos own, tag]
    split
    case isTrue h => exact State.byOwn_of_has h ..
    case isFalse h => exact State.byOwn_of_not_has h ..
  · rw [if_neg own]
    split
    case isTrue h => exact State.byTag_of_has h ..
    case isFalse h => exact State.byTag_of_not_has h hw ..

theorem signExtend_setWidth_48 (x : Word) : (x.setWidth 48).signExtend 64 = BitVec.ofInt 64 (Int.bmod x.toNat (2 ^ 48)) := by
  apply BitVec.eq_of_toInt_eq
  rw [BitVec.toInt_signExtend_of_le (by decide), BitVec.toInt_setWidth, BitVec.toInt_ofInt]
  have low := Int.le_bmod (x := x.toNat) (m := 2 ^ 48) (by decide)
  have high := Int.bmod_lt (x := x.toNat) (m := 2 ^ 48) (by decide)
  rw [Int.bmod_eq_of_le (n := Int.bmod x.toNat (2 ^ 48)) (by omega) (by omega)]

/-- HIWAT and LOWAT in 48 bits (R292). -/
theorem regForm_eq (p : Page) (o : Nat) (x : Word) :
    regForm p o x = if p = .scl ∧ (o = 0x68 ∨ o = 0x70) then BitVec.ofInt 64 (Int.bmod x.toNat (2 ^ 48)) else x := by
  unfold regForm
  rw [signExtend_setWidth_48]

theorem State.regPut_of_unlocked {s : State} {p : Page} {o : Nat} (h : s.lockedBits p o = 0) (i : RegInfo) (v : Word) :
    s.regPut p o i v = s.setReg p o (regForm p o (s.reg p o &&& ~~~ (BitVec.ofNat 64 i.mask &&& ~~~ s.lockedBits p o) |||
      v &&& (BitVec.ofNat 64 i.mask &&& ~~~ s.lockedBits p o))) := if_pos h

theorem State.regPut_of_locked {s : State} {p : Page} {o : Nat} (h : s.lockedBits p o ≠ 0) (i : RegInfo) (v : Word) :
    s.regPut p o i v = (s.setReg p o (regForm p o (s.reg p o &&& ~~~ (BitVec.ofNat 64 i.mask &&& ~~~ s.lockedBits p o) |||
      v &&& (BitVec.ofNat 64 i.mask &&& ~~~ s.lockedBits p o)))).refuse p 5 := if_neg h

/-- A register that holds a value takes the bits that exist and are not locked (R17, R374). -/
theorem State.regPut_reg (s : State) (p : Page) (o : Nat) (i : RegInfo) (v : Word) :
    (s.regPut p o i v).reg p o = regForm p o (s.reg p o &&& ~~~ (BitVec.ofNat 64 i.mask &&& ~~~ s.lockedBits p o) |||
      v &&& (BitVec.ofNat 64 i.mask &&& ~~~ s.lockedBits p o)) := by
  by_cases h : s.lockedBits p o = 0
  · rw [State.regPut_of_unlocked h, State.reg_setReg_same]
  · rw [State.regPut_of_locked h]
    exact State.reg_setReg_same ..

theorem State.regPut_reg_ne (s : State) {p q : Page} {o k : Nat} (ho : o < 0x1000) (hk : k < 0x1000) (ne : q ≠ p ∨ k ≠ o) (i : RegInfo)
    (v : Word) : (s.regPut p o i v).reg q k = s.reg q k := by
  by_cases h : s.lockedBits p o = 0
  · rw [State.regPut_of_unlocked h, State.reg_setReg_ne s ho hk ne]
  · rw [State.regPut_of_locked h]
    exact State.reg_setReg_ne s ho hk ne _

theorem State.regPut_rest (s : State) (p : Page) (o : Nat) (i : RegInfo) (v : Word) :
    (if s.lockedBits p o = 0 then s else s.refuse p 5) = { s.regPut p o i v with shadow := s.shadow } := by
  by_cases h : s.lockedBits p o = 0
  · rw [State.regPut_of_unlocked h, if_pos h]
    rfl
  · rw [State.regPut_of_locked h, if_neg h]
    rfl

theorem Sound.regPut_sealed (s : State) (p : Page) (o : Nat) (i : RegInfo) (v : Word) :
    s.sealed (s.regPut p o i v) = s.regPut p o i v :=
  State.sealed_eq ((Sound.bare s).regPut ..)

/-! ## The thread state that REG_SEL selects -/

theorem State.act_stands (s : State) (t : Thread) :
    (s.act t = 0 ∨ s.act t = 6) ↔ ((s.th t).halted = true ∨ (s.th t).stopped = true) := by
  unfold State.act
  extract_lets h
  change _ ↔ (h.halted = true ∨ h.stopped = true)
  by_cases hh : h.halted = true
  · simp [hh]
  · by_cases hs : h.stopped = true
    · simp [hh, hs]
    · simp only [hh, hs, Bool.false_eq_true, if_false]
      split_ifs <;> simp_all

theorem statOk_iff (v : Word) : statOk v = true ↔ (v.toNat % 4 ≠ 2 ∧ fld v.toNat 8 4 ≤ 16 ∧ v.toNat < 2 ^ 11) := by
  have := v.isLt
  simp only [statOk, Bool.and_eq_true, decide_eq_true_eq, and_assoc]
  simp only [wbits, bits, fld]
  omega

theorem modeOk_iff (v : Word) : modeOk v = true ↔ modeLegal v := by
  have := v.isLt
  simp only [modeOk, Bool.and_eq_true, decide_eq_true_eq]
  simp only [wbits, bits, modeLegal]
  omega

theorem setBits_low (x : BitVec 80) (v : Word) : setBits x 63 0 v.toNat = x.extractLsb' 64 16 ++ v := by
  apply BitVec.eq_of_toNat_eq
  have hx := x.isLt
  have hv := v.isLt
  simp only [setBits, bits, BitVec.toNat_ofNat, BitVec.toNat_append, BitVec.extractLsb'_toNat, Nat.shiftRight_eq_div_pow,
   ]
  rw [← Nat.shiftLeft_add_eq_or_of_lt hv, Nat.shiftLeft_eq]
  omega

theorem setBits_high (x : BitVec 80) (v : Word) : setBits x 79 64 v.toNat = v.setWidth 16 ++ x.setWidth 64 := by
  apply BitVec.eq_of_toNat_eq
  have hx := x.isLt
  have hv := v.isLt
  simp only [setBits, bits, BitVec.toNat_ofNat, BitVec.toNat_append, BitVec.toNat_setWidth]
  rw [← Nat.shiftLeft_add_eq_or_of_lt (by omega), Nat.shiftLeft_eq]
  omega

theorem HThread.put_gpr (h : HThread) (g : GReg) (v : Word) : h.put g.val v = { h with g := vset h.g g v } := by
  fin_cases g <;> rfl

end Sys2Proof.Machine
end

section
namespace Sys2Proof.Machine
open Sys2Proof

/-! ## Bits of a stored program-memory word (R158, R391) -/

theorem nbit_wbits {n : Nat} (x : BitVec n) {hi lo k : Nat} (h : lo + k ≤ hi) : nbit (wbits x hi lo) k = x.getLsbD (lo + k) := by
  have hk : k < hi + 1 - lo := by omega
  have : nbit (wbits x hi lo) k = (wbits x hi lo).testBit k := by rw [Nat.testBit_eq_decide_div_mod_eq]; rfl
  rw [this, wbits, bits, Nat.testBit_mod_two_pow, Nat.testBit_div_two_pow, Nat.add_comm k lo]
  simp [hk, BitVec.getLsbD]

theorem wbit_eq_getLsbD {n : Nat} (x : BitVec n) (i : Nat) : wbit x i = x.getLsbD i := by
  rw [BitVec.getLsbD, Nat.testBit_eq_decide_div_mod_eq]
  rfl

/-- The stored form: the two parity bits over the word. -/
theorem pmEncode_eq (w : IWord) :
    pmEncode w = (BitVec.ofBool (!oddOnes 7 (wbits w 13 7)) ++ (BitVec.ofBool (!oddOnes 7 (wbits w 6 0)) ++ w)).cast (by decide) := by
  apply BitVec.eq_of_toNat_eq
  have hw := w.isLt
  generalize he : (!oddOnes 7 (wbits w 13 7)) = e
  generalize ho : (!oddOnes 7 (wbits w 6 0)) = o
  have ho' : (BitVec.ofBool o ++ w).toNat = b2n o * 2 ^ 14 + w.toNat := by
    rw [BitVec.toNat_append, ← Nat.shiftLeft_add_eq_or_of_lt hw, Nat.shiftLeft_eq]
    cases o <;> rfl
  have hb : b2n o < 2 := by cases o <;> decide
  have hb' : b2n e < 2 := by cases e <;> decide
  rw [pmEncode, he, ho, BitVec.toNat_ofNat, BitVec.toNat_cast, BitVec.toNat_append, ← Nat.shiftLeft_add_eq_or_of_lt (BitVec.isLt _), ho',
    Nat.shiftLeft_eq]
  have : (BitVec.ofBool e).toNat = b2n e := by cases e <;> rfl
  omega

theorem pmEncode_low (w : IWord) {i : Nat} (h : i < 14) : (pmEncode w).getLsbD i = w.getLsbD i := by
  rw [pmEncode_eq, BitVec.getLsbD_cast, BitVec.getLsbD_append, BitVec.getLsbD_append, if_pos (by omega), if_pos h]

theorem pmEncode_lowParity (w : IWord) : (pmEncode w).getLsbD 14 = !oddOnes 7 (wbits w 6 0) := by
  rw [pmEncode_eq, BitVec.getLsbD_cast, BitVec.getLsbD_append, BitVec.getLsbD_append, if_pos (by omega), if_neg (by omega)]
  exact BitVec.getLsbD_ofBool ..

theorem pmEncode_highParity (w : IWord) : (pmEncode w).getLsbD 15 = !oddOnes 7 (wbits w 13 7) := by
  rw [pmEncode_eq, BitVec.getLsbD_cast, BitVec.getLsbD_append, if_neg (by omega)]
  exact BitVec.getLsbD_ofBool ..

theorem popBelow_wbits {n : Nat} (x : BitVec n) (hi lo : Nat) {m : Nat} (h : lo + m ≤ hi + 1) :
    popBelow m (wbits x hi lo) = ((List.range m).map (· + lo)).countP fun i => x.getLsbD i := by
  induction m with
  | zero => rfl
  | succ m ih =>
    rw [popBelow, ih (by omega), nbit_wbits x (by omega), List.range_succ, List.map_append, List.countP_append, List.map_singleton,
      List.countP_singleton, Nat.add_comm m lo]
    rfl

theorem oddOver_snoc (x : BitVec 16) (l : List Nat) (j : Nat) : oddOver x (l ++ [j]) =
    xor (decide ((l.countP fun i => x.getLsbD i) % 2 = 1)) (x.getLsbD j) := by
  rw [oddOver, List.countP_append, List.countP_singleton]
  generalize (l.countP fun i => x.getLsbD i) = c
  cases x.getLsbD j with
  | false => simp
  | true =>
    rw [if_pos rfl, Bool.xor_true, ← decide_not]
    exact decide_eq_decide.2 (by omega)

/-- What PM_CMD.WRITE stores: the word, with its parity bits or with both inverted (R391). -/
def pmStored (w : IWord) (invert : Bool) : BitVec 16 := if invert then pmEncode w ^^^ 0xC000 else pmEncode w

theorem pmStored_low (w : IWord) (invert : Bool) {i : Nat} (h : i < 14) : (pmStored w invert).getLsbD i = w.getLsbD i := by
  cases invert with
  | false => exact pmEncode_low w h
  | true =>
    have : (0xC000 : BitVec 16).getLsbD i = false := by interval_cases i <;> rfl
    rw [pmStored, if_pos rfl, BitVec.getLsbD_xor, pmEncode_low w h, this, Bool.xor_false]

theorem pmStored_setWidth (w : IWord) (invert : Bool) : (pmStored w invert).setWidth 14 = w := by
  apply BitVec.eq_of_getLsbD_eq
  intro i hi
  rw [BitVec.getLsbD_setWidth, pmStored_low w invert hi]
  simp [hi]

/-- A stored word passes a parity check of seven of its bits exactly where the bits were not inverted. -/
theorem pmStored_oddOver (w : IWord) (invert : Bool) {lo j : Nat} (hlo : lo + 7 ≤ 14) (hj : (0xC000 : BitVec 16).getLsbD j = true)
    (parity : (pmEncode w).getLsbD j = !oddOnes 7 (wbits w (lo + 6) lo)) :
    oddOver (pmStored w invert) ((List.range 7).map (· + lo) ++ [j]) = !invert := by
  have low : (((List.range 7).map (· + lo)).countP fun i => (pmStored w invert).getLsbD i) =
      ((List.range 7).map (· + lo)).countP fun i => w.getLsbD i := by
    refine List.countP_congr fun i hi => ?_
    obtain ⟨k, hk, rfl⟩ := List.mem_map.1 hi
    have := List.mem_range.1 hk
    rw [pmStored_low w invert (by omega)]
  have top : (pmStored w invert).getLsbD j = xor (!oddOnes 7 (wbits w (lo + 6) lo)) invert := by
    cases invert with
    | false => simpa [pmStored] using parity
    | true => simp only [pmStored, if_true, BitVec.getLsbD_xor, parity, hj]
  rw [oddOver_snoc, low, top, ← popBelow_wbits w (lo + 6) lo (by omega)]
  change xor (oddOnes 7 (wbits w (lo + 6) lo)) _ = _
  cases oddOnes 7 (wbits w (lo + 6) lo) <;> cases invert <;> rfl

/-! ## PM_CMD (R391) -/

theorem State.pmWord_setPm (s : State) (a b : Nat) (x : BitVec 16) :
    (s.setPm a x).pmWord b = if b = a then x else s.pmWord b := by
  simp [State.pmWord, State.setPm]

theorem State.pmCmdRead_eq (s : State) : s.pmCmdRead = s.setReg .dbg 0x48
    (s.reg .dbg 0x48 &&& 0x1_0000 ||| (s.pmWord ((s.reg .dbg 0x40).toNat % 2 ^ 17)).setWidth 64) := by
  simp [State.pmCmdRead, wbits, bits]

theorem State.pmCmdWrite_eq (s : State) : s.pmCmdWrite = s.setPm ((s.reg .dbg 0x40).toNat % 2 ^ 17)
    (pmStored ((s.reg .dbg 0x48).setWidth 14) ((s.reg .dbg 0x48).getLsbD 16)) := by
  have : wbits (s.reg .dbg 0x40) 16 0 = (s.reg .dbg 0x40).toNat % 2 ^ 17 := by simp [wbits, bits]
  simp only [State.pmCmdWrite, pmStored, wbit_eq_getLsbD, this]

/-! ## PEND_CLR and PEND_SET (R190) -/

theorem edgeMask_getLsbD (n : Nat) : edgeMask.getLsbD n = ((16 ≤ n && n < 28) || (32 ≤ n && n < 64)) := by
  by_cases h : n < 64
  · interval_cases n <;> decide +kernel
  · have : ¬ n < 28 := by omega
    rw [BitVec.getLsbD_of_ge _ _ (by omega)]
    simp [h, this]

theorem State.pendClr_edge (s : State) (v : Word) (n : Nat) : (s.pendClr v).irq.edge.getLsbD n =
    (s.irq.edge.getLsbD n && !(((16 ≤ n && n < 28) || (32 ≤ n && n < 64)) && v.getLsbD n)) := by
  rw [← edgeMask_getLsbD]
  change (s.irq.edge &&& ~~~ (v &&& edgeMask)).getLsbD n = _
  rw [BitVec.getLsbD_and, BitVec.getLsbD_not, BitVec.getLsbD_and, Bool.and_comm (v.getLsbD n)]
  by_cases hn : n < 64
  · simp only [hn, decide_true, Bool.true_and]
  · rw [BitVec.getLsbD_of_ge s.irq.edge n (by omega), Bool.false_and, Bool.false_and]

theorem State.pendSet_edge (s : State) (v : Word) (n : Nat) : (s.pendSet v).irq.edge.getLsbD n =
    (s.irq.edge.getLsbD n || (((16 ≤ n && n < 28) || (32 ≤ n && n < 64)) && v.getLsbD n)) := by
  rw [← edgeMask_getLsbD]
  change (s.irq.edge ||| (v &&& edgeMask)).getLsbD n = _
  rw [BitVec.getLsbD_or, BitVec.getLsbD_and, Bool.and_comm (v.getLsbD n)]

end Sys2Proof.Machine
end

section
namespace Sys2Proof.Machine
open Sys2Proof

/-! ## The register window -/

theorem access_notServed (s : State) (w : Writer) (c : Instr) (t : State) :
    ((w = .driver ∨ w = .otherCore) → (s.tmg.ret ≠ none ∨ s.tmg.waking ≠ none ∨ s.noc.inbox ≠ []) →
      ∃ u, s.access w c t = .next u ∧ Arrived s c u) ∧
    (s.served = false → ¬ ((w = .driver ∨ w = .otherCore) ∧ (s.tmg.ret ≠ none ∨ s.tmg.waking ≠ none ∨ s.noc.inbox ≠ [])) →
      s.access w c t = .next s) :=
  ⟨fun hw h => ⟨_, access_waits hw h c t, s.arrived_arrives c⟩, fun h hw => access_unserved h hw c t⟩

theorem State.refuse_eq (s : State) (p : Page) (k : Nat) :
    s.refuse p k = s.setFrame p { s.frame p with refuse := BitVec.ofNat 8 k } := rfl

theorem exec_command_otherCore_bist {i : Instr} {p : Page} {a : Accepts} {mn : String} (h : commandOf i = some (.otherCore, p, a, mn))
    {s : State} (hs : Serves s .otherCore) (hm : mn ∈ bistNames) : exec i s = .next (s.refuse .rpr 5) := by
  rcases exec_command h s with ⟨hn, -⟩ | ⟨-, rfl, -, f, e⟩
  · exact absurd hm hn
  · rw [e, access_serves hs, State.byOwn_otherCore]
    rfl

theorem exec_command_otherCore {i : Instr} {p : Page} {a : Accepts} {mn : String} (h : commandOf i = some (.otherCore, p, a, mn))
    {s : State} (hs : Serves s .otherCore) (hm : mn ∉ bistNames) : exec i s = .next s := by
  rcases exec_command h s with ⟨-, g, f, -, e⟩ | ⟨hn, -⟩
  · rw [e, access_serves hs, State.byTag_otherCore]
    rfl
  · exact absurd hn hm

theorem exec_command_refused {i : Instr} {w : Writer} {p : Page} {a : Accepts} {mn : String} (h : commandOf i = some (w, p, a, mn))
    {s : State} (hs : Serves s w) (hw : w ≠ .otherCore) (ha : ¬ a.has w) : exec i s = .next (s.refuse p 5) := by
  rcases exec_command h s with ⟨-, g, f, rfl, e⟩ | ⟨-, rfl, rfl, f, e⟩
  · rw [e, access_serves hs, State.byTag_of_not_has ha hw]
    rfl
  · rw [e, access_serves hs, State.byOwn_of_not_has ha]
    rfl

theorem exec_command_access {i : Instr} {w : Writer} {p : Page} {a : Accepts} {mn : String} (h : commandOf i = some (w, p, a, mn))
    (s : State) : ∃ t, exec i s = s.access w i t := by
  rcases exec_command h s with ⟨-, g, f, -, e⟩ | ⟨-, -, -, f, e⟩
  · exact ⟨_, e⟩
  · exact ⟨_, e⟩

/-- The bits of a register that an enabled LDL locks, as R230 names them. -/
theorem State.lockedBits_eq (s : State) (p : Page) {o : Nat} (h : 0x40 ≤ o) : s.lockedBits p o =
    if p = .ldl ∧ (s.frame p).en = true ∧ 0x40 ≤ o ∧ o < 0x140 then
      (if o % 0x40 = 0 then 0x3E else if o % 0x40 = 8 then 0xFFFF_FFFF_FFFF_FFFF else 0) else 0 := by
  unfold State.lockedBits
  by_cases hp : p = .ldl
  · subst hp
    simp [h, State.en]
  · simp [hp]

theorem exec_regDataRead {s : State} {w : Writer} (h : Serves s w) :
    exec (.regDataRead w) s = .next (if s.regDataCode none = 0 then s else s.refuse .thr (s.regDataCode none)) := by
  rw [show exec (.regDataRead w) s = s.access w _ _ from rfl, access_serves h, State.regDataRead]
  by_cases hc : s.regDataCode none = 0
  · rw [if_pos hc, if_neg (not_not.2 hc)]
    rfl
  · rw [if_neg hc, if_pos hc]
    rfl

theorem exec_regDataWrite {s : State} {w : Writer} (h : Serves s w) (hw : w = .driver ∨ w = .firmware) (v : Word) :
    exec (.regDataWrite w v) s = .next (if s.regDataCode (some v) = 0 then
      s.setTh s.selThread ((s.th s.selThread).put s.selIndex v) else s.refuse .thr (s.regDataCode (some v))) := by
  have written : s.byTag .thr .md w (·.regDataWrite v) = s.regDataWrite v :=
    State.byTag_of_has (g := .md) hw .thr (·.regDataWrite v)
  rw [show exec (.regDataWrite w v) s = s.access w _ (s.byTag .thr .md w (·.regDataWrite v)) from rfl, access_serves h, written,
    State.regDataWrite]
  by_cases hc : s.regDataCode (some v) = 0
  · rw [if_pos hc, if_neg (not_not.2 hc)]
    rfl
  · rw [if_neg hc, if_pos hc]
    rfl

/-- The first refusal of REG_DATA (R377, log 108), with the value that is written judged by `bad`. -/
def State.regDataRefusal (s : State) (bad : Bool) : Nat :=
  if 0x20 < s.selIndex ∨ bad = true then 1 else if s.en .thr = false then 3
  else if (s.th s.selThread).halted = false ∧ (s.th s.selThread).stopped = false then 4 else 0

theorem State.regDataRefusal_eq (s : State) (bad : Bool) : (if 0x20 < s.selIndex ∨ bad = true then 1 else if !s.en .thr then 3
    else if s.act s.selThread = 0 ∨ s.act s.selThread = 6 then 0 else 4) = s.regDataRefusal bad := by
  have runs : ¬ ((s.th s.selThread).halted = true ∨ (s.th s.selThread).stopped = true) ↔
      ((s.th s.selThread).halted = false ∧ (s.th s.selThread).stopped = false) := by simp
  simp only [State.regDataRefusal, State.act_stands, ← runs, Bool.not_eq_true', ite_not]

theorem State.regDataCode_none (s : State) : s.regDataCode none = s.regDataRefusal false := s.regDataRefusal_eq false

theorem State.regDataCode_some (s : State) (v : Word) : s.regDataCode (some v) = s.regDataRefusal
    (decide ((s.selIndex = 0x15 ∧ ¬ (v.toNat % 4 ≠ 2 ∧ fld v.toNat 8 4 ≤ 16 ∧ v.toNat < 2 ^ 11)) ∨
      (s.selIndex = 0x16 ∧ ¬ modeLegal v))) := by
  have bad : decide ((s.selIndex = 0x15 ∧ ¬ (v.toNat % 4 ≠ 2 ∧ fld v.toNat 8 4 ≤ 16 ∧ v.toNat < 2 ^ 11)) ∨
      (s.selIndex = 0x16 ∧ ¬ modeLegal v)) = ((s.selIndex = 0x15 && !statOk v) || (s.selIndex = 0x16 && !modeOk v)) := by
    rw [Bool.eq_iff_iff]
    simp only [← statOk_iff, ← modeOk_iff, decide_eq_true_eq, Bool.or_eq_true, Bool.and_eq_true, Bool.not_eq_true', Bool.not_eq_true]
  rw [bad]
  exact s.regDataRefusal_eq _

/-! What a write of REG_DATA makes of the selected thread (R377). -/

theorem HThread.put_acc (h : HThread) (v : Word) :
    h.put 0x10 v = { h with a := vset h.a 0 (h.a[0].extractLsb' 64 16 ++ v) } ∧
    h.put 0x11 v = { h with a := vset h.a 0 (v.setWidth 16 ++ h.a[0].setWidth 64) } ∧
    h.put 0x12 v = { h with a := vset h.a 1 (h.a[1].extractLsb' 64 16 ++ v) } ∧
    h.put 0x13 v = { h with a := vset h.a 1 (v.setWidth 16 ++ h.a[1].setWidth 64) } := by
  simp only [HThread.put, setBits_low, setBits_high]
  exact ⟨rfl, rfl, rfl, rfl⟩

theorem HThread.put_stat (h : HThread) (v : Word) :
    { h.put 0x15 v with quietCnt := h.quietCnt, quietFired := h.quietFired } = { h with stat := v } := rfl

theorem HThread.put_loop (h : HThread) (l : Fin 2) (v : Word) :
    h.put (0x17 + 3 * l.val) v = { h with lc := vset h.lc l (v.setWidth 32) } ∧
    h.put (0x18 + 3 * l.val) v = { h with ls := vset h.ls l (v.setWidth 17) } ∧
    h.put (0x19 + 3 * l.val) v = { h with le := vset h.le l (v.setWidth 17) } := by
  fin_cases l <;> exact ⟨rfl, rfl, rfl⟩

/-! ## PEND_CLR, PEND_SET and PM_CMD -/

theorem exec_pendClr {s : State} {w : Writer} (h : Serves s w) (hw : ownWriter w) (v : Word) :
    exec (.pendClr w v) s = .next (s.pendClr v) := by
  rw [show exec (.pendClr w v) s = s.access w _ (s.byTag .irq .any w (·.pendClr v)) from rfl, access_serves h,
    State.byTag_of_has (g := .any) hw]
  rfl

theorem exec_pendSet {s : State} {w : Writer} (h : Serves s w) (hw : ownWriter w) (v : Word) :
    exec (.pendSet w v) s = .next (s.pendSet v) := by
  rw [show exec (.pendSet w v) s = s.access w _ (s.byTag .irq .any w (·.pendSet v)) from rfl, access_serves h,
    State.byTag_of_has (g := .any) hw]
  rfl

theorem State.pmCmd_read (s : State) : s.pmCmd 1 = if s.en .dbg = false then s.refuse .dbg 3 else s.pmCmdRead := by
  have b0 : wbit (1 : Word) 0 = true := by decide
  have b1 : wbit (1 : Word) 1 = false := by decide
  simp only [State.pmCmd, b0, b1, Bool.and_false, Bool.false_eq_true, if_false, if_true, Bool.not_eq_true']

theorem State.pmCmd_write (s : State) : s.pmCmd 2 = if s.en .dbg = false then s.refuse .dbg 3 else s.pmCmdWrite := by
  have b0 : wbit (2 : Word) 0 = false := by decide
  have b1 : wbit (2 : Word) 1 = true := by decide
  simp only [State.pmCmd, b0, b1, Bool.false_and, Bool.false_eq_true, if_false, if_true, Bool.not_eq_true']

theorem exec_pmCmdRead {s : State} {w : Writer} (h : Serves s w) (hw : w = .driver ∨ w = .firmware) :
    exec (.pmCmdRead w) s = .next (if s.en .dbg = false then s.refuse .dbg 3 else s.pmCmdRead) := by
  rw [show exec (.pmCmdRead w) s = s.access w _ (s.byTag .dbg .md w (·.pmCmd 1)) from rfl, access_serves h,
    State.byTag_of_has (g := .md) hw, State.sealed_eq ((Sound.bare s).pmCmd ..), State.pmCmd_read]

theorem exec_pmCmdWrite {s : State} {w : Writer} (h : Serves s w) (hw : w = .driver ∨ w = .firmware) :
    exec (.pmCmdWrite w) s = .next (if s.en .dbg = false then s.refuse .dbg 3 else s.pmCmdWrite) := by
  rw [show exec (.pmCmdWrite w) s = s.access w _ (s.byTag .dbg .md w (·.pmCmd 2)) from rfl, access_serves h,
    State.byTag_of_has (g := .md) hw, State.sealed_eq ((Sound.bare s).pmCmd ..), State.pmCmd_write]

end Sys2Proof.Machine
end

section
namespace Sys2Proof.Machine
open Sys2Proof

/-! ## The register window, clause by clause -/

/-- The commands by a register write, served or not, accepted or turned away (R279, R335, R367). -/
theorem commands_turnAway (s : State) : ∀ i w p a mn, commandOf i = some (w, p, a, mn) →
    (((w = .driver ∨ w = .otherCore) → (s.tmg.ret ≠ none ∨ s.tmg.waking ≠ none ∨ s.noc.inbox ≠ []) →
        ∃ u, exec i s = .next u ∧ Arrived s i u) ∧
      (s.served = false → ¬ ((w = .driver ∨ w = .otherCore) ∧ (s.tmg.ret ≠ none ∨ s.tmg.waking ≠ none ∨ s.noc.inbox ≠ [])) →
        exec i s = .next s)) ∧
    (Serves s w → w = .otherCore → mn ∈ bistNames → exec i s = .next (s.refuse .rpr 5)) ∧
    (Serves s w → w = .otherCore → mn ∉ bistNames → exec i s = .next s) ∧
    (Serves s w → w ≠ .otherCore → ¬ a.has w → exec i s = .next (s.refuse p 5)) := by
  intro i w p a mn h
  obtain ⟨t, e⟩ := exec_command_access h s
  refine ⟨e ▸ access_notServed s w i t, fun hs hw hm => ?_, fun hs hw hm => ?_, fun hs hw ha => exec_command_refused h hs hw ha⟩
  · subst hw
    exact exec_command_otherCore_bist h hs hm
  · subst hw
    exact exec_command_otherCore h hs hm

/-- Registers that hold a value (R17, R230, R292, R374). -/
theorem exec_registerWrite_reg {s : State} {w : Writer} (h : Serves s w) (hw : w ≠ .otherCore) {p : Page} {o : Nat} (ho : o < 0x1000)
    (ha : o % 8 = 0) (h1 : 0x40 ≤ o) (h2 : o < 0xF00) {i : RegInfo} (hr : regInfo p o = some i) (v : Word) :
    (¬ (acceptsOf i.tag).has w →
      exec (.registerWrite w (BitVec.ofNat 16 (4096 * (pageNo p).val + o)) v) s = .next (s.refuse p 5)) ∧
    ((acceptsOf i.tag).has w →
      exec (.registerWrite w (BitVec.ofNat 16 (4096 * (pageNo p).val + o)) v) s = .next (s.regPut p o i v)) := by
  rw [exec_registerWrite h ho, if_neg (not_not.2 ha), State.pageWrite_reg h1 h2 hr s hw]
  refine ⟨fun hn => ?_, fun hy => ?_⟩
  · rw [if_neg hn]
    rfl
  · rw [if_pos hy, Sound.regPut_sealed]

theorem State.setReg_rest (s : State) (p : Page) (o : Nat) (v : Word) : { s.setReg p o v with shadow := s.shadow } = s := rfl

theorem State.selThread_eq (s : State) : s.selThread = Fin.ofNat 4 ((s.reg .thr 0x50).toNat % 4) := by
  simp [State.selThread, wbits, bits]

/-- Settles O56: the clauses are the lemmas about an access of the window, by who writes and what stands at the place. -/
theorem registerWindow : Obligations.RegisterWindow := by
  unfold Obligations.RegisterWindow
  intro s
  extract_lets refuses waits outside unserved sel t i h code edge a d
  refine ⟨commands_turnAway s, fun w o v => ⟨access_notServed s w _ _, access_notServed s w _ _⟩, ?window, ?selected, ?pend, ?pm⟩
  case window =>
    intro w p o v hs ho
    extract_lets put f locked repair formed e k
    have hput : put = .next (s.sealed (if o % 8 ≠ 0 then s else s.pageWrite w p o v none)) := exec_registerWrite hs ho v
    have aligned (ha : o % 8 = 0) : put = .next (s.sealed (s.pageWrite w p o v none)) := by rw [hput, if_neg (not_not.2 ha)]
    refine ⟨fun ha => by rw [hput, if_pos ha]; rfl, fun hw ha => ?_, fun hw ha => ⟨fun hf => ?_, fun he => ?_, fun hm => ?_,
      fun h1 h2 i hr => ?_, fun h1 h2 hr hp => ?_, fun h3 => ?_⟩⟩
    · subst hw
      obtain ⟨yes, no⟩ := s.pageWrite_otherCore p o v ha
      refine ⟨fun hrep => ?_, fun hrep => ?_⟩
      · rw [aligned ha, yes hrep]
        rfl
      · rw [aligned ha, no hrep]
        rfl
    · rw [aligned ha, State.pageWrite_fixed hf]
      rfl
    · subst he
      rw [aligned ha, State.pageWrite_event hw]
      rfl
    · subst hm
      rw [aligned ha, State.pageWrite_mask hw]
      rfl
    · obtain ⟨no, yes⟩ := exec_registerWrite_reg hs hw ho ha h1 h2 hr v
      have hl : s.lockedBits p o = locked := s.lockedBits_eq p h1
      refine ⟨no, fun hy => ⟨s.regPut p o i v, yes hy, ?_, fun q k hk ne => s.regPut_reg_ne ho hk ne i v, ?_⟩⟩
      · rw [State.regPut_reg, regForm_eq, hl]
      · rw [← hl]
        exact s.regPut_rest p o i v
    · rw [aligned ha, State.pageWrite_empty hp h1 h2 hr]
      rfl
    · rw [aligned ha, State.pageWrite_counter hw s p h3]
      refine ⟨fun hk => ?_, fun hk hp => ?_⟩
      · rw [State.counterWrite, if_pos hk]
        rfl
      · have : ¬ (p = .scl ∧ 1 ≤ k ∧ k ≤ 8) := by
          rintro ⟨rfl, h1, h8⟩
          simp only [ne_eq, not_true_eq_false, false_or] at hp
          omega
        rw [State.counterWrite, if_neg (Nat.not_le.2 hk), if_neg this]
        rfl
  case selected =>
    have hsel : s.selThread = t := s.selThread_eq
    have hcode (b : Bool) : s.regDataRefusal b = code b := by
      unfold State.regDataRefusal
      rw [hsel]
      rfl
    refine ⟨fun w hs => ?_, fun w v hs hw => ?_⟩
    · rw [exec_regDataRead hs, State.regDataCode_none, hcode]
      rfl
    · extract_lets bad
      have he := exec_regDataWrite hs hw v
      rw [State.regDataCode_some, hcode, hsel] at he
      change exec (.regDataWrite w v) s = .next (if code bad = 0 then s.setTh t (h.put i v) else refuses .thr (code bad)) at he
      refine ⟨fun hb => he.trans (by rw [if_neg hb]), fun hb => ?_⟩
      rw [if_pos hb] at he
      have ht : (s.setTh t (h.put i v)).th t = h.put i v := State.th_setTh ..
      refine ⟨s.setTh t (h.put i v), he, fun v ne => State.th_setTh_ne s _ ne, rfl, ?_⟩
      intro k
      have hk : k = h.put i v := ht
      clear_value k i
      subst hk
      obtain ⟨a0, a1, a2, a3⟩ := h.put_acc v
      refine ⟨?_, ?_, ?_, ?_, ?_, ?_, ?_, ?_, fun l => ⟨?_, ?_, ?_⟩, ?_, ?_, ?_, ?_⟩
      · rintro g rfl
        exact h.put_gpr g v
      · rintro rfl
        exact a0
      · rintro rfl
        exact a1
      · rintro rfl
        exact a2
      · rintro rfl
        exact a3
      · rintro rfl
        rfl
      · rintro rfl
        exact h.put_stat v
      · rintro rfl
        rfl
      · rintro rfl
        exact (h.put_loop l v).1
      · rintro rfl
        exact (h.put_loop l v).2.1
      · rintro rfl
        exact (h.put_loop l v).2.2
      · rintro rfl
        rfl
      · rintro rfl
        exact ⟨rfl, rfl, rfl⟩
      · rintro rfl
        rfl
      · rintro rfl
        rfl
  case pend =>
    intro w v hs hw
    exact ⟨⟨_, exec_pendClr hs hw v, rfl, s.pendClr_edge v⟩, ⟨_, exec_pendSet hs hw v, rfl, s.pendSet_edge v⟩⟩
  case pm =>
    intro w hs hw
    have hr := exec_pmCmdRead hs hw
    have hw := exec_pmCmdWrite hs hw
    refine ⟨fun he => ?_, fun he => ⟨⟨s.pmCmdRead, ?_, ?_, ?_, fun q k hk ne => ?_⟩, s.pmCmdWrite, ?_, ?_⟩⟩
    · rw [if_pos he] at hr hw
      exact ⟨hr, hw⟩
    · rw [hr, if_neg (by simp [he])]
    · rw [State.pmCmdRead_eq]
      exact State.setReg_rest ..
    · rw [State.pmCmdRead_eq, State.reg_setReg_same]
    · exact State.reg_setReg_ne s (by decide) hk ne _
    · rw [hw, if_neg (by simp [he])]
    · rw [State.pmCmdWrite_eq, State.pmWord_setPm, if_pos rfl]
      refine ⟨rfl, fun b hb => (State.pmWord_setPm ..).trans (if_neg hb), pmStored_setWidth .., ?_, ?_⟩
      · exact pmStored_oddOver (lo := 0) (j := 14) _ _ (by decide) (by decide) (pmEncode_lowParity _)
      · exact pmStored_oddOver (lo := 7) (j := 15) _ _ (by decide) (by decide) (pmEncode_highParity _)

end Sys2Proof.Machine
end

section
namespace Sys2Proof.Machine
open Sys2Proof

/-! ## A warm reset that meets a write of the inactive slot -/

/-- A firmware write of the first line of slot B. -/
def slotBEntry : WqEntry := { ticket := 0, op := .write 0x1_0000 0, mc := false, drv := false }

/-- Slot A is active; slot B has passed its verify, with a write of it that was queued before still in progress.  No verify
runs. -/
def passedWhileWriting : State :=
  { State.reset with
    phase := .run
    crst := false
    crk := { Crock.reset with
      vpass := true, vres := 1, next := 1, queue := [slotBEntry]
      now := some { entry := slotBEntry, line := 0, rewrites := 0, raw := false } } }

/-- The reset completes the write (R309), and a write of the inactive slot takes its pass away (R328), whatever the write
leaves on the media. -/
theorem warmReset_passedWhileWriting {u : State} (h : exec .warmReset passedWhileWriting = .next u) : u.crk.vpass = false := by
  have lost : (match exec .warmReset passedWhileWriting with | .next u => u.crk.vpass | _ => true) = false := by decide +kernel
  rwa [h] at lost

/-- Refutes O54: with no verify running, a warm reset is to keep VPASS, but the line write in progress, which it completes,
is one of the inactive slot and clears VPASS (R309, R328). -/
theorem not_resetsAndWrapper : ¬ Obligations.ResetsAndWrapper := by
  unfold Obligations.ResetsAndWrapper
  intro h
  obtain ⟨-, -, warm, -⟩ := h passedWhileWriting
  have released : ¬ (passedWhileWriting.phase = .coldReset ∨ passedWhileWriting.phase = .testReset) := by decide
  obtain ⟨u, reset, -, -, -, -, -, -, -, -, -, -, -, keeps, -⟩ := warm released
  have kept : (u.crk.vpass, u.crk.vres) = (passedWhileWriting.crk.vpass, passedWhileWriting.crk.vres) := keeps rfl
  have pass : u.crk.vpass = true := congrArg Prod.fst kept
  exact absurd pass (by simp [warmReset_passedWhileWriting reset])

end Sys2Proof.Machine
end

section
namespace Sys2Proof.Machine
open Sys2Proof

/-! ## Rounding to an integer (R45, R70, R136) -/

/-- Rounding gives the floor of the quotient or, where there is a remainder, the integer above it. -/
theorem rndPow2_floor_or_ceil {r : Rnd} (hr : r ≠ .reserved) {u : Nat} (hu : u < 2 ^ 24) (x : ℤ) (k : Nat) :
    rndPow2 r u x k = x / 2 ^ k ∨ (x % 2 ^ k ≠ 0 ∧ rndPow2 r u x k = x / 2 ^ k + 1) := by
  unfold rndPow2
  by_cases h : x % 2 ^ k = 0
  · simp [h]
  · simp only [h, if_false, ne_eq, not_false_eq_true, true_and]
    cases r with
    | reserved => exact absurd rfl hr
    | rne => grind
    | rtz => grind
    | up => exact .inr rfl
    | odd => grind
    | stoch =>
      have pos : (0 : ℤ) < 2 ^ k := by positivity
      have split : x * 2 ^ 24 / 2 ^ k = x / 2 ^ k * 2 ^ 24 + x % 2 ^ k * 2 ^ 24 / 2 ^ k := by
        conv_lhs => rw [← Int.mul_ediv_add_emod x (2 ^ k)]
        rw [add_mul, mul_assoc, Int.add_comm, Int.add_mul_ediv_left _ _ pos.ne', Int.add_comm]
      have low : 0 ≤ x % 2 ^ k * 2 ^ 24 / 2 ^ k :=
        Int.ediv_nonneg (mul_nonneg (Int.emod_nonneg _ pos.ne') (by norm_num)) pos.le
      have high : x % 2 ^ k * 2 ^ 24 / 2 ^ k < 2 ^ 24 :=
        Int.ediv_lt_of_lt_mul pos (by linarith [Int.emod_lt_of_pos x pos])
      simp only [split]
      omega

theorem rndPow2_mul_eq_iff (r : Rnd) (u : Nat) (x : ℤ) (k : Nat) : rndPow2 r u x k * 2 ^ k = x ↔ x % 2 ^ k = 0 := by
  constructor
  · intro h
    rw [← h]
    exact Int.mul_emod_left ..
  · intro h
    simp only [rndPow2, h, if_true]
    exact Int.ediv_mul_cancel (Int.dvd_of_emod_eq_zero h)

theorem two_zpow_units {e g : ℤ} (h : g ≤ e) : (2 : ℚ) ^ e = 2 ^ (e - g).toNat * 2 ^ g := by
  rw [← zpow_natCast, ← zpow_add₀ two_ne_zero, Int.toNat_of_nonneg (by omega), sub_add_cancel]

/-- Rounding keeps the number exactly where it is one of the units. -/
theorem inUnits_mul_eq_iff (r : Rnd) (u : Nat) (x e g : ℤ) :
    (inUnits r u x e g : ℚ) * 2 ^ g = x * 2 ^ e ↔ g ≤ e ∨ x % 2 ^ (g - e).toNat = 0 := by
  by_cases h : g ≤ e
  · rw [inUnits, if_pos h, two_zpow_units h]
    push_cast
    simp [h, mul_assoc]
  · rw [inUnits, if_neg h, two_zpow_units (not_le.1 h).le, ← mul_assoc, mul_left_inj' (by positivity)]
    simp only [h, false_or]
    exact_mod_cast rndPow2_mul_eq_iff r u x (g - e).toNat

theorem le_inUnits {r : Rnd} (hr : r ≠ .reserved) {u : Nat} (hu : u < 2 ^ 24) {x e g n : ℤ}
    (h : (n : ℚ) * 2 ^ g ≤ x * 2 ^ e) : n ≤ inUnits r u x e g := by
  by_cases hg : g ≤ e
  · rw [two_zpow_units hg, ← mul_assoc, mul_le_mul_iff_left₀ (by positivity)] at h
    rw [inUnits, if_pos hg]
    exact_mod_cast h
  · rw [two_zpow_units (not_le.1 hg).le, ← mul_assoc, mul_le_mul_iff_left₀ (by positivity)] at h
    have floor : n ≤ x / 2 ^ (g - e).toNat := (Int.le_ediv_iff_mul_le (by positivity)).2 (by exact_mod_cast h)
    rw [inUnits, if_neg hg]
    rcases rndPow2_floor_or_ceil hr hu x (g - e).toNat with rounded | ⟨-, rounded⟩ <;> omega

theorem inUnits_le {r : Rnd} (hr : r ≠ .reserved) {u : Nat} (hu : u < 2 ^ 24) {x e g n : ℤ}
    (h : (x : ℚ) * 2 ^ e ≤ n * 2 ^ g) : inUnits r u x e g ≤ n := by
  by_cases hg : g ≤ e
  · rw [two_zpow_units hg, ← mul_assoc, mul_le_mul_iff_left₀ (by positivity)] at h
    rw [inUnits, if_pos hg]
    exact_mod_cast h
  · rw [two_zpow_units (not_le.1 hg).le, ← mul_assoc, mul_le_mul_iff_left₀ (by positivity)] at h
    have pos : (0 : ℤ) < 2 ^ (g - e).toNat := by positivity
    have h : x ≤ n * 2 ^ (g - e).toNat := by exact_mod_cast h
    have floor : x / 2 ^ (g - e).toNat ≤ n := Int.ediv_le_of_le_mul pos h
    rw [inUnits, if_neg hg]
    rcases rndPow2_floor_or_ceil hr hu x (g - e).toNat with rounded | ⟨ne, rounded⟩
    · omega
    · have below : x / 2 ^ (g - e).toNat ≠ n := by
        rintro rfl
        have := Int.ediv_mul_le x pos.ne'
        exact ne (by rw [Int.emod_def, mul_comm]; omega)
      omega

theorem Val.rat_fin (n : Bool) (m : Nat) (e : ℤ) : (Val.fin n m e).rat = ((if n then -(m : ℤ) else m : ℤ) : ℚ) * 2 ^ e := by
  cases n <;> simp [Val.rat]

/-- The model's rounding to units and its inexact flag. -/
theorem roundUnits_eq (r : Rnd) (u : Nat) (n : Bool) (m : Nat) (e g : ℤ) :
    roundUnits r u n m e g = (inUnits r u (if n then -(m : ℤ) else m) e g,
      decide ((inUnits r u (if n then -(m : ℤ) else m) e g : ℚ) * 2 ^ g ≠ (Val.fin n m e).rat)) := by
  rw [Val.rat_fin]
  simp only [ne_eq, inUnits_mul_eq_iff, roundUnits]
  by_cases h : g ≤ e
  · simp [h, inUnits]
  · simp [h, inUnits, rndInexact]

/-! ## The draw and the slot's rounding modes (R61, R72) -/

/-- The sum that the draw starts from. -/
theorem toNat_seeded (seed a b : Word) (i j : Nat) :
    (seed + BitVec.ofNat 64 i * a + BitVec.ofNat 64 j * b).toNat = (seed.toNat + i * a.toNat + j * b.toNat) % 2 ^ 64 := by
  simp [BitVec.toNat_add, BitVec.toNat_mul, Nat.add_mod, Nat.mul_mod]

/-- One mixing step of the draw. -/
theorem toNat_mixed (x c : Word) (k : Nat) :
    ((x ^^^ (x >>> k)) * c).toNat = (x.toNat ^^^ x.toNat / 2 ^ k) * c.toNat % 2 ^ 64 := by
  rw [BitVec.toNat_mul, BitVec.toNat_xor, BitVec.toNat_ushiftRight, Nat.shiftRight_eq_div_pow]

theorem wbits_top (x : Word) : wbits x 63 40 = x.toNat / 2 ^ 40 :=
  Nat.mod_eq_of_lt (Nat.div_lt_of_lt_mul (by have := x.isLt; omega))

theorem draw_eq (seed : Word) (row col pos : Nat) : draw seed row col pos = drawOf seed.toNat row col pos := by
  simp only [draw]
  rw [wbits_top, BitVec.toNat_xor, BitVec.toNat_ushiftRight, Nat.shiftRight_eq_div_pow, toNat_mixed, toNat_mixed, toNat_seeded]
  rfl

theorem draw_lt (seed : Word) (row col pos : Nat) : draw seed row col pos < 2 ^ 24 := Nat.mod_lt _ (by norm_num)

theorem slotRnd_eq (c : BitVec 2) :
    slotRnd c = if c = 0 then .rne else if c = 1 then .rtz else if c = 2 then .odd else .stoch := by
  revert c
  decide

theorem slotRnd_ne_reserved (c : BitVec 2) : slotRnd c ≠ .reserved := by
  revert c
  decide

end Sys2Proof.Machine
end

section
namespace Sys2Proof.Machine
open Sys2Proof

/-! ## Formats (R23, R25) -/

theorem isMx_iff (code : Nat) : isMx code = true ↔ mxCode code := by simp [isMx]

theorem elemBits_eq {code : Nat} (h : code < 15) : elemBits code = codeBits code := by
  revert code
  decide

theorem fmtOf_mx {code : Nat} (h : mxCode code) : fmtOf code = fmtOf (code - 9) := by
  obtain ⟨low, high⟩ := h
  interval_cases code <;> rfl

/-- What the manual's tables say of the float format of a code: exponent and fraction bits, bias, which encodings of a
magnitude are no number, and what stands for overflow and NaN (R23, R25, R70). -/
structure FloatCode (code eb mb bias : Nat) (k : Special) : Prop where
  shape : floatShape code = some (eb, mb, bias)
  fmt : fmtOf code = .flt eb mb bias k
  code_ne : code ≠ 5 ∧ ¬ mxCode code
  width : codeBits code = eb + mb + 1
  beyond : ∀ n sat, (Fmt.flt eb mb bias k).overflow n sat =
    (if sat then codeMax code else codeInf code) + if n then 2 ^ (eb + mb) else 0
  nan : (Fmt.flt eb mb bias k).nanBits = codeNan code
  maxBits : (Fmt.flt eb mb bias k).maxBits = codeMax code
  max_lt : codeMax code < 2 ^ (eb + mb)
  special : ∀ ef m, ef < 2 ^ eb → m < 2 ^ mb →
    ((if code = 0 then ef = 15 ∧ m = 7 else if 2 ≤ code ∧ code ≤ 4 then False else ef = 2 ^ eb - 1) ↔
      codeMax code < ef * 2 ^ mb + m)
  kind : k = if code = 0 then .e4m3 else if 2 ≤ code ∧ code ≤ 4 then .plain else .ieee
  small : code = 0 → eb = 4 ∧ mb = 3
  eb_pos : 0 < eb

theorem floatCode_of_shape {code eb mb bias : Nat} (h : floatShape code = some (eb, mb, bias)) :
    ∃ k, FloatCode code eb mb bias k := by
  have cases : code = 0 ∨ code = 1 ∨ code = 2 ∨ code = 3 ∨ code = 4 ∨ code = 6 ∨ code = 7 ∨ code = 8 := by
    by_contra none
    simp only [not_or] at none
    obtain ⟨n0, n1, n2, n3, n4, n6, n7, n8⟩ := none
    simp [floatShape] at h
  refine ⟨if code = 0 then .e4m3 else if 2 ≤ code ∧ code ≤ 4 then .plain else .ieee, ?_⟩
  rcases cases with rfl | rfl | rfl | rfl | rfl | rfl | rfl | rfl
  all_goals
    cases h
    refine ⟨rfl, rfl, by decide, rfl, by decide, rfl, rfl, by decide, fun ef m he hm => ?_, rfl, by decide, by decide⟩
    norm_num [codeMax] at he hm ⊢
    try omega

/-- A code that is neither reserved nor an MX code has a float format or is INT8. -/
theorem floatCode_or_int8 {code : Nat} (h : code < 9) : code = 5 ∨ ∃ eb mb bias k, FloatCode code eb mb bias k := by
  by_cases five : code = 5
  · exact .inl five
  · have shaped : ∀ c < 9, c ≠ 5 → (floatShape c).isSome = true := by decide
    obtain ⟨⟨eb, mb, bias⟩, shape⟩ := Option.isSome_iff_exists.1 (shaped code h five)
    exact .inr ⟨eb, mb, bias, floatCode_of_shape shape⟩

end Sys2Proof.Machine
end

section
namespace Sys2Proof.Machine
open Sys2Proof

/-! ## Elements stand for their values (R24 to R26) -/

theorem nbit_eq_testBit (x i : Nat) : nbit x i = x.testBit i := by
  simp [nbit, Nat.testBit_eq_decide_div_mod_eq]

/-- A finite float: its number and its sign. -/
theorem floatVal_spec (mb bias : Nat) (n : Bool) (ef m : Nat) :
    (floatVal mb bias n ef m).isFin ∧ (floatVal mb bias n ef m).rat = (if n then -1 else 1) *
      (if ef = 0 then m * (2 : ℚ) ^ (1 - (bias : ℤ) - mb) else (2 ^ mb + m : ℕ) * (2 : ℚ) ^ ((ef : ℤ) - bias - mb)) ∧
    (floatVal mb bias n ef m).sign = n := by
  unfold floatVal
  split
  · simp [Val.isFin, Val.sign, Val.rat]
  · refine ⟨by simp [Val.isFin], ?_, rfl⟩
    simp only [Val.rat, Nat.add_comm m]
    push_cast
    ring

/-- A signed integer in units of 2^e. -/
theorem Val.rat_int (z e : ℤ) : (Val.fin (decide (z < 0)) z.natAbs e).rat = z * 2 ^ e := by
  rw [Val.rat_fin]
  congr 2
  by_cases neg : z < 0
  · simp [neg, abs_of_neg neg]
  · simp [neg, abs_of_nonneg (not_lt.1 neg)]

section
variable {code eb mb bias : Nat} {k : Special} (c : FloatCode code eb mb bias k)
include c

theorem FloatCode.encoded (x : Nat) :
    let ef := x / 2 ^ mb % 2 ^ eb
    let m := x % 2 ^ mb
    encoded code x = if codeMax code < ef * 2 ^ mb + m then none else some ((if x / 2 ^ (eb + mb) % 2 = 1 then -1 else 1) *
      (if ef = 0 then m * (2 : ℚ) ^ (1 - (bias : ℤ) - mb) else (2 ^ mb + m : ℕ) * (2 : ℚ) ^ ((ef : ℤ) - bias - mb))) := by
  have special := c.special (x / 2 ^ mb % 2 ^ eb) (x % 2 ^ mb) (Nat.mod_lt _ (by positivity)) (Nat.mod_lt _ (by positivity))
  simp only [Machine.encoded, c.shape, special]

theorem FloatCode.decode (x : Nat) :
    let ef := x / 2 ^ mb % 2 ^ eb
    let m := x % 2 ^ mb
    (fmtOf code).decode x = if codeMax code < ef * 2 ^ mb + m then (if code = 0 ∨ m ≠ 0 then .nan else .inf (nbit x (eb + mb)))
      else floatVal mb bias (nbit x (eb + mb)) ef m := by
  have exponent : bits x (eb + mb - 1) mb = x / 2 ^ mb % 2 ^ eb := by
    have := c.eb_pos
    rw [bits, show eb + mb - 1 + 1 - mb = eb by omega]
  have special := c.special (x / 2 ^ mb % 2 ^ eb) (x % 2 ^ mb) (Nat.mod_lt _ (by positivity)) (Nat.mod_lt _ (by positivity))
  simp only [c.fmt, Fmt.decode, exponent, ← special, c.kind]
  by_cases h0 : code = 0
  · obtain ⟨rfl, rfl⟩ := c.small h0
    simp [h0]
  · by_cases h4 : 2 ≤ code ∧ code ≤ 4
    · simp [h0, h4]
    · simp only [h0, h4, if_false, false_or]
      split_ifs <;> simp_all

theorem FloatCode.elementIs (x : Nat) : ElementIs code x ((fmtOf code).decode x) := by
  have sign : x.testBit (codeBits code - 1) = nbit x (eb + mb) := by rw [nbit_eq_testBit, c.width, Nat.add_sub_cancel]
  simp only [ElementIs, c.code_ne.1, c.code_ne.2, if_false, c.shape, Option.getD_some, sign]
  rw [c.encoded, c.decode]
  by_cases special : codeMax code < x / 2 ^ mb % 2 ^ eb * 2 ^ mb + x % 2 ^ mb
  · simp [special]
  · simp only [special, if_false]
    refine ⟨fun y e => ?_, fun e => nomatch e⟩
    obtain ⟨fin, rat, sgn⟩ := floatVal_spec mb bias (nbit x (eb + mb)) (x / 2 ^ mb % 2 ^ eb) (x % 2 ^ mb)
    refine ⟨fin, ?_, sgn⟩
    rw [rat, ← Option.some.inj e]
    simp [nbit]

end

/-- An 8-bit integer (R23). -/
theorem elementIs_int8 {x : Nat} (_h : x < 256) : ElementIs 5 x (Fmt.int8.decode x) := by
  have bmod : Int.bmod x 256 = signed 8 x := by
    simp only [Int.bmod, signed]
    split <;> split <;> omega
  have sign : x.testBit 7 = decide (signed 8 x < 0) := by
    rw [Nat.testBit_eq_decide_div_mod_eq, signed, decide_eq_decide]
    split <;> omega
  have number := Val.rat_int (signed 8 x) 0
  rw [zpow_zero, mul_one] at number
  refine ⟨⟨by simp [Fmt.decode], by simp [Fmt.decode]⟩, ?_, sign.symm⟩
  exact number.trans (congrArg _ bmod.symm)

end Sys2Proof.Machine
end

section
namespace Sys2Proof.Machine
open Sys2Proof

/-- An MX code stands for its element format. -/
theorem elementIs_mx {code : Nat} (mx : mxCode code) (x : Nat) (v : Val) : ElementIs code x v ↔ ElementIs (code - 9) x v := by
  have base : ¬ mxCode (code - 9) := by
    simp only [mxCode] at mx ⊢
    omega
  simp only [ElementIs, if_pos mx, if_neg base]

/-- Every element of a row stands for its value (R25). -/
theorem elementIs_decode {code x : Nat} (h : code < 15) (hx : x < 2 ^ codeBits code) : ElementIs code x ((fmtOf code).decode x) := by
  have plain : ∀ c < 9, x < 2 ^ codeBits c → ElementIs c x ((fmtOf c).decode x) := by
    intro c hc hx
    rcases floatCode_or_int8 hc with rfl | ⟨eb, mb, bias, k, float⟩
    · exact elementIs_int8 hx
    · exact float.elementIs x
  by_cases mx : mxCode code
  · have width : ∀ c < 15, mxCode c → codeBits (c - 9) = codeBits c := by decide
    rw [elementIs_mx mx, fmtOf_mx mx]
    exact plain (code - 9) (by omega) (by rwa [width code h mx])
  · exact plain code (by simp only [mxCode] at mx; omega) hx

/-- An element of an operand's row under its scale (R26); NaN where the row is marked (R80). -/
theorem OpRow.val_is (x : OpRow) {code : Nat} (h : code < 15) (e pos : Nat) :
    if x.bad = true then x.val code e pos = .nan else OperandIs code x.row x.scales e pos (x.val code e pos) := by
  have element := elementIs_decode (x := x.row / 2 ^ (codeBits code * e) % 2 ^ codeBits code) h (Nat.mod_lt _ (by positivity))
  have scale : elemAt 8 x.scales (pos / 32) = x.scales / 256 ^ (pos / 32) % 256 := by
    rw [elemAt, pow_mul]
    norm_num
  by_cases bad : x.bad = true
  · simp [bad, OpRow.val]
  · simp only [bad, OpRow.val, OperandIs, isMx_iff, mxVal, scale, Bool.false_eq_true, if_false]
    by_cases mx : mxCode code
    · simp only [if_pos mx]
      split
      · rfl
      · exact ⟨_, element, by rw [elemAt, elemBits_eq h]⟩
    · simp only [if_neg mx]
      rwa [elemAt, elemBits_eq h]

/-! ## Exact products and sums (R52, R69) -/

theorem Val.rat_fin_eq_zero (n : Bool) (m : Nat) (e : ℤ) : (Val.fin n m e).rat = 0 ↔ m = 0 := by
  have pos : (2 : ℚ) ^ e ≠ 0 := by positivity
  cases n <;> simp [Val.rat, pos]

theorem productIs_mul (a b : Val) : ProductIs a b (a.mul b) := by
  cases a with
  | nan => simp [ProductIs, Val.mul]
  | inf n =>
    cases b with
    | nan => simp [ProductIs, Val.mul]
    | inf k => simp [ProductIs, Val.mul, Val.sign]
    | fin k m e =>
      by_cases zero : m = 0 <;> simp [ProductIs, Val.mul, Val.sign, Val.rat_fin_eq_zero, zero]
  | fin n m e =>
    cases b with
    | nan => simp [ProductIs, Val.mul]
    | inf k =>
      by_cases zero : m = 0 <;> simp [ProductIs, Val.mul, Val.sign, Val.rat_fin_eq_zero, zero, bne_comm]
    | fin k l d =>
      have rat : (Val.fin (n != k) (m * l) (e + d)).rat = (Val.fin n m e).rat * (Val.fin k l d).rat := by
        simp only [Val.rat, zpow_add₀ (two_ne_zero (α := ℚ))]
        push_cast
        cases n <;> cases k <;> simp <;> ring
      simp [ProductIs, Val.mul, Val.sign, rat, Val.isFin]

theorem Val.isNan_iff (v : Val) : v.isNan = true ↔ v = .nan := by simp [Val.isNan]
theorem Val.isInf_iff (n : Bool) (v : Val) : v.isInf n = true ↔ v = .inf n := by simp [Val.isInf]

/-- A finite value that is a whole number of units of 2^g. -/
theorem Val.units_mul {g : ℤ} {v : Val} (fin : v.isFin) (h : g ≤ v.lowExp g) : (v.units g : ℚ) * 2 ^ g = v.rat := by
  cases v with
  | nan => exact absurd rfl fin.1
  | inf n => exact absurd rfl (fin.2 n)
  | fin n m e =>
    have low : g ≤ e := by simpa [Val.lowExp] using h
    simp only [Val.units, Val.rat, two_zpow_units low]
    push_cast
    split <;> ring

theorem Val.lowExp_eq (v : Val) (g : ℤ) : v.lowExp g ≤ g ∧ ∀ h ≤ v.lowExp g, h ≤ v.lowExp h := by
  cases v with
  | fin n m e => exact ⟨min_le_left .., fun h low => le_min le_rfl (low.trans (min_le_right ..))⟩
  | nan => simp [Val.lowExp]
  | inf n => simp [Val.lowExp]

/-- The unit of a sum is no greater than the exponent of an addend. -/
theorem foldl_lowExp_le (vs : List Val) (g : ℤ) :
    vs.foldl Val.lowExp g ≤ g ∧ ∀ v ∈ vs, vs.foldl Val.lowExp g ≤ v.lowExp (vs.foldl Val.lowExp g) := by
  induction vs generalizing g with
  | nil => simp
  | cons v vs ih =>
    obtain ⟨low, each⟩ := ih (v.lowExp g)
    obtain ⟨step, own⟩ := v.lowExp_eq g
    rw [List.foldl_cons]
    refine ⟨low.trans step, fun w hw => ?_⟩
    rcases List.mem_cons.1 hw with rfl | hw
    · exact own _ low
    · exact each w hw

/-- Where every addend is a whole number of units, the units add up. -/
theorem foldl_units (vs : List Val) {g : ℤ} (h : ∀ v ∈ vs, (v.units g : ℚ) * 2 ^ g = v.rat) (a : ℤ) :
    ((vs.foldl (fun a v => a + v.units g) a : ℤ) : ℚ) * 2 ^ g = a * 2 ^ g + (vs.map Val.rat).sum := by
  induction vs generalizing a with
  | nil => simp
  | cons v vs ih =>
    rw [List.foldl_cons, ih (fun w hw => h w (List.mem_cons_of_mem _ hw)), List.map_cons, List.sum_cons,
      ← h v List.mem_cons_self]
    push_cast
    ring

/-- The sum of a step (R52). -/
theorem sumIs_sumVals (vs : List Val) : SumIs vs (sumVals vs) := by
  have nan : vs.any Val.isNan = true ↔ .nan ∈ vs := by simp [Val.isNan_iff]
  have inf (n : Bool) : vs.any (Val.isInf n) = true ↔ .inf n ∈ vs := by simp [Val.isInf_iff]
  simp only [SumIs, sumVals, Bool.or_eq_true, Bool.and_eq_true, nan, inf]
  by_cases bad : .nan ∈ vs ∨ (.inf false ∈ vs ∧ .inf true ∈ vs)
  · simp [bad]
  simp only [bad, if_false, false_imp_iff, not_false_eq_true, true_imp_iff, true_and]
  by_cases p : .inf false ∈ vs
  · have m : .inf true ∉ vs := fun m => bad (.inr ⟨p, m⟩)
    simp only [p, if_true]
    refine ⟨fun n hn => ?_, fun none => absurd p (none false)⟩
    cases n
    · rfl
    · exact absurd hn m
  by_cases m : .inf true ∈ vs
  · simp only [p, m, if_true, if_false]
    refine ⟨fun n hn => ?_, fun none => absurd m (none true)⟩
    cases n
    · exact absurd hn p
    · rfl
  simp only [p, m, if_false]
  have fin : ∀ v ∈ vs, v.isFin := fun v hv => ⟨fun e => bad (.inl (e ▸ hv)), fun n e => by cases n <;> simp_all⟩
  refine ⟨fun n hn => absurd rfl ((fin _ hn).2 n), fun _ => ?_⟩
  have units := foldl_units vs (fun v hv => v.units_mul (fin v hv) ((foldl_lowExp_le vs 0).2 v hv)) 0
  have pos : (0 : ℚ) < 2 ^ vs.foldl Val.lowExp 0 := by positivity
  simp only [Int.cast_zero, zero_mul, zero_add] at units
  rw [← units]
  by_cases zero : vs.foldl (fun a v => a + v.units (vs.foldl Val.lowExp 0)) 0 = 0
  · simp only [zero]
    refine ⟨by simp [Val.isFin], by simp [Val.rat], ?_⟩
    simp only [Val.sign, if_true, Int.cast_zero, zero_mul]
    rw [Bool.eq_iff_iff, List.all_eq_true, List.all_eq_true]
    refine forall₂_congr fun v hv => ?_
    cases v with
    | nan => exact absurd rfl (fin _ hv).1
    | inf n => exact absurd rfl ((fin _ hv).2 n)
    | fin n m e => rfl
  · simp only [zero, if_false]
    refine ⟨by simp [Val.isFin], Val.rat_int .., ?_⟩
    simp [Val.sign, zero, pos.ne', pos, mul_neg_iff, pos.not_gt]

end Sys2Proof.Machine
end

section
namespace Sys2Proof.Machine
open Sys2Proof

/-! ## Bits of a magnitude (R25, R70) -/

/-- The number that the bits of a magnitude stand for, on a format's grid without an end. -/
def magValue (mb bias x : Nat) : ℚ :=
  if x / 2 ^ mb = 0 then (x % 2 ^ mb : ℕ) * (2 : ℚ) ^ (1 - (bias : ℤ) - mb)
  else (2 ^ mb + x % 2 ^ mb : ℕ) * (2 : ℚ) ^ (((x / 2 ^ mb : ℕ) : ℤ) - bias - mb)

theorem magValue_fields {mb m : Nat} (bias ef : Nat) (h : m < 2 ^ mb) :
    magValue mb bias (2 ^ mb * ef + m) = if ef = 0 then m * (2 : ℚ) ^ (1 - (bias : ℤ) - mb)
      else (2 ^ mb + m : ℕ) * (2 : ℚ) ^ ((ef : ℤ) - bias - mb) := by
  have exponent : (2 ^ mb * ef + m) / 2 ^ mb = ef := by
    rw [Nat.mul_add_div (by positivity), Nat.div_eq_of_lt h, Nat.add_zero]
  rw [magValue, exponent, Nat.mul_add_mod, Nat.mod_eq_of_lt h]

theorem magValue_lt_succ (mb bias x : Nat) : magValue mb bias x < magValue mb bias (x + 1) := by
  obtain ⟨ef, m, hm, rfl⟩ : ∃ ef m, m < 2 ^ mb ∧ x = 2 ^ mb * ef + m :=
    ⟨x / 2 ^ mb, x % 2 ^ mb, Nat.mod_lt _ (by positivity), (Nat.div_add_mod ..).symm⟩
  rw [magValue_fields bias ef hm]
  by_cases last : m + 1 = 2 ^ mb
  · have next : 2 ^ mb * ef + m + 1 = 2 ^ mb * (ef + 1) + 0 := by rw [Nat.mul_add, ← last]; ring
    rw [next, magValue_fields bias (ef + 1) (by positivity), if_neg (Nat.succ_ne_zero ef)]
    by_cases zero : ef = 0
    · rw [if_pos zero, zero, Nat.zero_add, Nat.cast_one]
      exact mul_lt_mul_of_pos_right (by exact_mod_cast hm) (by positivity)
    · have double : (2 : ℚ) ^ (((ef + 1 : ℕ) : ℤ) - bias - mb) = 2 * 2 ^ ((ef : ℤ) - bias - mb) := by
        rw [← zpow_one_add₀ two_ne_zero]
        push_cast
        ring_nf
      rw [if_neg zero, double, ← mul_assoc]
      exact mul_lt_mul_of_pos_right (by exact_mod_cast (by omega : 2 ^ mb + m < (2 ^ mb + 0) * 2)) (by positivity)
  · rw [Nat.add_assoc, magValue_fields bias ef (show m + 1 < 2 ^ mb by omega)]
    split
    · exact mul_lt_mul_of_pos_right (by exact_mod_cast Nat.lt_succ_self m) (by positivity)
    · exact mul_lt_mul_of_pos_right (by exact_mod_cast Nat.lt_succ_self _) (by positivity)

theorem magValue_strictMono (mb bias : Nat) : StrictMono (magValue mb bias) :=
  strictMono_nat_of_lt_succ (magValue_lt_succ mb bias)

/-- The bits of n 2^g stand for that number where n has one bit more than the fraction, or is smaller on the lowest grid. -/
theorem magValue_magBits {mb bias n : Nat} {g : ℤ} (high : n ≤ 2 ^ (mb + 1)) (low : n < 2 ^ mb → g = 1 - bias - mb)
    (grid : 1 - (bias : ℤ) - mb ≤ g) : magValue mb bias (magBits mb bias n g) = n * 2 ^ g := by
  by_cases small : n < 2 ^ mb
  · have fields := magValue_fields bias 0 small
    rw [Nat.mul_zero, Nat.zero_add, if_pos rfl] at fields
    rw [magBits, if_pos small, fields, low small]
  · have pos : n ≠ 0 := fun zero => small (zero ▸ by positivity)
    have log : mb ≤ Nat.log2 n := (Nat.le_log2 pos).2 (not_lt.1 small)
    have exponent : (((Nat.log2 n + g + bias).toNat : ℕ) : ℤ) = Nat.log2 n + g + bias := Int.toNat_of_nonneg (by omega)
    have normal : (Nat.log2 n + g + bias).toNat ≠ 0 := by omega
    rw [magBits, if_neg small, Nat.mul_comm _ (2 ^ mb)]
    rcases Nat.lt_or_ge n (2 ^ (mb + 1)) with below | above
    · have log : Nat.log2 n = mb := (Nat.log2_eq_iff pos).2 ⟨not_lt.1 small, below⟩
      have fraction : n * 2 ^ mb / 2 ^ Nat.log2 n - 2 ^ mb = n - 2 ^ mb := by
        rw [log, Nat.mul_div_cancel _ (by positivity)]
      rw [fraction, magValue_fields bias _ (by rw [pow_succ] at below; omega), if_neg normal, exponent, log,
        Nat.add_sub_cancel' (not_lt.1 small)]
      ring_nf
    · obtain rfl : n = 2 ^ (mb + 1) := le_antisymm high above
      have fraction : 2 ^ (mb + 1) * 2 ^ mb / 2 ^ Nat.log2 (2 ^ (mb + 1)) - 2 ^ mb = 0 := by
        rw [Nat.log2_two_pow, Nat.mul_div_cancel_left _ (by positivity), Nat.sub_self]
      rw [fraction, magValue_fields bias _ (by positivity), if_neg normal, exponent, Nat.log2_two_pow]
      push_cast
      rw [add_zero, pow_succ, mul_assoc, ← zpow_one_add₀ two_ne_zero]
      ring_nf

section
variable {code eb mb bias : Nat} {k : Special} (c : FloatCode code eb mb bias k)
include c

/-- A sign over the bits of a magnitude: a number up to the largest finite one. -/
theorem FloatCode.encoded_sign_add (n : Bool) {x : Nat} (h : x < 2 ^ (eb + mb)) :
    Machine.encoded code ((if n then 2 ^ (eb + mb) else 0) + x) =
      if codeMax code < x then none else some ((if n then -1 else 1) * magValue mb bias x) := by
  have exponent : ((if n then 2 ^ (eb + mb) else 0) + x) / 2 ^ mb % 2 ^ eb = x / 2 ^ mb := by
    have low : x / 2 ^ mb < 2 ^ eb := Nat.div_lt_of_lt_mul (by rwa [← pow_add, Nat.add_comm])
    cases n
    · simp [Nat.mod_eq_of_lt low]
    · simp only [if_true, pow_add]
      rw [Nat.mul_comm, Nat.mul_add_div (by positivity), Nat.add_mod_left, Nat.mod_eq_of_lt low]
  have fraction : ((if n then 2 ^ (eb + mb) else 0) + x) % 2 ^ mb = x % 2 ^ mb := by
    cases n
    · simp
    · simp [pow_add]
  have sign : ((if n then 2 ^ (eb + mb) else 0) + x) / 2 ^ (eb + mb) % 2 = 1 ↔ n = true := by
    cases n
    · simp [Nat.div_eq_of_lt h]
    · simp [Nat.add_div_left _ (show 0 < 2 ^ (eb + mb) by positivity), Nat.div_eq_of_lt h]
  have whole : x / 2 ^ mb * 2 ^ mb + x % 2 ^ mb = x := by rw [Nat.mul_comm, Nat.div_add_mod]
  rw [c.encoded]
  simp only [exponent, fraction, whole, sign, magValue]

theorem FloatCode.encoded_max : (Machine.encoded code (codeMax code)).getD 0 = magValue mb bias (codeMax code) := by
  have e := c.encoded_sign_add false c.max_lt
  rw [if_neg Bool.false_ne_true, Nat.zero_add] at e
  simp [e]

end

end Sys2Proof.Machine
end

section
namespace Sys2Proof.Machine
open Sys2Proof

/-! ## Conversion (R70, R73) -/

/-- A rounded magnitude has the fraction's bits and one more, or is smaller on the lowest grid; rounding keeps the sign. -/
theorem inUnits_onGrid {r : Rnd} (hr : r ≠ .reserved) {u : Nat} (hu : u < 2 ^ 24) (mb bias : Nat) (n : Bool) {m : Nat}
    (hm : m ≠ 0) (e : ℤ) :
    let g : ℤ := max ((Nat.log2 m : ℤ) + e) (1 - bias) - mb
    let q := inUnits r u (if n then -(m : ℤ) else m) e g
    (q : ℚ) = (if n then -1 else 1) * (q.natAbs : ℚ) ∧ q.natAbs ≤ 2 ^ (mb + 1) ∧ (q.natAbs < 2 ^ mb → g = 1 - bias - mb) := by
  intro g q
  have low : ((2 : ℚ) ^ Nat.log2 m) ≤ m := by exact_mod_cast Nat.log2_self_le hm
  have high : (m : ℚ) ≤ 2 ^ (Nat.log2 m + 1) := by exact_mod_cast Nat.lt_log2_self.le
  have above : (m : ℚ) * 2 ^ e ≤ 2 ^ (mb + 1) * 2 ^ g := by
    calc (m : ℚ) * 2 ^ e ≤ 2 ^ (Nat.log2 m + 1) * 2 ^ e := mul_le_mul_of_nonneg_right high (by positivity)
      _ = 2 ^ ((Nat.log2 m : ℤ) + 1 + e) := by rw [zpow_add₀ two_ne_zero]; norm_cast
      _ ≤ 2 ^ ((mb : ℤ) + 1 + g) := zpow_le_zpow_right₀ one_le_two (by simp only [g]; omega)
      _ = 2 ^ (mb + 1) * 2 ^ g := by rw [zpow_add₀ two_ne_zero]; norm_cast
  have below (ne : g ≠ 1 - bias - mb) : (2 : ℚ) ^ mb * 2 ^ g ≤ m * 2 ^ e := by
    calc (2 : ℚ) ^ mb * 2 ^ g = 2 ^ ((mb : ℤ) + g) := by rw [zpow_add₀ two_ne_zero]; norm_cast
      _ = 2 ^ ((Nat.log2 m : ℤ) + e) := by congr 1; simp only [g] at ne ⊢; omega
      _ = 2 ^ Nat.log2 m * 2 ^ e := by rw [zpow_add₀ two_ne_zero]; norm_cast
      _ ≤ m * 2 ^ e := mul_le_mul_of_nonneg_right low (by positivity)
  have nonneg : (0 : ℚ) ≤ m * 2 ^ e := by positivity
  cases n with
  | false =>
    have q0 : 0 ≤ q := le_inUnits hr hu (by simpa using nonneg)
    have q1 : q ≤ 2 ^ (mb + 1) := inUnits_le hr hu (by simpa using above)
    have q2 (ne : g ≠ 1 - bias - mb) : 2 ^ mb ≤ q := le_inUnits hr hu (by simpa using below ne)
    refine ⟨by simp [abs_of_nonneg q0], ?_⟩
    zify
    rw [abs_of_nonneg q0]
    exact ⟨q1, fun small => by_contra fun ne => absurd (q2 ne) (not_le.2 small)⟩
  | true =>
    have q0 : q ≤ 0 := inUnits_le hr hu (by simpa using nonneg)
    have q1 : -2 ^ (mb + 1) ≤ q := le_inUnits hr hu (by simpa using above)
    have q2 (ne : g ≠ 1 - bias - mb) : q ≤ -2 ^ mb := inUnits_le hr hu (by simpa using below ne)
    refine ⟨by simp [abs_of_nonpos q0], ?_⟩
    zify
    rw [abs_of_nonpos q0]
    exact ⟨by linarith, fun small => by_contra fun ne => absurd (q2 ne) (by linarith)⟩

section
variable {code eb mb bias : Nat} {k : Special} (c : FloatCode code eb mb bias k)
include c

/-- The conversion of a finite value other than zero: the bits of the rounded number, or overflow. -/
theorem FloatCode.convert_fin (n : Bool) {m : Nat} (hm : m ≠ 0) (e : ℤ) (r : Rnd) (sat : Bool) (u : Nat) :
    let g : ℤ := max ((Nat.log2 m : ℤ) + e) (1 - bias) - mb
    let q := inUnits r u (if n then -(m : ℤ) else m) e g
    (fmtOf code).convert (.fin n m e) r sat u =
      if codeMax code < magBits mb bias q.natAbs g
      then { bits := (if sat then codeMax code else codeInf code) + if n then 2 ^ (eb + mb) else 0, sat := true, inx := true }
      else { bits := (if n then 2 ^ (eb + mb) else 0) + magBits mb bias q.natAbs g
             inx := decide ((q : ℚ) * 2 ^ g ≠ (Val.fin n m e).rat) } := by
  intro g q
  simp only [c.fmt, Fmt.convert, convFinite, hm, if_false, roundUnits_eq, c.maxBits, c.beyond]
  change (if q = 0 then _ else if _ < magBits mb bias q.natAbs g then _ else _) = _
  by_cases zero : q = 0
  · have none : magBits mb bias 0 g = 0 := by simp [magBits]
    have lowest : inUnits r u (if n then -(m : ℤ) else m) e g = 0 := zero
    simp [zero, none, Fmt.signBit, g, lowest]
  · rw [if_neg zero]
    rfl

omit c in
/-- The number that a sign and the bits of a magnitude stand for. -/
theorem signed_magValue {n : Bool} {q g : ℤ} (sign : (q : ℚ) = (if n then -1 else 1) * (q.natAbs : ℚ)) (high : q.natAbs ≤ 2 ^ (mb + 1))
    (low : q.natAbs < 2 ^ mb → g = 1 - bias - mb) (grid : 1 - (bias : ℤ) - mb ≤ g) :
    (q : ℚ) * 2 ^ g = (if n then -1 else 1) * magValue mb bias (magBits mb bias q.natAbs g) ∧
    |(q : ℚ) * 2 ^ g| = magValue mb bias (magBits mb bias q.natAbs g) := by
  rw [magValue_magBits high low grid, ← mul_assoc, ← sign, abs_mul, abs_of_pos (by positivity : (0 : ℚ) < 2 ^ g), Nat.cast_natAbs,
    Int.cast_abs]
  exact ⟨rfl, rfl⟩

/-- Conversion to a float format. -/
theorem FloatCode.convertIs {r : Rnd} (hr : r ≠ .reserved) {u : Nat} (hu : u < 2 ^ 24) (v : Val) (sat : Bool) :
    let o := (fmtOf code).convert v r sat u
    ConvertIs code v r sat u o.bits o.sat o.inx := by
  have half : codeBits code - 1 = eb + mb := by rw [c.width, Nat.add_sub_cancel]
  intro o
  simp only [ConvertIs, half, if_neg c.code_ne.1]
  refine ⟨?nan, ?inf, ?zero, ?finite⟩
  case nan =>
    rintro rfl
    simp [o, c.fmt, Fmt.convert, c.nan]
  case inf =>
    rintro n rfl
    simp [o, c.fmt, Fmt.convert, c.beyond]
  case zero =>
    rintro n e rfl
    simp [o, c.fmt, Fmt.convert, convFinite, Fmt.signBit]
  case finite =>
    rintro n m e rfl hm
    refine ⟨fun eb' mb' bias' shape => ?_, fun five => absurd five c.code_ne.1⟩
    rw [c.shape] at shape
    cases shape
    have facts := inUnits_onGrid hr hu mb bias n hm e
    have converted := c.convert_fin n hm e r sat u
    have grid : 1 - (bias : ℤ) - mb ≤ max ((Nat.log2 m : ℤ) + e) (1 - bias) - mb := sub_le_sub_right (le_max_right ..) _
    dsimp only at facts converted ⊢
    generalize max ((Nat.log2 m : ℤ) + e) (1 - bias) - mb = g at facts converted grid ⊢
    generalize inUnits r u (if n then -(m : ℤ) else m) e g = q at facts converted ⊢
    obtain ⟨sign, high, low⟩ := facts
    obtain ⟨number, size⟩ := signed_magValue sign high low grid
    simp only [o, size, c.encoded_max, (magValue_strictMono mb bias).le_iff_le, (magValue_strictMono mb bias).lt_iff_lt]
    constructor
    · intro fits
      have inside : magBits mb bias q.natAbs g < 2 ^ (eb + mb) := fits.trans_lt c.max_lt
      rw [if_neg (not_lt.2 fits)] at converted
      have encodes := c.encoded_sign_add n inside
      rw [if_neg (not_lt.2 fits), ← number] at encodes
      simp only [converted]
      refine ⟨encodes, ?_, trivial, by simp⟩
      cases n
      · simpa [b2n] using inside
      · simp [b2n, Nat.add_div_left _ (show 0 < 2 ^ (eb + mb) by positivity), Nat.div_eq_of_lt inside]
    · intro beyond
      rw [if_pos beyond] at converted
      simp [converted]

end

/-- Conversion to an 8-bit integer. -/
theorem convertIs_int8 (r : Rnd) (u : Nat) (v : Val) (sat : Bool) :
    let o := Fmt.int8.convert v r sat u
    ConvertIs 5 v r sat u o.bits o.sat o.inx := by
  intro o
  refine ⟨?nan, ?inf, ?zero, ?finite⟩
  case nan =>
    rintro rfl
    exact ⟨rfl, rfl, rfl⟩
  case inf =>
    rintro n rfl
    refine ⟨?_, rfl, rfl⟩
    cases n <;> cases sat <;> rfl
  case zero =>
    rintro n e rfl
    have zero : roundUnits r u n 0 e 0 = (0, false) := by
      simp [roundUnits, rndPow2, rndInexact]
    simp [o, Fmt.convert, zero]
  case finite =>
    rintro n m e rfl hm
    refine ⟨fun eb mb bias shape => absurd shape (by simp [floatShape]), fun _ => ?_⟩
    simp only [o, Fmt.convert, roundUnits_eq, zpow_zero, mul_one]
    generalize inUnits r u (if n then -(m : ℤ) else m) e 0 = q
    constructor
    · intro low high
      rw [if_neg (by omega)]
      refine ⟨?_, rfl, by simp⟩
      simp [BitVec.toNat_ofInt]
    · intro beyond
      rw [if_pos beyond]
      refine ⟨?_, rfl, rfl⟩
      cases sat <;> simp [Fmt.overflow, codeMax, codeInf]

/-- Conversion to an element format (R70). -/
theorem convertIs_convert {code : Nat} (h : code < 9) {r : Rnd} (hr : r ≠ .reserved) {u : Nat} (hu : u < 2 ^ 24) (v : Val)
    (sat : Bool) :
    let o := (fmtOf code).convert v r sat u
    ConvertIs code v r sat u o.bits o.sat o.inx := by
  rcases floatCode_or_int8 h with rfl | ⟨eb, mb, bias, k, c⟩
  · exact convertIs_int8 r u v sat
  · exact c.convertIs hr hu v sat

theorem convert_nan (f : Fmt) (v : Val) (r : Rnd) (sat : Bool) (u : Nat) : (f.convert v r sat u).nan = true ↔ v = .nan := by
  cases v with
  | nan => simp [Fmt.convert]
  | inf n => simp [Fmt.convert]
  | fin n m e =>
    cases f with
    | flt eb mb bias k =>
      simp only [Fmt.convert, convFinite, reduceCtorEq, iff_false]
      split_ifs <;> simp
    | int8 =>
      simp only [Fmt.convert, reduceCtorEq, iff_false]
      split_ifs <;> simp

end Sys2Proof.Machine
end

section
namespace Sys2Proof.Machine
open Sys2Proof

/-! ## MX blocks (R71) -/

/-- The magnitude that counts for a block's scale; an infinity counts as the largest finite number of binary32. -/
def blockMag (v : Val) : ℚ := if v = .inf false ∨ v = .inf true then (2 ^ 24 - 1) * 2 ^ 104 else |v.rat|

theorem Val.floorLog2_bounds (n : Bool) {m : Nat} (hm : m ≠ 0) (e : ℤ) :
    (2 : ℚ) ^ (Val.fin n m e).floorLog2 ≤ |(Val.fin n m e).rat| ∧
    |(Val.fin n m e).rat| < (2 : ℚ) ^ ((Val.fin n m e).floorLog2 + 1) := by
  have low : ((2 : ℚ) ^ Nat.log2 m) ≤ m := by exact_mod_cast Nat.log2_self_le hm
  have high : (m : ℚ) < 2 ^ (Nat.log2 m + 1) := by exact_mod_cast Nat.lt_log2_self
  have size : |(Val.fin n m e).rat| = m * 2 ^ e := by
    cases n <;> simp [Val.rat, abs_mul, abs_of_pos (show (0 : ℚ) < 2 ^ e by positivity)]
  rw [size, Val.floorLog2, add_right_comm, zpow_add₀ two_ne_zero, zpow_add₀ two_ne_zero (_ + 1)]
  exact ⟨mul_le_mul_of_nonneg_right (by exact_mod_cast low) (by positivity),
    mul_lt_mul_of_pos_right (by exact_mod_cast high) (by positivity)⟩

/-- A value that counts as zero has no magnitude; any other lies between two powers of two. -/
theorem blockMag_bounds {v : Val} (hv : v ≠ .nan) :
    ((mxMag v).isZero = true → blockMag v = 0) ∧ ((mxMag v).isZero = false →
      (2 : ℚ) ^ (mxMag v).floorLog2 ≤ blockMag v ∧ blockMag v < (2 : ℚ) ^ ((mxMag v).floorLog2 + 1)) := by
  cases v with
  | nan => exact absurd rfl hv
  | inf n =>
    have bounds := Val.floorLog2_bounds false (m := 2 ^ 24 - 1) (by norm_num) 104
    have size : blockMag (.inf n) = |(Val.fin false (2 ^ 24 - 1) 104).rat| := by
      cases n <;> norm_num [blockMag, Val.rat]
    rw [size]
    exact ⟨fun zero => absurd zero (by simp [mxMag, Val.isZero]), fun _ => bounds⟩
  | fin n m e =>
    have size : blockMag (.fin n m e) = |(Val.fin false m e).rat| := by
      cases n <;> simp [blockMag, Val.rat]
    rw [size]
    by_cases zero : m = 0
    · simp [mxMag, Val.isZero, zero, Val.rat]
    · exact ⟨fun h => absurd h (by simp [mxMag, Val.isZero, zero]), fun _ => Val.floorLog2_bounds false zero e⟩

/-- A running maximum finds the greatest exponent. -/
theorem foldl_floorLog2 {f : Option ℤ → Val → Option ℤ} (first : ∀ v, f none v = some v.floorLog2)
    (next : ∀ x v, f (some x) v = some (max x v.floorLog2)) {l : List Val} (ne : l ≠ []) :
    ∃ top, l.foldl f none = some top ∧ (∃ v ∈ l, v.floorLog2 = top) ∧ ∀ v ∈ l, v.floorLog2 ≤ top := by
  have run : ∀ (l : List Val) (x : ℤ), ∃ top, l.foldl f (some x) = some top ∧ (top = x ∨ ∃ v ∈ l, v.floorLog2 = top) ∧ x ≤ top ∧
      ∀ v ∈ l, v.floorLog2 ≤ top := by
    intro l
    induction l with
    | nil => exact fun x => ⟨x, rfl, .inl rfl, le_rfl, by simp⟩
    | cons v l ih =>
      intro x
      obtain ⟨top, e, found, low, high⟩ := ih (max x v.floorLog2)
      refine ⟨top, by rw [List.foldl_cons, next, e], ?_, (le_max_left ..).trans low, ?_⟩
      · rcases found with rfl | ⟨w, hw, e⟩
        · rcases le_total x v.floorLog2 with h | h
          · exact .inr ⟨v, List.mem_cons_self, (max_eq_right h).symm⟩
          · exact .inl (max_eq_left h)
        · exact .inr ⟨w, List.mem_cons_of_mem _ hw, e⟩
      · exact List.forall_mem_cons.2 ⟨(le_max_right ..).trans low, high⟩
  obtain ⟨v, l, rfl⟩ := List.exists_cons_of_ne_nil ne
  obtain ⟨top, e, found, low, high⟩ := run l v.floorLog2
  refine ⟨top, by rw [List.foldl_cons, first, e], ?_, List.forall_mem_cons.2 ⟨low, high⟩⟩
  rcases found with rfl | ⟨w, hw, e⟩
  · exact ⟨v, List.mem_cons_self, rfl⟩
  · exact ⟨w, List.mem_cons_of_mem _ hw, e⟩

theorem mxEmax_eq (code : Nat) : mxEmax code = blockTop code := rfl

theorem clampI_eq {lo hi : ℤ} (h : lo ≤ hi) (x : ℤ) : clampI lo hi x = max lo (min hi x) := by
  unfold clampI
  split_ifs <;> omega

/-- The scale of a block that holds a number other than zero and no NaN. -/
theorem mxScale_is (code : Nat) {vs : List Val} (hn : .nan ∉ vs) (nz : ∃ v ∈ vs, blockMag v ≠ 0) :
    ∃ top : ℤ, (∃ v ∈ vs, (2 : ℚ) ^ top ≤ blockMag v) ∧ (∀ v ∈ vs, blockMag v < (2 : ℚ) ^ (top + 1)) ∧
      mxScale code vs = max (-127) (min 127 (top - blockTop code)) := by
  have bounds (v : Val) (hv : v ∈ vs) := blockMag_bounds (v := v) (fun e => hn (e ▸ hv))
  have ne : (vs.map mxMag).filter (fun v => !v.isZero) ≠ [] := by
    obtain ⟨v, hv, h⟩ := nz
    refine List.ne_nil_of_mem (List.mem_filter.2 ⟨List.mem_map_of_mem hv, ?_⟩)
    simpa using fun zero => h ((bounds v hv).1 zero)
  obtain ⟨top, e, ⟨w, hw, found⟩, high⟩ := foldl_floorLog2
    (f := fun a v => match a with | none => some v.floorLog2 | some x => some (max x v.floorLog2)) (fun _ => rfl) (fun _ _ => rfl) ne
  refine ⟨top, ?_, fun v hv => ?_, ?_⟩
  · obtain ⟨mem, nonzero⟩ := List.mem_filter.1 hw
    obtain ⟨v, hv, rfl⟩ := List.mem_map.1 mem
    exact ⟨v, hv, found ▸ ((bounds v hv).2 (by simpa using nonzero)).1⟩
  · by_cases zero : (mxMag v).isZero = true
    · rw [(bounds v hv).1 zero]
      positivity
    · have nonzero := Bool.eq_false_iff.2 zero
      refine ((bounds v hv).2 nonzero).2.trans_le (zpow_le_zpow_right₀ one_le_two ?_)
      have := high _ (List.mem_filter.2 ⟨List.mem_map_of_mem hv, by simp [nonzero]⟩)
      omega
  · calc mxScale code vs = clampI (-127) 127 (top - mxEmax code) :=
          congrArg (fun o : Option ℤ => clampI (-127) 127 (o.getD 0 - mxEmax code)) e
      _ = _ := by rw [clampI_eq (by norm_num), mxEmax_eq]

/-- Element `j` of a converted row with its overflow and rounding. -/
def convAt (cs : List Conv) (j : Nat) : Nat × Bool × Bool := (cs[j]?.map fun o => (o.bits, o.sat, o.inx)).getD (0, false, false)

theorem convAt_of_get {cs : List Conv} {j : Nat} {o : Conv} (h : cs[j]? = some o) : convAt cs j = (o.bits, o.sat, o.inx) := by
  simp [convAt, h]

theorem Val.scale_eq_nan (v : Val) (k : ℤ) : v.scale k = .nan ↔ v = .nan := by
  cases v <;> simp [Val.scale]

/-- The converted block: its scale, its elements, and which of them come from a NaN. -/
theorem mxBlock_is {code : Nat} (mx : mxCode code) (vs : List Val) {r : Rnd} (hr : r ≠ .reserved) (sat : Bool) {us : Nat → Nat}
    (hu : ∀ j, us j < 2 ^ 24) :
    let b := mxBlock code vs r sat ((List.range vs.length).map us)
    b.1 < 256 ∧ b.2.length = vs.length ∧ BlockIs code vs r sat us b.1 (convAt b.2) ∧
      ∀ (j : Nat) (v : Val), vs[j]? = some v → ∃ o : Conv, b.2[j]? = some o ∧ (o.nan = true ↔ v = .nan) := by
  have anyNan : vs.any Val.isNan = true ↔ .nan ∈ vs := by simp [Val.isNan_iff]
  by_cases hn : .nan ∈ vs
  · have e : mxBlock code vs r sat ((List.range vs.length).map us) = (0xFF, vs.map fun v => { bits := 0, nan := v.isNan }) := by
      rw [mxBlock, if_pos (anyNan.2 hn)]
    rw [e]
    refine ⟨by norm_num, by simp, ⟨fun _ => ⟨rfl, fun j hj => ?_⟩, fun h => absurd hn h, fun h => absurd hn h⟩, fun j v hv => ?_⟩
    · simp [convAt, hj]
    · exact ⟨_, by rw [List.getElem?_map, hv]; rfl, Val.isNan_iff v⟩
  have bounds (v : Val) (hv : v ∈ vs) := blockMag_bounds (v := v) (fun e => hn (e ▸ hv))
  have same (v : Val) : v.isZero = (mxMag v).isZero := by cases v <;> rfl
  by_cases zero : ∀ v ∈ vs, v.isZero = true
  · have e : mxBlock code vs r sat ((List.range vs.length).map us) = (0, vs.map fun _ => { bits := 0 }) := by
      rw [mxBlock, if_neg (anyNan.not.2 hn), if_pos (by simpa using zero)]
    have none (v : Val) (hv : v ∈ vs) : blockMag v = 0 := (bounds v hv).1 (same v ▸ zero v hv)
    rw [e]
    refine ⟨by norm_num, by simp, ⟨fun h => absurd h hn, fun _ _ => ⟨rfl, fun j hj => ?_⟩, fun _ ⟨v, hv, h⟩ => absurd (none v hv) h⟩,
      fun j v hv => ⟨_, by rw [List.getElem?_map, hv]; rfl, ?_⟩⟩
    · simp [convAt, hj]
    · simp only [Bool.false_eq_true, false_iff]
      rintro rfl
      exact hn (List.mem_of_getElem? hv)
  obtain ⟨w, hw, nonzero⟩ : ∃ w ∈ vs, blockMag w ≠ 0 := by
    obtain ⟨w, hw, nonzero⟩ : ∃ w ∈ vs, (mxMag w).isZero = false := by
      simpa only [← same, not_forall, Bool.not_eq_true, exists_prop] using zero
    exact ⟨w, hw, (lt_of_lt_of_le (by positivity) ((bounds w hw).2 nonzero).1).ne'⟩
  obtain ⟨top, low, high, scale⟩ := mxScale_is code hn ⟨w, hw, nonzero⟩
  generalize hX : mxScale code vs = X at scale
  have code' : code - 9 < 9 := by simp only [mxCode] at mx; omega
  have e : mxBlock code vs r sat ((List.range vs.length).map us) = ((X + 127).toNat,
      (vs.zip ((List.range vs.length).map us)).map fun p =>
        (fmtOf code).convert (p.1.scale (-X + if code = 14 then 6 else 0)) r sat p.2) := by
    rw [mxBlock, if_neg (anyNan.not.2 hn), if_neg (by simpa using zero), hX]
  have element {j : Nat} {v : Val} (hv : vs[j]? = some v) : (mxBlock code vs r sat ((List.range vs.length).map us)).2[j]? =
      some ((fmtOf code).convert (v.scale (-X + if code = 14 then 6 else 0)) r sat (us j)) := by
    obtain ⟨hj, rfl⟩ := List.getElem?_eq_some_iff.1 hv
    rw [e]
    simp [hj]
  have scaled : (((X + 127).toNat : ℕ) : ℤ) = X + 127 := Int.toNat_of_nonneg (by omega)
  refine ⟨by rw [e]; simp only; omega, by rw [e]; simp, ⟨fun h => absurd h hn, fun _ h => absurd (h w hw) nonzero, fun _ _ => ?_⟩,
    fun j v hv => ⟨_, element hv, ?_⟩⟩
  · refine ⟨top, low, high, by rw [e, scaled, scale], fun j v hv => ?_⟩
    rw [convAt_of_get (element hv), ← scale, fmtOf_mx mx]
    exact convertIs_convert code' hr (hu j) _ sat
  · rw [convert_nan, Val.scale_eq_nan]

end Sys2Proof.Machine
end

section
namespace Sys2Proof.Machine
open Sys2Proof

/-! ## Packed rows (R24) -/

theorem length_bytesOf (n v : Nat) : (bytesOf n v).length = n := by
  induction n generalizing v with
  | zero => rfl
  | succ n ih => rw [bytesOf, List.length_cons, ih]

theorem ofBytes_bytesOf (n v : Nat) : ofBytes (bytesOf n v) = v % 256 ^ n := by
  induction n generalizing v with
  | zero => rw [pow_zero, Nat.mod_one]; rfl
  | succ n ih => rw [bytesOf, ofBytes, ih, BitVec.toNat_ofNat, pow_succ' 256 n, Nat.mod_mul]

/-- Elements of `w` bits side by side, as a number. -/
def packed (w : Nat) (es : List Nat) : Nat := es.foldr (fun e a => e % 2 ^ w + a * 2 ^ w) 0

theorem packed_lt (w : Nat) (es : List Nat) : packed w es < 2 ^ (w * es.length) := by
  induction es with
  | nil => simp [packed]
  | cons e es ih =>
    have low : e % 2 ^ w < 2 ^ w := Nat.mod_lt _ (by positivity)
    calc packed w (e :: es) = e % 2 ^ w + packed w es * 2 ^ w := rfl
      _ < (packed w es + 1) * 2 ^ w := by rw [Nat.add_mul]; omega
      _ ≤ 2 ^ (w * es.length) * 2 ^ w := Nat.mul_le_mul_right _ ih
      _ = 2 ^ (w * (e :: es).length) := by rw [← pow_add, List.length_cons, Nat.mul_succ]

theorem packed_get (w : Nat) {es : List Nat} {j e : Nat} (h : es[j]? = some e) : packed w es / 2 ^ (w * j) % 2 ^ w = e % 2 ^ w := by
  induction es generalizing j with
  | nil => simp at h
  | cons x es ih =>
    have low : x % 2 ^ w < 2 ^ w := Nat.mod_lt _ (by positivity)
    have first : packed w (x :: es) = x % 2 ^ w + packed w es * 2 ^ w := rfl
    cases j with
    | zero =>
      obtain rfl : x = e := by simpa using h
      rw [first, Nat.mul_zero, pow_zero, Nat.div_one, Nat.add_mul_mod_self_right, Nat.mod_mod]
    | succ j =>
      rw [first, Nat.mul_succ, Nat.add_comm (w * j), pow_add, ← Nat.div_div_eq_div_mul, Nat.add_mul_div_right _ _ (by positivity),
        Nat.div_eq_of_lt low, Nat.zero_add]
      exact ih (by simpa using h)

/-- A packed row: its length, its bits beyond the elements, and each element. -/
theorem packRow_is {w b : Nat} {es : List Nat} (small : ∀ e ∈ es, e < 2 ^ w) (fits : es.length * w ≤ 8 * b) :
    (packRow w b es).length = b ∧ ofBytes (packRow w b es) < 2 ^ (w * es.length) ∧
    ∀ j e, es[j]? = some e → ofBytes (packRow w b es) / 2 ^ (w * j) % 2 ^ w = e := by
  have whole : ofBytes (packRow w b es) = packed w es := by
    have size : (256 : ℕ) ^ b = 2 ^ (8 * b) := by rw [pow_mul]; norm_num
    have inside : packed w es < 2 ^ (8 * b) :=
      (packed_lt w es).trans_le (Nat.pow_le_pow_right two_pos (by rwa [Nat.mul_comm]))
    rw [packRow, ofBytes_bytesOf, size, Nat.mod_mod]
    exact Nat.mod_eq_of_lt inside
  refine ⟨length_bytesOf .., whole ▸ packed_lt w es, fun j e h => ?_⟩
  rw [whole, packed_get w h, Nat.mod_eq_of_lt (small e (List.mem_of_getElem? h))]

/-! ## Exact mode (R43 to R46, R55) -/

theorem nanMark_exact : nanMark false = BitVec.intMin 96 := by decide

theorem maxN_eq : maxN = 2 ^ 95 - 1 := rfl

theorem toInt_ofInt_of_le {x : ℤ} (low : -maxN ≤ x) (high : x ≤ maxN) : (BitVec.ofInt 96 x).toInt = x := by
  rw [maxN_eq] at low high
  rw [BitVec.toInt_ofInt]
  exact Int.bmod_eq_of_le (by norm_num; omega) (by norm_num; omega)

/-- The clamped sum of an exact-mode element. -/
theorem clampN_is (t : ℤ) (inx : Bool) :
    (clampN t inx).n.toInt = max (-maxN) (min maxN t) ∧ ((clampN t inx).sat = true ↔ maxN < t ∨ t < -maxN) ∧
      (clampN t inx).inx = inx := by
  have pos : 0 < maxN := by decide
  unfold clampN
  by_cases high : maxN < t
  · rw [if_pos high, toInt_ofInt_of_le (by omega) le_rfl]
    exact ⟨by omega, by simp [high], rfl⟩
  by_cases low : t < -maxN
  · rw [if_neg high, if_pos low, toInt_ofInt_of_le le_rfl (by omega)]
    exact ⟨by omega, by simp [low], rfl⟩
  · rw [if_neg high, if_neg low, toInt_ofInt_of_le (not_lt.1 low) (not_lt.1 high)]
    exact ⟨by omega, by simp [high, low], rfl⟩

/-- A rounded product (R44, R45, R72). -/
theorem windowUnits_fin (sl : Slot) (row col p : Nat) (n : Bool) (m : Nat) (e : ℤ) :
    windowUnits sl row col (p, .fin n m e) =
      (inUnits (slotRnd sl.rnd) (drawOf sl.seed.toNat row col ((sl.p.toNat + p) % 2 ^ 47)) (if n then -(m : ℤ) else m) e
          (sl.anchor.toInt - 64),
        decide ((inUnits (slotRnd sl.rnd) (drawOf sl.seed.toNat row col ((sl.p.toNat + p) % 2 ^ 47)) (if n then -(m : ℤ) else m) e
          (sl.anchor.toInt - 64) : ℚ) * 2 ^ (sl.anchor.toInt - 64) ≠ (Val.fin n m e).rat)) := by
  rw [windowUnits]
  simp only [roundUnits_eq, draw_eq]

section
variable (sl : Slot) (row col : Nat) {n : BitVec 96} {ps : List (Nat × Val)}

theorem any_map_snd {f : Val → Bool} {v : Val} (h : ∀ w, f w = true ↔ w = v) : (ps.map (·.2)).any f = true ↔ ∃ p ∈ ps, p.2 = v := by
  simp [h]

/-- One step of an exact-mode element, by what is among its products. -/
theorem exactStep_eq [DecidablePred fun v : Val => ∃ p ∈ ps, p.2 = v] : exactStep sl row col n ps =
    if n = BitVec.intMin 96 then { n := n }
    else if (∃ p ∈ ps, p.2 = .nan) ∨ ((∃ p ∈ ps, p.2 = .inf false) ∧ ∃ p ∈ ps, p.2 = .inf true)
      then { n := BitVec.intMin 96, sat := true }
    else if ∃ p ∈ ps, p.2 = .inf false then { n := BitVec.ofInt 96 maxN, sat := true }
    else if ∃ p ∈ ps, p.2 = .inf true then { n := BitVec.ofInt 96 (-maxN), sat := true }
    else clampN (n.toInt + ((ps.map (windowUnits sl row col)).map (·.1)).sum) ((ps.map (windowUnits sl row col)).any (·.2)) := by
  have sum (l : List (ℤ × Bool)) (a : ℤ) : l.foldl (fun a x => a + x.1) a = a + (l.map (·.1)).sum := by
    induction l generalizing a with
    | nil => simp
    | cons x l ih => rw [List.foldl_cons, ih, List.map_cons, List.sum_cons, add_assoc]
  simp only [exactStep, nanMark_exact, sum, zero_add, Bool.or_eq_true, Bool.and_eq_true, any_map_snd Val.isNan_iff,
    any_map_snd (Val.isInf_iff _)]

end

/-- One step of an exact-mode element (R43, R44). -/
theorem exactStep_is (sl : Slot) (row col : Nat) (n : BitVec 96) (ps : List (Nat × Val)) :
    let o := exactStep sl row col n ps
    let big : ℤ := 2 ^ 95 - 1
    let nan : BitVec 96 := BitVec.intMin 96
    let units := ps.map (windowUnits sl row col)
    let sum := n.toInt + (units.map (·.1)).sum
    (n = nan → o = { n := nan }) ∧
    (n ≠ nan → (∃ p ∈ ps, p.2 = .nan) ∨ ((∃ p ∈ ps, p.2 = .inf true) ∧ ∃ p ∈ ps, p.2 = .inf false) →
      o = { n := nan, sat := true }) ∧
    (n ≠ nan → (∀ p ∈ ps, p.2 ≠ .nan ∧ p.2 ≠ .inf true) → (∃ p ∈ ps, p.2 = .inf false) →
      o = { n := BitVec.ofInt 96 big, sat := true }) ∧
    (n ≠ nan → (∀ p ∈ ps, p.2 ≠ .nan ∧ p.2 ≠ .inf false) → (∃ p ∈ ps, p.2 = .inf true) →
      o = { n := BitVec.ofInt 96 (-big), sat := true }) ∧
    (n ≠ nan → (∀ p ∈ ps, p.2 ≠ .nan ∧ p.2 ≠ .inf true ∧ p.2 ≠ .inf false) →
      o.n.toInt = max (-big) (min big sum) ∧ (o.sat = true ↔ big < sum ∨ sum < -big) ∧
      (o.inx = true ↔ ∃ x ∈ units, x.2 = true)) := by
  classical
  intro o big nan units sum
  have e : o = _ := exactStep_eq sl row col
  refine ⟨fun hn => ?_, fun hn bad => ?_, fun hn fin pos => ?_, fun hn fin neg => ?_, fun hn fin => ?_⟩
  · rw [e, if_pos hn, hn]
  · rw [e, if_neg hn, if_pos (bad.imp_right And.symm)]
  · have none : ¬ ((∃ p ∈ ps, p.2 = .nan) ∨ ((∃ p ∈ ps, p.2 = .inf false) ∧ ∃ p ∈ ps, p.2 = .inf true)) := by
      rintro (⟨p, hp, h⟩ | ⟨-, p, hp, h⟩)
      · exact (fin p hp).1 h
      · exact (fin p hp).2 h
    rw [e, if_neg hn, if_neg none, if_pos pos, maxN_eq]
  · have none : ¬ ∃ p ∈ ps, p.2 = .inf false := fun ⟨p, hp, h⟩ => (fin p hp).2 h
    have fine : ¬ ((∃ p ∈ ps, p.2 = .nan) ∨ ((∃ p ∈ ps, p.2 = .inf false) ∧ ∃ p ∈ ps, p.2 = .inf true)) := by
      rintro (⟨p, hp, h⟩ | ⟨h, -⟩)
      · exact (fin p hp).1 h
      · exact none h
    rw [e, if_neg hn, if_neg fine, if_neg none, if_pos neg, maxN_eq]
  · have nan (v : Val) (hv : v = .nan ∨ v = .inf true ∨ v = .inf false) : ¬ ∃ p ∈ ps, p.2 = v := by
      rintro ⟨p, hp, rfl⟩
      obtain ⟨h1, h2, h3⟩ := fin p hp
      simp [h1, h2, h3] at hv
    rw [e, if_neg hn, if_neg (by simp [nan]), if_neg (nan _ (by simp)), if_neg (nan _ (by simp))]
    obtain ⟨clamped, sat, inx⟩ := clampN_is sum (units.any (·.2))
    exact ⟨clamped, sat, by rw [inx, List.any_eq_true]⟩

end Sys2Proof.Machine
end

section
namespace Sys2Proof.Machine
open Sys2Proof

/-! ## FP mode (R51 to R53) -/

theorem fmtOf_f32 : fmtOf 8 = f32 := rfl

theorem floatCode_f32 : FloatCode 8 8 23 127 .ieee := by
  obtain ⟨k, c⟩ := floatCode_of_shape (code := 8) rfl
  obtain rfl : k = .ieee := c.kind
  exact c

theorem Val.special_iff (v : Val) : v.special = true ↔ ¬ v.isFin := by
  cases v with
  | nan => simp [Val.special, Val.isNan]
  | inf n => cases n <;> simp [Val.special, Val.isInf]
  | fin n m e => simp [Val.special, Val.isNan, Val.isInf, Val.isFin]

theorem fpElem_is (n : BitVec 96) : ElementIs 8 (n.toNat % 2 ^ 32) (fpElem n) :=
  elementIs_decode (code := 8) (by norm_num) (Nat.mod_lt _ (by positivity))

/-- Bits of binary32 that stand for no number stand for one value only. -/
theorem elementIs_special {x : Nat} {v w : Val} (hv : ElementIs 8 x v) (hw : ElementIs 8 x w) (h : ¬ v.isFin) : v = w := by
  obtain ⟨number, special⟩ : (∀ y, encoded 8 x = some y → _) ∧ (encoded 8 x = none → _) := hv
  obtain ⟨-, special'⟩ : (∀ y, encoded 8 x = some y → _) ∧ (encoded 8 x = none → _) := hw
  cases e : encoded 8 x with
  | none => exact (special e).trans (special' e).symm
  | some y => exact absurd (number y e).1 h

theorem FloatCode.decode_finite {code eb mb bias : Nat} {k : Special} (c : FloatCode code eb mb bias k) (n : Bool) {x : Nat}
    (h : x ≤ codeMax code) : ((fmtOf code).decode ((if n then 2 ^ (eb + mb) else 0) + x)).isFin := by
  have encodes := c.encoded_sign_add n (h.trans_lt c.max_lt)
  rw [if_neg (not_lt.2 h)] at encodes
  have element := c.elementIs ((if n then 2 ^ (eb + mb) else 0) + x)
  simp only [ElementIs, if_neg c.code_ne.2, if_neg c.code_ne.1] at element
  exact (element.1 _ encodes).1

/-- A rounded sum in binary32: its bits, and which of them stand for no number. -/
theorem convert_f32 (v : Val) :
    let o := f32.convert v .rne false 0
    o.bits < 2 ^ 32 ∧ ((o.inx && o.sat) || (f32.decode o.bits).special) = (v.special || o.sat) := by
  have c := floatCode_f32
  cases v with
  | nan => decide
  | inf n => cases n <;> decide
  | fin n m e =>
    have fin : (Val.fin n m e).special = false := rfl
    by_cases zero : m = 0
    · subst zero
      have bits : f32.convert (.fin n 0 e) .rne false 0 = { bits := f32.signBit n } := by
        simp [f32, Fmt.convert, convFinite]
      simp only [bits, fin]
      cases n <;> decide
    · have converted := c.convert_fin n zero e .rne false 0
      dsimp only at converted
      rw [fmtOf_f32] at converted
      simp only [converted, fin]
      generalize magBits 23 127 _ _ = x
      by_cases beyond : codeMax 8 < x
      · rw [if_pos beyond]
        cases n <;> decide
      · have number := c.decode_finite n (not_lt.1 beyond)
        have inside := (not_lt.1 beyond).trans_lt c.max_lt
        rw [if_neg beyond]
        refine ⟨?_, ?_⟩
        · cases n <;> simp at inside ⊢ <;> omega
        · have ordinary := Bool.eq_false_iff.2 fun special => (Val.special_iff _).1 special number
          simpa [fin, fmtOf_f32] using ordinary

/-- rne32 of an exact sum with the flags of R53. -/
theorem fpResult_is (v : Val) : ∃ ovf, ConvertIs 8 v .rne false 0 (fpResult v).n.toNat ovf (fpResult v).inx ∧
    ((fpResult v).sat = true ↔ ¬ v.isFin ∨ ovf = true) := by
  obtain ⟨small, flags⟩ := convert_f32 v
  have bits : (fpResult v).n.toNat = (f32.convert v .rne false 0).bits :=
    Nat.mod_eq_of_lt (small.trans (by norm_num))
  refine ⟨(f32.convert v .rne false 0).sat, ?_, ?_⟩
  · rw [bits]
    exact convertIs_convert (code := 8) (by norm_num) (by simp) (by norm_num) v false
  · rw [← Val.special_iff, ← Bool.or_eq_true, ← flags]
    rfl

/-- One step of an FP-mode element (R51). -/
theorem fpStep_is (n : BitVec 96) (ps : List (Nat × Val)) :
    let o := fpStep n ps
    ∃ x v ovf, ElementIs 8 (n.toNat % 2 ^ 32) x ∧ SumIs (x :: ps.map (·.2)) v ∧
      ConvertIs 8 v .rne false 0 o.n.toNat ovf o.inx ∧ (o.sat = true ↔ ¬ v.isFin ∨ ovf = true) := by
  obtain ⟨ovf, converts, sat⟩ := fpResult_is (sumVals (fpElem n :: ps.map (·.2)))
  exact ⟨_, _, ovf, fpElem_is n, sumIs_sumVals _, converts, sat⟩

/-! ## The combine (R52 to R55, R65) -/

theorem combine_fp_pair (a b : BitVec 96) : combine true [a, b] = fpResult (sumVals [fpElem a, fpElem b]) := by
  simp [combine]

theorem combine_fp_four (a b c d : BitVec 96) :
    let x := combine true [a, b]
    let y := combine true [c, d]
    let z := combine true [x.n, y.n]
    combine true [a, b, c, d] = { n := z.n, sat := z.sat || x.sat || y.sat, inx := z.inx || x.inx || y.inx } := by
  simp [combine]

/-- Two partials of an FP-mode element. -/
theorem combine_fp_is (a b : BitVec 96) :
    let o := combine true [a, b]
    ∃ p q v ovf, ElementIs 8 (a.toNat % 2 ^ 32) p ∧ ElementIs 8 (b.toNat % 2 ^ 32) q ∧ SumIs [p, q] v ∧
      ConvertIs 8 v .rne false 0 o.n.toNat ovf o.inx ∧ (o.sat = true ↔ ¬ v.isFin ∨ ovf = true) := by
  obtain ⟨ovf, converts, sat⟩ := fpResult_is (sumVals [fpElem a, fpElem b])
  rw [← combine_fp_pair] at converts sat
  exact ⟨_, _, _, ovf, fpElem_is a, fpElem_is b, sumIs_sumVals _, converts, sat⟩

/-- One partial of an FP-mode element. -/
theorem combine_fp_one (a : BitVec 96) : (combine true [a]).sat = true ↔ ∃ v, ElementIs 8 (a.toNat % 2 ^ 32) v ∧ ¬ v.isFin := by
  rw [show (combine true [a]).sat = (fpElem a).special from rfl, Val.special_iff]
  constructor
  · exact fun h => ⟨_, fpElem_is a, h⟩
  · rintro ⟨v, hv, h⟩
    rwa [← elementIs_special hv (fpElem_is a) h]

theorem maxN_toInt {a : BitVec 96} (h : a ≠ BitVec.intMin 96) : -maxN ≤ a.toInt ∧ a.toInt ≤ maxN := by
  have low := BitVec.le_toInt a
  have high := BitVec.toInt_lt (x := a)
  have ne : a.toInt ≠ -2 ^ 95 := fun e => h (BitVec.eq_of_toInt_eq (e.trans (by decide)))
  rw [maxN_eq]
  norm_num at low high ne ⊢
  omega

theorem combine_exact_eq {ps : List (BitVec 96)} (h : ps.length = 2 ∨ ps.length = 4) :
    combine false ps = if BitVec.intMin 96 ∈ ps then { n := BitVec.intMin 96, sat := true } else clampN (ps.map (·.toInt)).sum false := by
  match ps, h with
  | [a, b], _ => simp [combine, nanMark_exact, eq_comm (a := BitVec.intMin 96)]
  | [a, b, c, d], _ =>
    have sum : a.toInt + b.toInt + c.toInt + d.toInt = a.toInt + (b.toInt + (c.toInt + d.toInt)) := by omega
    simp [combine, nanMark_exact, eq_comm (a := BitVec.intMin 96), sum]

/-- Partials of an exact-mode element. -/
theorem combine_exact_is {ps : List (BitVec 96)} (h : ps.length = 1 ∨ ps.length = 2 ∨ ps.length = 4) :
    let o := combine false ps
    let sum := (ps.map (·.toInt)).sum
    o.inx = false ∧ (BitVec.intMin 96 ∈ ps → o.n = BitVec.intMin 96 ∧ o.sat = true) ∧
    (BitVec.intMin 96 ∉ ps → o.n.toInt = max (-maxN) (min maxN sum) ∧ (o.sat = true ↔ maxN < sum ∨ sum < -maxN)) := by
  rcases h with one | more
  · obtain ⟨a, rfl⟩ := List.length_eq_one_iff.1 one
    refine ⟨rfl, fun mem => ?_, fun none => ?_⟩
    · obtain rfl := List.mem_singleton.1 mem
      exact ⟨rfl, by decide⟩
    · have ne : a ≠ BitVec.intMin 96 := fun e => none (List.mem_singleton.2 e.symm)
      obtain ⟨low, high⟩ := maxN_toInt ne
      simp only [combine, nanMark_exact, ne, List.map_cons, List.map_nil, List.sum_singleton]
      exact ⟨by omega, by simp; omega⟩
  · simp only [combine_exact_eq more]
    by_cases marker : BitVec.intMin 96 ∈ ps
    · simp [marker]
    · obtain ⟨clamped, sat, inx⟩ := clampN_is (ps.map (·.toInt)).sum false
      rw [if_neg marker]
      exact ⟨inx, fun h => absurd h marker, fun _ => ⟨clamped, sat⟩⟩

/-! ## Products (R29, R40) -/

theorem getElem?_flatMap_pair {α β : Type} {l : List α} {i : Nat} {a : α} (f : α → Nat → β) (h : l[i]? = some a) {j : Nat} (hj : j < 2) :
    (l.flatMap fun a => [0, 1].map (f a))[2 * i + j]? = some (f a j) := by
  induction l generalizing i with
  | nil => simp at h
  | cons x l ih =>
    cases i with
    | zero =>
      obtain rfl : x = a := by simpa using h
      interval_cases j <;> rfl
    | succ i =>
      rw [List.flatMap_cons, List.getElem?_append_right (by simp; omega)]
      simpa [Nat.mul_succ, Nat.add_sub_cancel, Nat.add_right_comm] using ih (by simpa using h)

theorem length_flatMap_pair {α β : Type} (l : List α) (f : α → Nat → β) : (l.flatMap fun a => [0, 1].map (f a)).length = 2 * l.length := by
  induction l with
  | nil => rfl
  | cons x l ih => rw [List.flatMap_cons, List.length_append, ih, List.length_cons, List.length_map]; simp; omega

/-- The products of a dense chunk (R29). -/
theorem chunkProds_dense {fa fb : Nat} (ha : fa < 15) (hb : fb < 15) (kw c mt : Nat) (bad : Bool) (a b : OpRow) :
    let value (x : OpRow) (code e pos : Nat) (v : Val) : Prop :=
      if x.bad = true then v = .nan else OperandIs code x.row x.scales e pos v
    let dense := chunkProds false fa fb kw c a b mt bad
    dense.length = kw ∧ ∀ i, i < kw → ∃ x y v, value a fa (c * kw + i) (c * kw + i) x ∧
      value b fb (c * kw + i) (c * kw + i) y ∧ ProductIs x y v ∧ dense[i]? = some (c * kw + i, v) := by
  intro value dense
  refine ⟨by simp [dense, chunkProds], fun i hi => ⟨_, _, _, a.val_is ha _ _, b.val_is hb _ _, productIs_mul _ _, ?_⟩⟩
  simp [dense, chunkProds, hi]

/-- The products of a sparse chunk (R40). -/
theorem chunkProds_sparse {fa fb : Nat} (ha : fa < 15) (hb : fb < 15) {kw : Nat} (h4 : kw % 4 = 0) (c mt : Nat) (bad : Bool)
    (a b : OpRow) :
    let value (x : OpRow) (code e pos : Nat) (v : Val) : Prop :=
      if x.bad = true then v = .nan else OperandIs code x.row x.scales e pos v
    let sparse := chunkProds true fa fb kw c a b mt bad
    sparse.length = kw / 2 ∧ ∀ i j, i < kw / 4 → j < 2 →
      let q := c * (kw / 4) + i
      let pos := 4 * q + mt / 16 ^ q % 16 / 4 ^ j % 4
      ∃ x y v, (if bad = true then x = .nan else value a fa (2 * q + j) (4 * q) x) ∧ value b fb pos pos y ∧
        ProductIs x y v ∧ sparse[2 * i + j]? = some (pos, v) := by
  intro value sparse
  have four : c * kw / 4 = c * (kw / 4) := Nat.mul_div_assoc _ (Nat.dvd_of_mod_eq_zero h4)
  refine ⟨?_, fun i j hi hj => ?_⟩
  · simp only [sparse, chunkProds, if_true]
    rw [length_flatMap_pair, List.length_range]
    omega
  · intro q pos
    have place : 4 * q + elemAt 2 (elemAt 4 mt q) j = pos := by
      simp only [pos, elemAt, pow_mul]
      norm_num
    refine ⟨if bad then .nan else a.val fa (2 * q + j) (4 * q), b.val fb pos pos, _, ?_, b.val_is hb _ _, productIs_mul _ _, ?_⟩
    · by_cases marked : bad = true
      · simp [marked]
      · simpa [marked] using a.val_is ha (2 * q + j) (4 * q)
    · simp only [sparse, chunkProds, if_true, four]
      rw [getElem?_flatMap_pair _ (List.getElem?_range hi) hj]
      simp only [← place, q]

/-- The operand rows that a step reads (R24, R26, R80). -/
theorem State.opRow_is (s : State) (T S : TrayNo) (code r : Nat) :
    let x := s.opRow T S code r
    x.row = ofBytes (s.rowBytes T r) ∧ (mxCode code → x.scales = ofBytes (s.rowBytes S r)) ∧
    (x.bad = true ↔ s.mark T r = true ∨ (mxCode code ∧ s.mark S r = true)) := by
  refine ⟨rfl, fun mx => ?_, ?_⟩
  · exact if_pos ((isMx_iff code).2 mx)
  · simp only [State.opRow, Bool.or_eq_true, Bool.and_eq_true, isMx_iff]

end Sys2Proof.Machine
end

section
namespace Sys2Proof.Machine
open Sys2Proof

/-! ## Changes of the tile unit alone -/

section
variable {s u v : State}

theorem OnlyTile.refl (s : State) : OnlyTile s s := Accounts.refl s

theorem OnlyTile.tile (h : OnlyTile s u) (t : Tile) : OnlyTile s { u with tile := t } := h

/-- Counting and charging. -/
theorem OnlyTile.accounts (h : OnlyTile s u) (a : Accounts u v) : OnlyTile s v := by
  have scl : { v.scl with rsv := s.scl.rsv, bal := u.scl.bal, e := u.scl.e } = { u.scl with rsv := s.scl.rsv } := by
    have same := a.scl
    cases hu : u.scl
    cases hv : v.scl
    simp_all
  exact h.trans { a with tile := rfl, scl := scl }

theorem OnlyTile.sealed (h : OnlyTile s u) : OnlyTile s (s.sealed u) := { h with pos := rfl, pending := rfl }

end

/-! ## Reads that find no parity error (R76, R80) -/

section
variable {s : State}

theorem State.checkRow_clean (h : s.tile.badRow = []) (T : TrayNo) (u r : Nat) (who : Option Thread) : s.checkRow T u r who = s := by
  simp [State.checkRow, h]

theorem foldl_same {α β : Type} {f : β → α → β} {b : β} (l : List α) (h : ∀ a ∈ l, f b a = b) : l.foldl f b = b := by
  induction l with
  | nil => rfl
  | cons a l ih =>
    rw [List.foldl_cons, h a List.mem_cons_self]
    exact ih fun a ha => h a (List.mem_cons_of_mem _ ha)

theorem State.checkRows_clean (h : s.tile.badRow = []) (T : TrayNo) (u r n : Nat) (who : Option Thread) :
    s.checkRows T u r n who = s :=
  foldl_same _ fun _ _ => State.checkRow_clean h ..

theorem State.checkOperands_clean (h : s.tile.badRow = []) (r : ArrayRun) : s.checkOperands r = s := by
  simp [State.checkOperands, State.checkRows_clean h]

theorem State.checkElem_clean (h : s.tile.badElem = []) (fp : Bool) (k : Nat) (who : Option Thread) : s.checkElem fp k who = s := by
  simp [State.checkElem, h]

end

/-! ## Slots -/

@[simp] theorem State.slot_setSlot (s : State) (i : Fin 48) (x : Slot) : (s.setSlot i x).slot i = x := by
  simp [State.slot, State.setSlot, vset]

theorem State.slot_setSlot_ne (s : State) {i j : Fin 48} (x : Slot) (ne : j ≠ i) : (s.setSlot i x).slot j = s.slot j := by
  have : i.val ≠ j.val := fun e => ne (Fin.ext e.symm)
  simp [State.slot, State.setSlot, vset, this]

/-- A slot with its sticky flags raised. -/
def Slot.raise (x : Slot) (sat inx : Bool) : Slot := { x with sat := x.sat || sat, inx := x.inx || inx }

@[simp] theorem Slot.raise_false (x : Slot) : x.raise false false = x := by simp [Slot.raise]

@[simp] theorem Slot.raise_raise (x : Slot) (a b c d : Bool) : (x.raise a b).raise c d = x.raise (a || c) (b || d) := by
  simp [Slot.raise, Bool.or_assoc]

/-- The sticky flags do not bear on a step. -/
@[simp] theorem slotStep_raise (x : Slot) (a b : Bool) : slotStep (x.raise a b) = slotStep x := rfl

theorem any_congr_of_mem {α : Type} {l : List α} {f g : α → Bool} (h : ∀ a ∈ l, f a = g a) : l.any f = l.any g := by
  rw [Bool.eq_iff_iff, List.any_eq_true, List.any_eq_true]
  exact exists_congr fun a => and_congr_right fun mem => by rw [h a mem]

/-- Work on a slot in single steps, each of which writes one element and may raise the slot's sticky flags. -/
structure SlotWork (α : Type) where
  slot : Fin 48
  step : State → α → State
  /-- The element that a step writes, among those that `read` reads. -/
  key : α → Nat
  read : State → Nat → BitVec 96
  /-- What a step writes and the flags that it raises. -/
  out : State → α → StepOut
  /-- Nothing else has changed. -/
  frame : State → State → Prop

/-- What the steps of a list, no two at one element, make of a state. -/
structure SlotWork.Done {α : Type} (W : SlotWork α) (s u : State) (l : List α) : Prop where
  frame : W.frame s u
  written : ∀ a ∈ l, W.read u (W.key a) = (W.out s a).n
  kept : ∀ k, k ∉ l.map W.key → W.read u k = W.read s k
  slot : u.slot W.slot = (s.slot W.slot).raise (l.any fun a => (W.out s a).sat) (l.any fun a => (W.out s a).inx)
  slots : ∀ i, i ≠ W.slot → u.slot i = s.slot i

/-- What is to be known of single steps, from a state with no element that fails its parity (R76). -/
structure SlotWork.Lawful {α : Type} (W : SlotWork α) : Prop where
  refl : ∀ s, W.frame s s
  trans : ∀ s u v, W.frame s u → W.frame u v → W.frame s v
  clean : ∀ s u, W.frame s u → s.tile.badElem = [] → u.tile.badElem = []
  one : ∀ s a, s.tile.badElem = [] → W.Done s (W.step s a) [a]
  /-- A step whose element is as before is not disturbed by others. -/
  apart : ∀ s u a x y, W.frame s u → W.read u (W.key a) = W.read s (W.key a) → u.slot W.slot = (s.slot W.slot).raise x y →
    W.out u a = W.out s a

theorem SlotWork.Lawful.done {α : Type} {W : SlotWork α} (lawful : W.Lawful) {l : List α} {s : State} (h : s.tile.badElem = [])
    (nodup : (l.map W.key).Nodup) : W.Done s (l.foldl W.step s) l := by
  induction l generalizing s with
  | nil => exact ⟨lawful.refl s, by simp, fun _ _ => rfl, by simp, fun _ _ => rfl⟩
  | cons a l ih =>
    rw [List.map_cons, List.nodup_cons] at nodup
    obtain ⟨new, nodup⟩ := nodup
    have first := lawful.one s a h
    have others {b : α} (hb : b ∈ l) : W.out (W.step s a) b = W.out s b :=
      lawful.apart s _ b _ _ first.frame (first.kept _ fun e => new (List.mem_singleton.1 e ▸ List.mem_map_of_mem hb)) first.slot
    have later := ih (lawful.clean s _ first.frame h) nodup
    rw [List.foldl_cons]
    generalize l.foldl W.step (W.step s a) = u at later ⊢
    refine ⟨lawful.trans _ _ _ first.frame later.frame, ?_, fun k hk => ?_, ?_, fun i ne => (later.slots i ne).trans (first.slots i ne)⟩
    · refine List.forall_mem_cons.2 ⟨?_, fun b hb => (later.written b hb).trans (by rw [others hb])⟩
      exact (later.kept _ new).trans (first.written a List.mem_cons_self)
    · rw [List.map_cons, List.mem_cons, not_or] at hk
      exact (later.kept k hk.2).trans (first.kept k (by simpa using hk.1))
    · rw [later.slot, first.slot]
      simp only [Slot.raise_raise, List.any_cons, List.any_nil, Bool.or_false]
      rw [any_congr_of_mem fun b hb => congrArg StepOut.sat (others hb), any_congr_of_mem fun b hb => congrArg StepOut.inx (others hb)]

/-- A list of lists has no repeats where each has none and no two meet. -/
theorem nodup_flatMap_of_apart {α β : Type} {l : List α} (hl : l.Nodup) {f : α → List β} (each : ∀ a ∈ l, (f a).Nodup)
    (apart : ∀ a b x, x ∈ f a → x ∈ f b → a = b) : (l.flatMap f).Nodup :=
  List.nodup_flatMap.2 ⟨each, hl.pairwise_of_forall_ne fun a _ b _ ne x ha hb => ne (apart a b x ha hb)⟩

end Sys2Proof.Machine
end

section
namespace Sys2Proof.Machine
open Sys2Proof

/-! ## The busy PEs of an array step (R33, R35) -/

/-- The element that a PE adds to. -/
abbrev peKey (r : ArrayRun) (pe : Nat × Nat × Nat × Nat) : Nat := elemKey r.slot.val pe.1 pe.2.2.1

/-- What a PE makes of its element: PE row, output row, column and chunk (R44, R51). -/
def State.peOut (s : State) (r : ArrayRun) (pe : Nat × Nat × Nat × Nat) : StepOut :=
  slotStep (s.slot r.slot) pe.2.1 pe.2.2.1 (s.elem (peKey r pe))
    (chunkProds r.sparse r.fa.toNat r.fb.toNat r.kw pe.2.2.2 (s.opRow r.a r.sa r.fa.toNat pe.2.1)
      (s.opRow r.b r.sb r.fb.toNat pe.2.2.1) (ofBytes (s.rowBytes r.mt pe.2.1)) (r.sparse && s.mark r.mt pe.2.1))

theorem State.peStep_clean {s : State} (h : s.tile.badElem = []) (r : ArrayRun) (pe : Nat × Nat × Nat × Nat) :
    s.peStep r r.kw pe = { s with tile := { s.tile with
      elems := setD zero96 s.tile.elems (peKey r pe) (s.peOut r pe).n
      slots := vset s.tile.slots r.slot ((s.slot r.slot).raise (s.peOut r pe).sat (s.peOut r pe).inx) } } := by
  obtain ⟨i, row, col, c⟩ := pe
  simp only [State.peStep, State.checkElem_clean h, State.setElem, h, List.filter_nil]
  rw [← h]
  rfl

/-- The work of the PEs of a run. -/
def peWork (r : ArrayRun) : SlotWork (Nat × Nat × Nat × Nat) where
  slot := r.slot
  step s pe := s.peStep r r.kw pe
  key := peKey r
  read := State.elem
  out s pe := s.peOut r pe
  frame s u := u = { s with tile := { s.tile with elems := u.tile.elems, slots := u.tile.slots } }

theorem peWork_lawful (r : ArrayRun) : (peWork r).Lawful where
  refl _ := rfl
  trans s u v hu hv := by
    simp only [peWork] at *
    rw [hv, hu]
  clean s u hu h := by
    rw [hu]
    exact h
  one s pe h := by
    simp only [peWork, State.peStep_clean h]
    refine ⟨rfl, ?_, ?_, ?_, fun i ne => State.slot_setSlot_ne s _ ne⟩
    · simp [State.elem]
    · simp +contextual [State.elem]
    · simp only [List.any_cons, List.any_nil, Bool.or_false]
      exact State.slot_setSlot ..
  apart s u pe x y frame elem slot := by
    have tray : u.tile.trays = s.tile.trays := by rw [frame]
    have data : u.tile.data = s.tile.data := by rw [frame]
    simp only [peWork] at elem slot
    simp only [peWork, State.peOut, elem, slot, slotStep_raise, State.opRow, State.rowBytes, State.mark, State.tray, tray, data]

/-! ### Which PEs are busy -/

theorem mem_busyPes {f h m n st chunks : Nat} {pe : Nat × Nat × Nat × Nat} : pe ∈ busyPes f h m n st chunks ↔
    ∃ g row col, g < f ∧ row < m ∧ col < n ∧ st * f + g < chunks ∧ pe = (g * h + row, row, col, st * f + g) := by
  simp only [busyPes, List.mem_flatMap, List.mem_range]
  constructor
  · rintro ⟨g, hg, mem⟩
    split at mem
    · next hc =>
      simp only [List.mem_flatMap, List.mem_map, List.mem_range] at mem
      obtain ⟨row, hr, col, hj, rfl⟩ := mem
      exact ⟨g, row, col, hg, hr, hj, hc, rfl⟩
    · simp at mem
  · rintro ⟨g, row, col, hg, hr, hj, hc, rfl⟩
    refine ⟨g, hg, ?_⟩
    rw [if_pos hc]
    simp only [List.mem_flatMap, List.mem_map, List.mem_range]
    exact ⟨row, hr, col, hj, rfl⟩

/-- No two PEs work on one element. -/
theorem nodup_busyPes (r : ArrayRun) {f h m n st chunks : Nat} (hm : m ≤ h) (hn : n ≤ 32) :
    ((busyPes f h m n st chunks).map (peKey r)).Nodup := by
  have pes : (busyPes f h m n st chunks).Nodup := by
    refine nodup_flatMap_of_apart List.nodup_range (fun g _ => ?_) fun g g' x hx hx' => ?_
    · split
      · refine nodup_flatMap_of_apart List.nodup_range (fun row _ => ?_) fun row row' x hx hx' => ?_
        · exact List.nodup_range.map fun j j' e => by simpa using e
        · grind
      · exact List.nodup_nil
    · grind
  refine pes.map_on fun x hx y hy e => ?_
  obtain ⟨g, row, col, -, hr, hj, -, rfl⟩ := mem_busyPes.1 hx
  obtain ⟨g', row', col', -, hr', hj', -, rfl⟩ := mem_busyPes.1 hy
  simp only [peKey, elemKey] at e
  obtain ⟨lines, rfl⟩ : g * h + row = g' * h + row' ∧ col = col' := by omega
  have group {g row : Nat} (hr : row < m) : (g * h + row) / h = g := by
    rw [Nat.mul_comm, Nat.mul_add_div (by omega), Nat.div_eq_of_lt (by omega), Nat.add_zero]
  obtain rfl : g = g' := (group hr).symm.trans ((congrArg (· / h) lines).trans (group hr'))
  obtain rfl : row = row' := by omega
  rfl

end Sys2Proof.Machine
end

section
namespace Sys2Proof.Machine
open Sys2Proof

/-! ## One array step (R30, R35, R99) -/

/-- The PEs that add products in the step; binary32 adds in the second of two steps (R30). -/
def ArrayRun.pes (r : ArrayRun) : List (Nat × Nat × Nat × Nat) :=
  if r.fa = 8 ∧ r.step % 2 = 0 then []
  else busyPes r.fold (32 / r.fold) r.m r.n (if r.fa = 8 then r.step / 2 else r.step) (r.k / r.kw)

theorem ArrayRun.mem_pes {r : ArrayRun} {pe : Nat × Nat × Nat × Nat} : pe ∈ r.pes ↔ (r.fa ≠ 8 ∨ r.step % 2 = 1) ∧
    ∃ g row col, g < r.fold ∧ row < r.m ∧ col < r.n ∧ (if r.fa = 8 then r.step / 2 else r.step) * r.fold + g < r.k / r.kw ∧
      pe = (g * (32 / r.fold) + row, row, col, (if r.fa = 8 then r.step / 2 else r.step) * r.fold + g) := by
  unfold ArrayRun.pes
  split
  · next h => simp [h.1, h.2]
  · next h =>
    have adds : r.fa ≠ 8 ∨ r.step % 2 = 1 := by
      by_cases two : r.fa = 8
      · exact .inr (by have odd : r.step % 2 ≠ 0 := fun even => h ⟨two, even⟩; omega)
      · exact .inl two
    rw [mem_busyPes, and_iff_right adds]

theorem ArrayRun.nodup_pes {r : ArrayRun} (hm : r.m ≤ 32 / r.fold) (hn : r.n ≤ 32) : (r.pes.map (peKey r)).Nodup := by
  unfold ArrayRun.pes
  split
  · exact List.nodup_nil
  · exact nodup_busyPes r hm hn

/-- The slot and the queue after a step whose PEs have left state `w`. -/
def ArrayRun.after (r : ArrayRun) (w : State) : Tile :=
  if r.step + 1 < r.steps then { w.tile with array := some { r with step := r.step + 1 } }
  else { w.tile with
    array := none
    slots := vset w.tile.slots r.slot { w.slot r.slot with p := (w.slot r.slot).p + BitVec.ofNat 47 r.k }
    queue := w.tile.queue.filter fun x => x.id ≠ r.id }

theorem State.arrayStep_clean {s : State} (h : s.tile.badRow = []) (r : ArrayRun) :
    let w := r.pes.foldl (peWork r).step s
    ∃ v, Accounts w v ∧ s.arrayStep r = { v with tile := r.after w } := by
  have work : (if (decide (r.fa = 8) && decide (r.step % 2 = 0)) = true then s
      else (busyPes r.fold (32 / r.fold) r.m r.n (if decide (r.fa = 8) = true then r.step / 2 else r.step) (r.k / r.kw)).foldl
        (fun s pe => s.peStep r r.kw pe) s) = r.pes.foldl (peWork r).step s := by
    simp only [Bool.and_eq_true, decide_eq_true_eq, ArrayRun.pes]
    split <;> rfl
  simp only [State.arrayStep, State.checkOperands_clean h, work]
  generalize r.pes.foldl (peWork r).step s = w
  have counts : Accounts w ((w.bump .til 2 1 (s.entryWho r.id)).bump .til 3 1 (s.entryWho r.id)) :=
    (Accounts.bump ..).trans (Accounts.bump ..)
  generalize (w.bump .til 2 1 (s.entryWho r.id)).bump .til 3 1 (s.entryWho r.id) = v at counts ⊢
  refine ⟨v, counts, ?_⟩
  simp only [ArrayRun.after, State.slot, ← counts.tile]
  split <;> rfl

/-- A step of the array (R30, R33, R35, R44, R51, R99). -/
theorem skilletStep_is (s : State) (r : ArrayRun) (run : s.tile.array = some r) (on : s.running = true) (rows : s.tile.badRow = [])
    (elems : s.tile.badElem = []) (hm : r.m ≤ 32 / r.fold) (hn : r.n ≤ 32) :
    ∃ w u, exec .skilletStep s = .next u ∧ OnlyTile s u ∧ (peWork r).Done s w r.pes ∧ u.tile = r.after w := by
  obtain ⟨v, counts, e⟩ := s.arrayStep_clean rows r
  have done := (peWork_lawful r).done elems (ArrayRun.nodup_pes hm hn)
  refine ⟨_, s.sealed (s.arrayStep r), ?_, ?_, done, by rw [e]; rfl⟩
  · rw [show exec .skilletStep s = execSkilletStep s from rfl, execSkilletStep, run]
    simp only [due, on, if_true]
  · rw [e]
    refine ((OnlyTile.accounts ?_ counts).tile _).sealed
    rw [done.frame]
    exact OnlyTile.refl s

end Sys2Proof.Machine
end

section
namespace Sys2Proof.Machine
open Sys2Proof

/-! ## The array's steps -/

section
variable {u w : State} {r : ArrayRun} (h : u.tile = r.after w)
include h

theorem ArrayRun.after_keeps : u.tile.trays = w.tile.trays ∧ u.tile.data = w.tile.data ∧ u.tile.shadow = w.tile.shadow ∧
    ∀ k, u.elem k = w.elem k := by
  simp only [State.elem, h, ArrayRun.after]
  split <;> exact ⟨rfl, rfl, rfl, fun _ => rfl⟩

theorem ArrayRun.after_slot : u.slot r.slot =
    { w.slot r.slot with p := if r.step + 1 < r.steps then (w.slot r.slot).p else (w.slot r.slot).p + BitVec.ofNat 47 r.k } := by
  simp only [State.slot, h, ArrayRun.after]
  split
  · rfl
  · exact State.slot_setSlot w r.slot _

theorem ArrayRun.after_slot_ne {i : Fin 48} (ne : i ≠ r.slot) : u.slot i = w.slot i := by
  simp only [State.slot, h, ArrayRun.after]
  split
  · rfl
  · exact State.slot_setSlot_ne w _ ne

end

/-- What holds of some PE of the step, by group, output row and column. -/
theorem ArrayRun.any_pes (r : ArrayRun) (f : Nat × Nat × Nat × Nat → Bool) : r.pes.any f = true ↔ (r.fa ≠ 8 ∨ r.step % 2 = 1) ∧
    ∃ g row col, g < r.fold ∧ row < r.m ∧ col < r.n ∧ (if r.fa = 8 then r.step / 2 else r.step) * r.fold + g < r.k / r.kw ∧
      f (g * (32 / r.fold) + row, row, col, (if r.fa = 8 then r.step / 2 else r.step) * r.fold + g) = true := by
  rw [List.any_eq_true]
  constructor
  · rintro ⟨pe, mem, holds⟩
    obtain ⟨adds, g, row, col, hg, hr, hj, hc, rfl⟩ := ArrayRun.mem_pes.1 mem
    exact ⟨adds, g, row, col, hg, hr, hj, hc, holds⟩
  · rintro ⟨adds, g, row, col, hg, hr, hj, hc, holds⟩
    exact ⟨_, ArrayRun.mem_pes.2 ⟨adds, g, row, col, hg, hr, hj, hc, rfl⟩, holds⟩

/-- Settles O23: the PEs of a step work on elements of their own, so each finds its element as the step found it; the
numbers are those of the exact arithmetic. -/
theorem arraySteps : Obligations.ArraySteps := by
  unfold Obligations.ArraySteps
  refine ⟨fun s r run on rows elems _ hm hn => ?step, exactStep_is, fun sl row col p neg m e => ?product,
    fun sl row col n ps fp => ?fp, fun fa fb kw c mt bad a b ha hb => ⟨chunkProds_dense ha hb kw c mt bad a b,
      fun h4 => chunkProds_sparse ha hb h4 c mt bad a b⟩, State.opRow_is⟩
  case step =>
    intro sl H st adds key prods busy
    obtain ⟨w, u, e, only, done, tile⟩ := skilletStep_is s r run on rows elems hm hn
    obtain ⟨trays, data, shadow, elem⟩ := ArrayRun.after_keeps tile
    have slot := ArrayRun.after_slot tile
    have raised : w.slot r.slot = (s.slot r.slot).raise (r.pes.any fun pe => (s.peOut r pe).sat)
      (r.pes.any fun pe => (s.peOut r pe).inx) := done.slot
    rw [raised] at slot
    refine ⟨u, e, only, ?_, ?_, ?_, fun ha g row col hg hr hj hc => ?_, fun k idle => ?_,
      fun i ne => (ArrayRun.after_slot_ne tile ne).trans (done.slots i ne), ?_, fun more => ?_, fun last => ?_⟩
    · rw [trays, done.frame]
    · rw [data, done.frame]
    · rw [shadow, done.frame]
    · exact (elem _).trans (done.written _ (ArrayRun.mem_pes.2 ⟨ha, g, row, col, hg, hr, hj, hc, rfl⟩))
    · refine (elem k).trans (done.kept k fun mem => idle ?_)
      obtain ⟨pe, works, rfl⟩ := List.mem_map.1 mem
      obtain ⟨ha, g, row, col, hg, hr, hj, hc, rfl⟩ := ArrayRun.mem_pes.1 works
      exact ⟨ha, g, row, col, hg, hr, hj, hc, rfl⟩
    · intro v step some'
      rw [show v = _ from slot]
      refine ⟨rfl, ?_, ?_⟩
      · exact (Bool.or_eq_true ..).to_iff.trans (or_congr_right (r.any_pes _))
      · exact (Bool.or_eq_true ..).to_iff.trans (or_congr_right (r.any_pes _))
    · rw [slot, tile, ArrayRun.after, if_pos more, if_pos more, done.frame]
      exact ⟨rfl, rfl, rfl⟩
    · rw [slot, tile, ArrayRun.after, if_neg (not_lt.2 last), if_neg (not_lt.2 last), done.frame]
      exact ⟨rfl, rfl, rfl⟩
  case product =>
    rw [windowUnits_fin, slotRnd_eq]
    exact ⟨rfl, decide_eq_true_iff⟩
  case fp =>
    rw [slotStep, if_pos fp]
    exact fpStep_is n ps

end Sys2Proof.Machine
end

section
namespace Sys2Proof.Machine
open Sys2Proof

/-! ## The values of a drained row (R69) -/

/-- What a shadow element enters the fuser with. -/
theorem shadowVal_is (fp : Bool) (anchor : BitVec 10) (x : BitVec 96) :
    let a := shadowVal fp anchor x
    (fp = true → ElementIs 8 (x.toNat % 2 ^ 32) a) ∧ (fp = false → x = BitVec.intMin 96 → a = .nan) ∧
    (fp = false → x ≠ BitVec.intMin 96 → a.isFin ∧ a.rat = x.toInt * (2 : ℚ) ^ (anchor.toInt - 64) ∧ a.sign = decide (x.toInt < 0)) := by
  cases fp with
  | true => exact ⟨fun _ => fpElem_is x, by simp, by simp⟩
  | false =>
    simp only [shadowVal, nanMark_exact]
    refine ⟨by simp, fun _ marker => if_pos marker, fun _ number => ?_⟩
    rw [if_neg Bool.false_ne_true, if_neg number]
    exact ⟨by simp [Val.isFin], Val.rat_int .., rfl⟩

/-- An element of an operand row of the fuser. -/
theorem State.fuserRow_is (s : State) (T : TrayNo) {code : Nat} (h : code ≤ 8) (r j : Nat) :
    if s.mark T r = true then s.fuserRow T code r j = .nan
    else OperandIs code (ofBytes (s.rowBytes T r)) 0 j j (s.fuserRow T code r j) := by
  have element := OpRow.val_is ⟨ofBytes (s.rowBytes T r), s.mark T r, 0⟩ (show code < 15 by omega) j j
  have plain : isMx code = false := by simp [isMx]; omega
  simpa only [State.fuserRow, OpRow.val, plain, Bool.false_eq_true, if_false] using element

/-- The fuser's value: scaled, then added to or multiplied (R69). -/
theorem fuse_is (c : DrainCw) (a cj tj : Val) :
    ∃ b, (c.cse = false → b = a) ∧ (c.cse = true → ProductIs a cj b) ∧
      (c.fop = 0 → fuse c a cj tj = b) ∧ (c.fop = 1 → SumIs [b, tj] (fuse c a cj tj)) ∧
      (c.fop = 2 → ProductIs b tj (fuse c a cj tj)) := by
  refine ⟨if c.cse then a.mul cj else a, fun off => by simp [off], fun on => ?_, fun op => ?_, fun op => ?_, fun op => ?_⟩
  · rw [if_pos on]
    exact productIs_mul ..
  · simp [fuse, op]
  · simp only [fuse, op, if_true]
    exact sumIs_sumVals _
  · simp only [fuse, op]
    exact productIs_mul ..

/-! ## The converted row (R70, R71) -/

/-- The draw of column `j` of a drained row (R69, R72). -/
def DrainRun.drawAt (d : DrainRun) (r j : Nat) : Nat := drawOf d.seed.toNat r j (2 ^ 47 + (d.d.toNat - 1))

theorem DrainRun.drawAt_eq {d : DrainRun} (h : 1 ≤ d.d.toNat) (r j : Nat) : draw d.seed r j (2 ^ 47 + (d.d - 1).toNat) = d.drawAt r j := by
  have one : (d.d - 1).toNat = d.d.toNat - 1 := by
    rw [BitVec.toNat_sub_of_le (by rw [BitVec.le_def]; exact h)]
    rfl
  rw [draw_eq, one]
  rfl

theorem DrainRun.draws_eq {d : DrainRun} (h : 1 ≤ d.d.toNat) (r : Nat) : d.draws r = (List.range d.nd).map (d.drawAt r) :=
  List.map_congr_left fun j _ => d.drawAt_eq h r j

theorem DrainRun.drawAt_lt {d : DrainRun} (h : 1 ≤ d.d.toNat) (r j : Nat) : d.drawAt r j < 2 ^ 24 :=
  d.drawAt_eq h r j ▸ draw_lt ..

theorem State.length_fuseRow (s : State) (d : DrainRun) (c : DrainCw) (r : Nat) : (s.fuseRow d c r).length = d.nd := by
  simp [State.fuseRow]

theorem State.convertRow_bytes (s : State) (d : DrainRun) (c : DrainCw) (r : Nat) : (s.convertRow d c r).1 =
    packRow (elemBits c.ofmt) (s.tray c.dst).bytes ((s.convertRow d c r).2.2.map (·.bits)) := by
  unfold State.convertRow
  split <;> rfl

section
variable (s : State) {d : DrainRun} {c : DrainCw} (r : Nat) (h : 1 ≤ d.d.toNat)
include h

/-- A row of a format with no scale (R70). -/
theorem State.convertRow_plain (hc : c.ofmt < 15) (mx : ¬ mxCode c.ofmt) :
    (s.convertRow d c r).2.1 = 0 ∧ (s.convertRow d c r).2.2.length = d.nd ∧
    ∀ (j : Nat) (v : Val), (s.fuseRow d c r)[j]? = some v → ∃ o : Conv, (s.convertRow d c r).2.2[j]? = some o ∧
      ConvertIs c.ofmt v (slotRnd d.rnd) c.sat (d.drawAt r j) o.bits o.sat o.inx ∧ (o.nan = true ↔ v = .nan) := by
  have e : s.convertRow d c r = (packRow (elemBits c.ofmt) (s.tray c.dst).bytes (((s.fuseRow d c r).zip (d.draws r)).map fun p =>
      (fmtOf c.ofmt).convert p.1 (slotRnd d.rnd) c.sat p.2 |>.bits), 0,
      ((s.fuseRow d c r).zip (d.draws r)).map fun p => (fmtOf c.ofmt).convert p.1 (slotRnd d.rnd) c.sat p.2) := by
    simp only [State.convertRow, if_neg ((isMx_iff _).not.2 mx), List.map_map]
    rfl
  rw [e]
  refine ⟨rfl, ?_, fun j v hv => ?_⟩
  · simp [State.length_fuseRow, DrainRun.draws]
  · obtain ⟨hj, rfl⟩ := List.getElem?_eq_some_iff.1 hv
    have hj' : j < d.nd := by rwa [State.length_fuseRow] at hj
    refine ⟨(fmtOf c.ofmt).convert (s.fuseRow d c r)[j] (slotRnd d.rnd) c.sat (d.drawAt r j), ?_, ?_, convert_nan ..⟩
    · rw [DrainRun.draws_eq h]
      simp [hj, hj']
    · exact convertIs_convert (by simp only [mxCode] at mx; omega) (slotRnd_ne_reserved _) (DrainRun.drawAt_lt h r j) _ _

/-- A row of an MX format (R71). -/
theorem State.convertRow_mx (mx : mxCode c.ofmt) :
    (s.convertRow d c r).2.2.length = d.nd ∧
    BlockIs c.ofmt (s.fuseRow d c r) (slotRnd d.rnd) c.sat (d.drawAt r) (s.convertRow d c r).2.1.toNat (convAt (s.convertRow d c r).2.2) ∧
    ∀ (j : Nat) (v : Val), (s.fuseRow d c r)[j]? = some v → ∃ o : Conv, (s.convertRow d c r).2.2[j]? = some o ∧
      (o.nan = true ↔ v = .nan) := by
  obtain ⟨small, length, block, nans⟩ := mxBlock_is mx (s.fuseRow d c r) (slotRnd_ne_reserved d.rnd) c.sat (DrainRun.drawAt_lt h r)
  rw [State.length_fuseRow, ← DrainRun.draws_eq h] at small length block nans
  simp only [State.convertRow, if_pos ((isMx_iff _).2 mx)]
  refine ⟨length, ?_, nans⟩
  rw [BitVec.toNat_ofNat, Nat.mod_eq_of_lt small]
  exact block

end

/-- A converted row: its values, and what the conversion makes of them (R24, R65, R69 to R73). -/
theorem State.convertRow_is (s : State) (d : DrainRun) (r : Nat) (h : 1 ≤ d.d.toNat) :
    let c := drainCw d.cw
    let rnd : Rnd := if d.rnd = 0 then .rne else if d.rnd = 1 then .rtz else if d.rnd = 2 then .odd else .stoch
    let out := s.convertRow d c r
    let word (T : TrayNo) (code i j : Nat) (v : Val) : Prop :=
      if s.mark T i = true then v = .nan else OperandIs code (ofBytes (s.rowBytes T i)) 0 j j v
    let us (j : Nat) := drawOf d.seed.toNat r j (2 ^ 47 + (d.d.toNat - 1))
    c.ofmt < 15 → c.fop ≠ 3 → (c.fop ≠ 0 → c.tfmt ≤ 8) →
    ∃ vs : List Val, vs.length = d.nd ∧ out.2.2.length = d.nd ∧
      (∀ j v, vs[j]? = some v →
        let x := getD zero96 s.tile.shadow (32 * r + j)
        ∃ a b, (d.fp = true → ElementIs 8 (x.toNat % 2 ^ 32) a) ∧ (d.fp = false → x = BitVec.intMin 96 → a = .nan) ∧
          (d.fp = false → x ≠ BitVec.intMin 96 → a.isFin ∧ a.rat = x.toInt * (2 : ℚ) ^ (d.anchor.toInt - 64) ∧
            a.sign = decide (x.toInt < 0)) ∧
          (c.cse = false → b = a) ∧ (c.cse = true → ∃ y, word c.ctr 8 0 j y ∧ ProductIs a y b) ∧
          (c.fop = 0 → v = b) ∧ (c.fop = 1 → ∃ y, word c.ttr c.tfmt r j y ∧ SumIs [b, y] v) ∧
          (c.fop = 2 → ∃ y, word c.ttr c.tfmt r j y ∧ ProductIs b y v)) ∧
      (¬ mxCode c.ofmt → out.2.1 = 0 ∧ ∀ j v, vs[j]? = some v → ∃ o, out.2.2[j]? = some o ∧
        ConvertIs c.ofmt v rnd c.sat (us j) o.bits o.sat o.inx ∧ (o.nan = true ↔ v = .nan)) ∧
      (mxCode c.ofmt → ∃ el, BlockIs c.ofmt vs rnd c.sat us out.2.1.toNat el ∧
        ∀ j v, vs[j]? = some v → ∃ o, out.2.2[j]? = some o ∧ (o.bits, o.sat, o.inx) = el j ∧ (o.nan = true ↔ v = .nan)) ∧
      out.1 = packRow (codeBits c.ofmt) (s.tray c.dst).bytes (out.2.2.map (·.bits)) := by
  intro c rnd out word us hc _ ht
  have mode : rnd = slotRnd d.rnd := (slotRnd_eq d.rnd).symm
  refine ⟨s.fuseRow d c r, s.length_fuseRow d c r, ?_, fun j v hv => ?_, fun plain => ?_, fun mx => ?_, ?_⟩
  · by_cases mx : mxCode c.ofmt
    · exact (s.convertRow_mx r h mx).1
    · exact (s.convertRow_plain r h hc mx).2.1
  · intro x
    obtain ⟨hj, rfl⟩ := List.getElem?_eq_some_iff.1 hv
    have value : (s.fuseRow d c r)[j] = fuse c (shadowVal d.fp d.anchor x) (if c.cse then s.fuserRow c.ctr 8 0 j else .nan)
        (if c.fop = 0 then .nan else s.fuserRow c.ttr c.tfmt r j) := by
      simp [State.fuseRow, x]
    obtain ⟨float, marker, number⟩ := shadowVal_is d.fp d.anchor x
    obtain ⟨b, plain, scaled, none, sum, product⟩ := fuse_is c (shadowVal d.fp d.anchor x)
      (if c.cse then s.fuserRow c.ctr 8 0 j else .nan) (if c.fop = 0 then .nan else s.fuserRow c.ttr c.tfmt r j)
    rw [value]
    refine ⟨_, b, float, marker, number, plain, fun on => ⟨_, ?_, scaled on⟩, none, fun op => ⟨_, ?_, sum op⟩,
      fun op => ⟨_, ?_, product op⟩⟩
    · rw [if_pos on]
      exact s.fuserRow_is c.ctr le_rfl 0 j
    · rw [if_neg (by omega)]
      exact s.fuserRow_is c.ttr (ht (by omega)) r j
    · rw [if_neg (by omega)]
      exact s.fuserRow_is c.ttr (ht (by omega)) r j
  · obtain ⟨scale, -, each⟩ := s.convertRow_plain r h hc plain
    rw [mode]
    exact ⟨scale, each⟩
  · obtain ⟨-, block, each⟩ := s.convertRow_mx r h mx
    rw [mode]
    refine ⟨_, block, fun j v hv => ?_⟩
    obtain ⟨o, get, nan⟩ := each j v hv
    exact ⟨o, get, (convAt_of_get get).symm, nan⟩
  · rw [← elemBits_eq hc]
    exact s.convertRow_bytes d c r

end Sys2Proof.Machine
end

section
namespace Sys2Proof.Machine
open Sys2Proof

/-! ## The start of an entry (R87, R88, R293) -/

theorem Accounts.countItems (s : State) (items : List (Nat × Nat)) (who : Option Thread) : Accounts s (s.countItems items who) := by
  unfold State.countItems
  refine Accounts.foldl _ (fun s x => ?_) items s
  exact Accounts.countEnergy s x.1 (x.2 * s.weight x.1) who

/-- An admitted entry is charged to the reservation or the balance. -/
theorem State.admission_of_admits {s : State} {items : List (Nat × Nat)} (h : admits s (s.estimate items)) (who : Option Thread) :
    ∃ u, s.admission items who = some u ∧ OnlyTile s u ∧ u.tile = s.tile := by
  have paid (v : State) (only : OnlyTile s v) (tile : v.tile = s.tile) :
      OnlyTile s (v.countItems items who) ∧ (v.countItems items who).tile = s.tile :=
    ⟨only.accounts (.countItems ..), (Accounts.countItems v items who).tile.trans tile⟩
  have balance := paid _ ((OnlyTile.refl s).accounts (.setBal s (s.scl.bal - s.estimate items)))
    (Accounts.setBal s (s.scl.bal - s.estimate items)).tile
  have reserve := paid { s with scl := { s.scl with rsv := s.scl.rsv - s.estimate items } } (Accounts.refl s) rfl
  simp only [State.admission]
  by_cases off : s.en .scl = false
  · exact ⟨_, by simp [off], balance⟩
  by_cases covered : s.estimate items ≤ s.scl.rsv
  · exact ⟨_, by simp [off, covered], reserve⟩
  have rest : -s.ovd ≤ s.scl.bal - s.estimate items := (h.resolve_left off).resolve_left covered
  exact ⟨_, by simp [off, covered, rest], balance⟩

/-- The checks of an entry look at the trays' shapes and marks and at the slots alone. -/
theorem State.entryFault_shape (s : State) (q : QEntry) : s.entryFault q =
    ({ State.reset with tile := { Tile.reset with trays := s.tile.trays, slots := s.tile.slots } } : State).entryFault q := rfl

/-- An entry that has started: a TLD or TST has its fault point before it (R88). -/
abbrev QEntry.begun (q : QEntry) : QEntry := { q with started := true, safe := q.kind ≠ .mem }

/-- TILE_ENTRY_START of an entry that is admitted and passes its checks. -/
theorem tileEntryStart_runs {s : State} {q : QEntry} (next : s.nextEntry = some q) (may : s.mayStart q = true)
    (admitted : admits s (s.estimate (s.entryItems q))) (passes : s.entryFault q = none) :
    ∃ b, exec .tileEntryStart s = .next (s.sealed (b.entryRun q.begun)) ∧ OnlyTile s b ∧
      b.tile = { s.tile with queue := queueRuns s q, deferred := false } := by
  obtain ⟨u, pays, only, tile⟩ := State.admission_of_admits admitted (some q.thr)
  have counts := Accounts.bump (({ u with tile := { u.tile with deferred := false } }).setEntry q.begun) .til 1 1 (some q.thr)
  refine ⟨_, ?_, (only.tile _).accounts counts, counts.tile.trans (by simp only [State.setEntry, tile])⟩
  have none : ((({ u with tile := { u.tile with deferred := false } }).setEntry q.begun).bump .til 1 1 (some q.thr)).entryFault
      q.begun = none := by
    rw [State.entryFault_shape, counts.tile]
    simp only [State.setEntry, tile]
    exact (s.entryFault_shape q).symm.trans passes
  rw [show exec .tileEntryStart s = execTileEntryStart s from rfl]
  simp only [execTileEntryStart, next, due, may, if_true, pays, State.entryStart]
  rw [none]

end Sys2Proof.Machine
end

section
namespace Sys2Proof.Machine
open Sys2Proof

/-! ## The copy step of a drain (R54, R65) -/

/-- The partials of element (r, j) of slot `n` under fold factor `f`, combined. -/
def State.combined (s : State) (n : Fin 48) (f : Nat) (rj : Nat × Nat) : StepOut :=
  combine (s.slot n).fp ((List.range f).map fun g => s.elem (elemKey n.val (g * (32 / f) + rj.1) rj.2))

theorem State.copyElem_clean {s : State} (h : s.tile.badElem = []) (n : Fin 48) (f : Nat) (who : Option Thread) (rj : Nat × Nat) :
    s.copyElem n f (32 / f) who rj = { s with tile := { s.tile with
      shadow := setD zero96 s.tile.shadow (32 * rj.1 + rj.2) (s.combined n f rj).n
      slots := vset s.tile.slots n ((s.slot n).raise (s.combined n f rj).sat (s.combined n f rj).inx) } } := by
  have reads (l : List Nat) : l.foldl (fun u k => u.checkElem (s.slot n).fp k who) s = s :=
    foldl_same l fun _ _ => State.checkElem_clean h ..
  simp only [State.copyElem, reads, List.map_map]
  rfl

/-- The copy of a slot into the shadow set. -/
def copyWork (n : Fin 48) (f : Nat) (who : Option Thread) : SlotWork (Nat × Nat) where
  slot := n
  step s rj := s.copyElem n f (32 / f) who rj
  key rj := 32 * rj.1 + rj.2
  read s k := getD zero96 s.tile.shadow k
  out s rj := s.combined n f rj
  frame s u := u = { s with tile := { s.tile with shadow := u.tile.shadow, slots := u.tile.slots } }

theorem copyWork_lawful (n : Fin 48) (f : Nat) (who : Option Thread) : (copyWork n f who).Lawful where
  refl _ := rfl
  trans s u v hu hv := by
    simp only [copyWork] at *
    rw [hv, hu]
  clean s u hu h := by
    rw [hu]
    exact h
  one s rj h := by
    simp only [copyWork, State.copyElem_clean h]
    refine ⟨rfl, ?_, ?_, ?_, fun i ne => State.slot_setSlot_ne s _ ne⟩
    · simp
    · simp +contextual
    · simp only [List.any_cons, List.any_nil, Bool.or_false]
      exact State.slot_setSlot ..
  apart s u rj x y frame _ slot := by
    have elems : u.tile.elems = s.tile.elems := by rw [frame]
    have raised : u.slot n = (s.slot n).raise x y := slot
    have fp : (u.slot n).fp = (s.slot n).fp := by rw [raised]; rfl
    simp only [copyWork, State.combined, State.elem, elems, fp]

/-- The elements that the copy writes. -/
def copied (h : Nat) : List (Nat × Nat) := (List.range h).flatMap fun r => (List.range 32).map fun j => (r, j)

theorem mem_copied {h r j : Nat} : (r, j) ∈ copied h ↔ r < h ∧ j < 32 := by
  simp [copied]

theorem nodup_copied (h : Nat) (n : Fin 48) (f : Nat) (who : Option Thread) : ((copied h).map (copyWork n f who).key).Nodup := by
  have elements : (copied h).Nodup := by
    refine nodup_flatMap_of_apart List.nodup_range (fun r _ => ?_) fun r r' x hx hx' => ?_
    · exact List.nodup_range.map fun j j' e => by simpa using e
    · grind
  refine elements.map_on fun x hx y hy e => ?_
  obtain ⟨r, j⟩ := x
  obtain ⟨r', j'⟩ := y
  have hj := (mem_copied.1 hx).2
  have hj' := (mem_copied.1 hy).2
  simp only [copyWork] at e
  rw [Prod.mk.injEq]
  omega

theorem any_copied (h : Nat) (f : Nat × Nat → Bool) : (copied h).any f = true ↔ ∃ r j, r < h ∧ j < 32 ∧ f (r, j) = true := by
  rw [List.any_eq_true]
  constructor
  · rintro ⟨⟨r, j⟩, mem, holds⟩
    exact ⟨r, j, (mem_copied.1 mem).1, (mem_copied.1 mem).2, holds⟩
  · rintro ⟨r, j, hr, hj, holds⟩
    exact ⟨(r, j), mem_copied.2 ⟨hr, hj⟩, holds⟩

/-- The fold factor in force (R54). -/
def Slot.folds (x : Slot) : Nat := if x.fold = 0 then 1 else x.fold

/-- The copy step: the shadow set holds the combined elements, and the slot has their flags and one drain more. -/
structure Copied (s u : State) (n : Fin 48) : Prop where
  shadow : ∀ r j, j < 32 → getD zero96 u.tile.shadow (32 * r + j) =
    if r < 32 / (s.slot n).folds then (s.combined n (s.slot n).folds (r, j)).n else 0
  slot : u.slot n = { (s.slot n).raise
      ((copied (32 / (s.slot n).folds)).any fun rj => (s.combined n (s.slot n).folds rj).sat)
      ((copied (32 / (s.slot n).folds)).any fun rj => (s.combined n (s.slot n).folds rj).inx) with d := (s.slot n).d + 1 }
  slots : ∀ i, i ≠ n → u.slot i = s.slot i

/-- The copy looks at the slots and the elements alone. -/
theorem Copied.congr {b s u : State} {n : Fin 48} (h : Copied b u n) (slots : b.tile.slots = s.tile.slots)
    (elems : b.tile.elems = s.tile.elems) : Copied s u n := by
  have slot (i : Fin 48) : b.slot i = s.slot i := by simp only [State.slot, slots]
  have combined (f : Nat) (rj : Nat × Nat) : b.combined n f rj = s.combined n f rj := by
    simp only [State.combined, State.elem, slot, elems]
  obtain ⟨written, raised, kept⟩ := h
  simp only [slot, combined] at written raised kept
  exact ⟨written, raised, kept⟩

/-- The state with an empty shadow set, in which the copy begins. -/
def State.unshadowed (s : State) : State := { s with tile := { s.tile with shadow := [] } }

theorem State.copyStep_clean {s : State} (h : s.tile.badElem = []) (n : Fin 48) (who : Option Thread) :
    let w := (copied (32 / (s.slot n).folds)).foldl (copyWork n (s.slot n).folds who).step s.unshadowed
    s.copyStep n who = w.setSlot n { w.slot n with d := (w.slot n).d + 1 } := by
  have fresh : { s with tile := { s.tile with shadow := [], badElem := s.tile.badElem.filter fun k => k / 1024 ≠ 48 } } =
      s.unshadowed := by
    simp only [h, List.filter_nil, State.unshadowed]
  simp only [State.copyStep, fresh]
  rfl

theorem State.copyStep_is {s : State} (h : s.tile.badElem = []) (n : Fin 48) (who : Option Thread) :
    let u := s.copyStep n who
    u = { s with tile := { s.tile with shadow := u.tile.shadow, slots := u.tile.slots } } ∧ Copied s u n := by
  intro u
  have done := (copyWork_lawful n (s.slot n).folds who).done (s := s.unshadowed) h (nodup_copied (32 / (s.slot n).folds) n _ who)
  rw [show u = _ from State.copyStep_clean h n who]
  generalize (copied (32 / (s.slot n).folds)).foldl (copyWork n (s.slot n).folds who).step s.unshadowed = w at done
  have frame : w = { s.unshadowed with tile := { s.unshadowed.tile with shadow := w.tile.shadow, slots := w.tile.slots } } := done.frame
  have slot : w.slot n = (s.slot n).raise _ _ := done.slot
  refine ⟨?_, fun r j hj => ?_, ?_, fun i ne => (State.slot_setSlot_ne w _ ne).trans (done.slots i ne)⟩
  · rw [frame]
    rfl
  · by_cases hr : r < 32 / (s.slot n).folds
    · rw [if_pos hr]
      exact done.written (r, j) (mem_copied.2 ⟨hr, hj⟩)
    · rw [if_neg hr]
      refine done.kept (32 * r + j) fun mem => hr ?_
      obtain ⟨⟨r', j'⟩, mem, e⟩ := List.mem_map.1 mem
      obtain ⟨hr', hj'⟩ := mem_copied.1 mem
      simp only [copyWork] at e
      omega
  · rw [State.slot_setSlot, slot]
    rfl

end Sys2Proof.Machine
end

section
namespace Sys2Proof.Machine
open Sys2Proof

/-! ## A drain begins (R65, R74) -/

theorem QEntry.kind_drain {q : QEntry} (h : q.xop = 0x28) : q.kind = .drain := by simp [QEntry.kind, h]

theorem QEntry.slotF_drain {q : QEntry} (h : q.xop = 0x28) : q.slotF = q.opf := by simp [QEntry.slotF, h]

theorem fin_ofNat_eq_mk {n k : Nat} [NeZero n] (h : k < n) : Fin.ofNat n k = ⟨k, h⟩ := Fin.ext (Nat.mod_eq_of_lt h)

/-- The slot that a drain has copied: freed where REL is set. -/
def Slot.released (x : Slot) (rel : Bool) : Slot := { x with inuse := x.inuse && !rel }

@[simp] theorem Slot.released_false (x : Slot) : x.released false = x := by simp [Slot.released]

@[simp] theorem Slot.released_true (x : Slot) : x.released true = { x with inuse := false } := by simp [Slot.released]

@[simp] theorem State.setSlot_slot (s : State) (n : Fin 48) : s.setSlot n (s.slot n) = s := by
  simp [State.setSlot, State.slot, vset]

/-- The drain that begins with the slot's state as the copy left it. -/
def drainBegun (q : QEntry) (x : Slot) (rd nd : Nat) : DrainRun where
  id := q.id
  cw := q.v1
  fp := x.fp
  anchor := x.anchor
  rnd := x.rnd
  seed := x.seed
  d := x.d
  rd := rd
  nd := nd
  rel := 0
  latch := none
  sat := false
  inx := false
  inv := false

theorem State.drainStart_accounts (s : State) (q : QEntry) (n : Fin 48) (c : DrainCw) :
    let w := s.copyStep n (some q.thr)
    let v := w.setSlot n ((w.slot n).released c.rel)
    Accounts { v with tile := { v.tile with
      drains := v.tile.drains ++ [drainBegun q (w.slot n) (s.tray c.dst).rows (s.drainCols c)] } } (s.drainStart q n c) := by
  intro w v
  have freed : (if c.rel then w.setSlot n { w.slot n with inuse := false } else w) = v := by
    cases rel : c.rel <;> simp [v, rel]
  simp only [State.drainStart]
  rw [freed]
  exact (Accounts.bump ..).trans (Accounts.bump ..)

/-- TILE_ENTRY_START of a TDRAIN that is admitted and passes its checks. -/
theorem drainEntryStart_is {s : State} {q : QEntry} (next : s.nextEntry = some q) (may : s.mayStart q = true)
    (admitted : admits s (s.estimate (s.entryItems q))) (op : q.xop = 0x28) (passes : s.entryFault q = none)
    (elems : s.tile.badElem = []) (h : q.opf < 48) :
    ∃ w u, exec .tileEntryStart s = .next u ∧ OnlyTile s u ∧ Copied s w ⟨q.opf, h⟩ ∧ u.tile = { s.tile with
      queue := queueRuns s q
      deferred := false
      shadow := w.tile.shadow
      slots := vset w.tile.slots ⟨q.opf, h⟩ ((w.slot ⟨q.opf, h⟩).released (drainCw q.v1).rel)
      drains := s.tile.drains ++
        [drainBegun q (w.slot ⟨q.opf, h⟩) (s.tray (drainCw q.v1).dst).rows (s.drainCols (drainCw q.v1))] } := by
  obtain ⟨b, runs, only, tile⟩ := tileEntryStart_runs next may admitted passes
  obtain ⟨frame, copy⟩ := State.copyStep_is (s := b) (by rw [tile]; exact elems) ⟨q.opf, h⟩ (some q.thr)
  have counts := b.drainStart_accounts q.begun ⟨q.opf, h⟩ (drainCw q.v1)
  have run : b.entryRun q.begun = b.drainStart q.begun ⟨q.opf, h⟩ (drainCw q.v1) := by
    have kind : q.begun.kind = .drain := QEntry.kind_drain op
    have slot : q.begun.slotF = q.opf := QEntry.slotF_drain op
    simp only [State.entryRun, kind, slot, fin_ofNat_eq_mk h]
  have shape : (b.tray (drainCw q.v1).dst).rows = (s.tray (drainCw q.v1).dst).rows ∧
      b.drainCols (drainCw q.v1) = s.drainCols (drainCw q.v1) := by
    simp only [State.drainCols, State.rowElems, State.tray, tile, and_self]
  rw [run] at runs
  refine ⟨_, _, runs, ?_, copy.congr (by rw [tile]) (by rw [tile]), ?_⟩
  · refine (OnlyTile.accounts (OnlyTile.tile ?_ _) counts).sealed
    rw [frame]
    exact only
  · refine counts.tile.trans ?_
    generalize b.copyStep ⟨q.opf, h⟩ (some q.thr) = w at frame
    have same : w.tile = { s.tile with
        queue := queueRuns s q
        deferred := false
        shadow := w.tile.shadow
        slots := w.tile.slots } := by
      rw [frame, tile]
    simp only [State.setSlot, shape]
    rw [same]
    rfl

end Sys2Proof.Machine
end

section
namespace Sys2Proof.Machine
open Sys2Proof

/-! ## A drain streams (R65, R69) -/

/-- Taking keys away from a sparse map. -/
theorem lookup_filter {α : Type} (p : Nat → Bool) (m : List (Nat × α)) (k : Nat) :
    lookup (m.filter fun e => p e.1) k = if p k then lookup m k else none := by
  induction m with
  | nil => simp
  | cons e m ih =>
    obtain ⟨i, v⟩ := e
    rw [List.filter_cons]
    by_cases keep : p i = true
    · rw [if_pos keep, lookup, lookup, ih]
      by_cases same : i = k
      · subst same
        simp [keep]
      · simp [same]
    · rw [if_neg keep, ih, lookup]
      by_cases same : i = k
      · subst same
        simp [keep]
      · simp [same]

/-- Writing a row changes the tray unit's shapes and storage, and no row fails its parity for it. -/
theorem State.putRow_frame {s : State} (h : s.tile.badRow = []) (T : TrayNo) (r : Nat) (bs : List Byte) (m : Bool) :
    s.putRow T r bs m = { s with tile := { s.tile with
      trays := (s.putRow T r bs m).tile.trays
      data := (s.putRow T r bs m).tile.data } } := by
  simp only [State.putRow, State.setTray, h, List.filter_nil]

theorem State.writeLatch_frame {s : State} (h : s.tile.badRow = []) (d : DrainRun) (c : DrainCw) :
    s.writeLatch d c = { s with tile := { s.tile with
      trays := (s.writeLatch d c).tile.trays
      data := (s.writeLatch d c).tile.data } } := by
  unfold State.writeLatch
  cases d.latch with
  | none => rfl
  | some x =>
    obtain ⟨r, bs, sc⟩ := x
    have first := State.putRow_frame h c.dst r bs false
    by_cases mx : isMx c.ofmt = true
    · have clean : (s.putRow c.dst r bs false).tile.badRow = [] := by rw [first]; exact h
      simp only [mx, if_true]
      rw [State.putRow_frame clean c.mtr r [sc] false, first]
    · simp only [mx]
      exact first

theorem State.checkShadow_clean {s : State} (h : s.tile.badElem = []) (fp : Bool) (r : Nat) (who : Option Thread) :
    s.checkShadow fp r who = s :=
  foldl_same _ fun _ _ => by simp [h]

/-- The drain after a relative step that converts a row. -/
def DrainRun.converts (d : DrainRun) (out : List Byte × Byte × List Conv) : DrainRun :=
  { d with
    rel := d.rel + 1
    latch := some (d.rel, out.1, out.2.1)
    sat := d.sat || out.2.2.any (·.sat)
    inx := d.inx || out.2.2.any (·.inx)
    inv := d.inv || out.2.2.any (·.nan) }

/-- A drain after a relative step. -/
def State.streamed (s : State) (d : DrainRun) : DrainRun :=
  if d.rel < d.rd then d.converts ((s.writeLatch d (drainCw d.cw)).convertRow d (drainCw d.cw) d.rel)
  else { d with rel := d.rel + 1, latch := none }

theorem State.streamStep_clean {s : State} (rows : s.tile.badRow = []) (elems : s.tile.badElem = []) (d : DrainRun) :
    s.streamStep d = { s with tile := { s.tile with
      trays := (s.writeLatch d (drainCw d.cw)).tile.trays
      data := (s.writeLatch d (drainCw d.cw)).tile.data
      shadow := s.tile.shadow.filter fun e => e.1 / 32 ≠ d.rel
      drains := s.tile.drains.map fun x => if x.id = d.id then s.streamed d else x } } := by
  have frame := State.writeLatch_frame rows d (drainCw d.cw)
  have rows' : (s.writeLatch d (drainCw d.cw)).tile.badRow = [] := by rw [frame]; exact rows
  have elems' : (s.writeLatch d (drainCw d.cw)).tile.badElem = [] := by rw [frame]; exact elems
  simp only [State.streamStep, State.checkShadow_clean elems', State.checkRow_clean rows', ite_self]
  unfold State.streamed
  generalize s.writeLatch d (drainCw d.cw) = w at frame ⊢
  by_cases more : d.rel < d.rd
  · rw [if_pos more, if_pos more, frame]
    rfl
  · rw [if_neg more, if_neg more, frame]
    rfl

end Sys2Proof.Machine
end

section
namespace Sys2Proof.Machine
open Sys2Proof

/-! ## A drain ends (R65, R73, R133) -/

theorem State.ownerFlags_frame (s : State) (v : Nat) : s.ownerFlags v = { s with thr := (s.ownerFlags v).thr } := by
  unfold State.ownerFlags
  split <;> rfl

theorem State.th_ownerFlags (s : State) (v : Nat) (t : Thread) : (s.ownerFlags v).th t =
    if s.tile.owner = some t then { s.th t with tstat := (s.th t).tstat ||| BitVec.ofNat 64 v } else s.th t := by
  unfold State.ownerFlags
  split
  · next none => simp [none]
  · next o owner =>
    rw [owner]
    by_cases same : o = t
    · subst same
      rw [if_pos rfl]
      exact State.th_setTh s o _
    · rw [if_neg (by simpa using same)]
      exact State.th_setTh_ne s _ (Ne.symm same)

/-- The flags that a drain leaves in DRAIN_FLAGS and TSTAT (R73, R133). -/
def DrainRun.flags (d : DrainRun) : Nat := b2n d.sat + 2 * b2n d.inx + 4 * b2n d.inv

/-- Flags of an outcome in a register and the owner's TSTAT. -/
def State.flagged (w : State) (p : Page) (o v : Nat) : State :=
  (w.setReg p o (w.reg p o ||| BitVec.ofNat 64 v)).ownerFlags v

section
variable (w : State) (p : Page) (o v : Nat)

theorem State.flagged_frame : w.flagged p o v = { w with shadow := (w.flagged p o v).shadow, thr := (w.flagged p o v).thr } := by
  unfold State.flagged State.ownerFlags
  split <;> rfl

theorem State.th_flagged (t : Thread) : (w.flagged p o v).th t =
    if w.tile.owner = some t then { w.th t with tstat := (w.th t).tstat ||| BitVec.ofNat 64 v } else w.th t :=
  State.th_ownerFlags ..

theorem State.shadow_flagged : (w.flagged p o v).shadow = setD regReset w.shadow (poff p o) (w.reg p o ||| BitVec.ofNat 64 v) := by
  unfold State.flagged
  rw [State.ownerFlags_frame]
  rfl

theorem State.reg_flagged (q : Page) (k : Nat) : (w.flagged p o v).reg q k =
    if poff q k = poff p o then w.reg q k ||| BitVec.ofNat 64 v else w.reg q k := by
  simp only [State.reg, State.shadow_flagged, getD_setD]
  split
  · next same => rw [same]
  · rfl

end

theorem State.drainEnd_eq (s : State) (d : DrainRun) :
    let v := (s.writeLatch d (drainCw d.cw)).flagged .stk 0x58 d.flags
    s.drainEnd d = { v with tile := { v.tile with
      drains := v.tile.drains.filter fun x => x.id ≠ d.id
      queue := v.tile.queue.filter fun x => x.id ≠ d.id } } := rfl

/-- A drain whose last row is written: its flags go to DRAIN_FLAGS and the owner's TSTAT. -/
theorem State.drainEnd_clean {s : State} (rows : s.tile.badRow = []) (d : DrainRun) :
    let u := s.drainEnd d
    let w := s.writeLatch d (drainCw d.cw)
    u.tile = { w.tile with
      drains := s.tile.drains.filter fun x => x.id ≠ d.id
      queue := s.tile.queue.filter fun x => x.id ≠ d.id } ∧
    u.reg .stk 0x58 = s.reg .stk 0x58 ||| BitVec.ofNat 64 d.flags ∧
    (∀ p o, poff p o ≠ poff .stk 0x58 → u.reg p o = s.reg p o) ∧
    (∀ t, u.th t = if s.tile.owner = some t then { s.th t with tstat := (s.th t).tstat ||| BitVec.ofNat 64 d.flags } else s.th t) ∧
    Accounts s { u with tile := s.tile, shadow := s.shadow, thr := s.thr } := by
  intro u w
  have frame : w = { s with tile := { s.tile with trays := w.tile.trays, data := w.tile.data } } := State.writeLatch_frame rows d _
  have e : u = { w.flagged .stk 0x58 d.flags with tile := { (w.flagged .stk 0x58 d.flags).tile with
      drains := (w.flagged .stk 0x58 d.flags).tile.drains.filter fun x => x.id ≠ d.id
      queue := (w.flagged .stk 0x58 d.flags).tile.queue.filter fun x => x.id ≠ d.id } } := State.drainEnd_eq s d
  have flags := w.flagged_frame .stk 0x58 d.flags
  have reg (p : Page) (o : Nat) : u.reg p o = (w.flagged .stk 0x58 d.flags).reg p o := by rw [e]; rfl
  have th (t : Thread) : u.th t = (w.flagged .stk 0x58 d.flags).th t := by rw [e]; rfl
  have before (p : Page) (o : Nat) : w.reg p o = s.reg p o := by rw [frame]; rfl
  have owner : w.tile.owner = s.tile.owner := by rw [frame]
  have threads (t : Thread) : w.th t = s.th t := by rw [frame]; rfl
  clear_value u w
  refine ⟨?_, ?_, fun p o apart => ?_, fun t => ?_, ?_⟩
  · have same : (w.flagged .stk 0x58 d.flags).tile = w.tile := by rw [flags]
    have drains : w.tile.drains = s.tile.drains := by rw [frame]
    have queue : w.tile.queue = s.tile.queue := by rw [frame]
    rw [e, same, drains, queue]
  · rw [reg, State.reg_flagged, if_pos rfl, before]
  · rw [reg, State.reg_flagged, if_neg apart, before]
  · rw [th, State.th_flagged, owner, threads]
  · have rest : ({ u with tile := s.tile, shadow := s.shadow, thr := s.thr } : State) = s := by
      rw [e, flags, frame]
    rw [rest]
    exact .refl s

end Sys2Proof.Machine
end

section
namespace Sys2Proof.Machine
open Sys2Proof

/-! ## The drain path -/

theorem exec_drainStreamRow {s : State} {d : DrainRun} (next : (s.tile.drains.find? fun d => d.rel < 32) = some d)
    (run : s.running = true) : exec .drainStreamRow s = .next (s.sealed (s.streamStep d)) := by
  rw [show exec .drainStreamRow s = execDrainStreamRow s from rfl]
  simp only [execDrainStreamRow, next, due, run, if_true]

theorem exec_drainComplete {s : State} {d : DrainRun} (next : (s.tile.drains.find? fun d => 32 ≤ d.rel) = some d)
    (run : s.running = true) : exec .drainComplete s = .next (s.sealed (s.drainEnd d)) := by
  rw [show exec .drainComplete s = execDrainComplete s from rfl]
  simp only [execDrainComplete, next, due, run, if_true]

theorem exec_drain_idle {s : State} (none : s.tile.drains = []) :
    exec .drainStreamRow s = .next s ∧ exec .drainComplete s = .next s := by
  rw [show exec .drainStreamRow s = execDrainStreamRow s from rfl, show exec .drainComplete s = execDrainComplete s from rfl]
  simp only [execDrainStreamRow, execDrainComplete, none, List.find?_nil, and_self]

theorem getD_streamed (m : List (Nat × BitVec 96)) (r k : Nat) :
    getD zero96 (m.filter fun e => e.1 / 32 ≠ r) k = if k / 32 = r then 0 else getD zero96 m k := by
  simp only [getD, lookup_filter fun i => decide (i / 32 ≠ r)]
  by_cases same : k / 32 = r
  · simp [same]
    rfl
  · simp [same]

/-- Settles O24: the copy writes each shadow element once, like a step of the array; a relative step writes the row in the latch
before it converts the next; the numbers are those of the exact arithmetic. -/
theorem drainSteps : Obligations.DrainSteps := by
  unfold Obligations.DrainSteps
  refine ⟨fun s d r _ counted => s.convertRow_is d r counted, fun w b es small fits => packRow_is small fits,
    fun a b c d => ?fp, fun ps len => combine_exact_is len,
    fun s rows elems => ⟨fun q h next may admitted op passes => ?start, fun d next run => ?stream, fun d next run => ?complete,
      exec_drain_idle⟩⟩
  case fp =>
    intro value pair one
    exact ⟨rfl, rfl, combine_fp_one a, combine_fp_is a b, _, _, _, combine_fp_is a b, combine_fp_is c d, combine_fp_is _ _,
      combine_fp_four a b c d⟩
  case start =>
    intro sl c F
    obtain ⟨w, u, e, only, copy, tile⟩ := drainEntryStart_is next may admitted op passes elems h
    have slot : u.slot ⟨q.opf, h⟩ = (w.slot ⟨q.opf, h⟩).released c.rel := by
      rw [State.slot, tile]
      exact State.slot_setSlot w ..
    have apart (i : Fin 48) (ne : i ≠ ⟨q.opf, h⟩) : u.slot i = w.slot i := by
      rw [State.slot, tile]
      exact State.slot_setSlot_ne w _ ne
    rw [copy.slot] at slot
    refine ⟨u, e, only, ?_, ?_, ?_, ?_, ?_, ⟨fun r j hr hj => ?_, ?_, ?_⟩, ?_, ?_, ?_, fun i ne => ?_⟩
    · rw [tile]
    · rw [tile]
    · rw [tile]
    · rw [tile]
    · rw [tile, copy.slot]
      rfl
    · rw [tile]
      exact copy.shadow r j hj
    · rw [slot]
      exact (Bool.or_eq_true ..).to_iff.trans (or_congr_right (any_copied _ _))
    · rw [slot]
      exact (Bool.or_eq_true ..).to_iff.trans (or_congr_right (any_copied _ _))
    · rw [slot]
      rfl
    · rw [slot]
      rfl
    · rw [slot]
      rfl
    · have ne : i ≠ ⟨q.opf, h⟩ := fun e => ne (congrArg Fin.val e)
      exact (apart i ne).trans (copy.slots i ne)
  case stream =>
    intro c s1 out
    have step := State.streamStep_clean rows elems d
    refine ⟨_, exec_drainStreamRow next run, ?_, ?_⟩
    · rw [step]
      exact ((OnlyTile.refl s).tile _).sealed
    rw [step]
    refine ⟨rfl, rfl, rfl, rfl, rfl, getD_streamed _ _, fun more => ?_, fun last => ?_⟩
    · simp only [State.sealed, State.streamed, if_pos more]
      rfl
    · simp only [State.sealed, State.streamed, if_neg (not_lt.2 last)]
  case complete =>
    intro s1 f
    obtain ⟨tile, flags, regs, threads, rest⟩ := State.drainEnd_clean rows d
    exact ⟨_, exec_drainComplete next run, tile, flags, regs, threads, { rest with pos := rfl, pending := rfl }⟩

end Sys2Proof.Machine
end

section
namespace Sys2Proof.Machine
open Sys2Proof

/-! ## The first of each key -/

/-- The pairs of a list that are the first with their key. -/
def firsts (l : List (Nat × Nat)) : List (Nat × Nat) := l.foldl (fun l x => if l.any fun y => y.1 = x.1 then l else l ++ [x]) []

theorem firsts_append_of_mem {l : List (Nat × Nat)} {x : Nat × Nat} (h : ∃ r, (x.1, r) ∈ firsts l) :
    firsts (l ++ [x]) = firsts l := by
  obtain ⟨r, mem⟩ := h
  have any : ((firsts l).any fun y => y.1 = x.1) = true := List.any_eq_true.2 ⟨_, mem, by simp⟩
  rw [firsts, List.foldl_append]
  exact if_pos any

theorem firsts_append_of_not_mem {l : List (Nat × Nat)} {x : Nat × Nat} (h : ¬ ∃ r, (x.1, r) ∈ firsts l) :
    firsts (l ++ [x]) = firsts l ++ [x] := by
  have none : ¬ ((firsts l).any fun y => y.1 = x.1) = true := fun any => by
    obtain ⟨y, mem, e⟩ := List.any_eq_true.1 any
    exact h ⟨y.2, by rwa [← of_decide_eq_true e]⟩
  rw [firsts, List.foldl_append]
  exact if_neg none

theorem firsts_sublist (l : List (Nat × Nat)) : (firsts l).Sublist l := by
  induction l using List.reverseRecOn with
  | nil => exact .slnil
  | append_singleton l x ih =>
    by_cases h : ∃ r, (x.1, r) ∈ firsts l
    · rw [firsts_append_of_mem h]
      exact ih.trans (List.sublist_append_left ..)
    · rw [firsts_append_of_not_mem h]
      exact ih.append_right _

theorem key_mem_firsts {l : List (Nat × Nat)} {p r : Nat} (h : (p, r) ∈ l) : ∃ r, (p, r) ∈ firsts l := by
  induction l using List.reverseRecOn with
  | nil => simp at h
  | append_singleton l x ih =>
    by_cases seen : ∃ r, (x.1, r) ∈ firsts l
    · rw [firsts_append_of_mem seen]
      rcases List.mem_append.1 h with old | new
      · exact ih old
      · rwa [← List.mem_singleton.1 new] at seen
    · rw [firsts_append_of_not_mem seen]
      rcases List.mem_append.1 h with old | new
      · exact (ih old).imp fun r mem => List.mem_append_left _ mem
      · exact ⟨r, List.mem_append_right _ new⟩

theorem firsts_keys_ne (l : List (Nat × Nat)) : (firsts l).Pairwise fun x y => x.1 ≠ y.1 := by
  induction l using List.reverseRecOn with
  | nil => exact .nil
  | append_singleton l x ih =>
    by_cases seen : ∃ r, (x.1, r) ∈ firsts l
    · rwa [firsts_append_of_mem seen]
    · rw [firsts_append_of_not_mem seen, List.pairwise_append]
      refine ⟨ih, List.pairwise_singleton .., fun y hy z hz e => seen ⟨y.2, ?_⟩⟩
      rw [← List.mem_singleton.1 hz, ← e]
      exact hy

/-- Where the second parts ascend, the first pair with a key has the least of them. -/
theorem mem_firsts_iff {l : List (Nat × Nat)} (ascends : l.Pairwise fun x y => x.2 ≤ y.2) {p r : Nat} :
    (p, r) ∈ firsts l ↔ (p, r) ∈ l ∧ ∀ r', (p, r') ∈ l → r ≤ r' := by
  have least {p r r' : Nat} (h : (p, r) ∈ firsts l) (h' : (p, r') ∈ l) : r ≤ r' := by
    induction l using List.reverseRecOn with
    | nil => simp at h'
    | append_singleton l x ih =>
      obtain ⟨ascends, -, last⟩ := List.pairwise_append.1 ascends
      have old (h : (p, r) ∈ firsts l) : r ≤ r' := by
        rcases List.mem_append.1 h' with mem | mem
        · exact ih ascends h mem
        · exact last _ ((firsts_sublist l).subset h) _ mem
      by_cases seen : ∃ r, (x.1, r) ∈ firsts l
      · rw [firsts_append_of_mem seen] at h
        exact old h
      · rw [firsts_append_of_not_mem seen] at h
        rcases List.mem_append.1 h with mem | mem
        · exact old mem
        · obtain rfl := List.mem_singleton.1 mem
          rcases List.mem_append.1 h' with mem' | mem'
          · exact absurd (key_mem_firsts mem') seen
          · exact (congrArg Prod.snd (List.mem_singleton.1 mem')).ge
  refine ⟨fun h => ⟨(firsts_sublist l).subset h, fun r' => least h⟩, fun ⟨mem, first⟩ => ?_⟩
  obtain ⟨r0, h0⟩ := key_mem_firsts mem
  obtain rfl : r0 = r := (least h0 mem).antisymm (first _ ((firsts_sublist l).subset h0))
  exact h0

/-! ## The pages of a row (R94) -/

theorem MemRun.rowVa_eq (m : MemRun) (r : Nat) : m.rowVa r = (m.va.toNat + r * m.st.toNat) % 2 ^ 64 := by
  simp only [MemRun.rowVa, BitVec.toNat_add, BitVec.toNat_mul, BitVec.toNat_ofNat]
  exact (Nat.mod_modEq ..).trans ((Nat.mod_modEq ..).mul_right _) |>.add_left _

theorem MemRun.rowVa_lt (m : MemRun) (r : Nat) : m.rowVa r < 2 ^ 64 := BitVec.isLt _

theorem MemRun.byteAt_eq (m : MemRun) (r i : Nat) : m.byteAt r i = (m.rowVa r + i) % 2 ^ 64 := by
  rw [MemRun.rowVa_eq, Nat.mod_add_mod]

/-- The page of the first byte of a row. -/
def MemRun.firstPage (m : MemRun) (r : Nat) : Nat := m.rowVa r / 2 ^ 14

theorem MemRun.firstPage_eq (m : MemRun) (r : Nat) : m.byteAt r 0 / 2 ^ 14 = m.firstPage r := by
  rw [MemRun.byteAt_eq, Nat.add_zero, Nat.mod_eq_of_lt (m.rowVa_lt r)]
  rfl

/-- The pages of the rows, row by row. -/
def MemRun.rowPairs (m : MemRun) : List (Nat × Nat) := m.rows.flatMap fun r => (m.rowPages r).map fun p => (p, r)

theorem MemRun.pageOrder_eq (m : MemRun) : m.pageOrder = firsts m.rowPairs := rfl

/-- Pages come by row, and in a row the page of its first byte comes first. -/
theorem MemRun.rowPairs_pairwise (m : MemRun) :
    m.rowPairs.Pairwise fun x y => x.2 < y.2 ∨ x.2 = y.2 ∧ x.1 = m.firstPage x.2 := by
  refine List.pairwise_flatMap.2 ⟨fun r _ => ?_, ?_⟩
  · have first : (m.rowPages r).Pairwise fun p _ => p = m.firstPage r := by
      simp only [MemRun.rowPages]
      split
      · exact List.pairwise_singleton ..
      · exact List.pairwise_pair.2 rfl
    exact List.pairwise_map.2 (first.imp fun e => .inr ⟨rfl, e⟩)
  · refine List.pairwise_map.2 (List.pairwise_lt_range.imp fun less x hx y hy => ?_)
    obtain ⟨p, -, rfl⟩ := List.mem_map.1 hx
    obtain ⟨q, -, rfl⟩ := List.mem_map.1 hy
    exact .inl (Nat.add_lt_add_left less _)

section
variable {m : MemRun} (low : 1 ≤ m.bt) (high : m.bt ≤ 128)
include low high

/-- A row has bytes in the pages of its first and of its last byte. -/
theorem MemRun.mem_rowPages {r p : Nat} : p ∈ m.rowPages r ↔ m.touches (2 ^ 14) r p := by
  have ends : p ∈ m.rowPages r ↔ p = m.byteAt r 0 / 2 ^ 14 ∨ p = m.byteAt r (m.bt - 1) / 2 ^ 14 := by
    rw [MemRun.firstPage_eq, MemRun.byteAt_eq]
    simp only [MemRun.rowPages, MemRun.byteVa, MemRun.firstPage, pageShift]
    grind
  rw [ends]
  constructor
  · rintro (rfl | rfl)
    · exact ⟨0, low, rfl⟩
    · exact ⟨m.bt - 1, by omega, rfl⟩
  · rintro ⟨i, hi, rfl⟩
    simp only [MemRun.byteAt_eq]
    have := m.rowVa_lt r
    omega

theorem MemRun.mem_rowPairs {p r : Nat} : (p, r) ∈ m.rowPairs ↔ m.row0 ≤ r ∧ r < m.rt ∧ m.touches (2 ^ 14) r p := by
  have rows : r ∈ m.rows ↔ m.row0 ≤ r ∧ r < m.rt := by
    simp only [MemRun.rows, List.mem_map, List.mem_range]
    exact ⟨fun ⟨k, hk, e⟩ => by omega, fun h => ⟨r - m.row0, by omega⟩⟩
  simp only [MemRun.rowPairs, List.mem_flatMap, List.mem_map, Prod.mk.injEq]
  rw [← and_assoc, ← rows, ← MemRun.mem_rowPages low high]
  exact ⟨fun ⟨_, hr, _, hp, e, e'⟩ => e ▸ e' ▸ ⟨hr, hp⟩, fun ⟨hr, hp⟩ => ⟨r, hr, p, hp, rfl, rfl⟩⟩

/-- The pages of a run, each with the first row that touches it. -/
theorem MemRun.mem_pageOrder {p r : Nat} : (p, r) ∈ m.pageOrder ↔ m.row0 ≤ r ∧ r < m.rt ∧ m.touches (2 ^ 14) r p ∧
    ∀ r', m.row0 ≤ r' → m.touches (2 ^ 14) r' p → r ≤ r' := by
  have ascends : m.rowPairs.Pairwise fun x y => x.2 ≤ y.2 := m.rowPairs_pairwise.imp fun h => h.elim Nat.le_of_lt fun h => h.1.le
  rw [MemRun.pageOrder_eq, mem_firsts_iff ascends, MemRun.mem_rowPairs low high, and_assoc, and_assoc]
  refine and_congr_right fun _ => and_congr_right fun hr => and_congr_right fun _ => forall_congr' fun r' => ?_
  rw [MemRun.mem_rowPairs low high]
  refine ⟨fun h h0 ht => ?_, fun h ⟨h0, _, ht⟩ => h h0 ht⟩
  rcases lt_or_ge r' m.rt with inside | past
  · exact h ⟨h0, inside, ht⟩
  · exact hr.le.trans past

/-- The pages of a run stand in the order of the bytes of its rows. -/
theorem MemRun.pageOrder_pairwise : (m.pageOrder.map (·.1)).Pairwise (m.before (2 ^ 14)) := by
  refine List.pairwise_map.2 ?_
  have order := ((m.rowPairs_pairwise.sublist (firsts_sublist _)).and (firsts_keys_ne _))
  refine order.imp_of_mem ?_
  rintro ⟨p, r⟩ ⟨q, k⟩ hp hq ⟨earlier, ne⟩
  simp only at earlier ne
  obtain ⟨r0, rt, ⟨i, hi, at'⟩, -⟩ := (MemRun.mem_pageOrder low high).1 hp
  obtain ⟨-, -, -, first⟩ := (MemRun.mem_pageOrder low high).1 hq
  rcases earlier with less | ⟨rfl, rfl⟩
  · refine ⟨r, i, r0, rt, hi, at', fun r' i' h0 _ hi' e => .inl ?_⟩
    exact lt_of_lt_of_le less (first r' h0 ⟨i', hi', e⟩)
  · refine ⟨r, 0, r0, rt, low, m.firstPage_eq r, fun r' i' h0 _ hi' e => ?_⟩
    rcases (first r' h0 ⟨i', hi', e⟩).lt_or_eq with less | rfl
    · exact .inl less
    · refine .inr ⟨rfl, Nat.pos_of_ne_zero ?_⟩
      rintro rfl
      exact ne ((m.firstPage_eq r).symm.trans e)

end

end Sys2Proof.Machine
end

section
namespace Sys2Proof.Machine
open Sys2Proof

/-! ## The fields of an entry that starts (R99, R101, R112) -/

theorem trayF_eq (x lo : Nat) : trayF x lo = ⟨x / 2 ^ lo % 16, Nat.mod_lt _ (by decide)⟩ := by
  simp only [trayF, bits, Fin.ofNat, show lo + 3 + 1 - lo = 4 by omega]
  exact Fin.ext (Nat.mod_mod ..)

theorem trayF_zero (x : Nat) : trayF x 0 = ⟨x % 16, Nat.mod_lt _ (by decide)⟩ := by
  simp only [trayF_eq, Nat.pow_zero, Nat.div_one]

theorem ofNat_bits (x : Nat) {hi lo : Nat} (w : Nat) (h : w = hi + 1 - lo) :
    BitVec.ofNat w (bits x hi lo) = BitVec.ofNat w (x / 2 ^ lo) := by
  subst h
  exact BitVec.eq_of_toNat_eq (by simp [bits])

theorem QEntry.kind_mma {q : QEntry} (h : q.xop = 0x26 ∨ q.xop = 0x27) : q.kind = .mma := by
  rcases h with h | h <;> simp [QEntry.kind, h]

theorem QEntry.kind_mem {q : QEntry} (h : q.xop = 0x24 ∨ q.xop = 0x25) : q.kind = .mem := by
  rcases h with h | h <;> simp [QEntry.kind, h]

theorem QEntry.kind_mov {q : QEntry} (h : q.xop = 0x29) : q.kind = .mov := by simp [QEntry.kind, h]

theorem QEntry.kind_whisk {q : QEntry} (h : 0x30 ≤ q.xop) : q.kind = .whisk := by
  unfold QEntry.kind
  split
  case h_10 => rfl
  all_goals omega

/-! ## The runs that start -/

section
variable (s : State) {q : QEntry}

theorem State.entryRun_mma (h : q.xop = 0x26 ∨ q.xop = 0x27) : s.entryRun q = s.mmaStart q (s.mmaOf q) := by
  simp only [State.entryRun, QEntry.kind_mma h]

theorem State.entryRun_mem (h : q.xop = 0x24 ∨ q.xop = 0x25) : s.entryRun q = s.memStart q := by
  simp only [State.entryRun, QEntry.kind_mem h]

theorem State.entryRun_mov (h : q.xop = 0x29) : s.entryRun q = { s with tile := { s.tile with
    mov := some { id := q.id, dst := trayF q.opf 0, src := trayF q.x 0, op := BitVec.ofNat 2 (bits q.x 5 4) } } } := by
  simp only [State.entryRun, QEntry.kind_mov h]

theorem State.entryRun_whisk (h : 0x30 ≤ q.xop) : s.entryRun q = s.whiskStart q q.wsk := by
  simp only [State.entryRun, QEntry.kind_whisk h]

end

section
variable {s b : State} (trays : b.tile.trays = s.tile.trays)
include trays

theorem State.mmaOf_congr (q : QEntry) : b.mmaOf q = s.mmaOf q := by simp only [State.mmaOf, State.rowElems, State.tray, trays]

theorem State.newRun_congr (q : QEntry) : b.newRun q = s.newRun q := by simp only [State.newRun, State.tray, trays]

end

/-- The run of a TMMA or TMMS. -/
def State.arrayRun (s : State) (q : QEntry) : ArrayRun :=
  let i := s.mmaOf q
  { id := q.id
    slot := Fin.ofNat 48 q.opf
    fa := BitVec.ofNat 4 i.fa
    fb := BitVec.ofNat 4 i.fb
    a := i.a
    b := i.b
    sa := i.sa
    sb := i.sb
    mt := i.mt
    sparse := i.sparse
    m := i.m
    n := i.n
    k := i.k
    fold := foldOf i.m
    step := 0
    steps := i.steps }

theorem State.arrayRun_congr {s b : State} (trays : b.tile.trays = s.tile.trays) (q : QEntry) : b.arrayRun q = s.arrayRun q := by
  simp only [State.arrayRun, State.mmaOf_congr trays]

theorem State.arrayRun_eq (s : State) (q : QEntry) :
    let i := s.mmaOf q
    let F := if i.m ≤ 8 then 4 else if i.m ≤ 16 then 2 else 1
    s.arrayRun q =
      { id := q.id
        slot := ⟨q.opf % 48, Nat.mod_lt _ (by decide)⟩
        fa := BitVec.ofNat 4 (q.x / 2 ^ 8)
        fb := BitVec.ofNat 4 (q.x / 2 ^ 12)
        a := ⟨q.x % 16, Nat.mod_lt _ (by decide)⟩
        b := ⟨q.x / 2 ^ 4 % 16, Nat.mod_lt _ (by decide)⟩
        sa := ⟨q.x / 2 ^ 16 % 16, Nat.mod_lt _ (by decide)⟩
        sb := ⟨q.x / 2 ^ 20 % 16, Nat.mod_lt _ (by decide)⟩
        mt := ⟨q.x / 2 ^ 24 % 16, Nat.mod_lt _ (by decide)⟩
        sparse := q.xop = 0x27
        m := i.m
        n := i.n
        k := i.k
        fold := F
        step := 0
        steps := (if q.x / 2 ^ 8 % 16 = 8 then 2 else 1) * ((i.k / i.kw + F - 1) / F) } := by
  intro i F
  rw [← trayF_zero, ← trayF_eq, ← trayF_eq, ← trayF_eq, ← trayF_eq, ← ofNat_bits q.x (hi := 11) 4 rfl,
    ← ofNat_bits q.x (hi := 15) 4 rfl]
  rfl

/-- A TMMA or TMMS takes the array (R99). -/
theorem State.mmaStart_eq (s : State) (q : QEntry) : s.mmaStart q (s.mmaOf q) = { s with tile := { s.tile with
    slots := vset s.tile.slots (Fin.ofNat 48 q.opf) { s.slot (Fin.ofNat 48 q.opf) with fold := foldOf (s.mmaOf q).m }
    array := some (s.arrayRun q) } } := rfl

/-- A TLD or TST with pages to translate joins the memory path (R94). -/
theorem State.memStart_of_pages {s : State} {q : QEntry} (h : (s.newRun q).pages ≠ []) :
    s.memStart q = { s with tile := { s.tile with mem := s.tile.mem ++ [s.newRun q] } } := by
  simp only [State.memStart, List.isEmpty_iff, h, if_false]

/-- Changes to the entries with one id are lost with those entries. -/
theorem filter_map_entry {i : Nat} {f : QEntry → QEntry} (keeps : ∀ x, x.id = i → (f x).id = i) (l : List QEntry) :
    ((l.map fun x => if x.id = i then f x else x).filter fun x => x.id ≠ i) = l.filter fun x => x.id ≠ i := by
  induction l with
  | nil => rfl
  | cons x l ih =>
    by_cases same : x.id = i
    · simpa [same, keeps x same] using ih
    · simpa [same] using ih

/-- One with no row left leaves the queue at once (R94, R109). -/
theorem State.memStart_of_none {s : State} {q : QEntry} (h : (s.newRun q).pages = []) (new : ∀ x ∈ s.tile.mem, x.id ≠ q.id) :
    s.memStart q = { s with tile := { s.tile with queue := queueWithout s q } } := by
  have id : (s.newRun q).id = q.id := rfl
  have found : ((s.tile.mem ++ [s.newRun q]).find? fun m => m.id = q.id) = some (s.newRun q) := by
    rw [List.find?_append, List.find?_eq_none.2 fun x hx => by simpa using new x hx]
    simp [id]
  have others : (s.tile.mem ++ [s.newRun q]).filter (fun x => x.id ≠ q.id) = s.tile.mem := by
    rw [List.filter_append, List.filter_eq_self.2 fun x hx => by simpa using new x hx]
    simp [id]
  have entries := filter_map_entry (i := q.id) (f := fun x => { x with safe := true }) (fun _ e => e) s.tile.queue
  have lines : (s.newRun q).lines = [] := rfl
  have flt : (s.newRun q).flt = none := rfl
  simp only [State.memStart, State.memFinish, State.markSafe, State.memRun, State.retire, found, others, entries, h, lines, flt,
    List.isEmpty_nil, List.all_nil, Bool.and_self, if_true]

end Sys2Proof.Machine
end

section
namespace Sys2Proof.Machine
open Sys2Proof

/-! ## The start of a Whisk entry (R112, R113, R123) -/

section
variable {q : QEntry}

theorem QEntry.wsk_xop : q.wsk.xop = q.xop := rfl

/-- A broadcast code of 1 or 3 has its low bit set. -/
theorem broadcasts_eq (x lo : Nat) :
    (decide (bits x (lo + 1) lo = 1) || decide (bits x (lo + 1) lo = 3)) = decide (x / 2 ^ lo % 2 = 1) := by
  rw [← Bool.decide_or]
  refine decide_eq_decide.2 ?_
  rw [bits, show lo + 1 + 1 - lo = 2 by omega]
  omega

theorem QEntry.latches_b (h : 0x30 ≤ q.xop) :
    (usesB q.wsk.xop && (q.wsk.bb = 1 || q.wsk.bb = 3)) = (decide (q.xop ≤ 0x35) && decide (q.x / 2 ^ 20 % 2 = 1)) := by
  rw [show (q.wsk.bb = 1 || q.wsk.bb = 3) = _ from broadcasts_eq q.x 20]
  simp only [usesB, QEntry.wsk_xop, h, decide_true, Bool.true_and]
  rfl

theorem QEntry.latches_c :
    (usesC q.wsk.xop && (q.wsk.bc = 1 || q.wsk.bc = 3)) =
      ((decide (q.xop = 0x32) || decide (q.xop = 0x35)) && decide (q.x / 2 ^ 22 % 2 = 1)) := by
  rw [show (q.wsk.bc = 1 || q.wsk.bc = 3) = _ from broadcasts_eq q.x 22]
  rfl

theorem QEntry.wsk_lat : q.wsk.lat =
    if q.xop = 0x39 then (if 9 ≤ q.x / 2 ^ 16 % 16 ∧ q.x / 2 ^ 16 % 16 ≤ 14 then 3 else 2)
    else if q.xop = 0x3B then 7 else if 0x36 ≤ q.xop ∧ q.xop ≤ 0x38 then 5 else 2 := by
  have mx : isMx q.wsk.df = true ↔ 9 ≤ q.x / 2 ^ 16 % 16 ∧ q.x / 2 ^ 16 % 16 ≤ 14 := isMx_iff _
  simp only [WFields.lat, WFields.isCvt, WFields.isRed, decide_eq_true_eq, mx]
  rfl

theorem QEntry.wsk_d : q.wsk.d = ⟨q.opf % 16, Nat.mod_lt _ (by decide)⟩ := by
  rw [show q.wsk.d = _ from trayF_zero q.w0.toNat]
  refine Fin.ext ?_
  simp only [QEntry.opf, wbits, bits]
  omega

theorem QEntry.wsk_b : q.wsk.b = ⟨q.x / 2 ^ 4 % 16, Nat.mod_lt _ (by decide)⟩ := trayF_eq q.x 4

theorem QEntry.wsk_c : q.wsk.c = ⟨q.x / 2 ^ 8 % 16, Nat.mod_lt _ (by decide)⟩ := trayF_eq q.x 8

end

/-- The run of a Whisk entry; `b` and `c` say whether the first rows of B and C are latched. -/
def State.whiskRun (s : State) (q : QEntry) (b c : Bool) : WhiskRun where
  id := q.id
  w0 := q.w0
  e1 := q.e1
  e2 := q.e2
  v1 := q.v1
  rel := 0
  rows := (s.tray q.wsk.d).rows
  lat := q.wsk.lat
  latchB := if b then s.rowBytes q.wsk.b 0 else []
  latchC := if c then s.rowBytes q.wsk.c 0 else []
  latchPois := (b && s.mark q.wsk.b 0) || (c && s.mark q.wsk.c 0)
  pipe := []
  sat := false
  inx := false
  inv := false

theorem State.whiskStart_accounts {s : State} (rows : s.tile.badRow = []) (q : QEntry) :
    Accounts { s with tile := { s.tile with whisk := some (s.whiskRun q
      (usesB q.wsk.xop && (q.wsk.bb = 1 || q.wsk.bb = 3)) (usesC q.wsk.xop && (q.wsk.bc = 1 || q.wsk.bc = 3))) } }
      (s.whiskStart q q.wsk) := by
  simp only [State.whiskStart, State.checkRow_clean rows, ite_self]
  exact Accounts.bump ..

theorem State.whiskRun_congr {s b : State} (trays : b.tile.trays = s.tile.trays) (data : b.tile.data = s.tile.data) (q : QEntry)
    (x y : Bool) : b.whiskRun q x y = s.whiskRun q x y := by
  simp only [State.whiskRun, State.rowBytes, State.mark, State.tray, trays, data]

/-! ## Entries that run over time -/

/-- Settles O21: an entry that passes its checks takes its path in the step, so only the record of its run is to be read off; the
pages of a TLD or TST are the first of each page in the rows' own order. -/
theorem entryRuns : Obligations.EntryRuns := by
  unfold Obligations.EntryRuns
  refine ⟨fun s q => ?pages, fun s q next may admitted passes => ?runs⟩
  case pages =>
    intro m T
    have tray : trayF q.opf 0 = T := trayF_zero _
    refine ⟨?_, rfl, fun low high => ⟨fun p r => MemRun.mem_pageOrder (m := m) low high, ?_⟩⟩
    · rw [← tray]
      rfl
    · exact MemRun.pageOrder_pairwise (m := m) low high
  case runs =>
    intro T ends
    obtain ⟨b, runs, only, tile⟩ := tileEntryStart_runs next may admitted passes
    have trays : b.tile.trays = s.tile.trays := by rw [tile]
    have done {t : Tile} (run : Accounts { b with tile := t } (b.entryRun q.begun)) : ends t :=
      ⟨_, runs, run.tile, (OnlyTile.accounts (only.tile t) run).sealed⟩
    refine ⟨fun op => ?mma, fun op pages => ?mem, fun op none new => ?skip, fun op => ?mov, fun low _ rows => ?whisk⟩
    case mma =>
      have run : b.arrayRun q.begun = s.arrayRun q := State.arrayRun_congr trays q.begun
      have shape : b.mmaOf q.begun = s.mmaOf q := State.mmaOf_congr trays q.begun
      rw [State.entryRun_mma b (q := q.begun) op, State.mmaStart_eq, run, shape, State.slot, State.arrayRun_eq, tile] at done
      exact done (.refl _)
    case mem =>
      have run : b.newRun q.begun = s.newRun q := State.newRun_congr trays q.begun
      rw [State.entryRun_mem b (q := q.begun) op, State.memStart_of_pages (run ▸ pages), run, tile] at done
      exact done (.refl _)
    case skip =>
      have run : b.newRun q.begun = s.newRun q := State.newRun_congr trays q.begun
      have mem : b.tile.mem = s.tile.mem := by rw [tile]
      have left : queueWithout b q.begun = queueWithout s q := by
        rw [queueWithout, tile]
        exact filter_map_entry (f := fun _ => q.begun) (fun _ _ => rfl) _
      rw [State.entryRun_mem b (q := q.begun) op, State.memStart_of_none (run ▸ none) (mem ▸ new), left, tile] at done
      exact done (.refl _)
    case mov =>
      have code := ofNat_bits q.begun.x (hi := 5) (lo := 4) 2 rfl
      rw [State.entryRun_mov b (q := q.begun) op, trayF_zero, trayF_zero, code, tile] at done
      exact done (.refl _)
    case whisk =>
      intro B C latchB latchC
      have data : b.tile.data = s.tile.data := by rw [tile]
      have same (x y : Bool) : b.whiskRun q.begun x y = s.whiskRun q x y := State.whiskRun_congr trays data q.begun x y
      have start := State.whiskStart_accounts (s := b) (by rw [tile]; exact rows) q.begun
      rw [← State.entryRun_whisk b (q := q.begun) low, same, QEntry.latches_b (q := q.begun) low, QEntry.latches_c (q := q.begun),
        State.whiskRun, QEntry.wsk_lat, QEntry.wsk_d, QEntry.wsk_b, QEntry.wsk_c, tile] at start
      exact done start

end Sys2Proof.Machine
end

section
namespace Sys2Proof.Machine
open Sys2Proof

/-! ## The first check that fails (R63, R393) -/

/-- `f` is the fault of the first check of the list that fails. -/
structure FirstFails (l : List EntryCheck) (f : Option TFault) : Prop where
  passes : (∀ c ∈ l, c.1) → f = none
  fails : ∀ (before after : List EntryCheck) (ok : Prop) (c d a p : Nat), l = before ++ (ok, c, d, a, p) :: after →
    (∀ x ∈ before, x.1) → ¬ ok → f = some { cause := c, detail := d, arg := a, prog := p }

theorem FirstFails.nil : FirstFails [] none where
  passes _ := rfl
  fails before after ok c d a p e := by simp at e

/-- A check before the rest: the model's test of it, and its fault where it fails. -/
theorem FirstFails.check {P : Prop} {c d a p : Nat} {l : List EntryCheck} {b : Bool} {f : TFault} {r : List (Bool × TFault)}
    (test : b = true ↔ P) (fault : ¬ P → f = { cause := c, detail := d, arg := a, prog := p })
    (rest : P → FirstFails l (firstFault r)) : FirstFails ((P, c, d, a, p) :: l) (firstFault ((b, f) :: r)) := by
  by_cases h : P
  · obtain ⟨passes, fails⟩ := rest h
    rw [firstFault, if_pos (test.2 h)]
    refine ⟨fun all => passes fun x hx => all x (List.mem_cons_of_mem _ hx), fun before after ok c' d' a' p' e pass fail => ?_⟩
    cases before with
    | nil =>
      obtain ⟨⟨rfl, -⟩, -⟩ := by simpa only [List.nil_append, List.cons.injEq, Prod.mk.injEq] using e
      exact absurd h fail
    | cons x before =>
      obtain ⟨-, e⟩ := List.cons.inj e
      exact fails before after ok c' d' a' p' e (fun y hy => pass y (List.mem_cons_of_mem _ hy)) fail
  · rw [firstFault, if_neg (test.not.2 h), fault h]
    refine ⟨fun all => absurd (all _ List.mem_cons_self) h, fun before after ok c' d' a' p' e pass _ => ?_⟩
    cases before with
    | nil =>
      obtain ⟨⟨-, rfl, rfl, rfl, rfl⟩, -⟩ := by simpa only [List.nil_append, List.cons.injEq, Prod.mk.injEq] using e
      rfl
    | cons x before =>
      obtain ⟨rfl, -⟩ := List.cons.inj e
      exact absurd (pass _ List.mem_cons_self) h

/-- A test that applies under a condition. -/
theorem not_or_iff {b c : Bool} {P Q : Prop} (cond : b = true ↔ P) (test : c = true ↔ Q) : (!b || c) = true ↔ (P → Q) := by
  rw [Bool.or_eq_true, Bool.not_eq_true', ← Bool.not_eq_true, cond, test, imp_iff_not_or]

/-- A test for a failure, under a condition. -/
theorem and_false_iff {b c : Bool} {P Q : Prop} (cond : b = true ↔ P) (test : c = false ↔ Q) :
    (b && c) = false ↔ (P → Q) := by
  rw [Bool.and_eq_false_iff, ← Bool.not_eq_true, cond, test, imp_iff_not_or]

/-! ## Fields, widths and marks -/

theorem trayF_trayBits (x lo : Nat) : trayF x lo = trayBits x lo := trayF_eq x lo

theorem isSix_iff {code : Nat} (h : code < 15) : isSix code = true ↔ sixCode code := by
  revert code
  decide

theorem isSix_ne_iff {code : Nat} (h : code < 16) : code ≠ 15 ∧ isSix code = true ↔ sixCode code := by
  revert code
  decide

theorem State.lowMark_eq (s : State) (T : TrayNo) (n : Nat) :
    s.lowMark T n = (List.range n).find? fun r => (s.tray T).marks.getLsbD r := by
  simp only [State.lowMark, State.mark, wbit_eq_getLsbD]

theorem State.firstMarked_eq (s : State) (l : List (TrayNo × Nat)) :
    s.firstMarked l = (s.firstMark l).map fun p => (p.1.val, p.2) := by
  simp only [State.firstMarked, State.firstMark, ← State.lowMark_eq, List.map_findSome?, Function.comp_def, Option.map_map]

theorem State.firstMarked_one (s : State) (T : TrayNo) (n : Nat) :
    s.firstMarked [(T, n)] = (s.lowMark T n).map fun r => (T.val, r) := by
  simp only [State.firstMarked, ← State.lowMark_eq, List.findSome?_cons, List.findSome?_nil]
  cases s.lowMark T n <;> rfl

theorem State.rowElems_eq (s : State) (T : TrayNo) {f : Nat} (h : f < 15) :
    s.rowElems T (elemBits f) = 8 * (s.tray T).bytes / codeBits f := by
  rw [State.rowElems, elemBits_eq h]

theorem State.scaleBad_iff (s : State) (T : TrayNo) (rows k : Nat) : s.scaleBad T rows k = false ↔ scaleFits s T rows k := by
  simp only [State.scaleBad, Bool.or_eq_false_iff, decide_eq_false_iff_not, not_ne_iff]
  rfl

/-! ## TMMA and TMMS (R98) -/

theorem pairW_isSome {fa fb : Nat} : (pairW fa fb).isSome = true ↔ pairAllowed fa fb := by
  simp only [pairW, isNarrow, isMx, pairAllowed]
  grind

theorem pairW_of_allowed {fa fb : Nat} (h : pairAllowed fa fb) : pairW fa fb = some (pairProducts fa fb) := by
  simp only [pairW, isNarrow, isMx, pairAllowed, pairProducts] at *
  grind

theorem sparseA_iff (fa : Nat) : sparseA fa = true ↔ fa ∈ [0, 1, 4, 9, 10, 13] := by
  simp [sparseA, or_assoc]

theorem exactRefused_iff (fa : Nat) : exactRefused fa = true ↔ 6 ≤ fa ∧ fa ≤ 8 := by
  simp [exactRefused]

/-- The chunk width (R29). -/
theorem mmaKw_eq (q : QEntry) : (if decide (q.xop = 0x27) = true then 2 * pairProducts (q.x / 2 ^ 8 % 16) (q.x / 2 ^ 12 % 16)
    else pairProducts (q.x / 2 ^ 8 % 16) (q.x / 2 ^ 12 % 16)) = mmaKw q := by
  simp only [mmaKw, decide_eq_true_eq]
  split <;> omega

/-- The order is R98's: slot, formats, shapes, marks; widths are those of R23 once no code is 15. -/
theorem mmaChecks_firstFails (s : State) (q : QEntry) : FirstFails (mmaChecks s q) (s.mmaFault (s.mmaOf q)) := by
  have codeA : bits q.x 11 8 = q.x / 2 ^ 8 % 16 := rfl
  have codeB : bits q.x 15 12 = q.x / 2 ^ 12 % 16 := rfl
  simp only [mmaChecks, State.mmaFault, State.mmaOf, Mma.reads, trayF_trayBits, codeA, codeB, State.firstMarked_eq]
  generalize hA : q.x / 2 ^ 8 % 16 = fa at *
  generalize hB : q.x / 2 ^ 12 % 16 = fb at *
  -- Slot (cause 1), then formats (cause 3).
  refine .check decide_eq_true_iff (fun _ => rfl) fun _ => ?_
  refine .check .rfl (fun _ => rfl) fun _ => ?_
  refine .check (by simp) (fun _ => rfl) fun coded => ?_
  have la : fa < 15 := by omega
  have lb : fb < 15 := by omega
  refine .check (by simp [← isMx_iff]) (fun _ => rfl) fun coded => ?_
  refine .check pairW_isSome (fun _ => rfl) fun allowed => ?_
  refine .check (by simp [← exactRefused_iff]) (fun _ => rfl) fun _ => ?_
  refine .check (by simp only [← sparseA_iff]; simp [imp_iff_not_or]) (fun _ => rfl) fun _ => ?_
  -- Shapes (cause 4): K and the chunk width are the manual's, as the pair is allowed.
  have k : s.rowElems (trayBits q.x 4) (elemBits fb) = mmaK s q := by rw [State.rowElems_eq s _ lb, mmaK, hB]
  have kw := mmaKw_eq q
  rw [hA, hB] at kw
  simp only [pairW_of_allowed allowed, Option.getD_some, k, kw, State.rowElems_eq s _ la]
  have six {f : Nat} (h : f < 15) (T : TrayNo) :
      (isSix f && (s.tray T).bytes % 12 ≠ 0) = false ↔ (sixCode f → (s.tray T).bytes % 12 = 0) :=
    and_false_iff (isSix_iff h) (by simp)
  have scale (f : Nat) (T X : TrayNo) := and_false_iff (isMx_iff f) (s.scaleBad_iff T (s.tray X).rows (mmaK s q))
  refine .check (by simp) (fun _ => rfl) fun _ => ?_
  refine .check decide_eq_true_iff (fun _ => rfl) fun _ => ?_
  refine .check ?_ (fun _ => by simp [isSix_iff la]) fun _ => ?_
  · rw [Bool.not_eq_true', Bool.or_eq_false_iff, six la, six lb]
  refine .check (not_or_iff (isMx_iff fa) decide_eq_true_iff) (fun _ => rfl) fun _ => ?_
  refine .check ?_ (fun _ => ?_) fun _ => ?_
  · rw [Bool.not_eq_true', Bool.or_eq_false_iff, scale, scale]
  · simp only [← State.scaleBad_iff, ← isMx_iff]
    simp
  refine .check (not_or_iff decide_eq_true_iff (by simp [and_assoc])) (fun _ => rfl) fun _ => ?_
  refine .check ?_ (fun _ => rfl) fun _ => ?_
  · simp only [Bool.or_eq_true, decide_eq_true_eq]
    rfl
  -- Marks (cause 5).
  simp only [isMx_iff, decide_eq_true_eq]
  generalize s.firstMark _ = mark
  refine .check (by simp) (fun _ => ?_) fun _ => .nil
  cases mark <;> rfl

/-! ## TDRAIN (R68, R100) -/

theorem getD_map_val (o : Option TrayNo) : (o.map (·.val)).getD 0 = (o.getD 0).val := by cases o <;> rfl

theorem drainChecks_firstFails {s : State} {q : QEntry} (op : q.xop = 0x28) :
    FirstFails (drainChecks s q) (s.drainFault q.slotF (drainCw q.v1)) := by
  have slot : q.slotF = q.opf := if_neg (by omega)
  have rsv : bits q.v1.toNat 63 29 = q.v1.toNat / 2 ^ 29 := Nat.mod_eq_of_lt (by have := q.v1.isLt; omega)
  have codeO : bits q.v1.toNat 3 0 = q.v1.toNat % 16 := by simp [bits]
  have codeT : bits q.v1.toNat 17 14 = q.v1.toNat / 2 ^ 14 % 16 := rfl
  have addend : bits q.v1.toNat 9 8 = q.v1.toNat / 2 ^ 8 % 4 := rfl
  have scales : nbit q.v1.toNat 18 = decide (q.v1.toNat / 2 ^ 18 % 2 = 1) := rfl
  simp only [drainChecks, State.drainFault, drainCw, slot, trayF_trayBits, rsv, codeO, codeT, addend, scales,
    State.firstMarked_one]
  generalize hO : q.v1.toNat % 16 = ofmt at *
  generalize hT : q.v1.toNat / 2 ^ 14 % 16 = tfmt at *
  generalize hF : q.v1.toNat / 2 ^ 8 % 4 = fop at *
  generalize hC : q.v1.toNat / 2 ^ 18 % 2 = cse at *
  refine .check decide_eq_true_iff (fun _ => rfl) fun _ => ?_
  refine .check .rfl (fun _ => rfl) fun _ => ?_
  refine .check decide_eq_true_iff (fun _ => rfl) fun _ => ?_
  refine .check ?_ (fun _ => rfl) fun coded => ?_
  · simp [imp_iff_not_or, and_assoc]
  have lo : ofmt < 15 := by omega
  simp only [DrainCw.samePair, isMx_iff, decide_eq_true_eq]
  refine .check Option.isNone_iff_eq_none (fun _ => by rw [getD_map_val]) fun _ => ?_
  refine .check decide_eq_true_iff (fun _ => rfl) fun _ => ?_
  refine .check ?_ (fun _ => rfl) fun _ => ?_
  · simp only [State.drainCols, State.rowElems_eq s _ lo]
    rw [Bool.and_eq_true, not_or_iff (isSix_iff lo) decide_eq_true_iff, not_or_iff (isMx_iff _) decide_eq_true_iff]
  refine .check ?_ (fun _ => rfl) fun _ => ?_
  · by_cases plain : fop = 0
    · simp [plain]
    · have lt : tfmt < 15 := by have := coded.2.2 plain; omega
      simp [plain, State.drainCols, State.rowElems_eq s _ lo, State.rowElems_eq s _ lt]
  refine .check (not_or_iff decide_eq_true_iff decide_eq_true_iff) (fun _ => rfl) fun _ => ?_
  refine .check (not_or_iff (isMx_iff _) decide_eq_true_iff) (fun _ => rfl) fun _ => ?_
  refine .check ?_ (fun _ => rfl) fun _ => ?_
  · rw [Bool.not_eq_true', State.mark, wbit_eq_getLsbD, ← Bool.not_eq_true, Bool.and_eq_true, decide_eq_true_eq]
  generalize s.lowMark _ _ = mark
  refine .check ?_ (fun _ => by cases mark <;> rfl) fun _ => .nil
  · rw [Bool.not_eq_true', and_false_iff decide_eq_true_iff Option.isSome_eq_false_iff]
    simp

/-! ## TMOV (R101) -/

theorem movChecks_firstFails (s : State) (q : QEntry) :
    FirstFails (movChecks s q) (s.tmovFault (trayF q.opf 0) (trayF q.x 0) (bits q.x 5 4)) := by
  have op : bits q.x 5 4 = q.x / 2 ^ 4 % 4 := rfl
  simp only [movChecks, State.tmovFault, movSize, trayF_trayBits, op, State.firstMarked_one]
  by_cases copy : q.x / 2 ^ 4 % 4 = 0
  · rw [if_pos copy, if_pos copy]
    exact .check (by simp) (fun _ => rfl) fun _ => .nil
  rw [if_neg copy, if_neg copy]
  generalize s.lowMark _ _ = mark
  refine .check (by simp) (fun _ => rfl) fun _ => ?_
  refine .check (by simp) (fun _ => rfl) fun _ => ?_
  refine .check (by simp) (fun _ => rfl) fun _ => ?_
  refine .check (by simp) (fun _ => ?_) fun _ => .nil
  cases mark <;> rfl

/-! ## The Whisk (R124) -/

section
variable {q : QEntry}

theorem QEntry.wsk_trays : q.wsk.d = trayBits q.opf 0 ∧ q.wsk.a = trayBits q.x 0 ∧ q.wsk.b = trayBits q.x 4 ∧
    q.wsk.c = trayBits q.x 8 := by
  refine ⟨?_, trayF_trayBits .., trayF_trayBits .., trayF_trayBits ..⟩
  rw [QEntry.wsk_d, ← trayF_trayBits, trayF_zero]

theorem QEntry.wsk_codes : q.wsk.ty = q.x / 2 ^ 12 % 16 ∧ q.wsk.u = q.x / 2 ^ 16 % 16 ∧ q.wsk.bb = q.x / 2 ^ 20 % 4 ∧
    q.wsk.bc = q.x / 2 ^ 22 % 4 := ⟨rfl, rfl, rfl, rfl⟩

/-- A fraction of 16 bits or more has the extra bit set (R121). -/
theorem QEntry.wsk_fractions : (15 < q.wsk.sfrac ↔ q.x / 2 ^ 22 % 2 ≠ 0) ∧ (15 < q.wsk.dfrac ↔ q.x / 2 ^ 23 % 2 ≠ 0) := by
  have extra (low k : Nat) (h : low < 16) : 15 < low + 16 * b2n (nbit q.x k) ↔ q.x / 2 ^ k % 2 ≠ 0 := by
    simp only [nbit, b2n, decide_eq_true_eq]
    split <;> omega
  exact ⟨extra _ 22 (Nat.mod_lt _ (by decide)), extra _ 23 (Nat.mod_lt _ (by decide))⟩

theorem QEntry.wsk_isCvt : q.wsk.isCvt = true ↔ q.xop = 0x39 := decide_eq_true_iff
theorem QEntry.wsk_isSpl : q.wsk.isSpl = true ↔ q.xop = 0x3A := decide_eq_true_iff
theorem QEntry.wsk_isRed : q.wsk.isRed = true ↔ q.xop = 0x3B := decide_eq_true_iff
theorem QEntry.wsk_sf : q.wsk.sf = q.x / 2 ^ 12 % 16 := rfl
theorem QEntry.wsk_df : q.wsk.df = q.x / 2 ^ 16 % 16 := rfl
theorem QEntry.wsk_sw : q.wsk.sw = if q.x / 2 ^ 20 % 2 = 1 then 16 else 32 := by
  simp only [WFields.sw, nbit, decide_eq_true_eq]
  rfl

theorem QEntry.wsk_dw : q.wsk.dw = if q.x / 2 ^ 21 % 2 = 1 then 16 else 32 := by
  simp only [WFields.dw, nbit, decide_eq_true_eq]
  rfl

end

/-- A check of the model that cannot fail. -/
theorem FirstFails.pass {l : List EntryCheck} {f : TFault} {r : List (Bool × TFault)} (rest : FirstFails l (firstFault r)) :
    FirstFails l (firstFault ((true, f) :: r)) := rest

open Classical in
/-- The checks of types, before the rest. -/
theorem FirstFails.types {q : QEntry} {l : List EntryCheck} {r : List (Bool × TFault)} (rest : FirstFails l (firstFault r)) :
    let d := q.opf / 2 ^ 0 % 16
    let ty := q.x / 2 ^ 12 % 16
    let u := q.x / 2 ^ 16 % 16
    let qBits (i : Nat) : Nat := if q.x / 2 ^ i % 2 = 1 then 16 else 32
    FirstFails ((if q.xop = 0x39 then
        [((ty = 15 ∧ qBits 20 = 16 → q.x / 2 ^ 22 % 2 = 0) ∧ (u = 15 ∧ qBits 21 = 16 → q.x / 2 ^ 23 % 2 = 0), 8, 3, d, 0)]
      else [(ty ≤ 5, 8, 1, d, 0), (0x36 ≤ q.xop ∧ q.xop ≤ 0x38 → ty ≤ 2, 8, 2, d, 0),
        (ty ≤ 2 → u = 0, 8, 3, d, 0)]) ++ l)
      (firstFault (typeChecks q.wsk ++ r)) := by
  intro d ty u qBits
  have dst : (q.wsk.d).val = d := congrArg Fin.val q.wsk_trays.1
  simp only [typeChecks, wFault, QEntry.wsk_isCvt, dst]
  split
  case isTrue =>
    obtain ⟨sfrac, dfrac⟩ := q.wsk_fractions
    refine .pass (.pass (.check ?_ (fun _ => rfl) fun _ => rest))
    rw [Bool.and_eq_true, Bool.not_eq_true', Bool.not_eq_true', and_false_iff, and_false_iff]
    · rw [Bool.and_eq_true, decide_eq_true_eq, decide_eq_true_eq, QEntry.wsk_df, QEntry.wsk_dw]
    · rw [decide_eq_false_iff_not, dfrac, not_not]
    · rw [Bool.and_eq_true, decide_eq_true_eq, decide_eq_true_eq, QEntry.wsk_sf, QEntry.wsk_sw]
    · rw [decide_eq_false_iff_not, sfrac, not_not]
  case isFalse =>
    refine .check decide_eq_true_iff (fun _ => rfl) fun _ => ?_
    refine .check (not_or_iff ?_ decide_eq_true_iff) (fun _ => rfl) fun _ => ?_
    · rw [Bool.and_eq_true, decide_eq_true_eq, decide_eq_true_eq]
      rfl
    exact .check (not_or_iff decide_eq_true_iff decide_eq_true_iff) (fun _ => rfl) fun _ => rest

/-- A check that names the tray that fails it. -/
theorem FirstFails.named {P : Prop} [Decidable P] {c d : Nat} {T : TrayNo} {l : List EntryCheck} {o : Option TrayNo}
    {r : List (Bool × TFault)} (tray : o = if P then none else some T) (rest : FirstFails l (firstFault r)) :
    FirstFails ((P, c, d, T.val, 0) :: l) (firstFault ((o.isNone, wFault c d (o.getD 0)) :: r)) := by
  refine .check ?_ (fun h => by rw [tray, if_neg h]; rfl) fun _ => rest
  rw [tray]
  split <;> simp [*]

/-- The same of a check that applies to some instructions only. -/
theorem FirstFails.namedIf {b : Bool} {C P : Prop} [Decidable P] {c d : Nat} {T : TrayNo} {l : List EntryCheck}
    {o : Option TrayNo} {r : List (Bool × TFault)} (cond : b = true ↔ C) (tray : o = if P then none else some T)
    (rest : FirstFails l (firstFault r)) :
    FirstFails ((C → P, c, d, T.val, 0) :: l) (firstFault ((!(b && o.isSome), wFault c d (o.getD 0)) :: r)) := by
  refine .check ?_ (fun h => by rw [tray, if_neg fun p => h fun _ => p]; rfl) fun _ => rest
  rw [Bool.not_eq_true', and_false_iff cond]
  rw [tray]
  split <;> simp [*]

theorem bcastOk_iff (D S : Tray) (code : Nat) :
    bcastOk D S code = true ↔ (code = 1 → S.bytes = D.bytes) ∧ (code = 2 → S.rows = D.rows) := by
  simp only [bcastOk]
  grind

theorem tyBits_bytes (ty : Nat) : tyBits ty / 8 = if ty = 0 ∨ ty = 3 ∨ ty = 4 then 4 else 2 := by
  simp only [tyBits]
  split <;> rfl

theorem bcastRows_eq (S : Tray) {code : Nat} (h : code < 4) : bcastRows S code = if code % 2 = 1 then 1 else S.rows := by
  simp only [bcastRows]
  grind

theorem usesB_iff (op : Nat) : usesB op = true ↔ 0x30 ≤ op ∧ op ≤ 0x35 := by simp [usesB]
theorem usesC_iff (op : Nat) : usesC op = true ↔ op = 0x32 ∨ op = 0x35 := by simp [usesC]

theorem find?_optional {α : Type} (x y z : α) (p q : Prop) [Decidable p] [Decidable q] (bad : α → Bool) :
    ([x] ++ (if p then [y] else []) ++ if q then [z] else []).find? bad =
      if bad x = true then some x else if p ∧ bad y = true then some y else if q ∧ bad z = true then some z else none := by
  have alone (c : Prop) [Decidable c] (y : α) :
      (if c then [y] else []).find? bad = if c ∧ bad y = true then some y else none := by
    split <;> simp [*, List.find?_singleton]
  rw [List.find?_append, List.find?_append, alone, alone, List.find?_singleton]
  split
  · rfl
  · split <;> simp [*]

open Classical in
/-- The first source of an element-wise instruction that fails a test. -/
theorem firstArg_sources {w : WFields} (spl : ¬ w.isSpl = true) (bad : TrayNo × Nat → Bool) :
    firstArg (if w.isCvt || w.isRed then [] else w.sources) bad =
      if ¬ w.isCvt = true ∧ ¬ w.isRed = true → ¬ bad (w.a, 0) = true ∧
        (usesB w.xop = true → ¬ bad (w.b, w.bb) = true) ∧ (usesC w.xop = true → ¬ bad (w.c, w.bc) = true) then none
      else some (if bad (w.a, 0) = true then w.a else if usesB w.xop = true ∧ bad (w.b, w.bb) = true then w.b else w.c) := by
  simp only [Bool.or_eq_true, ← not_or]
  by_cases elem : w.isCvt = true ∨ w.isRed = true
  · simp [elem, firstArg]
  · have parts := not_or.1 elem
    simp only [or_self, not_false_eq_true, true_imp_iff, if_false, firstArg, WFields.sources, parts, spl, Bool.false_eq_true]
    rw [find?_optional]
    by_cases a : bad (w.a, 0) = true
    · simp [a]
    by_cases b : usesB w.xop = true ∧ bad (w.b, w.bb) = true
    · simp [a, b]
    by_cases c : usesC w.xop = true ∧ bad (w.c, w.bc) = true
    · simp [a, b, c]
    · simp [a, b, c]

open Classical in
/-- The scale tray that a WCVT may not name (R124). -/
theorem cvtBad4_eq (w : WFields) :
    let ok : Prop := mxCode w.sf → w.ss ≠ w.a ∧ w.ss ≠ w.d ∧ (mxCode w.df → w.ss ≠ w.ds)
    State.cvtBad4 w =
      if ok ∧ (mxCode w.df → w.ds ≠ w.a ∧ w.ds ≠ w.d) then none else some (if ok then w.ds else w.ss) := by
  simp only [State.cvtBad4, ← isMx_iff]
  grind

open Classical in
/-- The tray that a WCVT's block shapes refuse (R124). -/
theorem State.cvtBad9_eq (s : State) {w : WFields} (small : w.sf < 16) (n : Nat) :
    let A := s.tray w.a
    s.cvtBad9 w n = if (mxCode w.sf ∨ mxCode w.df → n % 32 = 0) ∧ (mxCode w.sf → scaleFits s w.ss A.rows n) ∧
        (mxCode w.df → scaleFits s w.ds A.rows n) ∧ (sixCode w.sf → A.bytes % 12 = 0) then none
      else some (if (mxCode w.sf ∨ mxCode w.df) ∧ n % 32 ≠ 0 then w.a
        else if mxCode w.sf ∧ ¬ scaleFits s w.ss A.rows n then w.ss
        else if mxCode w.df ∧ ¬ scaleFits s w.ds A.rows n then w.ds else w.a) := by
  simp only [State.cvtBad9, ← isMx_iff, ← State.scaleBad_iff, ← isSix_ne_iff small]
  grind

theorem codeWidth {f : Nat} (h : f < 16) (w : Nat) : (if f = 15 then w else elemBits f) = if f = 15 then w else codeBits f := by
  split
  · rfl
  · exact elemBits_eq (by omega)

theorem cvtBytes_eq {w : WFields} (small : w.df < 16) (n : Nat) : cvtBytes w n =
    if sixCode w.df then (n * 6 + 95) / 96 * 12 else (n * (if w.df = 15 then w.dw else codeBits w.df) + 31) / 32 * 4 := by
  simp only [cvtBytes, and_comm (b := w.df ≠ 15), isSix_ne_iff small, WFields.dbits, codeWidth small]
  rfl

/-- The check of the rows that an entry reads. -/
theorem FirstFails.marked {s : State} {w : WFields} {l : List (TrayNo × Nat)}
    (reads : l = w.sources.map fun x => (x.1, bcastRows (s.tray x.1) x.2)) :
    FirstFails [(s.firstMarked l = none, 10, 1, ((s.firstMarked l).getD (0, 0)).1, ((s.firstMarked l).getD (0, 0)).2)]
      (firstFault [((s.whiskMark w).isNone,
        wFault 10 1 (((s.whiskMark w).map (·.1)).getD 0) (((s.whiskMark w).map (·.2)).getD 0))]) := by
  rw [State.firstMarked_eq, reads, ← State.whiskMark]
  generalize s.whiskMark w = mark
  refine .check (by simp) (fun _ => ?_) fun _ => .nil
  cases mark <;> rfl

/-- The order is R124's: types, then shapes and marks, which a WSPL does not face. -/
theorem whiskChecks_firstFails (s : State) (q : QEntry) : FirstFails (whiskChecks s q) (s.whiskFault q.wsk) := by
  simp only [whiskChecks, State.whiskFault, QEntry.wsk_isSpl]
  by_cases spl : q.xop = 0x3A
  · rw [if_pos spl, if_pos spl]
    simpa using FirstFails.types (q := q) (r := []) .nil
  rw [if_neg spl, if_neg spl]
  refine .types ?_
  obtain ⟨wd, wa, wb, wc⟩ := q.wsk_trays
  obtain ⟨wty, wu, wbb, wbc⟩ := q.wsk_codes
  have wss : q.wsk.ss = trayBits q.x 4 := wb
  have wds : q.wsk.ds = trayBits q.x 8 := wc
  have smallD : q.wsk.df < 16 := Nat.mod_lt _ (by decide)
  have small : q.wsk.sf < 16 := Nat.mod_lt _ (by decide)
  have elems : s.rowElems q.wsk.a q.wsk.sbits = 8 * (s.tray (trayBits q.x 0)).bytes /
      if q.x / 2 ^ 12 % 16 = 15 then if q.x / 2 ^ 20 % 2 = 1 then 16 else 32 else codeBits (q.x / 2 ^ 12 % 16) := by
    rw [State.rowElems, wa, WFields.sbits, codeWidth small, QEntry.wsk_sf, QEntry.wsk_sw]
  simp only [State.shapeChecks]
  refine .namedIf q.wsk_isCvt ?_ ?_
  · rw [cvtBad4_eq, wss, wds, wa, wd]
    rfl
  refine .named ?_ ?_
  · rw [firstArg_sources (q.wsk_isSpl.not.2 spl)]
    simp only [Bool.and_eq_true, Bool.not_eq_true', Bool.and_eq_false_iff, decide_eq_true_eq, decide_eq_false_iff_not]
    simp only [q.wsk_isCvt, q.wsk_isRed, usesB_iff, usesC_iff, QEntry.wsk_xop, wa, wb, wc, wd, wbb, wbc]
    grind
  refine .named ?_ ?_
  · rw [firstArg_sources (q.wsk_isSpl.not.2 spl)]
    simp only [Bool.not_eq_true', ← Bool.not_eq_true, not_not, bcastOk_iff]
    simp only [q.wsk_isCvt, q.wsk_isRed, usesB_iff, usesC_iff, QEntry.wsk_xop, wa, wb, wc, wd, wbb, wbc]
    grind
  refine .check (not_or_iff q.wsk_isRed ?_) (fun _ => ?_) fun _ => ?_
  · rw [Bool.and_eq_true, decide_eq_true_eq, decide_eq_true_eq, wd, wa, tyBits_bytes, wty]
  · rw [wd]; rfl
  refine .check (not_or_iff q.wsk_isCvt ?_) (fun _ => ?_) fun _ => ?_
  · rw [Bool.and_eq_true, decide_eq_true_eq, decide_eq_true_eq, elems, wd, wa, cvtBytes_eq smallD, QEntry.wsk_df, QEntry.wsk_dw]
  · rw [wd]; rfl
  refine .namedIf q.wsk_isCvt ?_ ?_
  · rw [elems, State.cvtBad9_eq s small, wss, wds, wa, QEntry.wsk_sf, QEntry.wsk_df]
  refine .marked ?_
  simp only [WFields.sources, q.wsk_isSpl, spl, if_false, q.wsk_isCvt, QEntry.wsk_xop, usesB_iff, usesC_iff, isMx_iff, wss, wa, wb,
    wc, wbb, wbc, QEntry.wsk_sf]
  have rowsB := bcastRows_eq (s.tray (trayBits q.x 4)) (code := q.x / 2 ^ 20 % 4) (Nat.mod_lt _ (by decide))
  have rowsC := bcastRows_eq (s.tray (trayBits q.x 8)) (code := q.x / 2 ^ 22 % 4) (Nat.mod_lt _ (by decide))
  by_cases cvt : q.xop = 0x39
  · simp only [cvt, if_true, List.map_append, List.map_cons, List.map_nil, apply_ite (List.map _)]
    rfl
  · simp only [cvt, if_false, List.map_append, List.map_cons, List.map_nil, apply_ite (List.map _), rowsB, rowsC]
    rfl

end Sys2Proof.Machine
end

section
namespace Sys2Proof.Machine
open Sys2Proof

/-! ## The checks of an entry -/

section
variable {q : QEntry}

theorem QEntry.kind_relSlot (h : q.xop = 0x21) (slot : q.opf = 0x10) : q.kind = .relSlot := by
  have field : wbits q.w0 5 4 = 1 := by simp only [QEntry.opf, wbits, bits] at slot ⊢; omega
  simp [QEntry.kind, h, field]

theorem QEntry.kind_relTray (h : q.xop = 0x21) (tray : q.opf = 0) : q.kind = .relTray := by
  have field : wbits q.w0 5 4 ≠ 1 := by simp only [QEntry.opf, wbits, bits] at tray ⊢; omega
  simp [QEntry.kind, h, field]

theorem QEntry.kind_cfg (h : q.xop = 0x22) : q.kind = .cfg := by simp [QEntry.kind, h]

theorem QEntry.kind_tzero (h : q.xop = 0x23) : q.kind = .tzero := by simp [QEntry.kind, h]

theorem QEntry.kind_other (h : q.xop < 0x21 ∨ 0x29 < q.xop) : q.kind = .whisk := by
  unfold QEntry.kind
  split
  case h_10 => rfl
  all_goals omega

theorem QEntry.slotF_rel (h : q.xop = 0x21) : q.slotF = q.x % 64 := by simp [QEntry.slotF, h, bits]

theorem QEntry.slotF_word (h : q.xop ≠ 0x21) : q.slotF = q.opf := if_neg h

end

theorem tzeroChecks_firstFails (q : QEntry) :
    FirstFails [(q.opf < 48, 1, 1, q.opf, 0), (q.v1.toNat / 2 ^ 13 = 0, 2, 1, q.opf, 0)] (tzeroFault q.opf q.v1) := by
  have high : wbits q.v1 63 13 = q.v1.toNat / 2 ^ 13 := Nat.mod_eq_of_lt (by have := q.v1.isLt; omega)
  refine .check decide_eq_true_iff (fun _ => rfl) fun _ => .check ?_ (fun _ => rfl) fun _ => .nil
  rw [high, decide_eq_true_iff]

theorem memChecks_firstFails (q : QEntry) :
    FirstFails [(q.v1.toNat % 4 = 0, 2, 4, q.opf % 16, 0), (q.v2.toNat % 4 = 0, 2, 5, q.opf % 16, 0)] (memFault0 q) := by
  have low (v : Word) : wbits v 1 0 = v.toNat % 4 := by simp [wbits, bits]
  refine .check ?_ (fun _ => rfl) fun _ => .check ?_ (fun _ => rfl) fun _ => .nil
  · rw [low, decide_eq_true_iff]
  · rw [low, decide_eq_true_iff]

theorem relSlotChecks_firstFails (n : Nat) :
    FirstFails [(n < 48, 1, 1, n, 0)] (if n < 48 then none else some { cause := 1, detail := 1, arg := n }) := by
  have test := FirstFails.check (f := { cause := 1, detail := 1, arg := n }) (r := []) (P := n < 48) decide_eq_true_iff
    (fun _ => rfl) fun _ => .nil
  simpa only [firstFault, decide_eq_true_eq] using test

/-- The checks of an entry are those of its instruction. -/
theorem entryChecks_firstFails (s : State) {q : QEntry} (rel : q.xop = 0x21 → q.opf = 0 ∨ q.opf = 0x10) :
    FirstFails (entryChecks s q) (s.entryFault q) := by
  unfold entryChecks
  split
  case h_1 op =>
    rcases rel op with tray | slot
    · simp only [State.entryFault, QEntry.kind_relTray op tray, tray]
      exact .nil
    · simp only [State.entryFault, QEntry.kind_relSlot op slot, slot, QEntry.slotF_rel op, if_true]
      exact relSlotChecks_firstFails _
  case h_2 op =>
    simp only [State.entryFault, QEntry.kind_cfg op]
    exact .nil
  case h_3 op =>
    simp only [State.entryFault, QEntry.kind_tzero op, QEntry.slotF_word (q := q) (by omega)]
    exact tzeroChecks_firstFails q
  case h_4 op | h_5 op =>
    simp only [State.entryFault, QEntry.kind_mem (q := q) (by omega)]
    exact memChecks_firstFails q
  case h_6 op | h_7 op =>
    simp only [State.entryFault, QEntry.kind_mma (q := q) (by omega)]
    exact mmaChecks_firstFails s q
  case h_8 op =>
    simp only [State.entryFault, QEntry.kind_drain op]
    exact drainChecks_firstFails op
  case h_9 op =>
    simp only [State.entryFault, QEntry.kind_mov op]
    exact movChecks_firstFails s q
  case h_10 =>
    simp only [State.entryFault, QEntry.kind_other (q := q) (by grind)]
    exact whiskChecks_firstFails s q

/-! ## The estimate (R289, R293) -/

theorem mem_foldl_new {x : Nat} (l acc : List Nat) :
    x ∈ l.foldl (fun l x => if l.contains x then l else l ++ [x]) acc ↔ x ∈ acc ∨ x ∈ l := by
  induction l generalizing acc with
  | nil => simp
  | cons a l ih =>
    rw [List.foldl_cons, ih]
    split
    case isTrue h =>
      have : a ∈ acc := by simpa using h
      grind
    case isFalse => grind

/-- The lines of a TLD or TST are those of the first and of the last byte of each of its rows. -/
theorem linesBelow_length (s : State) (q : QEntry) :
    let m := s.newRun { q with prog := 0 }
    let T := s.tray (trayBits q.opf 0)
    (m.linesBelow m.rt).length = ((List.range T.rows).flatMap fun r =>
      [rowByte q r 0 / 128, rowByte q r (T.bytes - 1) / 128]).toFinset.card := by
  intro m T
  have tray : trayF q.opf 0 = trayBits q.opf 0 := trayF_trayBits ..
  have rt : m.rt = T.rows := congrArg (fun X => (s.tray X).rows) tray
  have bt : m.bt = T.bytes := congrArg (fun X => (s.tray X).bytes) tray
  have rows : m.rows = List.range T.rows := by
    rw [MemRun.rows, rt, show m.row0 = 0 from rfl]
    simp
  have byte (r i : Nat) : m.byteVa r i = rowByte q r i := by
    rw [MemRun.byteVa, MemRun.rowVa_eq, Nat.mod_add_mod]
    rfl
  have lines (r x : Nat) : x ∈ m.rowLines r ↔ x = rowByte q r 0 / 128 ∨ x = rowByte q r (T.bytes - 1) / 128 := by
    have first : m.rowVa r = rowByte q r 0 := (Nat.mod_eq_of_lt (m.rowVa_lt r)).symm.trans (byte r 0)
    rw [MemRun.rowLines, bt, first, byte]
    grind
  rw [← List.toFinset_card_of_nodup (m.linesBelow_nodup m.rt)]
  congr 1
  ext x
  rw [List.mem_toFinset, List.mem_toFinset, MemRun.linesBelow, mem_foldl_new]
  simp only [rt, rows, lines, List.mem_flatMap, List.mem_filter]
  simp

theorem State.memItems_estimate (s : State) (q : QEntry) :
    let T := s.tray (trayBits q.opf 0)
    let lines := ((List.range T.rows).flatMap fun r => [rowByte q r 0 / 128, rowByte q r (T.bytes - 1) / 128]).toFinset.card
    s.estimate (s.memItems q) = if q.xop = 0x24 then lines * s.weight 0x12 + T.rows * s.weight 0x0C
      else lines * s.weight 0x13 + T.rows * s.weight 0x0B := by
  intro T lines
  have rt : (s.newRun { q with prog := 0 }).rt = T.rows := congrArg (fun X => (s.tray X).rows) (trayF_trayBits ..)
  have load : (s.newRun { q with prog := 0 }).load = decide (q.xop = 0x24) := rfl
  simp only [State.memItems, linesBelow_length, load, decide_eq_true_eq]
  split <;> simp [State.estimate, lines, T, rt]

theorem State.mmaItems_estimate (s : State) (q : QEntry) :
    let fa := q.x / 2 ^ 8 % 16
    let fb := q.x / 2 ^ 12 % 16
    let units := (s.tray (trayBits q.x 0)).rows * (mmaK s q / mmaKw q)
    let cls := if fa = 4 ∧ fb = 4 then 0 else if fa ≤ 5 then 1 else if fa = 13 ∧ fb = 13 then 2 else if fa = 8 then 5
      else if fa = 6 ∨ fa = 7 then 4 else 3
    s.estimate (s.mmaOf q).items =
      if pairAllowed fa fb then units * (s.weight cls + if q.xop = 0x27 then s.weight 6 else 0) else 0 := by
  intro fa fb units cls
  have codeA : (s.mmaOf q).fa = fa := rfl
  have codeB : (s.mmaOf q).fb = fb := rfl
  have sparse : (s.mmaOf q).sparse = decide (q.xop = 0x27) := rfl
  simp only [Mma.items, codeA, codeB, sparse, decide_eq_true_eq]
  by_cases allowed : pairAllowed fa fb
  · have lb : fb < 15 := by simp only [pairAllowed, mxCode] at allowed; omega
    have class_eq : pairClass fa fb = cls := by
      simp only [pairClass, isNarrow, cls, isMx]
      simp only [pairAllowed, mxCode] at allowed
      grind
    have chunks : (s.mmaOf q).m * (s.mmaOf q).chunks = units := by
      have k : s.rowElems (trayBits q.x 4) (elemBits fb) = mmaK s q := s.rowElems_eq _ lb
      have pairs : pairW (bits q.x 11 8) (bits q.x 15 12) = some (pairProducts fa fb) := pairW_of_allowed allowed
      simp only [Mma.chunks, State.mmaOf, trayF_trayBits, pairs, Option.getD_some, ← mmaKw_eq, units, ← k]
      rfl
    rw [pairW_of_allowed allowed, chunks, class_eq, if_pos allowed]
    by_cases op : q.xop = 0x27 <;> simp [op, State.estimate, Nat.mul_add]
  · rw [if_pos (by simpa [← pairW_isSome] using allowed), if_neg allowed]
    rfl

/-- The estimate of an entry by its instruction. -/
theorem estimate_eq (s : State) {q : QEntry} (rel : q.xop = 0x21 → q.opf = 0 ∨ q.opf = 0x10) :
    s.estimate (s.entryItems q) = entryEstimate s q := by
  unfold entryEstimate
  split
  case h_1 op =>
    rcases rel op with tray | slot
    · simp [State.estimate, State.entryItems, QEntry.kind_relTray op tray, tray, trayF_trayBits]
    · simp [State.estimate, State.entryItems, QEntry.kind_relSlot op slot, slot]
  case h_2 op => simp [State.estimate, State.entryItems, QEntry.kind_cfg op, trayF_trayBits]
  case h_3 op => simp [State.estimate, State.entryItems, QEntry.kind_tzero op]
  case h_4 op | h_5 op =>
    simp only [State.entryItems, QEntry.kind_mem (q := q) (by omega)]
    rw [State.memItems_estimate]
    simp [op]
  case h_6 op | h_7 op =>
    simp only [State.entryItems, QEntry.kind_mma (q := q) (by omega)]
    rw [State.mmaItems_estimate]
    simp [op]
  case h_8 op =>
    have scale : b2n (nbit q.v1.toNat 18) = q.v1.toNat / 2 ^ 18 % 2 := by
      simp only [b2n, nbit, decide_eq_true_eq]
      split <;> omega
    have addend : bits q.v1.toNat 9 8 = q.v1.toNat / 2 ^ 8 % 4 := rfl
    simp only [State.estimate, State.entryItems, QEntry.kind_drain op, State.drainItems, drainCw, trayF_trayBits, scale, addend,
      List.foldl_cons, List.foldl_nil]
    ring
  case h_9 op => simp [State.estimate, State.entryItems, QEntry.kind_mov op, trayF_trayBits, Nat.mul_add]
  case h_10 =>
    have cls : q.wsk.cls = if q.xop = 0x3B then 15 else if 0x36 ≤ q.xop ∧ q.xop ≤ 0x38 then 14 else 13 := by
      simp only [WFields.cls, QEntry.wsk_isRed]
      rfl
    simp [State.estimate, State.entryItems, QEntry.kind_other (q := q) (by grind), cls, q.wsk_trays]

end Sys2Proof.Machine
end

section
namespace Sys2Proof.Machine
open Sys2Proof

/-! ## What leaves the Scale as it is

Counting, records and checks do not touch the Scale; so the start of an entry charges only its estimate (R293). -/

section
variable (s : State)

@[simp] theorem State.pmcAdd_scl (n k : Nat) : (pmcAdd s n k).scl = s.scl := by
  simp only [pmcAdd]
  split <;> rfl

@[simp] theorem State.pmc_scl (p : Page) (slot k : Nat) (who : Option Thread) : (s.pmc p slot k who).scl = s.scl := by
  simp only [State.pmc]
  split
  · refine foldl_kept (fun u : State => u.scl = s.scl) (fun u n h => ?_) _ rfl
    split
    · exact (State.pmcAdd_scl ..).trans h
    · exact h
  · rfl

@[simp] theorem State.bump_scl (p : Page) (slot k : Nat) (who : Option Thread) : (s.bump p slot k who).scl = s.scl := by
  simp [State.bump]

@[simp] theorem State.record_scl (p : Page) (addr info : Nat) (fatal : Bool) (who : Option Thread) :
    (s.record p addr info fatal who).scl = s.scl := by
  simp [State.record]

@[simp] theorem State.mcheck_scl (p : Page) (who : Option Thread) : (s.mcheck p who).scl = s.scl := by
  simp [State.mcheck]

@[simp] theorem State.checkRow_scl (T : TrayNo) (u r : Nat) (who : Option Thread) : (s.checkRow T u r who).scl = s.scl := by
  simp only [State.checkRow]
  split
  · simp [State.rowParity, State.setMark]
  · rfl

@[simp] theorem State.checkElem_scl (fp : Bool) (k : Nat) (who : Option Thread) : (s.checkElem fp k who).scl = s.scl := by
  simp only [State.checkElem]
  split
  · simp [State.elemRecord, State.setElem]
  · rfl

@[simp] theorem State.copyElem_scl (n : Fin 48) (f h : Nat) (who : Option Thread) (rj : Nat × Nat) :
    (s.copyElem n f h who rj).scl = s.scl :=
  foldl_kept (fun u : State => u.scl = s.scl) (fun _ _ h => (State.checkElem_scl ..).trans h) _ rfl

@[simp] theorem State.copyStep_scl (n : Fin 48) (who : Option Thread) : (s.copyStep n who).scl = s.scl :=
  foldl_kept (fun u : State => u.scl = s.scl) (fun _ _ h => (State.copyElem_scl ..).trans h) _ rfl

@[simp] theorem State.freeze_scl (q : QEntry) (f : TFault) : (s.freeze q f).scl = s.scl := by
  simp [State.freeze, State.setEntry]

@[simp] theorem State.memFinish_scl (id : Nat) : (s.memFinish id).scl = s.scl := by
  simp only [State.memFinish]
  split
  · rfl
  split
  case isFalse => rfl
  split
  · rfl
  split
  · rfl
  · exact State.freeze_scl ..

/-! ### The runs of entries -/

theorem State.tzeroGo_scl (q : QEntry) (n : Fin 48) : (s.tzeroGo q n).scl = s.scl := by
  simp [State.tzeroGo, State.retire]

theorem State.trelSlotGo_scl (q : QEntry) (n : Fin 48) : (s.trelSlotGo q n).scl = s.scl := by
  simp [State.trelSlotGo, State.retire]

theorem State.trelTrayGo_scl (q : QEntry) (T : TrayNo) : (s.trelTrayGo q T).scl = s.scl := by
  simp only [State.trelTrayGo]
  split <;> rfl

theorem State.memStart_scl (q : QEntry) : (s.memStart q).scl = s.scl := by
  simp only [State.memStart]
  split
  · exact State.memFinish_scl ..
  · rfl

theorem State.drainStart_scl (q : QEntry) (n : Fin 48) (c : DrainCw) : (s.drainStart q n c).scl = s.scl := by
  simp only [State.drainStart, State.bump_scl]
  split
  · exact State.copyStep_scl ..
  · exact State.copyStep_scl ..

theorem State.whiskStart_scl (q : QEntry) (w : WFields) : (s.whiskStart q w).scl = s.scl := by
  simp only [State.whiskStart, State.bump_scl]
  split <;> split <;> simp

theorem State.entryRun_scl (q : QEntry) : (s.entryRun q).scl = s.scl := by
  simp only [State.entryRun]
  split
  case h_1 => exact State.tzeroGo_scl ..
  case h_2 => rfl
  case h_3 => exact State.trelSlotGo_scl ..
  case h_4 => exact State.drainStart_scl ..
  case h_5 => exact State.memStart_scl ..
  case h_6 => rfl
  case h_7 => exact State.trelTrayGo_scl ..
  case h_8 => rfl
  case h_9 => exact State.whiskStart_scl ..

/-- An entry that starts is charged no more. -/
theorem State.entryStart_scl (q : QEntry) : (s.entryStart q).scl = s.scl := by
  simp only [State.entryStart]
  split
  · simp [State.setEntry]
  · simp [State.entryRun_scl, State.setEntry]

end

/-! ## Charges of an entry that is admitted (R293) -/

theorem State.countItems_scl (s : State) (items : List (Nat × Nat)) (who : Option Thread) :
    (s.countItems items who).scl.rsv = s.scl.rsv ∧ (s.countItems items who).scl.bal = s.scl.bal := by
  refine foldl_kept (fun u : State => u.scl.rsv = s.scl.rsv ∧ u.scl.bal = s.scl.bal) (fun u x h => ?_) items ⟨rfl, rfl⟩
  simpa [State.countEnergy, State.addEnergy] using h

theorem State.setBal_scl (s : State) (b : Int) :
    (s.setBal b).scl.rsv = s.scl.rsv ∧ (s.setBal b).scl.bal = max (-(16 * 2 ^ 47)) b := by
  have scl : (s.setBal b).scl = { s.scl with bal := if b < balMin then balMin else b } := by
    simp only [State.setBal, apply_ite State.scl, State.event_scl, ite_self]
  rw [scl, ← balMin]
  refine ⟨rfl, ?_⟩
  grind

/-- The estimate is taken from the reservation where that covers it, and else from the balance. -/
theorem State.admission_charges {s u : State} {items : List (Nat × Nat)} {who : Option Thread}
    (h : s.admission items who = some u) :
    let c := s.estimate items
    (s.en .scl = true ∧ c ≤ s.scl.rsv → u.scl.rsv = s.scl.rsv - c ∧ u.scl.bal = s.scl.bal) ∧
    (s.en .scl = false ∨ (s.scl.rsv < c ∧ -s.ovd ≤ s.scl.bal - c) →
      u.scl.rsv = s.scl.rsv ∧ u.scl.bal = max (-(16 * 2 ^ 47)) (s.scl.bal - c)) := by
  intro c
  have fromBalance (e : (s.setBal (s.scl.bal - c)).countItems items who = u) :
      u.scl.rsv = s.scl.rsv ∧ u.scl.bal = max (-(16 * 2 ^ 47)) (s.scl.bal - c) := by
    obtain ⟨rsv, bal⟩ := (s.setBal (s.scl.bal - c)).countItems_scl items who
    obtain ⟨rsv', bal'⟩ := s.setBal_scl (s.scl.bal - c)
    exact e ▸ ⟨rsv.trans rsv', bal.trans bal'⟩
  simp only [State.admission, Bool.not_eq_true'] at h
  split at h
  case isTrue off => exact ⟨fun on => absurd (off ▸ on.1) Bool.false_ne_true, fun _ => fromBalance (Option.some.inj h)⟩
  case isFalse on =>
  split at h
  case isTrue covered =>
    refine ⟨fun _ => Option.some.inj h ▸ State.countItems_scl .., fun other => ?_⟩
    rcases other with off | less
    · exact absurd off on
    · exact absurd less.1 (not_lt.2 covered)
  case isFalse more =>
  split at h
  · exact ⟨fun covered => absurd covered.2 more, fun _ => fromBalance (Option.some.inj h)⟩
  · contradiction

theorem State.admission_of_not_admits {s : State} {items : List (Nat × Nat)} (h : ¬ admits s (s.estimate items))
    (who : Option Thread) : s.admission items who = none := by
  obtain ⟨on, more, short⟩ : s.en .scl = true ∧ ¬ s.estimate items ≤ s.scl.rsv ∧
      ¬ -s.ovd ≤ s.scl.bal - s.estimate items := by
    simpa [admits] using h
  simp only [State.admission, on, more, short, Bool.not_true, Bool.false_eq_true, if_false]

end Sys2Proof.Machine
end

section
namespace Sys2Proof.Machine
open Sys2Proof

/-! ## An entry whose checks fail (R106, R107) -/

/-- The second of two replacements of an entry counts. -/
theorem map_map_entry {i : Nat} {a c : QEntry} (same : a.id = i) (l : List QEntry) :
    ((l.map fun x => if x.id = i then a else x).map fun x => if x.id = i then c else x) =
      l.map fun x => if x.id = i then c else x := by
  rw [List.map_map]
  refine List.map_congr_left fun x _ => ?_
  by_cases h : x.id = i <;> simp [h, same]

theorem wbit_setBit_zero (x : Word) : wbit (setBit x 0 true) 0 = true := by
  simp only [wbit, nbit, setBit, setBits, bits, b2n, BitVec.toNat_ofNat, decide_eq_true_eq, if_true]
  omega

/-- An event of a page, counting and charging apart, is undone by putting EVENT back. -/
theorem Accounts.event_restored {s u : State} {p : Page} {i : Nat} (pmc : p ≠ .pmc) (scl : p ≠ .scl)
    (h : Accounts (s.event p i) u) : Accounts s (u.setFrame p { u.frame p with event := (s.frame p).event }) := by
  have frames (q : Page) : { u.frame q with event := 0 } = { s.frame q with event := 0 } := by
    rw [h.frames q]
    by_cases e : q = p
    · subst e
      simp [State.event]
    · simp [State.event, State.frame_setFrame_ne _ _ e]
  have events (q : Page) (e : q ≠ p) (h1 : q ≠ .pmc) (h2 : q ≠ .scl) : (u.frame q).event = (s.frame q).event := by
    rw [h.events q h1 h2, State.event, State.frame_setFrame_ne _ _ e]
  refine { h with frames := fun q => ?_, events := fun q h1 h2 => ?_ }
  · by_cases e : q = p
    · subst e
      simpa using frames q
    · rw [State.frame_setFrame_ne _ _ e]
      exact frames q
  · by_cases e : q = p
    · subst e
      simp
    · rw [State.frame_setFrame_ne _ _ e]
      exact events q e h1 h2

/-- The tile unit with its queue frozen by a fault of an entry. -/
def Tile.frozenBy (t : Tile) (q : QEntry) (f : TFault) : Tile := { t with
  queue := t.queue.map fun x => if x.id = q.id
    then { q with started := false, safe := false, prog := if q.xop = 0x24 ∨ q.xop = 0x25 then f.prog else 0 } else x
  frozen := true
  trap := true
  tprog := tprogOf q f
  faultAddr := f.addr
  deferred := false }

theorem State.freeze_accounts (s : State) (q : QEntry) (f : TFault) :
    Accounts (({ s with tile := s.tile.frozenBy q f } : State).event .til 0) (s.freeze q f) :=
  Accounts.bump ..

theorem exec_tileEntryStart (s : State) : exec .tileEntryStart s = execTileEntryStart s := rfl

/-- TILE_ENTRY_START of an entry that may not start. -/
theorem tileEntryStart_waits {s : State} {q : QEntry} (next : s.nextEntry = some q) (may : s.mayStart q = false) :
    exec .tileEntryStart s = .next s := by
  simp only [exec_tileEntryStart, execTileEntryStart, next, due, may, Bool.false_eq_true, if_false]

section
variable {s : State} {q : QEntry} (next : s.nextEntry = some q) (may : s.mayStart q = true)
include next may

/-- TILE_ENTRY_START of an entry that the Scale admits. -/
theorem tileEntryStart_admitted {u : State} (pays : s.admission (s.entryItems q) (some q.thr) = some u) :
    exec .tileEntryStart s = .next (s.sealed (u.entryStart q)) := by
  simp only [exec_tileEntryStart, execTileEntryStart, next, due, may, if_true, pays]

/-- TILE_ENTRY_START of an entry that it does not. -/
theorem tileEntryStart_deferred (short : ¬ admits s (s.estimate (s.entryItems q))) :
    exec .tileEntryStart s = .next (({ s with tile := { s.tile with deferred := true } } : State).event .scl 4) := by
  simp only [exec_tileEntryStart, execTileEntryStart, next, due, may, if_true, State.admission_of_not_admits short]
  rfl

/-- The charge of TILE_ENTRY_START (R293). -/
theorem tileEntryStart_charges :
    let c := s.estimate (s.entryItems q)
    ∃ u, exec .tileEntryStart s = .next u ∧
      (s.en .scl = true ∧ c ≤ s.scl.rsv → u.scl.rsv = s.scl.rsv - c ∧ u.scl.bal = s.scl.bal) ∧
      (s.en .scl = false ∨ (s.scl.rsv < c ∧ -s.ovd ≤ s.scl.bal - c) →
        u.scl.rsv = s.scl.rsv ∧ u.scl.bal = max (-(16 * 2 ^ 47)) (s.scl.bal - c)) ∧
      (¬ admits s c → u.scl.rsv = s.scl.rsv ∧ u.scl.bal = s.scl.bal) := by
  intro c
  by_cases admitted : admits s c
  · obtain ⟨u, pays, -⟩ := State.admission_of_admits admitted (some q.thr)
    obtain ⟨reserve, balance⟩ := State.admission_charges pays
    have scl : (s.sealed (u.entryStart q)).scl = u.scl := u.entryStart_scl q
    refine ⟨_, tileEntryStart_admitted next may pays, ?_, ?_, absurd admitted⟩
    · rwa [scl]
    · rwa [scl]
  · refine ⟨_, tileEntryStart_deferred next may admitted, fun covered => ?_, fun covered => ?_, fun _ => ⟨rfl, rfl⟩⟩
    · exact absurd (.inr (.inl covered.2)) admitted
    · exact absurd (covered.imp_right fun h => .inr h.2) admitted

/-- TILE_ENTRY_START of an entry that is admitted and whose checks fail. -/
theorem tileEntryStart_freezes (admitted : admits s (s.estimate (s.entryItems q))) {f : TFault} (fault : s.entryFault q = some f) :
    ∃ u, exec .tileEntryStart s = .next u ∧
      OnlyTile s (u.setFrame .til { u.frame .til with event := (s.frame .til).event }) ∧
      wbit (u.frame .til).event 0 = true ∧
      u.tile = ({ s.tile with deferred := false } : Tile).frozenBy q f := by
  obtain ⟨u, pays, only, tile⟩ := State.admission_of_admits admitted (some q.thr)
  generalize hb : (({ u with tile := { u.tile with deferred := false } }).setEntry q.begun).bump .til 1 1 (some q.thr) = b
  have counts : Accounts (({ u with tile := { u.tile with deferred := false } } : State).setEntry q.begun) b :=
    hb ▸ Accounts.bump ..
  have queue : b.tile = { s.tile with queue := queueRuns s q, deferred := false } :=
    counts.tile.trans (by simp only [State.setEntry, tile])
  have only' : OnlyTile s b := (only.tile _).accounts counts
  have fails : b.entryFault q.begun = some f := by
    rw [State.entryFault_shape, queue]
    exact (s.entryFault_shape q).symm.trans fault
  have starts : u.entryStart q = b.freeze q.begun f := by
    simp only [State.entryStart]
    rw [hb, fails]
  have froze := b.freeze_accounts q.begun f
  have frame : (b.frame .til).event = (s.frame .til).event := only'.events .til (by decide) (by decide)
  refine ⟨_, tileEntryStart_admitted next may pays, ?_, ?_, ?_⟩
  · rw [starts, ← frame]
    exact ((only'.tile _).accounts (froze.event_restored (by decide) (by decide))).sealed
  · rw [starts]
    have event : ((b.freeze q.begun f).frame .til).event = setBit (b.frame .til).event 0 true := by
      rw [froze.events .til (by decide) (by decide), State.event, State.frame_setFrame]
      rfl
    exact (congrArg (wbit · 0) event).trans (wbit_setBit_zero _)
  · rw [starts]
    have entries := map_map_entry (i := q.id) (a := q.begun) rfl (c := { q with
      started := false, safe := false, prog := if q.xop = 0x24 ∨ q.xop = 0x25 then f.prog else 0 }) s.tile.queue
    refine froze.tile.trans ?_
    rw [State.event_tile, queue]
    exact congrArg (fun l => { s.tile.frozenBy q f with queue := l }) entries

end

/-! ## Entries that end at once (R62, R63, R91 to R93) -/

/-- Counting aside, an entry leaves the queue. -/
theorem Accounts.retire {s u : State} (h : Accounts s u) (id : Nat) : Accounts (s.retire id) (u.retire id) :=
  { h with tile := by simp only [State.retire, h.tile] }

/-- A slot that TZERO has zeroed (R61, R62). -/
def zeroedSlot (w seed : Word) : Slot where
  fp := wbit w 10
  anchor := BitVec.ofNat 10 w.toNat
  rnd := BitVec.ofNat 2 (w.toNat / 2 ^ 11)
  seed := seed
  fold := 0
  p := 0
  d := 0
  inuse := true
  sat := false
  inx := false

/-- The tile unit with slot `n` zeroed. -/
def Tile.slotZeroed (t : Tile) (n : Fin 48) (x : Slot) : Tile := { t with
  elems := t.elems.filter fun e => e.1 / 1024 ≠ n.val
  badElem := t.badElem.filter fun k => k / 1024 ≠ n.val
  slots := vset t.slots n x }

theorem State.tzeroGo_accounts (s : State) (q : QEntry) (n : Fin 48) :
    Accounts (({ s with tile := s.tile.slotZeroed n (zeroedSlot q.v1 q.v2) } : State).retire q.id) (s.tzeroGo q n) := by
  have rnd : (q.v1 >>> 11).setWidth 2 = BitVec.ofNat 2 (q.v1.toNat / 2 ^ 11) := by
    rw [← BitVec.ofNat_toNat, BitVec.toNat_ushiftRight, Nat.shiftRight_eq_div_pow]
  simp only [State.tzeroGo, rnd, ← BitVec.ofNat_toNat]
  exact ((Accounts.bump ..).trans (Accounts.bump ..)).retire q.id

theorem State.trelSlotGo_accounts (s : State) (q : QEntry) (n : Fin 48) :
    Accounts ((s.setSlot n { s.slot n with inuse := false }).retire q.id) (s.trelSlotGo q n) :=
  (Accounts.bump ..).retire q.id

/-- The tile unit with tray `T` empty and of a new shape (R78, R91). -/
def Tile.trayZeroed (t : Tile) (T : TrayNo) (rows bytes : Nat) : Tile := { t with
  trays := vset t.trays T { rows := rows, bytes := bytes, inuse := false, marks := 0 }
  data := t.data.filter fun c => c.1 / 4096 ≠ T.val
  badRow := t.badRow.filter fun k => k / 32 ≠ T.val }

theorem State.tcfgGo_eq (s : State) (q : QEntry) (T : TrayNo) :
    s.tcfgGo q T = ({ s with tile := s.tile.trayZeroed T (bits q.x 4 0 + 1) (4 * (bits q.x 9 5 + 1)) } : State).retire q.id := rfl

theorem State.trelTrayGo_of_inuse {s : State} {T : TrayNo} (h : (s.tray T).inuse = true) (q : QEntry) :
    s.trelTrayGo q T = ({ s with tile := s.tile.trayZeroed T (s.tray T).rows (s.tray T).bytes } : State).retire q.id := by
  rw [State.trelTrayGo, if_pos h]
  rfl

theorem State.trelTrayGo_of_free {s : State} {T : TrayNo} (h : (s.tray T).inuse = false) (q : QEntry) :
    s.trelTrayGo q T = s.retire q.id := by
  rw [State.trelTrayGo, h]
  rfl

theorem entryRun_trelTray {q : QEntry} (op : q.xop = 0x21) (rel : q.opf = 0) {T : TrayNo} (field : trayF q.x 0 = T) (b : State) :
    b.entryRun q.begun = b.trelTrayGo q.begun T := by
  have field : trayF q.begun.x 0 = T := field
  simp only [State.entryRun, QEntry.kind_relTray (q := q.begun) op rel, field]

section
variable {s : State} {q : QEntry} (next : s.nextEntry = some q)
  (go : s.mayStart q = true ∧ admits s (s.estimate (s.entryItems q)))
include next go

/-- TILE_ENTRY_START of an entry that passes its checks and ends at once: `change` is its effect on the tile unit. -/
theorem tileEntryStart_ends (passes : s.entryFault q = none) (change : Tile → Tile) (keeps : ∀ t, (change t).queue = t.queue)
    (run : ∀ b : State, b.tile = { s.tile with queue := queueRuns s q, deferred := false } →
      Accounts (({ b with tile := change b.tile } : State).retire q.id) (b.entryRun q.begun)) :
    ∃ u, exec .tileEntryStart s = .next u ∧
      u.tile = { change { s.tile with queue := queueRuns s q, deferred := false } with queue := queueWithout s q } ∧
      OnlyTile s u := by
  obtain ⟨b, runs, only, tile⟩ := tileEntryStart_runs next go.1 go.2 passes
  refine ⟨_, runs, (run b tile).tile.trans ?_, (OnlyTile.accounts (only.tile _) (run b tile)).sealed⟩
  have gone : (queueRuns s q).filter (fun x => x.id ≠ q.id) = queueWithout s q :=
    filter_map_entry (f := fun _ => q.begun) (fun _ _ => rfl) s.tile.queue
  simp only [State.retire, keeps, tile, gone]

/-- TZERO (R62, R93). -/
theorem tileEntryStart_tzero (op : q.xop = 0x23) (word : wbits q.v1 63 13 = 0) (h : q.opf < 48) :
    ∃ u, exec .tileEntryStart s = .next u ∧
      u.tile = { s.tile.slotZeroed ⟨q.opf, h⟩ (zeroedSlot q.v1 q.v2) with queue := queueWithout s q, deferred := false } ∧
      OnlyTile s u := by
  have slot : q.slotF = q.opf := QEntry.slotF_word (by omega)
  refine tileEntryStart_ends next go ?_ (·.slotZeroed ⟨q.opf, h⟩ (zeroedSlot q.v1 q.v2)) (fun _ => rfl) fun b _ => ?_
  · simp [State.entryFault, QEntry.kind_tzero op, slot, tzeroFault, firstFault, h, word]
  · have run : b.entryRun q.begun = b.tzeroGo q.begun ⟨q.opf, h⟩ := by
      have slot : q.begun.slotF = q.opf := slot
      simp only [State.entryRun, QEntry.kind_tzero (q := q.begun) op, slot, fin_ofNat_eq_mk h]
    exact run ▸ b.tzeroGo_accounts q.begun ⟨q.opf, h⟩

/-- TREL of a slot (R63, R92). -/
theorem tileEntryStart_trelSlot (op : q.xop = 0x21) (rel : q.opf = 0x10) (h : q.x % 64 < 48) :
    ∃ u, exec .tileEntryStart s = .next u ∧ u.tile = { s.tile with
      queue := queueWithout s q
      deferred := false
      slots := s.tile.slots.set (q.x % 64) { s.tile.slots[q.x % 64] with inuse := false } h } ∧ OnlyTile s u := by
  have slot : q.slotF = q.x % 64 := QEntry.slotF_rel op
  refine tileEntryStart_ends next go ?_ (fun t => { t with
    slots := vset t.slots ⟨q.x % 64, h⟩ { t.slots[q.x % 64] with inuse := false } }) (fun _ => rfl) fun b _ => ?_
  · simp [State.entryFault, QEntry.kind_relSlot op rel, slot, h]
  · have run : b.entryRun q.begun = b.trelSlotGo q.begun ⟨q.x % 64, h⟩ := by
      have slot : q.begun.slotF = q.x % 64 := slot
      simp only [State.entryRun, QEntry.kind_relSlot (q := q.begun) op rel, slot, fin_ofNat_eq_mk h]
    exact run ▸ b.trelSlotGo_accounts q.begun ⟨q.x % 64, h⟩

section
variable {T : TrayNo} (op : q.xop = 0x21) (rel : q.opf = 0) (field : trayF q.x 0 = T)
include op rel field

/-- TREL of a tray that is in use (R92). -/
theorem tileEntryStart_trelTray (used : s.tile.trays[T].inuse = true) :
    ∃ u, exec .tileEntryStart s = .next u ∧
      u.tile = { s.tile.trayZeroed T s.tile.trays[T].rows s.tile.trays[T].bytes with
        queue := queueWithout s q, deferred := false } ∧ OnlyTile s u := by
  refine tileEntryStart_ends next go ?_ (fun t => t.trayZeroed T t.trays[T].rows t.trays[T].bytes) (fun _ => rfl) fun b tile => ?_
  · simp [State.entryFault, QEntry.kind_relTray op rel]
  · have used : (b.tray T).inuse = true := by rw [State.tray, tile]; exact used
    rw [entryRun_trelTray op rel field, State.trelTrayGo_of_inuse used]
    exact .refl _

/-- TREL of a tray that is not (R92). -/
theorem tileEntryStart_trelTray_free (free : s.tile.trays[T].inuse = false) :
    ∃ u, exec .tileEntryStart s = .next u ∧ u.tile = { s.tile with queue := queueWithout s q, deferred := false } ∧
      OnlyTile s u := by
  refine tileEntryStart_ends next go ?_ id (fun _ => rfl) fun b tile => ?_
  · simp [State.entryFault, QEntry.kind_relTray op rel]
  · have free : (b.tray T).inuse = false := by rw [State.tray, tile]; exact free
    rw [entryRun_trelTray op rel field, State.trelTrayGo_of_free free]
    exact .refl _

end

/-- TCFG (R91). -/
theorem tileEntryStart_tcfg (op : q.xop = 0x22) {T : TrayNo} (field : trayF q.opf 0 = T) :
    ∃ u, exec .tileEntryStart s = .next u ∧
      u.tile = { s.tile.trayZeroed T (q.x % 32 + 1) (4 * (q.x / 32 % 32 + 1)) with
        queue := queueWithout s q, deferred := false } ∧ OnlyTile s u := by
  refine tileEntryStart_ends next go ?_ (·.trayZeroed T (q.x % 32 + 1) (4 * (q.x / 32 % 32 + 1))) (fun _ => rfl) fun b _ => ?_
  · simp [State.entryFault, QEntry.kind_cfg op]
  · have field : trayF q.begun.opf 0 = T := field
    have rows : bits q.begun.x 4 0 = q.x % 32 := congrArg (· % 32) (Nat.div_one _)
    have words : bits q.begun.x 9 5 = q.x / 32 % 32 := rfl
    simp only [State.entryRun, QEntry.kind_cfg (q := q.begun) op, field, State.tcfgGo_eq, rows, words]
    exact .refl _

end

/-! ## The start of an entry -/

/-- Settles O20: the checks are gone through list by list, each against the model's test of it; what starts after admission
leaves the Scale alone, so the charge is the admission's; and an entry that ends at once changes the tile unit in one step. -/
theorem entryStarts : Obligations.EntryStarts := by
  unfold Obligations.EntryStarts
  refine ⟨fun s q rel => ?checks, fun s q next may => tileEntryStart_charges next may, fun s q next => ?steps⟩
  case checks =>
    obtain ⟨passes, fails⟩ := entryChecks_firstFails s rel
    exact ⟨passes, fails, estimate_eq s rel⟩
  case steps =>
    intro go T T' ends zeroed
    have tray (x : Nat) : trayF x 0 = ⟨x % 16, by omega⟩ := trayF_zero x
    refine ⟨tileEntryStart_waits next, tileEntryStart_deferred next, fun g f fault => tileEntryStart_freezes next g.1 g.2 fault,
      tileEntryStart_tzero next, tileEntryStart_trelSlot next,
      fun g op rel used => tileEntryStart_trelTray next g op rel (tray _) used,
      fun g op rel free => tileEntryStart_trelTray_free next g op rel (tray _) free,
      fun g op => tileEntryStart_tcfg next g op (tray _)⟩

end Sys2Proof.Machine
end

section
namespace Sys2Proof.Machine
open Sys2Proof

/-! ## The issue checks of a tile instruction (R85) -/

section
variable {s u : State}

theorem Accounts.en (h : Accounts s u) (p : Page) : u.en p = s.en p := (congrArg Frame.en (h.frames p) :)

theorem Accounts.quiescing (h : Accounts s u) (p : Page) : u.quiescing p = s.quiescing p :=
  (congrArg Frame.quiesce (h.frames p) :)

@[simp] theorem State.issued_tile (s : State) (t : Thread) : (s.issued t).tile = s.tile := (s.issued_accounts t).tile

@[simp] theorem State.issued_en (s : State) (t : Thread) (p : Page) : (s.issued t).en p = s.en p := (s.issued_accounts t).en p

@[simp] theorem State.issued_quiescing (s : State) (t : Thread) (p : Page) : (s.issued t).quiescing p = s.quiescing p :=
  (s.issued_accounts t).quiescing p

/-- A change of the tile unit beside that of the thread. -/
theorem OnlyThread.withTile {t : Thread} (h : OnlyThread s u t) (T : Tile) :
    OnlyThread { s with tile := T } { u with tile := T } t :=
  ⟨h.1, { h.2 with tile := rfl }⟩

/-- What the thread waited for, and whether an event has been taken, does not bear on a completion. -/
theorem HThread.complete_waited (h : HThread) (w : Wait) (b : Bool) (n : Nat) (j : Option PAddr) (o : Opens) :
    ({ h with wait := w, entered := b } : HThread).complete n j o = h.complete n j o := by
  match h with
  | { pair := none, .. } => cases o <;> rfl
  | { pair := some _, .. } => cases o <;> rfl

theorem HThread.done_eq (h : HThread) (n : Nat) : h.done n = h.complete n none .nothing :=
  h.complete_waited .none h.entered n none .nothing

/-- A thread that issues and completes in sequence. -/
theorem HThread.complete_issued (h : HThread) (n : Nat) :
    ({ h with wait := .none, entered := false } : HThread).complete n none .nothing = h.done n := by
  rw [HThread.complete_waited, HThread.done_eq]

/-- A completion in sequence, after a change of the thread and of the tile unit alone. -/
theorem State.complete_tile {v : State} {t : Thread} (only : OnlyThread { s with tile := v.tile } v t) (n : Nat) :
    (v.complete t n).tile = v.tile ∧
      OnlyThread { s with tile := (s.sealed (v.complete t n)).tile } (s.sealed (v.complete t n)) t := by
  have tile : (v.complete t n).tile = v.tile := (only.complete n none .nothing).2.tile
  refine ⟨tile, ?_⟩
  rw [show (s.sealed (v.complete t n)).tile = v.tile from tile]
  exact (only.complete n none .nothing).sealed

end

section
variable {s : State} {t : Thread} {n : Nat} (g : Goes s t n) {r : TileRule} {body : State → Ends}
include g

/-- An instruction of a tile unit that another thread owns, or none. -/
theorem tileChecks_notOwned (owner : s.tile.owner ≠ some t) :
    issue s t n (tileChecks t r body) = .next (s.sealed ((s.issued t).trap t 0x09 0 0)) := by
  rw [issue_goes g]
  simp [tileChecks, owner, Ends.finish]

theorem tileChecks_disabled (owner : s.tile.owner = some t) (off : s.en .til = false) :
    issue s t n (tileChecks t r body) = .next (s.sealed ((s.issued t).trap t 0x0A 0 0)) := by
  rw [issue_goes g]
  simp [tileChecks, owner, off, Ends.finish]

theorem tileChecks_frozen (owner : s.tile.owner = some t) (on : s.en .til = true) (frozen : s.tile.frozen = true)
    (rule : r.frozenOk = false) :
    issue s t n (tileChecks t r body) = .next (s.sealed ((s.issued t).trap t 0x0B 0 0)) := by
  rw [issue_goes g]
  simp [tileChecks, owner, on, frozen, rule, Ends.finish]

/-- A unit that quiesces, or a queue with no room for the entry, holds the thread. -/
theorem tileChecks_holds (owner : s.tile.owner = some t) (on : s.en .til = true)
    (thawed : s.tile.frozen = false ∨ r.frozenOk = true)
    (held : s.quiescing .til = true ∨ (r.queued = true ∧ 32 ≤ s.tile.queue.length)) :
    issue s t n (tileChecks t r body) = .next (s.setTh t { s.th t with wait := .stall, entered := false }) := by
  have passes : (s.tile.frozen && !r.frozenOk) = false := by rcases thawed with h | h <;> simp [h]
  have holds : (s.quiescing .til || (r.queued && decide (32 ≤ s.tile.queue.length))) = true := by
    rcases held with h | ⟨h, k⟩
    · simp [h]
    · simp [h, k]
  rw [issue_goes g]
  simp [tileChecks, owner, on, passes, holds, Ends.finish, State.sealed, State.setTh]

/-- An instruction that passes the checks ends as its body says. -/
theorem tileChecks_passes (owner : s.tile.owner = some t) (on : s.en .til = true)
    (thawed : s.tile.frozen = false ∨ r.frozenOk = true) (free : s.quiescing .til = false)
    (room : r.queued = false ∨ s.tile.queue.length < 32) :
    issue s t n (tileChecks t r body) = .next (s.sealed ((body (s.issued t)).finish s t n)) := by
  have passes : (s.tile.frozen && !r.frozenOk) = false := by rcases thawed with h | h <;> simp [h]
  have goes : (s.quiescing .til || (r.queued && decide (32 ≤ s.tile.queue.length))) = false := by
    rcases room with h | h <;> simp [h, free]
  rw [issue_goes g]
  simp [tileChecks, owner, on, passes, goes]

end

/-- Issue of an instruction that ends after a change of its thread and of the tile unit alone. -/
theorem State.finish_tile {s v : State} {t : Thread} {n : Nat} {h : HThread} (th : v.th t = h)
    (only : OnlyThread { s with tile := v.tile } v t) :
    ∃ u, Host.Outcome.next (s.sealed ((Ends.done v .nothing).finish s t n)) = (.next u : Res) ∧
      u.th t = h.complete n none .nothing ∧ u.tile = v.tile ∧ OnlyThread { s with tile := u.tile } u t := by
  obtain ⟨tile, only⟩ := State.complete_tile only n
  exact ⟨_, rfl, by simp [Ends.finish, th], tile, only⟩

/-- Issue of an instruction that waits, with nothing done. -/
theorem State.finish_waits (s : State) (t : Thread) (n : Nat) (w : Wait) :
    ∃ u, Host.Outcome.next (s.sealed ((Ends.waits ((s.issued t).setTh t { (s.issued t).th t with wait := w })).finish s t n)) =
      (.next u : Res) ∧ u.th t = { s.th t with wait := w, entered := false } ∧ OnlyThread s u t :=
  ⟨_, rfl, by simp [Ends.finish], ((OnlyThread.issued s t).setTh _).sealed⟩

end Sys2Proof.Machine
end

section
namespace Sys2Proof.Machine
open Sys2Proof

/-! ## Instructions that take a queue entry (R83, R84, R112) -/

theorem wbits_w0Of {xop opf : Nat} (hx : xop < 64) (ho : opf < 64) :
    wbits (w0Of xop opf) 13 12 = 3 ∧ wbits (w0Of xop opf) 11 6 = xop := by
  simp only [wbits, bits, w0Of, BitVec.toNat_ofNat]
  omega

theorem instrWords_w0Of {xop opf : Nat} (hx : xop < 64) (ho : opf < 64) : instrWords (w0Of xop opf) = (xopWords xop).getD 1 := by
  simp [instrWords, wbits_w0Of hx ho]

/-- A command issues as an entry of these words, and reads these register values. -/
def IssuesEntry (i : Instr) (s : State) (t : Thread) (xop opf x : Nat) (v w : Word) : Prop :=
  ∃ f g : State → Word, f (s.issued t) = v ∧ g (s.issued t) = w ∧
    exec i s = tileIssue t (w0Of xop opf) (BitVec.ofNat 14 (x % 2 ^ 14)) (BitVec.ofNat 14 (x / 2 ^ 14)) f g s

theorem ofNat14_mod (x : Nat) : BitVec.ofNat 14 (x % 2 ^ 14) = BitVec.ofNat 14 x := by
  apply BitVec.eq_of_toNat_eq
  simp

section
variable {i : Instr} {s : State} {t : Thread} {xop opf x y : Nat} {v w : Word} {f g : State → Word}

/-- An instruction with one extension word. -/
theorem IssuesEntry.of_short (e : exec i s = tileIssue t (w0Of xop opf) (ext14 y) 0 f g s) (same : y = x) (hx : x < 2 ^ 14)
    (hf : f (s.issued t) = v) (hg : g (s.issued t) = w) : IssuesEntry i s t xop opf x v w :=
  ⟨f, g, hf, hg, by rw [e, ofNat14_mod, Nat.div_eq_of_lt hx, same]; rfl⟩

/-- An instruction with two. -/
theorem IssuesEntry.of_long (e : exec i s = tileIssue t (w0Of xop opf) (extLo y) (extHi y) f g s) (same : y = x)
    (hf : f (s.issued t) = v) (hg : g (s.issued t) = w) : IssuesEntry i s t xop opf x v w :=
  ⟨f, g, hf, hg, by rw [e, ofNat14_mod, same]; rfl⟩

end

theorem mul_b2n (b : Bool) (k : Nat) : b2n b * k = if b then k else 0 := by cases b <;> simp [b2n]

theorem wskX_field (A B C : TrayNo) (T U : BitVec 4) (BB BC RND : BitVec 2) (SAT VAR : Bool) :
    wskX A B C T U BB BC + wskTop RND SAT VAR =
      whiskField A.val B.val C.val T.toNat U.toNat BB.toNat BC.toNat RND.toNat SAT VAR := by
  simp only [wskX, wskTop, whiskField, mul_b2n]
  ring

theorem exec_tileOperands {i : Instr} {s : State} {t : Thread} {xop opf x : Nat} {v w : Word}
    (h : tileOperands i s = some (t, xop, opf, x, v, w)) : IssuesEntry i s t xop opf x v w ∧ opf < 64 ∧ 0x21 ≤ xop ∧ xop ≤ 0x29 := by
  cases i <;> simp only [tileOperands, reduceCtorEq] at h
  case trelTray T => cases h; exact ⟨.of_short rfl rfl (by omega) rfl rfl, by omega⟩
  case trelSlot n => cases h; exact ⟨.of_short rfl rfl (by omega) rfl rfl, by omega⟩
  case tcfg T r l => cases h; exact ⟨.of_short rfl (by omega) (by omega) rfl rfl, by omega⟩
  case tzero n c d =>
    cases h
    exact ⟨.of_short rfl (by omega) (by omega) (State.issued_g ..) (State.issued_g ..), by omega⟩
  case tld T a b => cases h; exact ⟨.of_short rfl (by omega) (by omega) (State.issued_g ..) (State.issued_g ..), by omega⟩
  case tst T a b => cases h; exact ⟨.of_short rfl (by omega) (by omega) (State.issued_g ..) (State.issued_g ..), by omega⟩
  case tmma n A B fa fb sa sb => cases h; exact ⟨.of_long rfl (by simp only [mmaX]; omega) rfl rfl, by omega⟩
  case tmms n A B fa fb sa sb m => cases h; exact ⟨.of_long rfl (by simp only [mmaX]; omega) rfl rfl, by omega⟩
  case tdrain n d => cases h; exact ⟨.of_short rfl rfl (by omega) (State.issued_g ..) rfl, by omega⟩
  case tmovCopy d a => cases h; exact ⟨.of_short rfl rfl (by omega) rfl rfl, by omega⟩
  case tmovTranspose d a op =>
    split at h
    · cases h
    · rename_i turn
      cases h
      exact ⟨.of_short (if_neg turn) (by omega) (by omega) rfl rfl, by omega⟩

theorem exec_whiskOperands {i : Instr} {s : State} {t : Thread} {xop opf x : Nat} {v : Word}
    (h : whiskOperands i s = some (t, xop, opf, x, v)) : IssuesEntry i s t xop opf x v 0 ∧ opf < 64 ∧ 0x30 ≤ xop ∧ xop ≤ 0x3B := by
  cases i <;> simp only [whiskOperands, reduceCtorEq] at h
  all_goals cases h
  case wcvt =>
    refine ⟨.of_long rfl ?_ rfl rfl, by omega⟩
    simp only [cvtX, wskTop, whiskField, mul_b2n]
    ring
  case wspl => exact ⟨.of_long rfl (wskX_field ..) (State.issued_g ..) rfl, by omega⟩
  all_goals exact ⟨.of_long rfl (wskX_field ..) rfl rfl, by omega⟩

/-- A tile-queue instruction issues the entry of its words, and is as long as its XOP says. -/
theorem exec_queued {i : Instr} {s : State} {t : Thread} {n xop opf x : Nat} {v w : Word}
    (h : queuedOperands i s = some (t, n, xop, opf, x, v, w)) :
    IssuesEntry i s t xop opf x v w ∧ instrWords (w0Of xop opf) = n := by
  unfold queuedOperands at h
  split at h
  next t' xop' opf' x' v' w' tile =>
    cases h
    obtain ⟨issues, field, low, high⟩ := exec_tileOperands tile
    refine ⟨issues, ?_⟩
    rw [instrWords_w0Of (by omega) field]
    by_cases long : xop = 0x26 ∨ xop = 0x27
    · rcases long with rfl | rfl <;> rfl
    · have code : xopWords xop = some 2 := by
        rw [xopWords, if_neg (by omega), if_neg (by omega), if_neg long, if_pos (by omega)]
      simp [code, long]
  next =>
    split at h
    next t' xop' opf' x' v' whisk =>
      cases h
      obtain ⟨issues, field, low, high⟩ := exec_whiskOperands whisk
      refine ⟨issues, ?_⟩
      have code : xopWords xop = some 3 := by
        rw [xopWords, if_neg (by omega), if_neg (by omega), if_neg (by omega), if_neg (by omega), if_pos ⟨low, high⟩]
      rw [instrWords_w0Of (by omega) field, code, Option.getD_some]
    next => cases h

theorem State.newEntry_issued (s : State) (t : Thread) (xop opf x : Nat) (v w : Word) :
    (s.issued t).newEntry t (w0Of xop opf) (BitVec.ofNat 14 (x % 2 ^ 14)) (BitVec.ofNat 14 (x / 2 ^ 14)) v w =
      entryMade s t xop opf x v w := by
  simp only [State.newEntry, entryMade, HThread.pl, State.issued_th, State.issued_tile, (s.issued_accounts t).ls, w0Of,
    Nat.mul_comm xop, State.setTh_ls]

/-- Settles O17: every instruction issues through the same checks and makes the entry of its words; the checks are taken in
their order. -/
theorem queuedInstructions : Obligations.QueuedInstructions := by
  unfold Obligations.QueuedInstructions
  intro i s t n xop opf x v w operands goes mine room
  obtain ⟨⟨f, g, hf, hg, issues⟩, words⟩ := exec_queued operands
  rw [issues, tileIssue, words]
  refine ⟨tileChecks_notOwned goes, tileChecks_disabled goes, fun owner on frozen => tileChecks_frozen goes owner on frozen rfl,
    fun owner on thawed full => ?_, fun owner on thawed ⟨free, space⟩ => ?_⟩
  · refine tileChecks_holds goes owner on (.inl thawed) ?_
    by_cases quiet : s.quiescing .til = true
    · exact .inl quiet
    · exact .inr ⟨rfl, Nat.not_lt.1 fun space => full ⟨by simpa using quiet, space⟩⟩
  · rw [tileChecks_passes goes owner on (.inl thawed) free (.inr space), hf, hg, State.newEntry_issued]
    obtain ⟨u, ends, th, tile, only⟩ := State.finish_tile (n := n)
      (v := (s.issued t).enqueue (entryMade s t xop opf x v w)) (s.issued_th t)
      ((OnlyThread.issued s t).withTile ((s.issued t).enqueue (entryMade s t xop opf x v w)).tile)
    exact ⟨u, ends, th.trans (HThread.complete_issued ..), only, tile.trans (by simp [State.enqueue])⟩

end Sys2Proof.Machine
end

section
namespace Sys2Proof.Machine
open Sys2Proof

/-! ## TCLAIM (R81, R85) -/

section
variable {s u : State} {t : Thread} {gd : GReg} {n : Nat}

theorem State.claim_th (s : State) (t : Thread) (gd : GReg) : (s.claim t gd).th t = { s.th t with g := vset (s.th t).g gd 1 } :=
  State.th_setTh ..

theorem State.claim_tile (s : State) (t : Thread) (gd : GReg) : (s.claim t gd).tile = { s.tile with owner := some t } := rfl

theorem OnlyThread.claim (h : OnlyThread s u t) (gd : GReg) : OnlyThread { s with tile := (u.claim t gd).tile } (u.claim t gd) t :=
  (h.withTile _).setTh _

theorem OnlyThread.setG (h : OnlyThread s u t) (d : GReg) (v : Word) : OnlyThread s (u.setG t d v) t := h.setTh _

/-- A thread with a register written completes. -/
theorem HThread.complete_wrote (h : HThread) (d : GReg) (v : Word) (b : Bool) (w : Wait) (n : Nat) :
    ({ h with g := vset h.g d v, wait := w, entered := b } : HThread).complete n none .nothing = (h.wrote d v).next n := by
  exact (HThread.complete_waited { h with g := vset h.g d v } w b n none .nothing).trans
    (HThread.complete_waited { h with g := vset h.g d v } .none h.entered n none .nothing).symm

end

section
variable {s : State} {t : Thread} {gd : GReg}

/-- A command gives the unit to a thread, which completes with 1. -/
abbrev Takes (i : Instr) (s : State) (t : Thread) (gd : GReg) : Prop :=
  ∃ u, exec i s = .next u ∧ u.th t = ((s.th t).wrote gd 1).next 2 ∧ u.tile = { s.tile with owner := some t } ∧
    OnlyThread { s with tile := u.tile } u t

/-- An instruction whose body claims the unit. -/
theorem Takes.of_issue {i : Instr} (goes : Goes s t 2) {body : State → Ends} (e : exec i s = issue s t 2 body)
    (claims : body (s.issued t) = .done ((s.issued t).claim t gd) .nothing) : Takes i s t gd := by
  obtain ⟨u, ends, th, tile, only⟩ := State.finish_tile (n := 2) (State.claim_th (s.issued t) t gd) ((OnlyThread.issued s t).claim gd)
  refine ⟨u, ?_, ?_, ?_, only⟩
  · rw [e, issue_goes goes, claims, ends]
  · rw [th, State.issued_th]
    exact (s.th t).complete_wrote gd 1 false .none 2
  · rw [tile, State.claim_tile, State.issued_tile]

theorem Takes.tclaim (goes : Goes s t 2) (free : s.tile.owner = none ∨ s.tile.owner = some t) : Takes (.tclaim t gd) s t gd := by
  refine .of_issue goes (show exec (.tclaim t gd) s = execTclaim t gd s from rfl) ?_
  rw [State.issued_tile, if_pos free]

/-- The unit of another thread: the claim gives 0. -/
theorem tclaim_taken (goes : Goes s t 2) (taken : ¬ (s.tile.owner = none ∨ s.tile.owner = some t)) :
    ∃ u, exec (.tclaim t gd) s = .next u ∧ u.th t = ((s.th t).wrote gd 0).next 2 ∧ OnlyThread s u t := by
  have body : (if (s.issued t).tile.owner = none ∨ (s.issued t).tile.owner = some t then
      Ends.done ((s.issued t).claim t gd) .nothing else .done ((s.issued t).setG t gd 0) .nothing) =
      .done ((s.issued t).setG t gd 0) .nothing := by rw [State.issued_tile, if_neg taken]
  obtain ⟨u, ends, th, only⟩ := issue_done goes (body := fun s =>
    if s.tile.owner = none ∨ s.tile.owner = some t then .done (s.claim t gd) .nothing
    else .done (s.setG t gd 0) .nothing) body
  refine ⟨u, ends, ?_, only⟩
  rw [th, State.issued_th]
  exact (s.th t).complete_wrote gd 0 false .none 2

theorem State.forceReady_iff (s : State) :
    s.forceReady = true ↔ s.tile.queue = [] ∨ (s.tile.frozen = true ∧ s.tile.trap = false) := by
  simp [State.forceReady]

theorem State.forceReady_issued (s : State) (t : Thread) : (s.issued t).forceReady = s.forceReady := by
  simp [State.forceReady]

theorem State.pl_issued (s : State) (t : Thread) : ((s.issued t).th t).pl = (s.th t).pl := by
  rw [State.issued_th]
  rfl

theorem Takes.tclaimForceDone (waits : (s.th t).wait = .tclaimForce gd) (spare : s.forceReady = true) :
    Takes (.tclaimForceDone t) s t gd := by
  obtain ⟨tile, only⟩ := State.complete_tile ((OnlyThread.refl s t).claim gd) 2
  refine ⟨s.sealed ((s.claim t gd).complete t 2), ?_, ?_, tile, only⟩
  · rw [show exec (.tclaimForceDone t) s = execTclaimForceDone t s from rfl, execTclaimForceDone, waits]
    simp only [due, spare, if_true]
  · rw [State.sealed_th, State.complete_th, State.claim_th]
    exact (s.th t).complete_wrote gd 1 _ _ 2

end

/-- Settles O18: a claim reads the owner and, where it is forced, the queue and its trap. -/
theorem tileClaim : Obligations.TileClaim := by
  unfold Obligations.TileClaim
  intro s t gd h free spare takes
  have ready : s.forceReady = true ↔ spare := s.forceReady_iff
  have readyIssued : (s.issued t).forceReady = true ↔ spare := by rw [State.forceReady_issued, ready]
  have force : exec (.tclaimForce t gd) s = execTclaimForce t gd s := rfl
  have forceDone : exec (.tclaimForceDone t) s = execTclaimForceDone t s := rfl
  refine ⟨Takes.tclaim, tclaim_taken, fun goes user => ?_, fun goes able may => ?_, fun goes able taken busy => ?_,
    fun waits idle => Takes.tclaimForceDone waits (ready.2 idle), fun waits busy => ?_⟩
  · rw [force, execTclaimForce, issue_goes goes, if_pos (by rw [State.pl_issued]; exact user)]
    rfl
  · refine Takes.of_issue goes force ?_
    rw [if_neg (by rw [State.pl_issued]; exact able),
      if_pos (by rw [State.issued_tile, readyIssued]; exact or_assoc.1 may)]
  · rw [force, execTclaimForce, issue_goes goes, if_neg (by rw [State.pl_issued]; exact able),
      if_neg (by rw [State.issued_tile, readyIssued, ← or_assoc]; exact not_or.2 ⟨taken, busy⟩)]
    exact State.finish_waits ..
  · rw [forceDone, execTclaimForceDone, waits]
    simp only [due, ready, busy, if_false]

end Sys2Proof.Machine
end

section
namespace Sys2Proof.Machine
open Sys2Proof

/-! ## TREL of the unit and TSYNC (R81, R102) -/

section
variable {s : State} {t : Thread}

theorem exec_trelUnit (s : State) (t : Thread) : exec (.trelUnit t) s = issue s t 2 (tileChecks t { queued := false } fun s =>
    if s.tile.queue.isEmpty then .done s.disown .nothing
    else .waits (s.setTh t { s.th t with wait := .trelUnit })) := rfl

theorem exec_tsyncWait (s : State) (t : Thread) : exec (.tsyncWait t) s = issue s t 2 (tileChecks t { queued := false } fun s =>
    if s.tileIdle then .done (s.syncFlags t) .nothing
    else .waits (s.setTh t { s.th t with wait := .tsync })) := rfl

theorem exec_tsyncResume (s : State) (t : Thread) :
    exec (.tsyncResume t) s = issue s t 2 (tileChecks t { queued := false, frozenOk := true } fun s =>
      .done (if s.tile.frozen then s.thaw else s) .nothing) := rfl

theorem exec_tsyncDiscard (s : State) (t : Thread) :
    exec (.tsyncDiscard t) s = issue s t 2 (tileChecks t { queued := false, frozenOk := true } fun s =>
      .done (if s.tile.frozen then s.discard else s) .nothing) := rfl

theorem State.tileIdle_iff (s : State) : s.tileIdle = true ↔ s.tile.queue = [] ∧ s.tile.drains = [] := by
  simp [State.tileIdle]

theorem State.tileIdle_issued (s : State) (t : Thread) : (s.issued t).tileIdle = s.tileIdle := by
  simp [State.tileIdle]

/-- A command completes its thread as `k` does and makes `T` of the tile unit. -/
abbrev EndsWith (i : Instr) (s : State) (t : Thread) (k : HThread) (T : Tile) : Prop :=
  ∃ u, exec i s = .next u ∧ u.th t = k.done 2 ∧ u.tile = T ∧ OnlyThread { s with tile := u.tile } u t

/-- An event that ends a wait, after a change of the thread and of the tile unit alone. -/
theorem EndsWith.of_due {i : Instr} {c : Bool} {v : State} {k : HThread} {T : Tile} (e : exec i s = due s c (v.complete t 2))
    (holds : c = true) (only : OnlyThread { s with tile := v.tile } v t) (th : v.th t = k) (tile : v.tile = T) :
    EndsWith i s t k T := by
  obtain ⟨same, only⟩ := State.complete_tile only 2
  refine ⟨s.sealed (v.complete t 2), ?_, ?_, same.trans tile, only⟩
  · rw [e, due, if_pos holds]
  · rw [State.sealed_th, State.complete_th, th, HThread.done_eq]

/-- An instruction that passes the checks and ends after a change of the tile unit alone. -/
theorem EndsWith.of_issue {i : Instr} {x : Ends} {v : State} {k : HThread} {T : Tile}
    (e : exec i s = .next (s.sealed (x.finish s t 2))) (ends : x = .done v .nothing)
    (only : OnlyThread { s with tile := v.tile } v t) (th : v.th t = { k with wait := .none, entered := false }) (tile : v.tile = T) :
    EndsWith i s t k T := by
  obtain ⟨u, next, after, same, only⟩ := State.finish_tile (n := 2) th only
  exact ⟨u, by rw [e, ends, next], after.trans (HThread.complete_issued ..), same.trans tile, only⟩

theorem OnlyThread.disown {u : State} (h : OnlyThread s u t) : OnlyThread { s with tile := u.disown.tile } u.disown t :=
  h.withTile _

theorem OnlyThread.syncFlags {u : State} (h : OnlyThread s u t) (same : u.tile = s.tile) :
    OnlyThread { s with tile := (u.syncFlags t).tile } (u.syncFlags t) t := by
  rw [show (u.syncFlags t).tile = s.tile from same]
  exact h.setTh _

theorem State.syncFlags_th (s : State) (t : Thread) : (s.syncFlags t).th t = { s.th t with tstatSync := (s.th t).tstat } :=
  State.th_setTh ..

/-- A command leaves its thread waiting, with nothing else done. -/
abbrev WaitsIn (i : Instr) (s : State) (t : Thread) (w : Wait) : Prop :=
  ∃ u, exec i s = .next u ∧ u.th t = { s.th t with wait := w, entered := false } ∧ OnlyThread s u t

theorem WaitsIn.of_issue {i : Instr} {x : Ends} {w : Wait} (e : exec i s = .next (s.sealed (x.finish s t 2)))
    (waits : x = .waits ((s.issued t).setTh t { (s.issued t).th t with wait := w })) : WaitsIn i s t w := by
  obtain ⟨u, next, th, only⟩ := s.finish_waits t 2 w
  exact ⟨u, by rw [e, waits, next], th, only⟩

/-- The tile unit with its queue thawed. -/
abbrev Tile.thawed (x : Tile) : Tile := { x with frozen := false, trap := false, tprog := setBit x.tprog 63 false }

section
variable (goes : Goes s t 2) (owner : s.tile.owner = some t) (on : s.en .til = true) (free : s.quiescing .til = false)
include goes owner on free

section
variable (warm : s.tile.frozen = false)
include warm

theorem trelUnit_ends (empty : s.tile.queue = []) : EndsWith (.trelUnit t) s t (s.th t) { s.tile with owner := none } := by
  have run := (exec_trelUnit s t).trans (tileChecks_passes goes owner on (.inl warm) free (.inl rfl))
  refine EndsWith.of_issue (k := s.th t) run ?_ (OnlyThread.issued s t).disown (s.issued_th t) ?_
  · exact if_pos (by rw [State.issued_tile, empty]; rfl)
  · rw [State.disown, State.issued_tile]

theorem trelUnit_waits (more : s.tile.queue ≠ []) : WaitsIn (.trelUnit t) s t .trelUnit := by
  have run := (exec_trelUnit s t).trans (tileChecks_passes goes owner on (.inl warm) free (.inl rfl))
  refine WaitsIn.of_issue run (if_neg ?_)
  rw [State.issued_tile, List.isEmpty_iff]
  exact more

theorem tsyncWait_ends (idle : s.tileIdle = true) :
    EndsWith (.tsyncWait t) s t { s.th t with tstatSync := (s.th t).tstat } s.tile := by
  have run := (exec_tsyncWait s t).trans (tileChecks_passes goes owner on (.inl warm) free (.inl rfl))
  refine EndsWith.of_issue run (if_pos (s.tileIdle_issued t ▸ idle)) ((OnlyThread.issued s t).syncFlags (s.issued_tile t)) ?_
    (s.issued_tile t)
  rw [State.syncFlags_th, State.issued_th]

theorem tsyncWait_waits (busy : ¬ s.tileIdle = true) : WaitsIn (.tsyncWait t) s t .tsync := by
  have run := (exec_tsyncWait s t).trans (tileChecks_passes goes owner on (.inl warm) free (.inl rfl))
  exact WaitsIn.of_issue run (if_neg (s.tileIdle_issued t ▸ busy))

/-- A queue that is not frozen stays as it is. -/
theorem tsync_warm : EndsWith (.tsyncResume t) s t (s.th t) s.tile ∧ EndsWith (.tsyncDiscard t) s t (s.th t) s.tile := by
  have resume := (exec_tsyncResume s t).trans (tileChecks_passes goes owner on (.inr rfl) free (.inl rfl))
  have discard := (exec_tsyncDiscard s t).trans (tileChecks_passes goes owner on (.inr rfl) free (.inl rfl))
  have cold : ¬ (s.issued t).tile.frozen = true := by simp [warm]
  have only := (OnlyThread.issued s t).withTile s.tile
  rw [← s.issued_tile t] at only
  exact ⟨EndsWith.of_issue (k := s.th t) resume (by rw [if_neg cold]) only (s.issued_th t) (s.issued_tile t),
    EndsWith.of_issue (k := s.th t) discard (by rw [if_neg cold]) only (s.issued_th t) (s.issued_tile t)⟩

end

/-- A frozen queue thaws; TSYNC discard keeps the entries that have started. -/
theorem tsync_frozen (frozen : s.tile.frozen = true) : EndsWith (.tsyncResume t) s t (s.th t) s.tile.thawed ∧
    EndsWith (.tsyncDiscard t) s t (s.th t)
      { s.tile.thawed with queue := s.tile.queue.filter (·.started), deferred := false } := by
  have resume := (exec_tsyncResume s t).trans (tileChecks_passes goes owner on (.inr rfl) free (.inl rfl))
  have discard := (exec_tsyncDiscard s t).trans (tileChecks_passes goes owner on (.inr rfl) free (.inl rfl))
  have cold : (s.issued t).tile.frozen = true := by simp [frozen]
  have issued := OnlyThread.issued s t
  refine ⟨EndsWith.of_issue (v := (s.issued t).thaw) (k := s.th t) resume (by rw [if_pos cold]) (issued.withTile _) (s.issued_th t) ?_,
    EndsWith.of_issue (v := (s.issued t).discard) (k := s.th t) discard (by rw [if_pos cold]) (issued.withTile _) (s.issued_th t) ?_⟩
  · rw [State.thaw, State.issued_tile]
  · simp only [State.discard, State.thaw, State.issued_tile]

end

/-! ### The events that end a wait -/

theorem exec_trelUnitDone (s : State) (t : Thread) : exec (.trelUnitDone t) s =
    due s ((s.th t).wait = .trelUnit && s.tile.queue.isEmpty) (s.disown.complete t 2) := rfl

theorem exec_tsyncWaitDone (s : State) (t : Thread) : exec (.tsyncWaitDone t) s =
    due s ((s.th t).wait = .tsync && s.tileIdle) ((s.syncFlags t).complete t 2) := rfl

theorem trelUnitDone_ends (wait : (s.th t).wait = .trelUnit) (empty : s.tile.queue = []) :
    EndsWith (.trelUnitDone t) s t (s.th t) { s.tile with owner := none } :=
  .of_due (exec_trelUnitDone s t) (by simp [wait, empty]) (OnlyThread.refl s t).disown rfl rfl

theorem trelUnitDone_early (early : (s.th t).wait ≠ .trelUnit ∨ s.tile.queue ≠ []) : exec (.trelUnitDone t) s = .next s := by
  rw [exec_trelUnitDone, due, if_neg]
  simpa [imp_iff_not_or, List.isEmpty_iff] using early

theorem tsyncWaitDone_ends (wait : (s.th t).wait = .tsync) (idle : s.tileIdle = true) :
    EndsWith (.tsyncWaitDone t) s t { s.th t with tstatSync := (s.th t).tstat } s.tile :=
  .of_due (exec_tsyncWaitDone s t) (by simp [wait, idle]) ((OnlyThread.refl s t).syncFlags rfl) (s.syncFlags_th t) rfl

theorem tsyncWaitDone_early (early : (s.th t).wait ≠ .tsync ∨ ¬ s.tileIdle = true) : exec (.tsyncWaitDone t) s = .next s := by
  rw [exec_tsyncWaitDone, due, if_neg]
  simpa [imp_iff_not_or] using early

end

/-- Settles O19: each instruction passes the checks of its rule, and its body, like the event that ends its wait, reads the
queue and the drains. -/
theorem tileSync : Obligations.TileSync := by
  unfold Obligations.TileSync
  intro s t h able go idle ends waits free thawed seen each four traps stalls
  have isIdle : s.tileIdle = true ↔ idle := s.tileIdle_iff
  refine ⟨fun goes owner => ?_, fun goes owner off => ?_, fun goes ⟨owner, on⟩ frozen => ?_, fun goes ⟨owner, on⟩ quiet => ?_,
    fun goes ⟨⟨owner, on⟩, warm, free⟩ => trelUnit_ends goes owner on free warm,
    fun goes ⟨⟨owner, on⟩, warm, free⟩ => trelUnit_waits goes owner on free warm, trelUnitDone_ends, trelUnitDone_early,
    fun goes ⟨⟨owner, on⟩, warm, free⟩ rest => tsyncWait_ends goes owner on free warm (isIdle.2 rest),
    fun goes ⟨⟨owner, on⟩, warm, free⟩ busy => tsyncWait_waits goes owner on free warm (fun rest => busy (isIdle.1 rest)),
    fun wait rest => tsyncWaitDone_ends wait (isIdle.2 rest), fun early => tsyncWaitDone_early (early.imp_right (mt isIdle.1)),
    fun goes ⟨owner, on⟩ free => tsync_warm goes owner on free,
    fun goes ⟨owner, on⟩ free => tsync_frozen goes owner on free⟩
  · have trap {r : TileRule} {body : State → Ends} := tileChecks_notOwned (r := r) (body := body) goes owner
    exact ⟨⟨trap, trap⟩, trap, trap⟩
  · have trap {r : TileRule} {body : State → Ends} := tileChecks_disabled (r := r) (body := body) goes owner off
    exact ⟨⟨trap, trap⟩, trap, trap⟩
  · exact ⟨tileChecks_frozen goes owner on frozen rfl, tileChecks_frozen goes owner on frozen rfl⟩
  · have stall {r : TileRule} {body : State → Ends} (passes : s.tile.frozen = false ∨ r.frozenOk = true) :=
      tileChecks_holds (body := body) goes owner on passes (.inl quiet)
    exact ⟨fun warm => ⟨stall (.inl warm), stall (.inl warm)⟩, stall (.inr rfl), stall (.inr rfl)⟩

end Sys2Proof.Machine
end

section
namespace Sys2Proof.Machine
open Sys2Proof

/-! ## Issue of TSAVE and TRSTR (R85, R103, R104) -/

/-- The checks and the body of a context transfer, once its level has passed. -/
theorem ctxBody_able {s : State} {t : Thread} (able : (s.th t).pl ≠ 0) (save : Bool) (ga : GReg) :
    ctxBody t save ga s = tileChecks t { queued := false, frozenOk := true } (fun s =>
      if (s.g t ga).toNat % 512 ≠ 0 then .trap s 0x03 (s.g t ga) 0 else s.ctxWait t (ctxBegin save (s.g t ga))) s := by
  rw [ctxBody, if_neg able]
  rfl

section
variable {s : State} {t : Thread} {ga : GReg} {save : Bool} (goes : Goes s t 2)
include goes

theorem ctxIssue_user (user : (s.th t).pl = 0) : issue s t 2 (ctxBody t save ga) =
    .next (s.sealed ((s.issued t).trap t 0x02 0 (BitVec.ofNat 64 (0x3000 + (if save then 0x2B else 0x2C) * 0x40 + ga.val)))) := by
  rw [issue_goes goes, ctxBody, if_pos ((s.pl_issued t).trans user)]
  rfl

theorem ctxIssue_able (able : (s.th t).pl ≠ 0) : issue s t 2 (ctxBody t save ga) =
    issue s t 2 (tileChecks t { queued := false, frozenOk := true } fun s =>
      if (s.g t ga).toNat % 512 ≠ 0 then .trap s 0x03 (s.g t ga) 0 else s.ctxWait t (ctxBegin save (s.g t ga))) := by
  rw [issue_goes goes, issue_goes goes, ctxBody_able ((s.pl_issued t).symm ▸ able)]

/-- The issue of either instruction; `code` is its XOP. -/
theorem ctxIssue {i : Instr} {code : Nat} (e : exec i s = issue s t 2 (ctxBody t save ga))
    (xop : (if save then 0x2B else 0x2C) = code) :
    let a := s.g t ga
    let traps (c : Nat) (addr info : Word) : Prop := exec i s = .next (s.sealed ((s.issued t).trap t c addr info))
    ((s.th t).pl = 0 → traps 0x02 0 (BitVec.ofNat 64 (0x3000 + code * 0x40 + ga.val))) ∧
    ((s.th t).pl ≠ 0 → s.tile.owner ≠ some t → traps 0x09 0 0) ∧
    ((s.th t).pl ≠ 0 → s.tile.owner = some t → s.en .til = false → traps 0x0A 0 0) ∧
    ((s.th t).pl ≠ 0 → s.tile.owner = some t → s.en .til = true → s.quiescing .til = true →
      exec i s = .next (s.setTh t { s.th t with wait := .stall, entered := false })) ∧
    ((s.th t).pl ≠ 0 → s.tile.owner = some t → s.en .til = true → s.quiescing .til = false →
      (a.toNat % 512 ≠ 0 → traps 0x03 a 0) ∧
      (a.toNat % 512 = 0 → ∃ u, exec i s = .next u ∧ OnlyThread s u t ∧
        u.th t = { s.th t with wait := .ctx (ctxBegin save a), entered := false })) := by
  intro a traps
  refine ⟨fun user => ?_, fun able owner => ?_, fun able owner off => ?_, fun able owner on quiet => ?_,
    fun able owner on free => ?_⟩
  · rw [← xop]
    exact e.trans (ctxIssue_user goes user)
  all_goals have run := e.trans (ctxIssue_able goes able)
  · exact run.trans (tileChecks_notOwned goes owner)
  · exact run.trans (tileChecks_disabled goes owner off)
  · exact run.trans (tileChecks_holds goes owner on (.inr rfl) (.inl quiet))
  · have run := run.trans (tileChecks_passes goes owner on (.inr rfl) free (.inl rfl))
    simp only [State.issued_g] at run
    refine ⟨fun odd => ?_, fun aligned => ?_⟩
    · rw [if_pos odd] at run
      exact run
    · rw [if_neg (not_not.2 aligned)] at run
      obtain ⟨u, ends, th, only⟩ := WaitsIn.of_issue run rfl
      exact ⟨u, ends, only, th⟩

end

/-- Settles O27: both instructions issue through one body, by the same checks. -/
theorem contextIssue : Obligations.ContextIssue := by
  unfold Obligations.ContextIssue
  intro s t ga goes h a both traps
  exact ⟨ctxIssue goes (show exec (.tsave t ga) s = execTsave t ga s from rfl) rfl,
    ctxIssue goes (show exec (.trstr t ga) s = execTrstr t ga s from rfl) rfl⟩

end Sys2Proof.Machine
end

section
namespace Sys2Proof.Machine
open Sys2Proof

/-! ## Bits and consecutive keys -/

/-- A number with bit `i` replaced: the bits above, the new one, and the bits below. -/
theorem replaceBit_split (x i : Nat) (b : Bool) :
    x - bits x i i * 2 ^ i + b2n b % 2 ^ (i + 1 - i) * 2 ^ i = 2 ^ i * (2 * (x / 2 ^ i / 2) + b2n b) + x % 2 ^ i := by
  have one : b2n b % 2 ^ (i + 1 - i) = b2n b := by
    rw [Nat.add_sub_cancel_left]
    cases b <;> rfl
  have field : bits x i i = x / 2 ^ i % 2 := by rw [bits, Nat.add_sub_cancel_left, pow_one]
  have parts : x = 2 ^ i * (2 * (x / 2 ^ i / 2)) + x / 2 ^ i % 2 * 2 ^ i + x % 2 ^ i := by
    calc x = 2 ^ i * (2 * (x / 2 ^ i / 2) + x / 2 ^ i % 2) + x % 2 ^ i := by rw [Nat.div_add_mod, Nat.div_add_mod]
      _ = _ := by ring
  have rest : x - x / 2 ^ i % 2 * 2 ^ i = 2 ^ i * (2 * (x / 2 ^ i / 2)) + x % 2 ^ i := by omega
  rw [one, field, rest]
  ring

/-- A word with one bit replaced. -/
theorem wbit_setBit {n : Nat} (x : BitVec n) {i : Nat} (hi : i < n) (b : Bool) (k : Nat) :
    wbit (setBit x i b) k = if k = i then b else wbit x k := by
  rw [wbit, wbit, nbit_eq_testBit, nbit_eq_testBit, setBit, setBits, replaceBit_split, BitVec.toNat_ofNat, Nat.testBit_mod_two_pow,
    Nat.testBit_two_pow_mul_add _ (Nat.mod_lt _ (by positivity))]
  rcases Nat.lt_trichotomy k i with below | rfl | above
  · simp [below, Nat.ne_of_lt below, below.trans hi, Nat.testBit_mod_two_pow]
  · cases b <;> simp [hi, b2n, Nat.testBit_zero]
  · obtain ⟨j, rfl⟩ : ∃ j, k = i + j + 1 := ⟨k - i - 1, by omega⟩
    have high : (2 * (x.toNat / 2 ^ i / 2) + b2n b) / 2 = x.toNat / 2 ^ i / 2 := by
      have small : b2n b < 2 := by cases b <;> decide
      omega
    have shift : (x.toNat / 2 ^ i / 2).testBit j = x.toNat.testBit (i + j + 1) := by
      rw [← Nat.testBit_succ, Nat.testBit_div_two_pow]
      congr 1
      omega
    rw [if_neg (by omega), if_neg (by omega), show i + j + 1 - i = j + 1 by omega, Nat.testBit_succ, high, shift]
    by_cases inside : i + j + 1 < n
    · simp [inside]
    · have out : x.toNat.testBit (i + j + 1) = false :=
        Nat.testBit_eq_false_of_lt (x.isLt.trans_le (Nat.pow_le_pow_right two_pos (Nat.le_of_not_lt inside)))
      simp [out]

section
variable {α : Type} [DecidableEq α] (d : Nat → α) (m : List (Nat × α)) (j k n : Nat) (vs : List α)

/-- A read of keys that a write of consecutive ones does not reach. -/
theorem getN_setN_apart (apart : k + n ≤ j ∨ j + vs.length ≤ k) : getN d (setN d m j vs) k n = getN d m k n := by
  refine List.map_congr_left fun i hi => ?_
  have hi := List.mem_range.1 hi
  rw [getD_setN]
  split
  · rw [List.getElem?_eq_none (by omega), Option.getD_none]
  · rfl

omit [DecidableEq α] in
theorem length_getN : (getN d m k n).length = n := by simp [getN]

omit [DecidableEq α] in
theorem getN_congr {m' : List (Nat × α)} (same : ∀ i, k ≤ i → i < k + n → getD d m' i = getD d m i) : getN d m' k n = getN d m k n :=
  List.map_congr_left fun _ hi => same _ (Nat.le_add_right ..) (Nat.add_lt_add_left (List.mem_range.1 hi) k)

end

theorem length_fitList {α : Type} (n : Nat) (x : α) (l : List α) : (fitList n x l).length = n := by
  simp only [fitList, List.length_append, List.length_take, List.length_replicate]
  omega

theorem fitList_of_length {α : Type} {n : Nat} (x : α) {l : List α} (h : l.length = n) : fitList n x l = l := by
  subst h
  simp [fitList]

end Sys2Proof.Machine
end

section
namespace Sys2Proof.Machine
open Sys2Proof

/-! ## A row write (R77 to R79) -/

@[simp] theorem State.tray_setTray (s : State) (T : TrayNo) (x : Tray) : (s.setTray T x).tray T = x := by
  simp [State.tray, State.setTray, vset]

theorem State.tray_setTray_ne (s : State) {T X : TrayNo} (x : Tray) (ne : X ≠ T) : (s.setTray T x).tray X = s.tray X := by
  have : T.val ≠ X.val := fun e => ne (Fin.ext e.symm)
  simp [State.tray, State.setTray, vset, this]

section
variable (s : State) (T : TrayNo) (r : Nat) (bs : List Byte) (m : Bool)

theorem State.putRow_tray : (s.putRow T r bs m).tray T = { s.tray T with inuse := true, marks := setBit (s.tray T).marks r m } :=
  State.tray_setTray ..

theorem State.putRow_tray_ne {X : TrayNo} (ne : X ≠ T) : (s.putRow T r bs m).tray X = s.tray X :=
  State.tray_setTray_ne _ _ ne

theorem State.putRow_data : (s.putRow T r bs m).tile.data =
    setN zero8 s.tile.data (4096 * T.val + r * (s.tray T).bytes) (fitList (s.tray T).bytes 0 bs) := rfl

theorem State.putRow_bytes (X : TrayNo) : ((s.putRow T r bs m).tray X).bytes = (s.tray X).bytes := by
  by_cases e : X = T
  · rw [e, State.putRow_tray]
  · rw [State.putRow_tray_ne s T r bs m e]

theorem State.putRow_rowBytes : (s.putRow T r bs m).rowBytes T r = fitList (s.tray T).bytes 0 bs := by
  have h := getN_setN zero8 s.tile.data (4096 * T.val + r * (s.tray T).bytes) (fitList (s.tray T).bytes 0 bs)
  rw [length_fitList] at h
  rwa [State.rowBytes, State.putRow_bytes, State.putRow_data, trayAt]

/-- Rows of one tray, and rows of two trays that lie within their storage, do not meet. -/
theorem row_apart {T X : TrayNo} {r k b c : Nat} (hr : (r + 1) * b ≤ 4096) (hk : (k + 1) * c ≤ 4096)
    (other : X ≠ T ∨ (b = c ∧ k ≠ r)) :
    trayAt X (k * c) + c ≤ 4096 * T.val + r * b ∨ 4096 * T.val + r * b + b ≤ trayAt X (k * c) := by
  rw [Nat.add_mul] at hr hk
  simp only [trayAt]
  rcases other with ne | ⟨rfl, ne⟩
  · have : X.val ≠ T.val := fun e => ne (Fin.ext e)
    omega
  · by_cases same : X = T
    · subst same
      rcases Nat.lt_or_gt_of_ne ne with h | h
      · have := Nat.mul_le_mul_right b h
        rw [Nat.succ_mul] at this
        omega
      · have := Nat.mul_le_mul_right b h
        rw [Nat.succ_mul] at this
        omega
    · have : X.val ≠ T.val := fun e => same (Fin.ext e)
      omega

theorem State.putRow_rowBytes_ne (fits : (r + 1) * (s.tray T).bytes ≤ 4096) {X : TrayNo} {k : Nat}
    (inside : (k + 1) * (s.tray X).bytes ≤ 4096) (other : X ≠ T ∨ k ≠ r) : (s.putRow T r bs m).rowBytes X k = s.rowBytes X k := by
  rw [State.rowBytes, State.rowBytes, State.putRow_bytes, State.putRow_data]
  refine getN_setN_apart _ _ _ _ _ _ ?_
  rw [length_fitList]
  refine row_apart fits inside ?_
  by_cases same : X = T
  · exact .inr ⟨by rw [same], other.resolve_left (not_not.2 same)⟩
  · exact .inl same

theorem State.putRow_mark (hr : r < 32) (k : Nat) : (s.putRow T r bs m).mark T k = if k = r then m else s.mark T k := by
  rw [State.mark, State.putRow_tray]
  exact wbit_setBit (s.tray T).marks hr m k

end

end Sys2Proof.Machine
end

section
namespace Sys2Proof.Machine
open Sys2Proof

/-! ## Rows written one after the other -/

/-- Rows 0 to n - 1 of a tray written. -/
def State.putRows (s : State) (T : TrayNo) (n : Nat) (bs : Nat → List Byte) (ms : Nat → Bool) : State :=
  (List.range n).foldl (fun s r => s.putRow T r (bs r) (ms r)) s

/-- The rows within their storage and the shapes of every tray but one are the same. -/
def SameBut (s u : State) (T : TrayNo) : Prop :=
  ∀ X, X ≠ T → u.tray X = s.tray X ∧ ∀ k, (k + 1) * (s.tray X).bytes ≤ 4096 → u.rowBytes X k = s.rowBytes X k

theorem SameBut.refl (s : State) (T : TrayNo) : SameBut s s T := fun _ _ => ⟨rfl, fun _ _ => rfl⟩

theorem SameBut.trans {s u v : State} {T : TrayNo} (h : SameBut s u T) (k : SameBut u v T) : SameBut s v T := by
  intro X ne
  obtain ⟨tray, rows⟩ := h X ne
  obtain ⟨tray', rows'⟩ := k X ne
  exact ⟨tray'.trans tray, fun r fits => (rows' r (by rw [tray]; exact fits)).trans (rows r fits)⟩

theorem row_fits {b r : Nat} (hb : b ≤ 128) (hr : r < 32) : (r + 1) * b ≤ 4096 :=
  (Nat.mul_le_mul (Nat.succ_le_of_lt hr) hb).trans (by norm_num)

theorem State.putRow_sameBut {s : State} {T : TrayNo} {r : Nat} (fits : (r + 1) * (s.tray T).bytes ≤ 4096) (bs : List Byte) (m : Bool) :
    SameBut s (s.putRow T r bs m) T := fun _ ne =>
  ⟨s.putRow_tray_ne T r bs m ne, fun _ inside => s.putRow_rowBytes_ne T r bs m fits inside (.inl ne)⟩

/-- What writing rows 0 to n - 1 of a tray makes of the state. -/
structure RowsPut (s u : State) (T : TrayNo) (n : Nat) (bs : Nat → List Byte) (ms : Nat → Bool) : Prop where
  same : SameBut s u T
  rows : (u.tray T).rows = (s.tray T).rows
  bytes : (u.tray T).bytes = (s.tray T).bytes
  put : ∀ r, r < n → u.rowBytes T r = fitList (s.tray T).bytes 0 (bs r)
  mark : ∀ r, r < n → u.mark T r = ms r
  clean : u.tile.badRow = []
  frame : u = { s with tile := { s.tile with trays := u.tile.trays, data := u.tile.data } }

section
variable {s : State} {T : TrayNo} {n : Nat} (bs : Nat → List Byte) (ms : Nat → Bool)

theorem State.putRows_succ (s : State) (T : TrayNo) (n : Nat) :
    s.putRows T (n + 1) bs ms = (s.putRows T n bs ms).putRow T n (bs n) (ms n) := by
  simp [State.putRows, List.range_succ]

theorem State.putRows_put (clean : s.tile.badRow = []) (hb : (s.tray T).bytes ≤ 128) (hn : n ≤ 32) :
    RowsPut s (s.putRows T n bs ms) T n bs ms := by
  induction n with
  | zero =>
    exact ⟨.refl s T, rfl, rfl, fun _ h => absurd h (Nat.not_lt_zero _), fun _ h => absurd h (Nat.not_lt_zero _), clean, rfl⟩
  | succ n ih =>
    have h := ih (by omega)
    rw [State.putRows_succ]
    generalize s.putRows T n bs ms = u at h ⊢
    have fits : (n + 1) * (u.tray T).bytes ≤ 4096 := row_fits (h.bytes ▸ hb) (by omega)
    have frame := State.putRow_frame h.clean T n (bs n) (ms n)
    refine ⟨h.same.trans (State.putRow_sameBut fits _ _), ?_, (u.putRow_bytes ..).trans h.bytes, fun r hr => ?_, fun r hr => ?_, ?_, ?_⟩
    · rw [State.putRow_tray]
      exact h.rows
    · by_cases last : r = n
      · rw [last, State.putRow_rowBytes, h.bytes]
      · rw [State.putRow_rowBytes_ne _ _ _ _ _ fits (row_fits (h.bytes ▸ hb) (by omega)) (.inr last)]
        exact h.put r (by omega)
    · rw [State.putRow_mark _ _ _ _ _ (by omega)]
      by_cases last : r = n
      · rw [if_pos last, last]
      · rw [if_neg last]
        exact h.mark r (by omega)
    · rw [frame]
      exact h.clean
    · rw [frame, h.frame]

/-- Rows computed from the other trays are those that they give at the start. -/
theorem State.foldl_putRow {f : State → Nat → List Byte} {g : State → Nat → Bool} (clean : s.tile.badRow = [])
    (hb : (s.tray T).bytes ≤ 128) (hn : n ≤ 32)
    (reads : ∀ u r, r < n → SameBut s u T → f u r = f s r ∧ g u r = g s r) :
    (List.range n).foldl (fun s r => s.putRow T r (f s r) (g s r)) s = s.putRows T n (f s) (g s) := by
  induction n with
  | zero => rfl
  | succ n ih =>
    have before := ih (by omega) fun u r hr => reads u r (by omega)
    obtain ⟨bytes, mark⟩ := reads _ n (Nat.lt_succ_self n) (State.putRows_put (n := n) (f s) (g s) clean hb (by omega)).same
    rw [List.range_succ, List.foldl_append, before, State.putRows_succ, ← bytes, ← mark]
    rfl

end

/-! ## TMOV (R101) -/

theorem getElem?_flatMap_range {α : Type} {f : Nat → List α} {e : Nat} (n : Nat) (size : ∀ i, i < n → (f i).length = e) {c k : Nat}
    (hc : c < n) (hk : k < e) : ((List.range n).flatMap f)[c * e + k]? = (f c)[k]? := by
  induction n with
  | zero => exact absurd hc (Nat.not_lt_zero c)
  | succ n ih =>
    have whole : ((List.range n).flatMap f).length = n * e := by
      rw [List.length_flatMap, List.map_congr_left fun i hi => size i ((List.mem_range.1 hi).trans (Nat.lt_succ_self n))]
      simp
    rw [List.range_succ, List.flatMap_append, List.flatMap_singleton]
    rcases Nat.lt_succ_iff_lt_or_eq.1 hc with inside | rfl
    · rw [List.getElem?_append_left]
      · exact ih (fun i hi => size i (by omega)) inside
      · rw [whole]
        calc c * e + k < (c + 1) * e := by rw [Nat.succ_mul]; omega
          _ ≤ n * e := Nat.mul_le_mul_right e inside
    · rw [List.getElem?_append_right (by rw [whole]; omega), whole, Nat.add_sub_cancel_left]

theorem length_flatMap_range {α : Type} {f : Nat → List α} {e : Nat} (n : Nat) (size : ∀ i, i < n → (f i).length = e) :
    ((List.range n).flatMap f).length = n * e := by
  rw [List.length_flatMap, List.map_congr_left fun i hi => size i (List.mem_range.1 hi)]
  simp

theorem State.length_rowBytes (s : State) (T : TrayNo) (r : Nat) : (s.rowBytes T r).length = (s.tray T).bytes := length_getN ..

/-- Row `c` of a transpose: element `c` of each source row (R101). -/
def State.turnedRow (s : State) (src : TrayNo) (e c : Nat) : List Byte :=
  (List.range (s.tray src).rows).flatMap fun r => ((s.rowBytes src r).drop (c * e)).take e

section
variable {s : State} {dst src : TrayNo} (ne : dst ≠ src) (clean : s.tile.badRow = []) (hr : (s.tray src).rows ≤ 32)
  (hb : (s.tray src).bytes ≤ 128) (db : (s.tray dst).bytes ≤ 128)
include ne clean hr hb db

theorem State.tmovCopy_eq (who : Option Thread) : s.tmovCopy dst src who =
    let u := s.putRows dst (s.tray src).rows (s.rowBytes src) (s.mark src)
    u.setTray dst { u.tray dst with inuse := (s.tray src).inuse } := by
  have source (u : State) (h : SameBut s u dst) : u.tray src = s.tray src := (h src ne.symm).1
  have rows := State.foldl_putRow (f := fun s r => s.rowBytes src r) (g := fun s r => s.mark src r) clean db hr
    fun u r low h => ⟨(h src ne.symm).2 r (row_fits hb (by omega)), by rw [State.mark, source u h]; rfl⟩
  simp only [State.tmovCopy, if_neg ne, State.checkRows_clean clean, rows,
    source _ (State.putRows_put (s.rowBytes src) (s.mark src) clean db hr).same]

theorem State.tmovTurn_eq (dr : (s.tray dst).rows ≤ 32) (e : Nat) (who : Option Thread) : s.tmovTurn dst src e who =
    s.putRows dst (s.tray dst).rows (s.turnedRow src e) fun _ => (s.lowMark src (s.tray src).rows).isSome := by
  simp only [State.tmovTurn, State.checkRows_clean clean]
  refine State.foldl_putRow (f := fun u c => (List.range (s.tray src).rows).flatMap fun r => ((u.rowBytes src r).drop (c * e)).take e)
    (g := fun _ _ => (s.lowMark src (s.tray src).rows).isSome) clean db dr fun u c _ h => ⟨?_, rfl⟩
  refine congrArg List.flatten (List.map_congr_left fun r low => ?_)
  rw [(h src ne.symm).2 r (row_fits hb ((List.mem_range.1 low).trans_le hr))]

end

/-- The in-use flag is none of what a row write is known by. -/
theorem RowsPut.setInuse {s u : State} {T : TrayNo} {n : Nat} {bs : Nat → List Byte} {ms : Nat → Bool} (h : RowsPut s u T n bs ms)
    (b : Bool) : RowsPut s (u.setTray T { u.tray T with inuse := b }) T n bs ms := by
  have tray := u.tray_setTray T { u.tray T with inuse := b }
  have rowBytes (X : TrayNo) (k : Nat) : (u.setTray T { u.tray T with inuse := b }).rowBytes X k = u.rowBytes X k := by
    by_cases same : X = T
    · rw [same, State.rowBytes, tray]
      rfl
    · rw [State.rowBytes, State.tray_setTray_ne _ _ same]
      rfl
  refine ⟨fun X ne => ?_, by rw [tray]; exact h.rows, by rw [tray]; exact h.bytes, fun r hr => (rowBytes T r).trans (h.put r hr),
    fun r hr => ?_, h.clean, ?_⟩
  · rw [State.tray_setTray_ne _ _ ne]
    exact ⟨(h.same X ne).1, fun k fits => (rowBytes X k).trans ((h.same X ne).2 k fits)⟩
  · rw [State.mark, tray]
    exact h.mark r hr
  · conv_lhs => rw [h.frame]
    rfl

/-- Trays, rows and marks are read from the storage and the shapes alone. -/
def SameTrays (u v : State) : Prop :=
  ∀ X, u.tray X = v.tray X ∧ ∀ r, u.rowBytes X r = v.rowBytes X r ∧ u.mark X r = v.mark X r

theorem SameTrays.of_tile {u v : State} (trays : u.tile.trays = v.tile.trays) (data : u.tile.data = v.tile.data) : SameTrays u v := by
  intro X
  simp [State.tray, State.rowBytes, State.mark, trays, data]

/-- What TMOV_COMPLETE leaves as it was: all but the destination, the run and its entry. -/
structure Moves (s u : State) (m : MovRun) : Prop where
  only : OnlyTile s u
  mov : u.tile.mov = none
  queue : u.tile.queue = s.tile.queue.filter (fun x => x.id ≠ m.id)
  slots : u.tile.slots = s.tile.slots
  elems : u.tile.elems = s.tile.elems
  shadow : u.tile.shadow = s.tile.shadow
  others : SameBut s u m.dst

/-- TMOV_COMPLETE, whose move writes the rows of `RowsPut`: the run and its entry are gone, and the trays are as written. -/
theorem tmovComplete_puts {s v : State} {m : MovRun} (mov : s.tile.mov = some m) (runs : s.running = true) {n : Nat}
    {bs : Nat → List Byte} {ms : Nat → Bool} (h : RowsPut s v m.dst n bs ms)
    (e : (if m.op = 0 then s.tmovCopy m.dst m.src (s.entryWho m.id)
      else s.tmovTurn m.dst m.src (movSize m.op.toNat) (s.entryWho m.id)) = v) :
    ∃ u, exec .tmovComplete s = .next u ∧ Moves s u m ∧ SameTrays u v := by
  have next : exec .tmovComplete s = .next (s.sealed (s.tmovEnd m)) := by
    rw [show exec .tmovComplete s = execTmovComplete s from rfl]
    simp only [execTmovComplete, mov, due, runs, if_true]
  have tile : (s.sealed (s.tmovEnd m)).tile = { s.tile with
      mov := none, queue := s.tile.queue.filter (fun x => x.id ≠ m.id), trays := v.tile.trays, data := v.tile.data } := by
    simp only [State.tmovEnd, e, State.retire, State.sealed]
    rw [h.frame]
  have only : OnlyTile s (s.sealed (s.tmovEnd m)) := by
    refine OnlyTile.sealed ?_
    simp only [State.tmovEnd, e, State.retire]
    rw [h.frame]
    exact OnlyTile.tile (OnlyTile.refl s) _
  have same : SameTrays (s.sealed (s.tmovEnd m)) v := .of_tile (by rw [tile]) (by rw [tile])
  refine ⟨_, next, ⟨only, by rw [tile], by rw [tile], by rw [tile], by rw [tile], by rw [tile], fun X ne => ?_⟩, same⟩
  obtain ⟨tray, rows⟩ := same X
  rw [tray]
  exact ⟨(h.same X ne).1, fun k fits => (rows k).1.trans ((h.same X ne).2 k fits)⟩

section
variable {s : State} {m : MovRun} (mov : s.tile.mov = some m) (runs : s.running = true) (clean : s.tile.badRow = [])
  (ne : m.dst ≠ m.src) (hr : (s.tray m.src).rows ≤ 32) (hb : (s.tray m.src).bytes ≤ 128) (db : (s.tray m.dst).bytes ≤ 128)
include mov runs clean ne hr hb db

/-- A copy (R101). -/
theorem tmovComplete_copy (op : m.op = 0) : ∃ u, exec .tmovComplete s = .next u ∧ Moves s u m ∧
    (u.tray m.dst).inuse = (s.tray m.src).inuse ∧ (u.tray m.dst).rows = (s.tray m.dst).rows ∧
    (u.tray m.dst).bytes = (s.tray m.dst).bytes ∧ ∀ r, r < (s.tray m.src).rows →
      u.rowBytes m.dst r = fitList (s.tray m.dst).bytes 0 (s.rowBytes m.src r) ∧ u.mark m.dst r = s.mark m.src r := by
  have puts := (State.putRows_put (s.rowBytes m.src) (s.mark m.src) clean db hr).setInuse (s.tray m.src).inuse
  obtain ⟨u, next, moves, same⟩ := tmovComplete_puts mov runs puts ((if_pos op).trans (State.tmovCopy_eq ne clean hr hb db _))
  obtain ⟨tray, rows⟩ := same m.dst
  refine ⟨u, next, moves, ?_, ?_, ?_, fun r low => ⟨(rows r).1.trans (puts.put r low), (rows r).2.trans (puts.mark r low)⟩⟩
  · rw [tray, State.tray_setTray]
  · rw [tray, puts.rows]
  · rw [tray, puts.bytes]

/-- A transpose (R101). -/
theorem tmovComplete_turn (dr : (s.tray m.dst).rows ≤ 32) (op : m.op ≠ 0) : ∃ u, exec .tmovComplete s = .next u ∧ Moves s u m ∧
    (u.tray m.dst).rows = (s.tray m.dst).rows ∧ (u.tray m.dst).bytes = (s.tray m.dst).bytes ∧ ∀ r, r < (s.tray m.dst).rows →
      u.rowBytes m.dst r = fitList (s.tray m.dst).bytes 0 (s.turnedRow m.src (movSize m.op.toNat) r) ∧
      u.mark m.dst r = (s.lowMark m.src (s.tray m.src).rows).isSome := by
  have puts := State.putRows_put (s.turnedRow m.src (movSize m.op.toNat)) (fun _ => (s.lowMark m.src (s.tray m.src).rows).isSome)
    clean db dr
  obtain ⟨u, next, moves, same⟩ := tmovComplete_puts mov runs puts ((if_neg op).trans (State.tmovTurn_eq ne clean hr hb db dr _ _))
  obtain ⟨tray, rows⟩ := same m.dst
  refine ⟨u, next, moves, ?_, ?_, fun r low => ⟨(rows r).1.trans (puts.put r low), (rows r).2.trans (puts.mark r low)⟩⟩
  · rw [tray, puts.rows]
  · rw [tray, puts.bytes]

end

/-- Element `c` of row `r` of a transpose is element `r` of source row `c` (R101). -/
theorem State.turnedRow_get {s : State} {src : TrayNo} {e r c k n : Nat} (shape : n * e = (s.tray src).bytes) (hr : r < n)
    (hc : c < (s.tray src).rows) (hk : k < e) : (s.turnedRow src e r)[c * e + k]? = (s.rowBytes src c)[r * e + k]? := by
  have inside : r * e + e ≤ (s.tray src).bytes := by
    rw [← shape, ← Nat.succ_mul]
    exact Nat.mul_le_mul_right e hr
  have size (i : Nat) : (((s.rowBytes src i).drop (r * e)).take e).length = e := by
    rw [List.length_take, List.length_drop, State.length_rowBytes]
    omega
  rw [State.turnedRow, getElem?_flatMap_range _ (fun i _ => size i) hc hk, List.getElem?_take_of_lt hk, List.getElem?_drop]

theorem State.length_turnedRow {s : State} {src : TrayNo} {e r n : Nat} (shape : n * e = (s.tray src).bytes) (hr : r < n) :
    (s.turnedRow src e r).length = (s.tray src).rows * e := by
  refine length_flatMap_range _ fun i _ => ?_
  have inside : r * e + e ≤ (s.tray src).bytes := by
    rw [← shape, ← Nat.succ_mul]
    exact Nat.mul_le_mul_right e hr
  rw [List.length_take, List.length_drop, State.length_rowBytes]
  omega

theorem State.lowMark_none {s : State} {T : TrayNo} {n : Nat} (none : ∀ r, r < n → s.mark T r = false) :
    (s.lowMark T n).isSome = false := by
  rw [State.lowMark, List.find?_eq_none.2 fun r hr => by simp [none r (List.mem_range.1 hr)]]
  rfl

/-- The element sizes of a transpose (R101). -/
theorem movSize_op (op : BitVec 2) : movSize op.toNat = if op = 1 then 1 else if op = 2 then 2 else 4 := by
  revert op
  decide

/-- Settles O22: a row write reads back, and a TMOV is one row write after the other, of rows that it does not change. -/
theorem trayRowsAndMoves : Obligations.TrayRowsAndMoves := by
  unfold Obligations.TrayRowsAndMoves
  refine ⟨fun s T r bs m => ?_, fun s m mov runs clean ne => ?_⟩
  · intro x length fits low u
    have row : u.rowBytes T r = bs := (s.putRow_rowBytes T r bs m).trans (fitList_of_length 0 length)
    have tray := s.putRow_tray T r bs m
    exact ⟨row, by rw [tray], by rw [tray], by rw [tray], fun k _ => s.putRow_mark T r bs m low k,
      fun X ne => s.putRow_tray_ne T r bs m ne, fun X k inside other => s.putRow_rowBytes_ne T r bs m fits inside other,
      fun canonical => canon_setN _ _ _ _ canonical⟩
  · intro S D e hr hb dr db
    by_cases op : m.op = 0
    · obtain ⟨u, next, moves, inuse, rows, bytes, put⟩ := tmovComplete_copy mov runs clean ne hr hb db op
      refine ⟨u, next, moves.only, moves.mov, moves.queue, moves.slots, moves.elems, moves.shadow, moves.others,
        fun _ _ same => ⟨inuse, rows, bytes, fun r low => ⟨?_, (put r low).2⟩⟩, fun turn => absurd op turn⟩
      rw [(put r low).1, fitList_of_length]
      exact (s.length_rowBytes ..).trans same.symm
    · obtain ⟨u, next, moves, rows, bytes, put⟩ := tmovComplete_turn mov runs clean ne hr hb db dr op
      have size : movSize m.op.toNat = e := movSize_op m.op
      rw [size] at put
      refine ⟨u, next, moves.only, moves.mov, moves.queue, moves.slots, moves.elems, moves.shadow, moves.others,
        fun copy => absurd copy op, fun _ shape same unmarked => ⟨rows, bytes, fun r c k hr hc hk => ⟨?_, ?_⟩⟩⟩
      · rw [(put r hr).2, State.lowMark_none unmarked]
      · rw [(put r hr).1, fitList_of_length _ ((State.length_turnedRow shape hr).trans same.symm), State.turnedRow_get shape hr hc hk]

end Sys2Proof.Machine
end

section
namespace Sys2Proof.Machine
open Sys2Proof

/-! ## Masked writes of consecutive keys -/

section
variable {α : Type} [DecidableEq α] (d : Nat → α) (m : List (Nat × α)) (k : Nat)

theorem setN_append (a b : List α) : setN d m k (a ++ b) = setN d (setN d m k a) (k + a.length) b := by
  induction a generalizing m k with
  | nil => rfl
  | cons v a ih => rw [List.cons_append, setN, setN, ih, List.length_cons, Nat.add_right_comm, Nat.add_assoc]

theorem setMasked_append (a b : List (α × Bool)) :
    setMasked d m k (a ++ b) = setMasked d (setMasked d m k a) (k + a.length) b := by
  induction a generalizing m k with
  | nil => rfl
  | cons v a ih =>
    obtain ⟨v, w⟩ := v
    cases w <;> rw [List.cons_append, setMasked, setMasked, ih, List.length_cons, Nat.add_right_comm, Nat.add_assoc]

theorem setMasked_none (n : Nat) (v : α) : setMasked d m k (List.replicate n (v, false)) = m := by
  induction n generalizing k with
  | zero => rfl
  | succ n ih => rw [List.replicate_succ, setMasked, ih]

theorem setMasked_all (vs : List α) : setMasked d m k (vs.map fun v => (v, true)) = setN d m k vs := by
  induction vs generalizing m k with
  | nil => rfl
  | cons v vs ih => rw [List.map_cons, setMasked, setN, ih]

end

/-- The bytes between those before and those behind in a line. -/
theorem spread_eq {o : Nat} {bs : List Byte} (fits : o + bs.length ≤ 128) :
    spread o bs = List.replicate o (0, false) ++ (bs.map (fun b => (b, true)) ++ List.replicate (128 - (o + bs.length)) (0, false)) := by
  rw [spread, fitList, List.take_of_length_le (by simpa using fits)]
  simp

theorem length_spread (o : Nat) (bs : List Byte) : (spread o bs).length = 128 := length_fitList ..

theorem setMasked_spread {o : Nat} {bs : List Byte} (fits : o + bs.length ≤ 128) (d : Nat → Byte) (m : List (Nat × Byte)) (k : Nat) :
    setMasked d m k (spread o bs) = setN d m (k + o) bs := by
  rw [spread_eq fits, setMasked_append, setMasked_none, setMasked_append, setMasked_all, setMasked_none, List.length_replicate]

/-! ## Members of a rising list -/

theorem contains_insertNat (l : List Nat) (k j : Nat) : (insertNat l k).contains j = (decide (j = k) || l.contains j) := by
  induction l with
  | nil => simp [insertNat]
  | cons a l ih =>
    unfold insertNat
    split
    · simp
    · split
      · next h => subst h; simp
      · rw [List.contains_cons, List.contains_cons, ih, ← Bool.or_assoc, ← Bool.or_assoc, Bool.or_comm (j == a)]

theorem contains_filter_ne (l : List Nat) (k j : Nat) : (l.filter (· ≠ k)).contains j = (decide (j ≠ k) && l.contains j) := by
  rw [Bool.eq_iff_iff]
  simp [and_comm]

/-! ## Writes of the own shelf (R196, R207, R214, R215) -/

/-- Of everything but what counting and charging change, only the shelf's bytes, marks and check codes and the L1D have
changed. -/
structure OnlyShelf (s u : State) : Prop where
  rest : Accounts { s with ls := u.ls } u
  ls : u.ls = { s.ls with shelf := u.ls.shelf, shelfPois := u.ls.shelfPois, shelfErrs := u.ls.shelfErrs, l1 := u.ls.l1 }

theorem OnlyShelf.refl (s : State) : OnlyShelf s s := ⟨.refl s, rfl⟩

theorem OnlyShelf.trans {s u v : State} (a : OnlyShelf s u) (b : OnlyShelf u v) : OnlyShelf s v where
  rest := by
    refine .trans ?_ b.rest
    exact { a.rest with ls := rfl }
  ls := by rw [b.ls, a.ls]

theorem OnlyShelf.accounts {s u v : State} (a : OnlyShelf s u) (b : Accounts u v) : OnlyShelf s v where
  rest := by
    have ls := b.ls
    rw [ls]
    exact a.rest.trans b
  ls := by rw [b.ls]; exact a.ls

theorem OnlyShelf.th {s u : State} (h : OnlyShelf s u) (t : Thread) : u.th t = s.th t := h.rest.th t

theorem OnlyShelf.thr {s u : State} (h : OnlyShelf s u) : u.thr = s.thr := h.rest.thr

theorem OnlyShelf.sbHolds {s u : State} (h : OnlyShelf s u) : u.sbHolds = s.sbHolds := by
  unfold State.sbHolds
  rw [h.ls]

theorem OnlyShelf.shelfBase {s u : State} (h : OnlyShelf s u) : u.shelfBase = s.shelfBase := by
  simp only [State.shelfBase, State.chipBase, State.winIdx, h.rest.pos]

theorem OnlyShelf.shelfSize {s u : State} (h : OnlyShelf s u) : u.shelfSize = s.shelfSize := by
  rw [State.shelfSize, h.ls, State.shelfSize]

/-- L1D copies have gone, and nothing else has changed. -/
abbrev OnlyL1 (s u : State) : Prop := u = { s with ls := { s.ls with l1 := u.ls.l1 } }

theorem OnlyL1.trans {s u v : State} (a : OnlyL1 s u) (b : OnlyL1 u v) : OnlyL1 s v := by
  rw [OnlyL1, b, a]

theorem OnlyL1.only {s u : State} (h : OnlyL1 s u) : OnlyShelf s u := by
  rw [h]
  exact ⟨.refl _, rfl⟩

theorem OnlyL1.ite {s u : State} (c : Prop) [Decidable c] (h : OnlyL1 s u) : OnlyL1 s (if c then u else s) := by
  split
  · exact h
  · rfl

theorem State.l1Drop_only (s : State) (b : Nat) : OnlyL1 s (s.l1Drop b) := by
  unfold State.l1Drop
  split <;> rfl

theorem State.shelfL1Drop_only (s : State) (o n : Nat) : OnlyL1 s (s.shelfL1Drop o n) := by
  unfold State.shelfL1Drop
  generalize blocksOf o n = l
  induction l generalizing s with
  | nil => rfl
  | cons b l ih => exact (s.l1Drop_only _).trans (ih _)

/-! ### The masked write of one line -/

/-- The two blocks of a line, and the block of a half. -/
theorem blocksOf_line {o : Nat} (line : o % 128 = 0) : blocksOf o 128 = [o / 64, o / 64 + 1] := by
  have n : (o + 128 - 1) / 64 - o / 64 + 1 = 2 := by omega
  rw [blocksOf, if_neg (by decide), n]
  rfl

theorem blocksOf_half {o : Nat} (half : o % 64 = 0) : blocksOf o 64 = [o / 64] := by
  have n : (o + 64 - 1) / 64 - o / 64 + 1 = 1 := by omega
  rw [blocksOf, if_neg (by decide), n]
  rfl

/-- The marks and check codes of a block that is written whole go (R214, R215). -/
def State.shelfBlank (s : State) (b : Nat) : State :=
  { s with ls := { s.ls with shelfErrs := drop s.ls.shelfErrs b, shelfPois := s.ls.shelfPois.filter (· ≠ b) } }

/-- Block `h` of the shelf line at `o` as a write of `ms` prepares it: a part of it needs no correction. -/
theorem State.shelfPrep_half {s : State} {o h : Nat} {ms : List (Byte × Bool)} (src : Src) (line : o % 128 = 0)
    (len : ms.length = 128) (hh : h < 2) (clean : halfFull ms h = true ∨ lookup s.ls.shelfErrs (o / 64 + h) = none) :
    s.shelfPrep src o ms (o / 64 + h) = if halfFull ms h then s.shelfBlank (o / 64 + h) else s := by
  have at' : 64 * (o / 64 + h) - o = 64 * h := by omega
  have inside : o ≤ 64 * (o / 64 + h) ∧ 64 * (o / 64 + h) + 64 ≤ o + ms.length := by omega
  unfold State.shelfPrep
  rw [at']
  by_cases full : halfFull ms h = true
  · rw [if_pos full, if_pos ⟨inside.1, inside.2, full⟩]
    rfl
  · have none := clean.resolve_left full
    rw [if_neg full, if_neg fun c => full c.2.2, State.shelfCheck, none]

/-- What a masked write of the shelf line at `o` makes of the state, with the poison given for each half (R214, R215). -/
structure LineWritten (s u : State) (o : Nat) (ms : List (Byte × Bool)) (p0 p1 : Bool) : Prop where
  only : OnlyShelf s u
  shelf : u.ls.shelf = setMasked zero8 s.ls.shelf o ms
  mark : ∀ b, u.ls.shelfPois.contains b =
    if b = o / 64 then newPois ms 0 (s.ls.shelfPois.contains b) p0
    else if b = o / 64 + 1 then newPois ms 1 (s.ls.shelfPois.contains b) p1
    else s.ls.shelfPois.contains b

theorem Accounts.lsCharge (s : State) (cls : Nat) (src : Src) : Accounts s (s.lsCharge cls src) := by
  unfold State.lsCharge
  split
  · exact .refl s
  · exact .charge ..

theorem LineWritten.accounts {s u v : State} {o : Nat} {ms : List (Byte × Bool)} {p0 p1 : Bool}
    (h : LineWritten s u o ms p0 p1) (a : Accounts u v) : LineWritten s v o ms p0 p1 :=
  ⟨h.only.accounts a, by rw [a.ls, h.shelf], by rw [a.ls]; exact h.mark⟩

theorem LineWritten.l1 {s u v : State} {o : Nat} {ms : List (Byte × Bool)} {p0 p1 : Bool}
    (h : LineWritten s u o ms p0 p1) (a : OnlyL1 u v) : LineWritten s v o ms p0 p1 :=
  ⟨h.only.trans a.only, by rw [a, ← h.shelf], by rw [a]; exact h.mark⟩

/-- A half that is written whole is written. -/
theorem halfUsed_of_full {ms : List (Byte × Bool)} (len : ms.length = 128) {h : Nat} (hh : h < 2) (full : halfFull ms h = true) :
    halfUsed ms h = true := by
  have some : halfOf ms h ≠ [] := by
    intro none
    have := congrArg List.length none
    simp [halfOf, len] at this
    omega
  obtain ⟨x, l, e⟩ := List.exists_cons_of_ne_nil some
  rw [halfFull, e, List.all_cons, Bool.and_eq_true] at full
  rw [halfUsed, e, List.any_cons, full.1, Bool.true_or]

theorem newPois_eq {ms : List (Byte × Bool)} (len : ms.length = 128) {h : Nat} (hh : h < 2) (old new : Bool) :
    newPois ms h old new = (newPois ms h old false || (new && halfUsed ms h)) := by
  unfold newPois
  by_cases full : halfFull ms h = true
  · rw [if_pos full, if_pos full, halfUsed_of_full len hh full, Bool.and_true, Bool.false_or]
  · rw [if_neg full, if_neg full, Bool.false_and, Bool.or_false]

theorem State.shelfPoison_half (s : State) {o h : Nat} (line : o % 128 = 0) :
    s.shelfPoison (o + 64 * h) 64 = { s with ls := { s.ls with shelfPois := insertNat s.ls.shelfPois (o / 64 + h) } } := by
  rw [State.shelfPoison, blocksOf_half (by omega), show (o + 64 * h) / 64 = o / 64 + h by omega]
  rfl

section
variable {s u : State} {o : Nat} {ms : List (Byte × Bool)} {p1 : Bool} (len : ms.length = 128) (line : o % 128 = 0)
include len line

theorem LineWritten.poison_low (h : LineWritten s u o ms false p1) (p0 : Bool) :
    LineWritten s (if p0 && halfUsed ms 0 then u.shelfPoison o 64 else u) o ms p0 p1 := by
  have new := newPois_eq len (h := 0) (by omega)
  have poison := u.shelfPoison_half (h := 0) line
  rw [Nat.mul_zero, Nat.add_zero, Nat.add_zero] at poison
  rw [poison]
  by_cases set : (p0 && halfUsed ms 0) = true
  · rw [if_pos set]
    refine ⟨h.only.trans ⟨.refl _, rfl⟩, h.shelf, fun b => ?_⟩
    rw [new, set, contains_insertNat, h.mark]
    by_cases at' : b = o / 64 <;> simp [at']
  · rw [if_neg set]
    refine ⟨h.only, h.shelf, fun b => ?_⟩
    rw [new, Bool.eq_false_iff.2 set, Bool.or_false, h.mark]

theorem LineWritten.poison_high {p0 : Bool} (h : LineWritten s u o ms p0 false) (p1 : Bool) :
    LineWritten s (if p1 && halfUsed ms 1 then u.shelfPoison (o + 64) 64 else u) o ms p0 p1 := by
  have new := newPois_eq len (h := 1) (by omega)
  have poison := u.shelfPoison_half (h := 1) line
  rw [Nat.mul_one] at poison
  rw [poison]
  by_cases set : (p1 && halfUsed ms 1) = true
  · rw [if_pos set]
    refine ⟨h.only.trans ⟨.refl _, rfl⟩, h.shelf, fun b => ?_⟩
    rw [new, set, contains_insertNat, h.mark]
    by_cases at' : b = o / 64 + 1 <;> simp [at']
  · rw [if_neg set]
    refine ⟨h.only, h.shelf, fun b => ?_⟩
    rw [new, Bool.eq_false_iff.2 set, Bool.or_false, h.mark]

end

section
variable {s : State} {o : Nat} {ms : List (Byte × Bool)} (src : Src) (line : o % 128 = 0) (len : ms.length = 128)
  (clean : ∀ h, h < 2 → halfFull ms h = true ∨ lookup s.ls.shelfErrs (o / 64 + h) = none)
include line len clean

theorem State.shelfMerge_line : LineWritten s (s.shelfMerge src o ms) o ms false false := by
  have merge : s.shelfMerge src o ms =
      let v := (s.shelfPrep src o ms (o / 64)).shelfPrep src o ms (o / 64 + 1)
      { v with ls := { v.ls with shelf := setMasked zero8 v.ls.shelf o ms } } := by
    rw [State.shelfMerge, len, blocksOf_line line]
    rfl
  have first : s.shelfPrep src o ms (o / 64) = if halfFull ms 0 then s.shelfBlank (o / 64) else s :=
    State.shelfPrep_half src line len (h := 0) (by omega) (clean 0 (by omega))
  have still : halfFull ms 1 = true ∨
      lookup (if halfFull ms 0 then s.shelfBlank (o / 64) else s).ls.shelfErrs (o / 64 + 1) = none := by
    refine (clean 1 (by omega)).imp_right fun none => ?_
    split
    · simp [State.shelfBlank, none]
    · exact none
  rw [merge, first, State.shelfPrep_half src line len (by omega) still]
  cases f0 : halfFull ms 0 <;> cases f1 : halfFull ms 1
  all_goals
    refine ⟨⟨.refl _, rfl⟩, rfl, fun b => ?_⟩
    simp only [newPois, f0, f1, State.shelfBlank, contains_filter_ne, if_true, if_false, Bool.false_and, Bool.or_false,
      Bool.false_eq_true]
    grind

/-- A write of the shelf line at `o`, with the poison given for each half. -/
theorem State.writeShelf_line (inside : o + 128 ≤ s.shelfSize) (pois : BitVec 2) (keepL1 : Bool) :
    LineWritten s (s.writeShelf o ms pois src keepL1) o ms (wbit pois 0) (wbit pois 1) := by
  have merged : LineWritten s ((s.shelfMerge src o ms).lsCharge 0x13 src) o ms false false :=
    (State.shelfMerge_line src line len clean).accounts (Accounts.lsCharge ..)
  unfold State.writeShelf
  rw [if_neg (by omega)]
  extract_lets s1 s2 s3 s4
  have h2 : OnlyL1 s1 s2 := by
    cases keepL1
    · exact OnlyL1.ite _ (s1.shelfL1Drop_only ..)
    · rfl
  have h3 : OnlyL1 s2 s3 := by
    cases keepL1
    · exact OnlyL1.ite _ (s2.shelfL1Drop_only ..)
    · rfl
  exact (((merged.l1 h2).l1 h3).poison_low len line (wbit pois 0)).poison_high len line (wbit pois 1)

end

/-! ### Addresses of the own shelf (R207) -/

theorem State.shelfBase_line (s : State) : s.shelfBase % 128 = 0 := by
  unfold State.shelfBase State.chipBase
  omega

theorem State.shelfOff_base {o : Nat} (s : State) (inside : o < 0x80_0000) : s.shelfOff (s.shelfBase + o) = some o := by
  unfold State.shelfOff
  rw [if_pos (by omega), Nat.add_sub_cancel_left]

theorem State.shelfOff_some {s : State} {pa o : Nat} (h : s.shelfOff pa = some o) : pa = s.shelfBase + o ∧ o < 0x80_0000 := by
  unfold State.shelfOff at h
  split at h
  · cases h
    omega
  · cases h

/-- The function that gives the place is a variable here, and in the other lemmas about windows: the kernel would evaluate it. -/
theorem State.window_shelf {s : State} {pa o : Nat} (h : s.shelfOff pa = some o) : s.window pa = .shelf o := by
  generalize ef : @State.window = f
  delta State.window at ef
  obtain ⟨place, ep⟩ : ∃ f, @State.shelfOff = f := ⟨_, rfl⟩
  rw [ep] at ef h
  subst ef
  beta_reduce
  rw [h]

/-- The line of a shelf address lies in the shelf. -/
theorem State.shelfOff_line {s : State} {pa o : Nat} (h : s.shelfOff pa = some o) :
    s.shelfOff (128 * (pa / 128)) = some (o / 128 * 128) := by
  obtain ⟨rfl, inside⟩ := State.shelfOff_some h
  have line := s.shelfBase_line
  rw [show 128 * ((s.shelfBase + o) / 128) = s.shelfBase + o / 128 * 128 by omega]
  exact s.shelfOff_base (by omega)

theorem State.storeLine_shelf {s : State} {pa o : Nat} (h : s.shelfOff pa = some o) (ms : List (Byte × Bool)) (pol : Nat)
    (pois : BitVec 2) (src : Src) (k : Taker) (scalar : Bool) :
    s.storeLine (pa / 128) ms pol pois src k scalar = (s.writeShelf (o / 128 * 128) ms pois src scalar, .done []) := by
  have here := State.window_shelf (State.shelfOff_line h)
  generalize ef : @State.storeLine = f
  delta State.storeLine at ef
  obtain ⟨window, ew⟩ : ∃ f, @State.window = f := ⟨_, rfl⟩
  rw [ew] at ef here
  subst ef
  beta_reduce
  rw [here]

end Sys2Proof.Machine
end

section
namespace Sys2Proof.Machine
open Sys2Proof

/-! ## One block of TSAVE into the own shelf (R103, R105, R193) -/

section
variable {s : State} {t : Thread}

/-- Whole lines written to the shelf from `o` on. -/
structure LinesWritten (s u : State) (o : Nat) (bs : List Byte) : Prop where
  only : OnlyShelf s u
  shelf : u.ls.shelf = setN zero8 s.ls.shelf o bs
  mark : ∀ b, u.ls.shelfPois.contains b = (s.ls.shelfPois.contains b && !decide (o / 64 ≤ b ∧ b < (o + bs.length) / 64))

theorem LinesWritten.nil (s : State) (o : Nat) : LinesWritten s s o [] :=
  ⟨.refl s, rfl, fun b => by
    have : ¬ (o / 64 ≤ b ∧ b < (o + 0) / 64) := by omega
    rw [List.length_nil, decide_eq_false this, Bool.not_false, Bool.and_true]⟩

theorem LinesWritten.append {u v : State} {o : Nat} {a b : List Byte} (line : o % 128 = 0) (la : a.length % 128 = 0)
    (h : LinesWritten s u o a) (k : LinesWritten u v (o + a.length) b) :
    LinesWritten s v o (a ++ b) := by
  refine ⟨h.only.trans k.only, by rw [k.shelf, h.shelf, setN_append], fun x => ?_⟩
  rw [k.mark, h.mark, Bool.and_assoc, ← Bool.not_or, ← Bool.decide_or, List.length_append]
  congr 3
  apply propext
  omega

theorem halfFull_spread {bs : List Byte} (len : bs.length = 128) {h : Nat} : halfFull (spread 0 bs) h = true := by
  rw [halfFull, halfOf, spread_eq (by omega), len]
  refine List.all_eq_true.2 fun x hx => ?_
  have := List.mem_of_mem_drop (List.mem_of_mem_take hx)
  simp at this
  obtain ⟨b, _, rfl⟩ := this
  rfl

/-- A whole line. -/
theorem LineWritten.whole {u : State} {o : Nat} {bs : List Byte} (line : o % 128 = 0) (len : bs.length = 128)
    (h : LineWritten s u o (spread 0 bs) false false) : LinesWritten s u o bs := by
  refine ⟨h.only, h.shelf.trans (setMasked_spread (by omega) ..), fun b => ?_⟩
  rw [h.mark, newPois, newPois, halfFull_spread len, halfFull_spread len]
  by_cases low : b = o / 64
  · simp [low]; omega
  · by_cases high : b = o / 64 + 1
    · simp [high]; omega
    · rw [if_neg low, if_neg high, decide_eq_false (by omega), Bool.not_false, Bool.and_true]

/-- A piece of an image block that lies in the own shelf. -/
theorem State.savePiece_shelf {o pol b : Nat} {bs : List Byte} (line : o % 128 = 0) (inside : o + 128 ≤ s.shelfSize)
    (small : s.shelfSize ≤ 0x80_0000) (len : bs.length = 128) :
    ∃ u, s.savePiece t (s.shelfBase + o) pol bs b = (u, .done []) ∧ LinesWritten s u o bs := by
  have off := s.shelfOff_base (o := o) (by omega)
  have base := s.shelfBase_line
  refine ⟨s.writeShelf o (spread 0 bs) 0 (.thread t) false, ?_, ?_⟩
  · unfold State.savePiece
    rw [if_neg (by rw [State.window_shelf off]; exact fun c => nomatch c.2), State.storeLine_shelf off,
      show o / 128 * 128 = o by omega, show (s.shelfBase + o) % 128 = 0 by omega]
  · exact (State.writeShelf_line (.thread t) line (length_spread ..) (fun h _ => .inl (halfFull_spread len)) inside 0 false).whole line len

theorem State.sbHolds_mono {a b n m : Nat} (none : s.sbHolds t a n = false) (lo : a ≤ b) (hi : b + m ≤ a + n) :
    s.sbHolds t b m = false := by
  rw [State.sbHolds, List.any_eq_false] at none ⊢
  intro e he held
  refine none e he ?_
  simp only [Bool.and_eq_true, decide_eq_true_eq] at held ⊢
  obtain ⟨⟨own, below⟩, above⟩ := held
  exact ⟨⟨own, by omega⟩, by omega⟩

/-- The pieces from the `i`-th on, all in the own shelf and none behind an earlier store. -/
theorem State.savePieces_shelf {k pol : Nat} (ps : List (List Byte)) :
    ∀ (s : State) (r : CtxRun) (i o : Nat), (∀ p ∈ ps, p.length = 128) → (∀ j ∈ r.asked, j < i) →
    (∀ j, j < ps.length → r.phys (r.base.toNat + 512 * k + 128 * (i + j)) = some (s.shelfBase + (o + 128 * j), pol)) →
    o % 128 = 0 → o + 128 * ps.length ≤ s.shelfSize → s.shelfSize ≤ 0x80_0000 →
    s.sbHolds t (s.shelfBase + o) (128 * ps.length) = false →
    ∃ u as, s.savePieces t r k ps i = (u, { r with asked := as }, true) ∧ LinesWritten s u o ps.flatten := by
  induction ps with
  | nil => exact fun s r i o _ _ _ _ _ _ _ => ⟨s, r.asked, rfl, .nil s o⟩
  | cons bs ps ih =>
    intro s r i o len new phys line inside small free
    have here := phys 0 (Nat.zero_lt_succ _)
    have len0 := len bs List.mem_cons_self
    rw [List.length_cons] at inside free phys
    rw [Nat.add_zero, Nat.mul_zero, Nat.add_zero] at here
    obtain ⟨u, piece, wrote⟩ := State.savePiece_shelf (t := t) (pol := pol) (b := 64 * k + 16 * i) line
      (show o + 128 ≤ s.shelfSize by omega) small len0
    have base := wrote.only.shelfBase
    obtain ⟨v, as, rest, wrote'⟩ := ih u { r with asked := r.asked ++ [i] } (i + 1) (o + 128)
      (fun p hp => len p (List.mem_cons_of_mem _ hp))
      (fun j hj => by
        rcases List.mem_append.1 hj with old | new'
        · exact (new j old).trans (Nat.lt_succ_self i)
        · rw [List.mem_singleton.1 new']; exact Nat.lt_succ_self i)
      (fun j hj => by
        rw [base, show o + 128 + 128 * j = o + 128 * (j + 1) by omega, show i + 1 + j = i + (j + 1) by omega]
        exact phys (j + 1) (by omega))
      (by omega) (by rw [wrote.only.shelfSize]; omega) (by rw [wrote.only.shelfSize]; exact small)
      (by rw [wrote.only.sbHolds, base]; exact State.sbHolds_mono free (by omega) (by omega))
    refine ⟨v, as, ?_, ?_⟩
    · have fresh : ¬ (r.asked.contains i = true ∨ bs = []) := by
        rintro (asked | none)
        · exact absurd (new i (List.contains_iff_mem.1 asked)) (Nat.lt_irrefl i)
        · rw [none] at len0; cases len0
      have open' : ¬ s.sbHolds t (s.shelfBase + o) bs.length = true := by
        rw [len0, State.sbHolds_mono free (Nat.le_refl _) (by omega)]
        exact Bool.false_ne_true
      rw [State.savePieces, if_neg fresh, here]
      simp only [piece, rest]
      rw [if_neg open']
    · rw [List.flatten_cons]
      refine wrote.append line (by rw [len0]) ?_
      rw [len0]
      exact wrote'

/-! ### The block and its end -/

/-- A block's bytes do not depend on who is charged for them, and without parity errors reading it takes a number at most. -/
theorem State.imageBlock_clean (clean : s.tile.badRow = []) (k : Nat) (who : Option Thread) :
    (s.imageBlock k who).2 = (s.imageBlock k).2 ∧ ((s.imageBlock k who).1 = s ∨ (s.imageBlock k who).1 = s.fresh) := by
  have rows : ∀ (T : TrayNo) (u : Nat) (l : List Nat), l.foldl (fun s r => s.checkRow T u r who) s.fresh = s.fresh :=
    fun T u l => foldl_same l fun r _ => State.checkRow_clean (s := s.fresh) clean T u r who
  simp only [State.imageBlock, rows]
  split
  · exact ⟨rfl, .inl rfl⟩
  split
  · exact ⟨rfl, .inr rfl⟩
  split
  · exact ⟨rfl, .inl rfl⟩
  · exact ⟨rfl, .inl rfl⟩

theorem pieces_block {bs : List Byte} (len : bs.length = 512) :
    (∀ p ∈ pieces 128 4 bs, p.length = 128) ∧ (pieces 128 4 bs).length = 4 ∧ (pieces 128 4 bs).flatten = bs := by
  refine ⟨?_, rfl, ?_⟩
  · simp [pieces, len]
  · simp only [pieces, List.flatten_cons, List.flatten_nil, List.append_nil]
    rw [List.take_of_length_le (l := List.drop 128 (List.drop 128 (List.drop 128 bs))) (by simp [len])]
    simp only [List.take_append_drop]

theorem exec_tsaveBlock {r : CtxRun} (wait : (s.th t).wait = .ctx r) (save : r.save = true) :
    exec (.tsaveBlock t) s = due s (s.ctxDue t) ((saveStep s t r).finish s t 2) := by
  have run : exec (.tsaveBlock t) s = execTsaveBlock t s := rfl
  rw [run, execTsaveBlock, wait]
  simp only [save, Bool.true_and]

/-- The state with a block in the own shelf: no thread and nothing of the tile unit has changed. -/
structure BlockSaved (s u : State) (o : Nat) (bs : List Byte) : Prop where
  thr : u.thr = s.thr
  tile : u.tile = s.tile
  shelf : u.ls.shelf = setN zero8 s.ls.shelf o bs
  mark : ∀ b, u.ls.shelfPois.contains b = (s.ls.shelfPois.contains b && !decide (o / 64 ≤ b ∧ b < (o + bs.length) / 64))

theorem LinesWritten.saved {u : State} {o : Nat} {bs : List Byte} (h : LinesWritten s u o bs) : BlockSaved s u o bs :=
  ⟨h.only.thr, h.only.rest.tile, h.shelf, h.mark⟩

/-- The same of a state whose threads, tile unit and shelf are those of `s`. -/
theorem LinesWritten.saved_joined {s' u : State} {o : Nat} {bs : List Byte} {hit : InFlight → Bool} (h : LinesWritten s' u o bs)
    (same : s' = s ∨ s' = s.fresh) : BlockSaved s (u.joined s' hit) o bs := by
  obtain ⟨thr, tile, shelf, mark⟩ := h.saved
  rcases same with rfl | rfl <;> exact ⟨thr, tile, shelf, mark⟩

section
variable {r : CtxRun} {pol o : Nat} (clean : s.tile.badRow = []) (len : (s.imageBlock (saveOrder r.total r.done)).2.length = 512)
  (none : r.asked = [])
include clean len none

theorem saveMove_saves
    (phys : ∀ i, i < 4 → r.phys (r.base.toNat + 512 * saveOrder r.total r.done + 128 * i) = some (s.shelfBase + o + 128 * i, pol))
    (line : o % 128 = 0) (inside : o + 512 ≤ s.shelfSize) (small : s.shelfSize ≤ 0x80_0000)
    (free : s.sbHolds t (s.shelfBase + o) 512 = false) :
    ∃ v, BlockSaved s v o (s.imageBlock (saveOrder r.total r.done)).2 ∧
      saveMove s t r = if r.total ≤ r.done + 1 then .done v.saveDone .nothing
        else v.ctxWait t { r with done := r.done + 1, asked := [] } := by
  obtain ⟨bytes, same⟩ := State.imageBlock_clean clean (saveOrder r.total r.done) (some t)
  obtain ⟨each, four, whole⟩ := pieces_block len
  unfold saveMove
  extract_lets k
  rw [show s.imageBlock k (some t) = ((s.imageBlock k (some t)).1, (s.imageBlock k (some t)).2) from rfl, bytes]
  generalize (s.imageBlock k (some t)).1 = s1 at same ⊢
  have like : s1.shelfBase = s.shelfBase ∧ s1.shelfSize = s.shelfSize ∧ s1.sbHolds = s.sbHolds := by
    rcases same with rfl | rfl <;> exact ⟨rfl, rfl, rfl⟩
  obtain ⟨base, size, holds⟩ := like
  obtain ⟨u, as, run, wrote⟩ := State.savePieces_shelf (t := t) (k := k) (pol := pol) (pieces 128 4 (s.imageBlock k).2) s1 r 0 o each
    (by rw [none]; exact fun _ h => nomatch h) (fun j hj => by rw [Nat.zero_add, base, ← Nat.add_assoc]; exact phys j (four ▸ hj))
    line (by rw [four, size]; exact inside) (by rw [size]; exact small) (by rw [four, base, holds]; exact free)
  rw [whole] at wrote
  refine ⟨u.joined s1 fun x => x.thr.contains t, wrote.saved_joined same, ?_⟩
  dsimp only
  rw [run]
  rfl

/-- The first piece waits for an earlier store of the thread. -/
theorem saveMove_waits
    (phys : r.phys (r.base.toNat + 512 * saveOrder r.total r.done) = some (s.shelfBase + o, pol))
    (held : s.sbHolds t (s.shelfBase + o) 128 = true) :
    ∃ v : State, v.thr = s.thr ∧ v.ls = s.ls ∧ v.tile = s.tile ∧ saveMove s t r = v.ctxWait t r := by
  obtain ⟨bytes, same⟩ := State.imageBlock_clean clean (saveOrder r.total r.done) (some t)
  unfold saveMove
  extract_lets k
  rw [show s.imageBlock k (some t) = ((s.imageBlock k (some t)).1, (s.imageBlock k (some t)).2) from rfl, bytes]
  generalize (s.imageBlock k (some t)).1 = s1 at same ⊢
  have holds : s1.sbHolds = s.sbHolds := by rcases same with rfl | rfl <;> rfl
  have first : (s.imageBlock k).2.take 128 ≠ [] := by
    intro none
    have := congrArg List.length none
    simp [k, len] at this
  have run : s1.savePieces t r k (pieces 128 4 (s.imageBlock k).2) 0 = (s1, r, false) := by
    rw [pieces, State.savePieces, if_neg (by simp [none, first]), Nat.mul_zero, Nat.add_zero, phys]
    dsimp only
    rw [if_pos (by rw [List.length_take, len, holds]; exact held)]
  refine ⟨s1.joined s1 fun x => x.thr.contains t, ?_, ?_, ?_, ?_⟩
  · rcases same with rfl | rfl <;> rfl
  · rcases same with rfl | rfl <;> rfl
  · rcases same with rfl | rfl <;> rfl
  · dsimp only
    rw [run]
    rfl

end

theorem BlockSaved.read {u : State} {o : Nat} {bs : List Byte} (h : BlockSaved s u o bs) :
    getN zero8 u.ls.shelf o bs.length = bs := by
  rw [h.shelf, getN_setN]

theorem BlockSaved.unmarked {u : State} {o : Nat} {bs : List Byte} (h : BlockSaved s u o bs) {b : Nat} (lo : o / 64 ≤ b)
    (hi : b < (o + bs.length) / 64) : u.ls.shelfPois.contains b = false := by
  rw [h.mark, decide_eq_true ⟨lo, hi⟩, Bool.not_true, Bool.and_false]

theorem BlockSaved.others {u : State} {o : Nat} {bs : List Byte} (h : BlockSaved s u o bs) (x : Nat)
    (out : x < o ∨ o + bs.length ≤ x) : getD zero8 u.ls.shelf x = getD zero8 s.ls.shelf x := by
  rw [h.shelf, getD_setN]
  split
  · rw [List.getElem?_eq_none (by omega), Option.getD_none]
  · rfl

end

theorem State.th_of_thr {s u : State} (h : u.thr = s.thr) (v : Thread) : u.th v = s.th v := by rw [State.th, h, State.th]

theorem State.saveDone_tile (s : State) : s.saveDone.tile = if s.tile.frozen then { s.tile with trap := false } else s.tile := by
  unfold State.saveDone
  split <;> rfl

theorem State.saveDone_thr (s : State) : s.saveDone.thr = s.thr := by
  unfold State.saveDone
  split <;> rfl

theorem State.saveDone_ls (s : State) : s.saveDone.ls = s.ls := by
  unfold State.saveDone
  split <;> rfl

section
variable {s v : State} {t : Thread} (thr : v.thr = s.thr)
include thr

/-- How a block that goes on, or waits, leaves the threads. -/
theorem State.ctxWait_threads (r : CtxRun) :
    OtherThreads s (v.setTh t { v.th t with wait := .ctx r }) t ∧
      (v.setTh t { v.th t with wait := .ctx r }).th t = { s.th t with wait := .ctx r } :=
  ⟨fun x ne => (State.th_setTh_ne v _ ne).trans (State.th_of_thr thr x), by rw [State.th_setTh, State.th_of_thr thr]⟩

/-- How a block that ends its instruction leaves the threads and the rest. -/
theorem State.complete_threads (n : Nat) :
    OtherThreads s (v.complete t n) t ∧ (v.complete t n).th t = (s.th t).done n ∧ (v.complete t n).ls = v.ls ∧
      (v.complete t n).tile = v.tile := by
  obtain ⟨others, accounts⟩ := (OnlyThread.refl v t).complete n none .nothing
  refine ⟨fun x ne => (others x ne).trans (State.th_of_thr thr x), ?_, accounts.ls, accounts.tile⟩
  rw [State.complete_th, State.th_of_thr thr, HThread.done_eq]

end

theorem HThread.wait_same {h : HThread} {w : Wait} (wait : h.wait = w) : { h with wait := w } = h := by
  rw [← wait]

/-- Settles O28: the four pieces of a block are whole lines of the shelf. -/
theorem contextSaveBlock : Obligations.ContextSaveBlock := by
  intro s t r o pol wait save k bs
  have exec := exec_tsaveBlock wait save
  refine ⟨fun early => ?_, fun on checked none clean len phys line inside small => ⟨fun held => ?_, fun free => ?_⟩⟩
  · rw [exec, due, if_neg (Bool.eq_false_iff.1 early)]
  · have phys0 := phys 0 (by decide)
    rw [Nat.mul_zero, Nat.add_zero, Nat.add_zero] at phys0
    obtain ⟨v, thr, ls, tile, run⟩ := saveMove_waits clean len none phys0 held
    obtain ⟨others, own⟩ := State.ctxWait_threads (t := t) thr r
    rw [due, if_pos on, saveStep, if_pos checked, run] at exec
    exact ⟨_, exec, own.trans (HThread.wait_same wait), others, ls, tile⟩
  · obtain ⟨v, saved, run⟩ := saveMove_saves clean len none phys line inside small free
    have read := saved.read
    have others := saved.others
    have unmarked := fun b => saved.unmarked (b := b)
    have thr := saved.thr
    rw [show (s.imageBlock (saveOrder r.total r.done)).2.length = 512 from len] at read others unmarked
    rw [due, if_pos on, saveStep, if_pos checked, run] at exec
    by_cases last : r.total ≤ r.done + 1
    · rw [if_pos last] at exec
      obtain ⟨threads, own, ls, tile⟩ := State.complete_threads (t := t) (v.saveDone_thr.trans thr) 2
      rw [State.saveDone_ls] at ls
      refine ⟨_, exec, ?_, fun x out => ?_, threads, fun b lo hi _ => ?_, fun more => absurd more (Nat.not_lt.2 last), fun _ => ⟨own, ?_⟩⟩
      · exact (congrArg (fun l : LStore => getN zero8 l.shelf o 512) ls).trans read
      · exact (congrArg (fun l : LStore => getD zero8 l.shelf x) ls).trans (others x out)
      · exact (congrArg (fun l : LStore => l.shelfPois.contains b) ls).trans (unmarked b lo (by omega))
      · rw [← saved.tile]
        exact tile.trans v.saveDone_tile
    · rw [if_neg last] at exec
      obtain ⟨threads, own⟩ := State.ctxWait_threads (t := t) thr { r with done := r.done + 1, asked := [] }
      exact ⟨_, exec, read, others, threads, fun b lo hi _ => unmarked b lo (by omega), fun _ => ⟨own, saved.tile⟩,
        fun more => absurd more last⟩

end Sys2Proof.Machine
end

section
namespace Sys2Proof.Machine
open Sys2Proof

/-! ## Folds over places in an image -/

/-- A fold that keeps the next place in the image knows it from the bits below. -/
theorem foldl_places {σ : Type} {n : Nat} (m w : Nat) (used unused : σ → Fin n → Nat → σ) (x : σ) (o : Nat) :
    (List.finRange n).foldl (fun (y : σ × Nat) i =>
      if nbit m i.val then (used y.1 i y.2, y.2 + w) else (unused y.1 i y.2, y.2)) (x, o) =
    ((List.finRange n).foldl (fun y i =>
      let at' := o + w * popBelow i.val m
      if nbit m i.val then used y i at' else unused y i at') x, o + w * popBelow n m) := by
  have go : ∀ k, k ≤ n → ((List.finRange n).take k).foldl (fun (y : σ × Nat) i =>
      if nbit m i.val then (used y.1 i y.2, y.2 + w) else (unused y.1 i y.2, y.2)) (x, o) =
    (((List.finRange n).take k).foldl (fun y i =>
      let at' := o + w * popBelow i.val m
      if nbit m i.val then used y i at' else unused y i at') x, o + w * popBelow k m) := by
    intro k
    induction k with
    | zero => intro _; rfl
    | succ k ih =>
      intro hk
      have last : (List.finRange n).take (k + 1) = (List.finRange n).take k ++ [⟨k, hk⟩] := by
        rw [List.take_succ_eq_append_getElem (by simpa using hk)]
        simp
      rw [last, List.foldl_append, List.foldl_append, ih (by omega), List.foldl_cons, List.foldl_cons, List.foldl_nil, List.foldl_nil,
        popBelow]
      by_cases set : nbit m k = true
      · simp [set, b2n, Nat.mul_add, Nat.add_assoc]
      · simp [set, b2n]
  have all := go n (Nat.le_refl n)
  rw [List.take_of_length_le (by simp)] at all
  exact all

/-- What each step of a fold makes true and the others keep, holds of all in the end. -/
theorem foldl_each {ι σ : Type} {f : σ → ι → σ} {P : ι → σ → Prop} (makes : ∀ x i, P i (f x i))
    (keeps : ∀ x i j, j ≠ i → P j x → P j (f x i)) (l : List ι) (x : σ) (i : ι) (mem : i ∈ l) : P i (l.foldl f x) := by
  have keep : ∀ (l : List ι) x, P i x → P i (l.foldl f x) := by
    intro l
    induction l with
    | nil => exact fun _ h => h
    | cons a l ih =>
      intro x h
      by_cases e : i = a
      · subst e; exact ih _ (makes _ _)
      · exact ih _ (keeps _ _ _ e h)
  induction l generalizing x with
  | nil => cases mem
  | cons a l ih =>
    rcases List.mem_cons.1 mem with rfl | mem
    · exact keep l _ (makes _ _)
    · exact ih _ mem

/-- What no step of a fold changes. -/
theorem foldl_keeps {ι σ τ : Type} {f : σ → ι → σ} {g : σ → τ} (same : ∀ x i, g (f x i) = g x) (l : List ι) (x : σ) :
    g (l.foldl f x) = g x := by
  induction l generalizing x with
  | nil => rfl
  | cons a l ih => rw [List.foldl_cons, ih, same]

/-! ## Trays of an image (R104, R193) -/

/-- The bytes of an image from `o` on, 0 behind its end. -/
def imgByte (im : List Byte) (o : Nat) : Byte := (im[o]?).getD 0

/-- A tray as the image's header gives it. -/
def imgTray (im : List Byte) (T : TrayNo) : Tray where
  rows := hdrShape im T.val % 32 + 1
  bytes := 4 * (hdrShape im T.val / 32 % 32 + 1)
  inuse := nbit (hdrTrays im) T.val
  marks := if nbit (hdrTrays im) T.val then BitVec.ofNat 32 (hdrMarks im T.val) else 0

/-- The tile unit's tray `T` is the image's. -/
structure TrayTaken (im : List Byte) (T : TrayNo) (u : Tile) : Prop where
  tray : u.trays[T] = imgTray im T
  used : nbit (hdrTrays im) T.val = true → ∀ k, k < 4096 →
    getD zero8 u.data (4096 * T.val + k) = imgByte im (2048 + 4096 * popBelow T.val (hdrTrays im) + k)
  unused : nbit (hdrTrays im) T.val = false → ∀ k, k < 4096 → getD zero8 u.data (4096 * T.val + k) = 0

theorem getD_filter {α : Type} (p : Nat → Bool) (d : Nat → α) (m : List (Nat × α)) (k : Nat) :
    getD d (m.filter fun e => p e.1) k = if p k then getD d m k else d k := by
  rw [getD, lookup_filter]
  cases p k <;> rfl

section
variable (s : State) (t : Thread) (T : TrayNo) (im : List Byte)

theorem zeroData_own {k : Nat} (hk : k < 4096) : getD zero8 (s.zeroData T).tile.data (4096 * T.val + k) = 0 := by
  rw [State.zeroData, getD_filter (fun k => decide (k / 4096 ≠ T.val))]
  rw [if_neg (by simp; omega)]
  rfl

theorem zeroData_other {V : TrayNo} (ne : V ≠ T) {k : Nat} (hk : k < 4096) :
    getD zero8 (s.zeroData T).tile.data (4096 * V.val + k) = getD zero8 s.tile.data (4096 * V.val + k) := by
  have apart : V.val ≠ T.val := fun e => ne (Fin.ext e)
  rw [State.zeroData, getD_filter (fun k => decide (k / 4096 ≠ T.val))]
  rw [if_pos (by simp; omega)]

/-- What a restore makes of one tray. -/
def State.trayFrom (s : State) (t : Thread) (im : List Byte) (T : TrayNo) : State :=
  let at' := 2048 + 4096 * popBelow T.val (hdrTrays im)
  if nbit (hdrTrays im) T.val then s.restoreTray t T im [] at'
  else (s.zeroTray T (hdrShape im T.val % 32 + 1) (4 * (hdrShape im T.val / 32 % 32 + 1))).charge 0x0C
    (hdrShape im T.val % 32 + 1) (some t)

theorem State.restoreTrays_eq : s.restoreTrays t im [] =
    ((List.finRange 16).foldl (fun s T => s.trayFrom t im T) s, 2048 + 4096 * hdrNt im) :=
  foldl_places (σ := State) (n := 16) (hdrTrays im) 4096 (fun s T o => s.restoreTray t T im [] o) (fun s T _ =>
    (s.zeroTray T (hdrShape im T.val % 32 + 1) (4 * (hdrShape im T.val / 32 % 32 + 1))).charge 0x0C
      (hdrShape im T.val % 32 + 1) (some t)) s 2048

/-- The tile unit with tray `T` from offset `o` of the image. -/
def State.trayTile (s : State) (T : TrayNo) (im : List Byte) (o : Nat) : Tile :=
  { (s.zeroData T).tile with
    data := setN zero8 (s.zeroData T).tile.data (4096 * T.val) ((im.drop o).take 4096)
    trays := vset s.tile.trays T
      { rows := hdrShape im T.val % 32 + 1, bytes := 4 * (hdrShape im T.val / 32 % 32 + 1), inuse := true
        marks := BitVec.ofNat 32 (hdrMarks im T.val) } }

theorem State.restoreTray_eq (o : Nat) :
    s.restoreTray t T im [] o = { s with tile := s.trayTile T im o }.charge 0x0C (hdrShape im T.val % 32 + 1) (some t) := by
  have marks : ∀ (l : List Nat) (m : BitVec 32) b, l.foldl (fun m r => if poisIn [] (o + r * b) b then setBit m r true else m) m = m :=
    fun l m b => foldl_same l fun _ _ => rfl
  unfold State.restoreTray
  simp only [marks]
  rfl

theorem State.restoreTray_tile (o : Nat) : (s.restoreTray t T im [] o).tile = s.trayTile T im o := by
  rw [State.restoreTray_eq, (Accounts.charge ..).tile]

theorem State.zeroTray_tile (rows bytes : Nat) : (s.zeroTray T rows bytes).tile =
    { (s.zeroData T).tile with trays := vset s.tile.trays T { rows := rows, bytes := bytes, inuse := false, marks := 0 } } := rfl

theorem getD_take_drop (im : List Byte) (o : Nat) {k : Nat} (hk : k < 4096) :
    (((im.drop o).take 4096)[k]?).getD 0 = imgByte im (o + k) := by
  rw [List.getElem?_take_of_lt hk, List.getElem?_drop, imgByte]

theorem State.trayFrom_taken : TrayTaken im T (s.trayFrom t im T).tile := by
  unfold State.trayFrom
  cases set : nbit (hdrTrays im) T.val
  · rw [if_neg Bool.false_ne_true, (Accounts.charge ..).tile, State.zeroTray_tile]
    refine ⟨?_, fun h => ?_, fun _ k hk => zeroData_own s T hk⟩
    · simp [vset, imgTray, set]
    · rw [set] at h; cases h
  · rw [if_pos rfl, State.restoreTray_tile, State.trayTile]
    refine ⟨?_, fun _ k hk => ?_, fun h => ?_⟩
    · simp [vset, imgTray, set]
    · dsimp only
      rw [getD_setN, if_pos (by omega), Nat.add_sub_cancel_left, zeroData_own s T hk, getD_take_drop im _ hk]
    · rw [set] at h; cases h

/-- Another tray stays as it is. -/
theorem State.trayFrom_other {V : TrayNo} (ne : V ≠ T) : (s.trayFrom t im T).tile.trays[V] = s.tile.trays[V] ∧
    ∀ k, k < 4096 → getD zero8 (s.trayFrom t im T).tile.data (4096 * V.val + k) = getD zero8 s.tile.data (4096 * V.val + k) := by
  have apart : T.val ≠ V.val := fun e => ne (Fin.ext e.symm)
  unfold State.trayFrom
  cases nbit (hdrTrays im) T.val
  · rw [if_neg Bool.false_ne_true, (Accounts.charge ..).tile, State.zeroTray_tile]
    exact ⟨by simp [vset, apart], fun k hk => zeroData_other s T ne hk⟩
  · rw [if_pos rfl, State.restoreTray_tile, State.trayTile]
    refine ⟨by simp [vset, apart], fun k hk => ?_⟩
    rw [← zeroData_other s T ne hk]
    dsimp only
    rw [getD_setN]
    split
    · rw [List.getElem?_eq_none (by simp; omega), Option.getD_none]
    · rfl

theorem TrayTaken.of_same {im : List Byte} {V : TrayNo} {u v : Tile} (h : TrayTaken im V u) (tray : v.trays[V] = u.trays[V])
    (data : ∀ k, k < 4096 → getD zero8 v.data (4096 * V.val + k) = getD zero8 u.data (4096 * V.val + k)) : TrayTaken im V v :=
  ⟨tray.trans h.tray, fun e k hk => (data k hk).trans (h.used e k hk), fun e k hk => (data k hk).trans (h.unused e k hk)⟩

/-- Of everything but what counting and charging change, only trays, slots and elements of the tile unit have changed. -/
structure OnlyStore (s u : State) : Prop where
  rest : Accounts { s with tile := u.tile } u
  tile : u.tile = { s.tile with
    trays := u.tile.trays, data := u.tile.data, badRow := u.tile.badRow
    slots := u.tile.slots, elems := u.tile.elems, badElem := u.tile.badElem }

theorem OnlyStore.refl (s : State) : OnlyStore s s := ⟨.refl s, rfl⟩

theorem OnlyStore.trans {s u v : State} (a : OnlyStore s u) (b : OnlyStore u v) : OnlyStore s v where
  rest := by
    refine .trans ?_ b.rest
    exact { a.rest with tile := rfl }
  tile := by rw [b.tile, a.tile]

theorem OnlyStore.foldl {ι : Type} {f : State → ι → State} (step : ∀ s i, OnlyStore s (f s i)) (l : List ι) (s : State) :
    OnlyStore s (l.foldl f s) := by
  induction l generalizing s with
  | nil => exact .refl s
  | cons a l ih => exact (step s a).trans (ih _)

theorem State.trayFrom_only : OnlyStore s (s.trayFrom t im T) := by
  unfold State.trayFrom
  cases nbit (hdrTrays im) T.val
  · rw [if_neg Bool.false_ne_true]
    constructor
    · rw [(Accounts.charge ..).tile]
      exact Accounts.charge ..
    · rw [(Accounts.charge ..).tile]
      rfl
  · rw [if_pos rfl]
    constructor
    · rw [State.restoreTray_tile, State.restoreTray_eq]
      exact Accounts.charge ..
    · rw [State.restoreTray_tile]
      rfl

/-- Every tray is the image's after the trays' restore; slots and elements are as they were. -/
theorem State.restoreTrays_taken : OnlyStore s (s.restoreTrays t im []).1 ∧ (s.restoreTrays t im []).2 = 2048 + 4096 * hdrNt im ∧
    ∀ V, TrayTaken im V (s.restoreTrays t im []).1.tile := by
  rw [State.restoreTrays_eq]
  refine ⟨.foldl (fun s V => s.trayFrom_only t V im) _ _, rfl, fun V => ?_⟩
  refine foldl_each (P := fun V (u : State) => TrayTaken im V u.tile) (fun (x : State) V => x.trayFrom_taken t V im) (fun (x : State) V W ne h => ?_) _ _ V
    (List.mem_finRange V)
  obtain ⟨tray, data⟩ := x.trayFrom_other t V im ne
  exact h.of_same tray data

end

/-! ## Slots of an image -/

/-- Place of a slot's elements in an image. -/
def slotPlace (im : List Byte) (i : Nat) : Nat := 2048 + 4096 * hdrNt im + 12288 * popBelow i (hdrSlots im)

/-- A slot as its record in the header gives it. -/
def imgSlot (im : List Byte) (i : Fin 48) : Slot :=
  let b := 0x100 + 32 * i.val
  let w := imgWord im b
  { fp := nbit w 10, anchor := BitVec.ofNat 10 w, rnd := BitVec.ofNat 2 (w / 2 ^ 11), seed := word64At im (b + 8)
    fold := bits w 15 13, p := BitVec.ofNat 47 (imgWord im (b + 16)), d := BitVec.ofNat 47 (imgWord im (b + 24))
    inuse := true, sat := nbit w 16, inx := nbit w 17 }

/-- The tile unit's slot `i` is the image's, or free. -/
structure SlotTaken (im : List Byte) (i : Fin 48) (u : Tile) : Prop where
  used : nbit (hdrSlots im) i.val = true → u.slots[i] = imgSlot im i ∧ ∀ k, k < 1024 →
    getD zero96 u.elems (1024 * i.val + k) = imgElem im [] (slotPlace im i.val + 12 * k) (imgSlot im i).fp
  unused : nbit (hdrSlots im) i.val = false → (u.slots[i]).inuse = false

section
variable (s : State) (i : Fin 48) (im : List Byte)

/-- What a restore makes of one slot. -/
def State.slotFrom (s : State) (im : List Byte) (i : Fin 48) : State :=
  if nbit (hdrSlots im) i.val then s.restoreSlot i im [] (slotPlace im i.val)
  else s.setSlot i { s.slot i with inuse := false, sat := false, inx := false }

theorem State.restoreSlots_eq : s.restoreSlots im [] (2048 + 4096 * hdrNt im) =
    (List.finRange 48).foldl (fun s i => s.slotFrom im i) s := by
  unfold State.restoreSlots State.slotFrom slotPlace
  generalize 2048 + 4096 * hdrNt im = o
  rw [foldl_places (σ := State) (n := 48) (hdrSlots im) 12288 (fun s i o => s.restoreSlot i im [] o)
    (fun s i _ => s.setSlot i { s.slot i with inuse := false, sat := false, inx := false }) s o]

theorem elemKey_first (i : Nat) : elemKey i 0 0 = 1024 * i := by rw [elemKey]; omega

theorem State.restoreSlot_tile (o : Nat) : (s.restoreSlot i im [] o).tile = { s.tile with
    slots := vset s.tile.slots i (imgSlot im i)
    elems := setN zero96 s.tile.elems (1024 * i.val) ((List.range 1024).map fun k => imgElem im [] (o + 12 * k) (imgSlot im i).fp)
    badElem := s.tile.badElem.filter fun k => k / 1024 ≠ i.val } := by
  unfold State.restoreSlot
  rw [State.setSlot_tile, elemKey_first]
  simp only [imgSlot]

theorem State.slotFrom_taken : SlotTaken im i (s.slotFrom im i).tile := by
  unfold State.slotFrom
  cases set : nbit (hdrSlots im) i.val
  · rw [if_neg Bool.false_ne_true, State.setSlot_tile]
    refine ⟨fun h => ?_, fun _ => by simp [vset]⟩
    rw [set] at h; cases h
  · rw [if_pos rfl, State.restoreSlot_tile]
    refine ⟨fun _ => ⟨by simp [vset], fun k hk => ?_⟩, fun h => ?_⟩
    · dsimp only
      rw [getD_setN, if_pos (by omega), Nat.add_sub_cancel_left, List.getElem?_map, List.getElem?_range hk]
      rfl
    · rw [set] at h; cases h

theorem State.slotFrom_other {j : Fin 48} (ne : j ≠ i) (h : SlotTaken im j s.tile) : SlotTaken im j (s.slotFrom im i).tile := by
  have apart : i.val ≠ j.val := fun e => ne (Fin.ext e.symm)
  obtain ⟨used, unused⟩ := h
  unfold State.slotFrom
  cases nbit (hdrSlots im) i.val
  · rw [if_neg Bool.false_ne_true, State.setSlot_tile]
    refine ⟨fun set => ?_, fun set => ?_⟩
    · obtain ⟨slot, elems⟩ := used set
      exact ⟨by simpa [vset, apart] using slot, elems⟩
    · simpa [vset, apart] using unused set
  · rw [if_pos rfl, State.restoreSlot_tile]
    refine ⟨fun set => ?_, fun set => ?_⟩
    · obtain ⟨slot, elems⟩ := used set
      refine ⟨by simpa [vset, apart] using slot, fun k hk => ?_⟩
      rw [← elems k hk]
      dsimp only
      rw [getD_setN]
      split
      · rw [List.getElem?_eq_none (by simp; omega), Option.getD_none]
      · rfl
    · simpa [vset, apart] using unused set

theorem State.restoreSlot_frame (o : Nat) : s.restoreSlot i im [] o = { s with tile := (s.restoreSlot i im [] o).tile } := rfl

theorem State.slotFrom_only : OnlyStore s (s.slotFrom im i) ∧
    (s.slotFrom im i).tile.trays = s.tile.trays ∧ (s.slotFrom im i).tile.data = s.tile.data := by
  unfold State.slotFrom
  cases nbit (hdrSlots im) i.val
  · exact ⟨⟨.refl _, rfl⟩, rfl, rfl⟩
  · rw [if_pos rfl]
    refine ⟨⟨?_, ?_⟩, ?_, ?_⟩
    · rw [State.restoreSlot_frame]
      exact .refl _
    all_goals rw [State.restoreSlot_tile]

/-- Every slot is the image's, or free, after the slots' restore; the trays are as they were. -/
theorem State.restoreSlots_taken {s : State} {im : List Byte} :
    let u := s.restoreSlots im [] (2048 + 4096 * hdrNt im)
    OnlyStore s u ∧ u.tile.trays = s.tile.trays ∧ u.tile.data = s.tile.data ∧ ∀ j, SlotTaken im j u.tile := by
  intro u
  have e : u = (List.finRange 48).foldl (fun s i => s.slotFrom im i) s := s.restoreSlots_eq im
  rw [e]
  refine ⟨.foldl (fun s j => (s.slotFrom_only j im).1) _ _, ?_, ?_, fun j => ?_⟩
  · exact foldl_keeps (g := fun u : State => u.tile.trays) (fun (x : State) i => (x.slotFrom_only i im).2.1) _ _
  · exact foldl_keeps (g := fun u : State => u.tile.data) (fun (x : State) i => (x.slotFrom_only i im).2.2) _ _
  · exact foldl_each (P := fun j (u : State) => SlotTaken im j u.tile) (fun (x : State) j => x.slotFrom_taken j im)
      (fun (x : State) i j ne h => x.slotFrom_other i im ne h) _ _ j (List.mem_finRange j)

end

/-! ## The whole tile unit -/

/-- The tile unit after a restore from an image without poison. -/
structure Restored (s u : State) (t : Thread) (im : List Byte) : Prop where
  rest : Accounts { s with tile := u.tile } u
  trays : ∀ T, TrayTaken im T u.tile
  slots : ∀ i, SlotTaken im i u.tile
  queue : u.tile.queue = s.restored t im
  frozen : u.tile.frozen = hdrFrozen im
  trap : u.tile.trap = hdrFrozen im
  tprog : u.tile.tprog = word64At im 0x020
  faultAddr : u.tile.faultAddr = word64At im 0x028
  owner : u.tile.owner = s.tile.owner

theorem State.restore_restored (s : State) (t : Thread) (im : List Byte) : Restored s (s.restore t im []) t im := by
  obtain ⟨only, place, trays⟩ := s.restoreTrays_taken t im
  unfold State.restore
  obtain ⟨u, e⟩ : ∃ u, (s.restoreTrays t im []).1 = u := ⟨_, rfl⟩
  rw [show s.restoreTrays t im [] = (u, 2048 + 4096 * hdrNt im) from Prod.ext e place]
  rw [e] at only trays
  obtain ⟨only', same, data, slots⟩ := State.restoreSlots_taken (s := u) (im := im)
  dsimp only
  obtain ⟨rest, tile⟩ := only.trans only'
  refine ⟨{ rest with tile := rfl }, fun T => ?_, fun i => ?_, rfl, rfl, rfl, rfl, rfl, ?_⟩
  · exact (trays T).of_same (by rw [← same]) (fun k _ => by rw [← data])
  · exact ⟨(slots i).used, (slots i).unused⟩
  · exact (congrArg Tile.owner tile :)

end Sys2Proof.Machine
end

section
namespace Sys2Proof.Machine
open Sys2Proof

/-! ## Lists cut into pieces of one width -/

section
variable {α β : Type}

theorem range_mul_flatMap (f : Nat → List β) (w n : Nat) :
    (List.range (w * n)).flatMap f = (List.range n).flatMap fun i => (List.range w).flatMap fun j => f (w * i + j) := by
  induction n with
  | zero => rfl
  | succ n ih => simp [Nat.mul_succ, List.range_add, List.range_succ, List.flatMap_map, ih]

theorem flatMap_range_getElem (l : List α) (d : α) (g : α → List β) :
    (List.range l.length).flatMap (fun i => g ((l[i]?).getD d)) = l.flatMap g := by
  have whole : (List.range l.length).map (fun i => (l[i]?).getD d) = l := by
    refine List.ext_getElem (by simp) fun i _ h => ?_
    simp [List.getElem?_eq_getElem h]
  conv_rhs => rw [← whole, List.flatMap_map]

/-- Consecutive pieces make up the list's start. -/
theorem flatMap_pieces (l : List β) (w m : Nat) :
    (List.range m).flatMap (fun j => (l.drop (w * j)).take w) = l.take (w * m) := by
  induction m with
  | zero => simp
  | succ m ih => rw [List.range_succ, List.flatMap_append, ih, List.flatMap_singleton, Nat.mul_succ, List.take_add]

variable {f : α → List β} {w : Nat}

theorem length_flatMap_width {l : List α} (width : ∀ a ∈ l, (f a).length = w) : (l.flatMap f).length = w * l.length := by
  rw [List.length_flatMap, List.map_congr_left width]
  simp [Nat.mul_comm]

theorem drop_flatMap_width {l : List α} (width : ∀ a ∈ l, (f a).length = w) (n : Nat) :
    (l.flatMap f).drop (w * n) = (l.drop n).flatMap f := by
  induction l generalizing n with
  | nil => simp
  | cons a l ih =>
    cases n with
    | zero => simp
    | succ n =>
      have here := width a List.mem_cons_self
      rw [List.flatMap_cons, Nat.mul_succ, Nat.add_comm, ← here, List.drop_length_add_append, here, List.drop_succ_cons,
        ih fun b hb => width b (List.mem_cons_of_mem _ hb)]

theorem take_flatMap_width {l : List α} (width : ∀ a ∈ l, (f a).length = w) (n : Nat) :
    (l.flatMap f).take (w * n) = (l.take n).flatMap f := by
  induction l generalizing n with
  | nil => simp
  | cons a l ih =>
    cases n with
    | zero => simp
    | succ n =>
      have here := width a List.mem_cons_self
      rw [List.flatMap_cons, Nat.mul_succ, Nat.add_comm, ← here, List.take_length_add_append, here, List.take_succ_cons,
        List.flatMap_cons, ih fun b hb => width b (List.mem_cons_of_mem _ hb)]

/-- The piece of one entry. -/
theorem piece_flatMap_width {l : List α} (width : ∀ a ∈ l, (f a).length = w) {n : Nat} {a : α} (entry : l[n]? = some a) :
    ((l.flatMap f).drop (w * n)).take w = f a := by
  obtain ⟨inside, rfl⟩ := List.getElem?_eq_some_iff.1 entry
  rw [drop_flatMap_width width, List.drop_eq_getElem_cons inside, List.flatMap_cons, ← width _ (List.getElem_mem inside),
    List.take_left]

end

theorem getN_slice {α : Type} (d : Nat → α) (m : List (Nat × α)) (k n : Nat) {a c : Nat} (h : a + c ≤ n) :
    ((getN d m k n).drop a).take c = getN d m (k + a) c := by
  refine List.ext_getElem ?_ fun i h1 h2 => ?_
  · simp only [List.length_take, List.length_drop, length_getN]
    omega
  · simp [getN, Nat.add_assoc]

theorem range_slice {a c n : Nat} (h : a + c ≤ n) : ((List.range n).drop a).take c = (List.range c).map (a + ·) := by
  refine List.ext_getElem ?_ fun i h1 h2 => ?_
  · simp only [List.length_take, List.length_drop, List.length_range, List.length_map]
    omega
  · simp

theorem slice_slice {β : Type} (l : List β) {a b c n : Nat} (h : b + c ≤ n) :
    ((((l.drop a).take n).drop b).take c) = (l.drop (a + b)).take c := by
  rw [List.drop_take, List.drop_drop, List.take_take, Nat.min_eq_left (by omega)]

/-! ## The whole image (R193) -/

section
variable (s : State)

/-- A tray's storage. -/
def State.trayStore (T : TrayNo) : List Byte := getN zero8 s.tile.data (4096 * T.val) 4096

/-- A slot's elements, 12 bytes each. -/
def State.slotStore (i : Fin 48) : List Byte := (List.range 1024).flatMap fun e => bytesOf 12 (s.elem (1024 * i.val + e)).toNat

/-- Trays, slots and frozen entries of the image. -/
def State.imageTrays : List Byte := s.traysIn.flatMap s.trayStore
def State.imageSlots : List Byte := s.slotsIn.flatMap s.slotStore
def State.imageRecords : List Byte := s.frozenQ.flatMap entryRecord

theorem State.length_trayStore (T : TrayNo) : (s.trayStore T).length = 4096 := length_getN ..

theorem State.length_slotStore (i : Fin 48) : (s.slotStore i).length = 12288 :=
  (length_flatMap_width (w := 12) fun _ _ => length_bytesOf ..).trans (by rw [List.length_range])

theorem length_entryRecord (q : QEntry) : (entryRecord q).length = 32 := by simp [entryRecord, length_bytesOf]

theorem State.length_imageTrays : s.imageTrays.length = 4096 * s.traysIn.length :=
  length_flatMap_width fun T _ => s.length_trayStore T

theorem State.length_imageSlots : s.imageSlots.length = 12288 * s.slotsIn.length :=
  length_flatMap_width fun i _ => s.length_slotStore i

theorem State.length_imageRecords : s.imageRecords.length = 32 * s.frozenQ.length :=
  length_flatMap_width fun q _ => length_entryRecord q

theorem length_slotRecord (x : Slot) : (slotRecord x).length = 32 := by
  unfold slotRecord
  split
  · simp [length_bytesOf]
  · simp

theorem State.length_headerBody : s.headerBody.length = 2044 := by
  have shapes : (s.tile.trays.toList.flatMap fun x => bytesOf 4 ((x.rows - 1) % 32 + (x.bytes / 4 - 1) % 32 * 32)).length = 64 :=
    (length_flatMap_width (w := 4) fun _ _ => length_bytesOf ..).trans (by simp)
  have marks : (s.tile.trays.toList.flatMap fun x => bytesOf 4 x.marks.toNat).length = 64 :=
    (length_flatMap_width (w := 4) fun _ _ => length_bytesOf ..).trans (by simp)
  have slots : (s.tile.slots.toList.flatMap slotRecord).length = 1536 :=
    (length_flatMap_width (w := 32) fun _ _ => length_slotRecord _).trans (by simp)
  simp only [State.headerBody, List.length_append, length_bytesOf, shapes, marks, slots, List.length_replicate]

theorem State.length_header : s.header.length = 2048 := by
  rw [State.header, List.length_append, s.length_headerBody, length_bytesOf]

/-- The bytes of a slot from `o` on, of the words that hold them. -/
theorem State.slotBytes_eq (i : Fin 48) {o n : Nat} (h : o + n ≤ 12288) : s.slotBytes i o n = ((s.slotStore i).drop o).take n := by
  have words : (List.range ((o + n + 11) / 12 - o / 12)).flatMap (fun k => bytesOf 12 (s.elem (elemKey i.val 0 0 + o / 12 + k)).toNat) =
      ((s.slotStore i).drop (12 * (o / 12))).take (12 * ((o + n + 11) / 12 - o / 12)) := by
    have width : ∀ a ∈ List.range 1024, (bytesOf 12 (s.elem (1024 * i.val + a)).toNat).length = 12 := fun _ _ => length_bytesOf ..
    rw [State.slotStore, drop_flatMap_width width, take_flatMap_width fun a ha => width a (List.mem_of_mem_drop ha),
      range_slice (by omega), List.flatMap_map, elemKey_first]
    simp only [Nat.add_assoc]
  rw [State.slotBytes, words, slice_slice _ (by omega)]
  congr 2
  omega

theorem State.imageBlock_header {k : Nat} (h : k < 4) : (s.imageBlock k).2 = (s.header.drop (512 * k)).take 512 := by
  rw [State.imageBlock]
  simp only [h, if_true]

theorem State.imageBlock_tray {i j : Nat} (hi : i < s.traysIn.length) (hj : j < 8) :
    (s.imageBlock (4 + (8 * i + j))).2 = ((s.trayStore ((s.traysIn[i]?).getD 0)).drop (512 * j)).take 512 := by
  have place : (4 + (8 * i + j) - 4) / 8 = i ∧ (4 + (8 * i + j) - 4) % 8 = j := by omega
  rw [State.imageBlock]
  simp only [show ¬ 4 + (8 * i + j) < 4 by omega, if_false, show 4 + (8 * i + j) - 4 < 8 * s.traysIn.length by omega, if_true, place,
    trayAt]
  rw [State.trayStore, getN_slice _ _ _ _ (by omega)]

theorem State.imageBlock_slot {i j : Nat} (hi : i < s.slotsIn.length) (hj : j < 24) :
    (s.imageBlock (4 + (8 * s.traysIn.length + (24 * i + j)))).2 = ((s.slotStore ((s.slotsIn[i]?).getD 0)).drop (512 * j)).take 512 := by
  have place : 4 + (8 * s.traysIn.length + (24 * i + j)) - 4 - 8 * s.traysIn.length = 24 * i + j := by omega
  have parts : (24 * i + j) / 24 = i ∧ (24 * i + j) % 24 = j := by omega
  rw [State.imageBlock]
  simp only [show ¬ 4 + (8 * s.traysIn.length + (24 * i + j)) < 4 by omega, if_false,
    show ¬ 4 + (8 * s.traysIn.length + (24 * i + j)) - 4 < 8 * s.traysIn.length by omega, place,
    show 24 * i + j < 24 * s.slotsIn.length by omega, if_true, parts]
  exact s.slotBytes_eq _ (by omega)

theorem State.imageBlock_records (j : Nat) :
    (s.imageBlock (4 + (8 * s.traysIn.length + (24 * s.slotsIn.length + j)))).2 = (s.imageRecords.drop (512 * j)).take 512 := by
  rw [State.imageBlock]
  simp only [show ¬ 4 + (8 * s.traysIn.length + (24 * s.slotsIn.length + j)) < 4 by omega, if_false, Nat.add_sub_cancel_left,
    show ¬ 8 * s.traysIn.length + (24 * s.slotsIn.length + j) < 8 * s.traysIn.length by omega,
    show ¬ 24 * s.slotsIn.length + j < 24 * s.slotsIn.length by omega]
  rfl

/-- What lies behind the header. -/
def State.imageRest : List Byte := s.imageTrays ++ (s.imageSlots ++ s.imageRecords)

/-- The blocks of the image, one after the other, are its parts. -/
theorem State.wholeImage_eq : s.wholeImage = s.header ++ s.imageRest := by
  have blocks : (s.imageLen + 511) / 512 =
      4 + (8 * s.traysIn.length + (24 * s.slotsIn.length + (32 * s.frozenQ.length + 511) / 512)) := by
    simp only [State.imageLen, imageSize]
    omega
  have header : (List.range 4).flatMap (fun k => (s.imageBlock k).2) = s.header := by
    rw [List.flatMap_congr fun k hk => s.imageBlock_header (List.mem_range.1 hk), flatMap_pieces,
      List.take_of_length_le (by rw [s.length_header])]
  have trays : (List.range (8 * s.traysIn.length)).flatMap (fun k => (s.imageBlock (4 + k)).2) = s.imageTrays := by
    rw [range_mul_flatMap, State.imageTrays, ← flatMap_range_getElem s.traysIn 0]
    refine List.flatMap_congr fun i hi => ?_
    rw [List.flatMap_congr fun j hj => s.imageBlock_tray (List.mem_range.1 hi) (List.mem_range.1 hj), flatMap_pieces,
      List.take_of_length_le (by rw [s.length_trayStore])]
  have slots : (List.range (24 * s.slotsIn.length)).flatMap (fun k => (s.imageBlock (4 + (8 * s.traysIn.length + k))).2) = s.imageSlots := by
    rw [range_mul_flatMap, State.imageSlots, ← flatMap_range_getElem s.slotsIn 0]
    refine List.flatMap_congr fun i hi => ?_
    rw [List.flatMap_congr fun j hj => s.imageBlock_slot (List.mem_range.1 hi) (List.mem_range.1 hj), flatMap_pieces,
      List.take_of_length_le (by rw [s.length_slotStore])]
  have records : (List.range ((32 * s.frozenQ.length + 511) / 512)).flatMap
      (fun k => (s.imageBlock (4 + (8 * s.traysIn.length + (24 * s.slotsIn.length + k)))).2) = s.imageRecords := by
    rw [List.flatMap_congr fun j _ => s.imageBlock_records j, flatMap_pieces,
      List.take_of_length_le (by rw [s.length_imageRecords]; omega)]
  rw [State.wholeImage, blocks]
  simp only [List.range_add, List.flatMap_append, List.flatMap_map, header, trays, slots, records]
  rfl

theorem State.length_wholeImage : s.wholeImage.length = s.imageLen := by
  rw [State.wholeImage_eq, State.imageRest]
  simp only [List.length_append, s.length_header, s.length_imageTrays, s.length_imageSlots, s.length_imageRecords, State.imageLen,
    imageSize]
  omega

end

end Sys2Proof.Machine
end

section
namespace Sys2Proof.Machine
open Sys2Proof

/-! ## Fields of an image's header (R193) -/

section
variable {β : Type}

/-- A part of a list that is given part by part. -/
theorem slice_part {L : List (List β)} {i o n : Nat} {x : List β} (part : L[i]? = some x) (at' : (L.take i).flatten.length = o)
    (len : x.length = n) : (L.flatten.drop o).take n = x := by
  obtain ⟨inside, rfl⟩ := List.getElem?_eq_some_iff.1 part
  conv_lhs => rw [← List.take_append_drop i L, List.flatten_append, ← at', List.drop_left, List.drop_eq_getElem_cons inside,
    List.flatten_cons, ← len, List.take_left]

/-- A slice within a part. -/
theorem slice_within {L : List (List β)} {i o n b c : Nat} {x : List β} (part : L[i]? = some x)
    (at' : (L.take i).flatten.length = o) (len : x.length = n) (inside : b + c ≤ n) :
    (L.flatten.drop (o + b)).take c = (x.drop b).take c := by
  rw [← slice_slice _ inside, slice_part part at' len]

theorem slice_cons_two {α : Type} {f : α → List β} {w : Nat} {l : List α} (width : ∀ a ∈ l, (f a).length = w) {n : Nat} {a b : α}
    (first : l[n]? = some a) (second : l[n + 1]? = some b) : ((l.flatMap f).drop (w * n)).take (w + w) = f a ++ f b := by
  rw [List.take_add, List.drop_drop, piece_flatMap_width width first, ← Nat.mul_succ, piece_flatMap_width width second]

end

theorem ofBytes_append (a b : List Byte) : ofBytes (a ++ b) = ofBytes a + 256 ^ a.length * ofBytes b := by
  induction a with
  | nil => simp [ofBytes]
  | cons x a ih => simp only [List.cons_append, ofBytes, ih, List.length_cons]; ring

theorem ofBytes_zeros (n : Nat) : ofBytes (List.replicate n 0) = 0 := by
  induction n with
  | zero => rfl
  | succ n ih => rw [List.replicate_succ, ofBytes, ih]; rfl

theorem ofBytes_lt (l : List Byte) : ofBytes l < 256 ^ l.length := by
  induction l with
  | nil => exact Nat.one_pos
  | cons b l ih =>
    rw [ofBytes, List.length_cons, Nat.pow_succ]
    have := b.isLt
    omega

section
variable (s : State)

/-- A tray's shape as the header has it. -/
def shapeWord (x : Tray) : Nat := (x.rows - 1) % 32 + (x.bytes / 4 - 1) % 32 * 32

/-- The parts of the image: the header's fields, and what follows the header. -/
def State.imageParts : List (List Byte) :=
  [bytesOf 8 (0x7C74_0740 + 2 ^ 32), bytesOf 8 (maskOf fun T : TrayNo => (s.tray T).inuse),
    bytesOf 8 (maskOf fun i : Fin 48 => (s.slot i).inuse), bytesOf 8 (s.frozenQ.length % 64 + b2n s.tile.frozen * 64),
    bytesOf 8 s.tile.tprog.toNat, bytesOf 8 (if s.tile.frozen then s.tile.faultAddr.toNat else 0),
    s.tile.trays.toList.flatMap (fun x => bytesOf 4 (shapeWord x)), s.tile.trays.toList.flatMap (fun x => bytesOf 4 x.marks.toNat),
    List.replicate 80 0, s.tile.slots.toList.flatMap slotRecord, List.replicate 252 0, bytesOf 4 (crc32c s.headerBody).toNat, s.imageRest]

theorem State.wholeImage_parts : s.wholeImage = s.imageParts.flatten := by
  rw [State.wholeImage_eq, State.header, State.imageParts]
  generalize bytesOf 4 (crc32c s.headerBody).toNat = crc
  simp only [State.headerBody, List.flatten_cons, List.flatten_nil, List.append_nil, List.append_assoc, shapeWord]

theorem State.length_shapes : (s.tile.trays.toList.flatMap fun x => bytesOf 4 (shapeWord x)).length = 64 :=
  (length_flatMap_width (w := 4) fun _ _ => length_bytesOf ..).trans (by simp)

theorem State.length_marks : (s.tile.trays.toList.flatMap fun x => bytesOf 4 x.marks.toNat).length = 64 :=
  (length_flatMap_width (w := 4) fun _ _ => length_bytesOf ..).trans (by simp)

theorem State.length_slotRecords : (s.tile.slots.toList.flatMap slotRecord).length = 1536 :=
  (length_flatMap_width (w := 32) fun _ _ => length_slotRecord _).trans (by simp)

theorem word64At_part {L : List (List Byte)} {i o v : Nat} (part : L[i]? = some (bytesOf 8 v))
    (at' : (L.take i).flatten.length = o) : word64At L.flatten o = BitVec.ofNat 64 v := by
  rw [word64At, slice_part part at' (length_bytesOf ..), ofBytes_bytesOf]
  exact BitVec.eq_of_toNat_eq (by simp)

/-- Offset of the header's `i`-th part. -/
def partAt (i : Nat) : Nat := ([0, 8, 16, 24, 32, 40, 48, 112, 176, 256, 1792, 2044, 2048][i]?).getD 0

theorem State.length_parts :
    s.imageParts.map List.length = [8, 8, 8, 8, 8, 8, 64, 64, 80, 1536, 252, 4, s.imageRest.length] := by
  simp only [State.imageParts, List.map_cons, List.map_nil, length_bytesOf, s.length_shapes, s.length_marks, s.length_slotRecords,
    List.length_replicate]

theorem State.length_partAt {i : Nat} (hi : i ≤ 12) : (s.imageParts.take i).flatten.length = partAt i := by
  rw [List.length_flatten, List.map_take, s.length_parts]
  interval_cases i <;> rfl

/-- A word of the header that is a part of its own. -/
theorem State.imageWord {i o v : Nat} (hi : i < 12) (at' : partAt i = o) (part : s.imageParts[i]? = some (bytesOf 8 v)) :
    word64At s.wholeImage o = BitVec.ofNat 64 v := by
  rw [← at', s.wholeImage_parts, word64At_part part (s.length_partAt hi.le)]

/-- A slice of a part of the header. -/
theorem State.imageSlice {i n b c : Nat} {x : List Byte} (hi : i < 12) (part : s.imageParts[i]? = some x) (len : x.length = n)
    (inside : b + c ≤ n) : (s.wholeImage.drop (partAt i + b)).take c = (x.drop b).take c := by
  rw [s.wholeImage_parts, slice_within part (s.length_partAt hi.le) len inside]

theorem State.trays_getElem (T : TrayNo) : s.tile.trays.toList[T.val]? = some (s.tray T) := by
  simp [State.tray]

theorem State.slots_getElem (i : Fin 48) : s.tile.slots.toList[i.val]? = some (s.slot i) := by
  simp [State.slot]

theorem shapeWord_lt (x : Tray) : shapeWord x < 1024 := by
  unfold shapeWord
  omega

theorem State.hdrShape_image (T : TrayNo) : hdrShape s.wholeImage T.val = shapeWord (s.tray T) := by
  have := T.isLt
  have small := shapeWord_lt (s.tray T)
  have slice := s.imageSlice (i := 6) (b := 4 * T.val) (c := 4) (by decide) rfl s.length_shapes (by omega)
  rw [piece_flatMap_width (fun _ _ => length_bytesOf ..) (s.trays_getElem T)] at slice
  rw [hdrShape, show 0x30 + 4 * T.val = partAt 6 + 4 * T.val from rfl, slice, ofBytes_bytesOf]
  omega

theorem State.hdrMarks_image (T : TrayNo) : hdrMarks s.wholeImage T.val = (s.tray T).marks.toNat := by
  have := T.isLt
  have small := (s.tray T).marks.isLt
  have slice := s.imageSlice (i := 7) (b := 4 * T.val) (c := 4) (by decide) rfl s.length_marks (by omega)
  rw [piece_flatMap_width (fun _ _ => length_bytesOf ..) (s.trays_getElem T)] at slice
  rw [hdrMarks, show 0x70 + 4 * T.val = partAt 7 + 4 * T.val from rfl, slice, ofBytes_bytesOf]
  omega

/-- Two shapes make up a word of the header. -/
theorem State.shapeWord_image {i : Nat} (hi : i < 8) :
    ∃ a b : Nat, a < 1024 ∧ b < 1024 ∧ word64At s.wholeImage (0x30 + 8 * i) = BitVec.ofNat 64 (a + 2 ^ 32 * b) := by
  have first := s.trays_getElem ⟨2 * i, by omega⟩
  have second := s.trays_getElem ⟨2 * i + 1, by omega⟩
  have slice := s.imageSlice (i := 6) (b := 8 * i) (c := 8) (by decide) rfl s.length_shapes (by omega)
  have pair : ((s.tile.trays.toList.flatMap fun x => bytesOf 4 (shapeWord x)).drop (4 * (2 * i))).take 8 = _ :=
    slice_cons_two (w := 4) (f := fun x => bytesOf 4 (shapeWord x)) (fun _ _ => length_bytesOf ..) first second
  rw [show 8 * i = 4 * (2 * i) by omega, pair] at slice
  have la := shapeWord_lt (s.tray ⟨2 * i, by omega⟩)
  have lb := shapeWord_lt (s.tray ⟨2 * i + 1, by omega⟩)
  refine ⟨_, _, la, lb, ?_⟩
  rw [word64At, show 0x30 + 8 * i = partAt 6 + 4 * (2 * i) by rw [← Nat.mul_assoc]; rfl, slice, ofBytes_append, ofBytes_bytesOf,
    ofBytes_bytesOf, length_bytesOf]
  congr 1
  omega

/-- The words of a part that is all zeros. -/
theorem State.zeroWord_image {i n b : Nat} (hi : i < 12) (part : s.imageParts[i]? = some (List.replicate n 0)) (inside : b + 8 ≤ n) :
    word64At s.wholeImage (partAt i + b) = 0 := by
  rw [word64At, s.imageSlice hi part (List.length_replicate ..) inside, List.drop_replicate, List.take_replicate, ofBytes_zeros]
  rfl

/-- The words of a slot's record. -/
theorem State.slotWord_image (i : Fin 48) {j : Nat} (hj : j < 4) :
    word64At s.wholeImage (0x100 + 32 * i.val + 8 * j) = word64At (slotRecord (s.slot i)) (8 * j) := by
  have := i.isLt
  have slice := s.imageSlice (i := 9) (b := 32 * i.val) (c := 32) (by decide) rfl s.length_slotRecords (by omega)
  rw [piece_flatMap_width (fun _ _ => length_slotRecord _) (s.slots_getElem i)] at slice
  rw [word64At, word64At, show 0x100 + 32 * i.val + 8 * j = partAt 9 + 32 * i.val + 8 * j from rfl,
    ← slice_slice (n := 32) _ (by omega), slice]

/-- A slot's first word. -/
def slotWord (x : Slot) : Nat :=
  x.anchor.toNat + b2n x.fp * 2 ^ 10 + x.rnd.toNat * 2 ^ 11 + x.fold % 8 * 2 ^ 13 + b2n x.sat * 2 ^ 16 + b2n x.inx * 2 ^ 17

theorem slotRecord_words {x : Slot} (used : x.inuse = true) :
    word64At (slotRecord x) 0 = BitVec.ofNat 64 (slotWord x) ∧ word64At (slotRecord x) 8 = x.seed ∧
    word64At (slotRecord x) 16 = BitVec.ofNat 64 x.p.toNat ∧ word64At (slotRecord x) 24 = BitVec.ofNat 64 x.d.toNat := by
  have parts : slotRecord x = [bytesOf 8 (slotWord x), bytesOf 8 x.seed.toNat, bytesOf 8 x.p.toNat, bytesOf 8 x.d.toNat].flatten := by
    simp [slotRecord, used, slotWord]
  rw [parts]
  refine ⟨word64At_part (i := 0) rfl rfl, (word64At_part (i := 1) rfl (by simp [length_bytesOf])).trans ?_,
    word64At_part (i := 2) rfl (by simp [length_bytesOf]), word64At_part (i := 3) rfl (by simp [length_bytesOf])⟩
  rw [BitVec.ofNat_toNat, BitVec.setWidth_eq]

theorem slotRecord_unused {x : Slot} (free : x.inuse = false) (o : Nat) : word64At (slotRecord x) o = 0 := by
  rw [slotRecord, if_neg (by rw [free]; exact Bool.false_ne_true), word64At, List.drop_replicate, List.take_replicate, ofBytes_zeros]
  rfl

end

end Sys2Proof.Machine
end

section
namespace Sys2Proof.Machine
open Sys2Proof

/-! ## Masks of trays and slots -/

section
variable {n : Nat}

theorem maskOf_succ (f : Fin (n + 1) → Bool) :
    maskOf f = maskOf (fun i : Fin n => f i.castSucc) + b2n (f (Fin.last n)) * 2 ^ n := by
  rw [maskOf, List.finRange_succ_last, List.foldl_append, List.foldl_map]
  rfl

theorem maskOf_lt (f : Fin n → Bool) : maskOf f < 2 ^ n := by
  induction n with
  | zero => exact Nat.one_pos
  | succ n ih =>
    have low := ih fun i => f i.castSucc
    have top : b2n (f (Fin.last n)) * 2 ^ n ≤ 2 ^ n := by cases f (Fin.last n) <;> simp [b2n]
    rw [maskOf_succ, Nat.pow_succ]
    omega

theorem nbit_add_high {x k i : Nat} (b : Bool) (low : x < 2 ^ k) : nbit (x + b2n b * 2 ^ k) i = if i = k then b else nbit x i := by
  have e : x + b2n b * 2 ^ k = 2 ^ k * b2n b + x := by rw [Nat.mul_comm, Nat.add_comm]
  rw [nbit_eq_testBit, nbit_eq_testBit, e, Nat.testBit_two_pow_mul_add _ low]
  rcases Nat.lt_trichotomy i k with lt | rfl | gt
  · rw [if_pos lt, if_neg lt.ne]
  · cases b <;> simp [b2n]
  · rw [if_neg (Nat.not_lt.2 gt.le), if_neg gt.ne', Nat.testBit_eq_false_of_lt (low.trans (Nat.pow_lt_pow_right (by decide) gt))]
    refine Nat.testBit_eq_false_of_lt ?_
    have one : b2n b ≤ 1 := by cases b <;> decide
    exact lt_of_le_of_lt one (Nat.one_lt_two_pow (by omega))

theorem nbit_maskOf (f : Fin n → Bool) (i : Fin n) : nbit (maskOf f) i.val = f i := by
  induction n with
  | zero => exact i.elim0
  | succ n ih =>
    rw [maskOf_succ, nbit_add_high _ (maskOf_lt _)]
    refine Fin.lastCases ?_ (fun j => ?_) i
    · rw [Fin.val_last, if_pos rfl]
    · rw [Fin.val_castSucc, if_neg j.isLt.ne, ih]

/-- How many of the first `k` are in a mask. -/
theorem length_filter_take {f : Fin n → Bool} {m : Nat} (mask : ∀ i : Fin n, nbit m i.val = f i) {k : Nat} (hk : k ≤ n) :
    (((List.finRange n).take k).filter f).length = popBelow k m := by
  induction k with
  | zero => rfl
  | succ k ih =>
    have last : (List.finRange n).take (k + 1) = (List.finRange n).take k ++ [⟨k, hk⟩] := by
      rw [List.take_succ_eq_append_getElem (by simpa using hk)]
      simp
    rw [last, List.filter_append, List.length_append, ih (by omega), popBelow, mask ⟨k, hk⟩]
    cases set : f ⟨k, hk⟩ <;> simp [set, b2n]

theorem getElem?_filter_mask {f : Fin n → Bool} {m : Nat} (mask : ∀ i : Fin n, nbit m i.val = f i) {i : Fin n} (set : f i = true) :
    ((List.finRange n).filter f)[popBelow i.val m]? = some i := by
  have split : List.finRange n = (List.finRange n).take i.val ++ i :: (List.finRange n).drop (i.val + 1) := by
    conv_lhs => rw [← List.take_append_drop i.val (List.finRange n), List.drop_eq_getElem_cons (by simp)]
    simp
  rw [split, List.filter_append, ← length_filter_take mask i.isLt.le, List.getElem?_append_right (Nat.le_refl _), Nat.sub_self,
    List.filter_cons_of_pos set]
  rfl

end

/-! ## The header check (R194) -/

/-- The bits of `x` are all in `m`. -/
theorem subMask_of_bits {x m : Nat} (h : ∀ j, x.testBit j = true → m.testBit j = true) : subMask x m = true := by
  rw [subMask, decide_eq_true_eq]
  refine BitVec.eq_of_getLsbD_eq fun j hj => ?_
  rw [BitVec.getLsbD_and, BitVec.getLsbD_not, BitVec.getLsbD_ofNat, BitVec.getLsbD_ofNat, show BitVec.getLsbD 0 j = false from BitVec.getLsbD_zero]
  cases bit : x.testBit j
  · simp
  · simp [h j bit]

theorem subMask_of_lt {x k : Nat} (h : x < 2 ^ k) : subMask x (2 ^ k - 1) = true := by
  refine subMask_of_bits fun j set => ?_
  rw [Nat.testBit_two_pow_sub_one, decide_eq_true_eq]
  by_contra out
  rw [Nat.testBit_eq_false_of_lt (h.trans_le (Nat.pow_le_pow_right two_pos (Nat.le_of_not_lt out)))] at set
  cases set

/-- A word of two halves against a mask of two halves. -/
theorem subMask_halves {a b k l : Nat} (ha : a < 2 ^ k) (hb : b < 2 ^ l) (hk : k ≤ 32) :
    subMask (a + 2 ^ 32 * b) ((2 ^ k - 1) + 2 ^ 32 * (2 ^ l - 1)) = true := by
  have small : 2 ^ k ≤ 2 ^ 32 := Nat.pow_le_pow_right two_pos hk
  refine subMask_of_bits fun j set => ?_
  rw [Nat.add_comm, Nat.testBit_two_pow_mul_add _ (by omega)] at set ⊢
  split
  · next low =>
    rw [if_pos low] at set
    rw [Nat.testBit_two_pow_sub_one, decide_eq_true_eq]
    by_contra out
    rw [Nat.testBit_eq_false_of_lt (ha.trans_le (Nat.pow_le_pow_right two_pos (Nat.le_of_not_lt out)))] at set
    cases set
  · next high =>
    rw [if_neg high] at set
    rw [Nat.testBit_two_pow_sub_one, decide_eq_true_eq]
    by_contra out
    rw [Nat.testBit_eq_false_of_lt (hb.trans_le (Nat.pow_le_pow_right two_pos (Nat.le_of_not_lt out)))] at set
    cases set

theorem subMask_zero (m : Nat) : subMask 0 m = true := subMask_of_bits fun j set => by rw [Nat.zero_testBit] at set; cases set

/-! ### Which bits of the header's words may be set -/

section
variable (sm : Nat) {i : Nat}

theorem hdrMask_shape (hi : i < 8) : hdrMask sm (0x30 + 8 * i) = 0x3FF_0000_03FF := by
  unfold hdrMask
  repeat rw [if_neg (by omega)]
  rw [if_pos (by omega)]

theorem hdrMask_marks (hi : i < 8) : hdrMask sm (0x70 + 8 * i) = 2 ^ 64 - 1 := by
  unfold hdrMask
  repeat rw [if_neg (by omega)]
  rw [if_pos (by omega)]

theorem hdrMask_slot (hi : i < 48) {j : Nat} (hj : j < 4) : hdrMask sm (0x100 + 32 * i + 8 * j) =
    if nbit sm i then (if j = 0 then 0x3_FFFF else if j = 1 then 2 ^ 64 - 1 else 2 ^ 47 - 1) else 0 := by
  have slot : (0x100 + 32 * i + 8 * j - 0x100) / 32 = i := by omega
  have word : ∀ k, k < 4 → ((0x100 + 32 * i + 8 * j) % 32 = 8 * k ↔ j = k) := fun k _ => by omega
  have first := word 0 (by decide)
  have second := word 1 (by decide)
  unfold hdrMask
  repeat rw [if_neg (by omega)]
  rw [slot]
  cases set : nbit sm i
  · rw [if_neg (by simp), if_neg (by omega), if_neg Bool.false_ne_true]
  · rw [if_pos ⟨by omega, by omega, rfl⟩, if_pos rfl]
    simp only [Nat.mul_zero, Nat.mul_one] at first second
    simp only [first, second]

end

section
variable (s : State)

theorem imgWord_of_word {im : List Byte} {o v : Nat} (h : word64At im o = BitVec.ofNat 64 v) (small : v < 2 ^ 64) : imgWord im o = v := by
  rw [imgWord, h, BitVec.toNat_ofNat, Nat.mod_eq_of_lt small]

theorem State.hdrTrays_image : hdrTrays s.wholeImage = maskOf fun T : TrayNo => (s.tray T).inuse := by
  have small := maskOf_lt fun T : TrayNo => (s.tray T).inuse
  rw [hdrTrays, imgWord_of_word (s.imageWord (i := 1) (o := 0x008) (by decide) rfl rfl) (by omega), Nat.mod_eq_of_lt small]

theorem State.hdrSlots_image : hdrSlots s.wholeImage = maskOf fun i : Fin 48 => (s.slot i).inuse := by
  have small := maskOf_lt fun i : Fin 48 => (s.slot i).inuse
  rw [hdrSlots, imgWord_of_word (s.imageWord (i := 2) (o := 0x010) (by decide) rfl rfl) (by omega), Nat.mod_eq_of_lt small]

theorem State.entriesWord_image : imgWord s.wholeImage 0x018 = s.frozenQ.length % 64 + b2n s.tile.frozen * 64 := by
  have one : b2n s.tile.frozen ≤ 1 := by cases s.tile.frozen <;> decide
  exact imgWord_of_word (s.imageWord (i := 3) (by decide) rfl rfl) (by omega)

theorem State.hdrE_image : hdrE s.wholeImage = s.frozenQ.length % 64 := by
  rw [hdrE, s.entriesWord_image]
  omega

theorem State.hdrFrozen_image : hdrFrozen s.wholeImage = s.tile.frozen := by
  have bit := nbit_add_high (x := s.frozenQ.length % 64) (k := 6) (i := 6) s.tile.frozen (Nat.mod_lt _ (by decide))
  rw [hdrFrozen, s.entriesWord_image]
  exact bit.trans (if_pos rfl)

theorem State.tprog_image : word64At s.wholeImage 0x020 = s.tile.tprog := by
  have h := s.imageWord (i := 4) (v := s.tile.tprog.toNat) (by decide) rfl rfl
  rw [BitVec.ofNat_toNat, BitVec.setWidth_eq] at h
  exact h

theorem State.faultAddr_image : word64At s.wholeImage 0x028 = if s.tile.frozen then s.tile.faultAddr else 0 := by
  have h := s.imageWord (i := 5) (v := if s.tile.frozen then s.tile.faultAddr.toNat else 0) (by decide) rfl rfl
  refine h.trans ?_
  split
  · rw [BitVec.ofNat_toNat, BitVec.setWidth_eq]
  · rfl

theorem slotWord_lt (x : Slot) : slotWord x < 2 ^ 18 := by
  have a := x.anchor.isLt
  have r := x.rnd.isLt
  have bit : ∀ b, b2n b ≤ 1 := fun b => by cases b <;> decide
  have f := bit x.fp
  have p := bit x.sat
  have q := bit x.inx
  unfold slotWord
  omega

/-- No bit outside a field of a slot's record is set. -/
theorem slotRecord_masked {x : Slot} (used : x.inuse = true) {j : Nat} (hj : j < 4) :
    subMask (imgWord (slotRecord x) (8 * j)) (if j = 0 then 0x3_FFFF else if j = 1 then 2 ^ 64 - 1 else 2 ^ 47 - 1) = true := by
  obtain ⟨w0, w1, w2, w3⟩ := slotRecord_words used
  have p := x.p.isLt
  have d := x.d.isLt
  have w := slotWord_lt x
  interval_cases j
  · rw [imgWord_of_word w0 (by omega)]
    exact subMask_of_lt (k := 18) w
  · exact subMask_of_lt (k := 64) (BitVec.isLt _)
  · rw [imgWord_of_word w2 (by omega)]
    exact subMask_of_lt (k := 47) p
  · rw [imgWord_of_word w3 (by omega)]
    exact subMask_of_lt (k := 47) d

/-- The checksum's bytes, and the bytes that it covers. -/
theorem State.crc_image : (s.wholeImage.drop 0x7FC).take 4 = bytesOf 4 (crc32c (s.wholeImage.take 0x7FC)).toNat := by
  have body : s.wholeImage.take 0x7FC = s.headerBody := by
    rw [s.wholeImage_eq, State.header, List.append_assoc, List.take_left' s.length_headerBody]
  rw [body, s.wholeImage_parts]
  exact slice_part (i := 11) rfl (s.length_partAt (by decide)) (length_bytesOf ..)

theorem State.lastWord_image : ∃ c, c < 2 ^ 32 ∧ imgWord s.wholeImage 0x7F8 = 0 + 2 ^ 32 * c := by
  have zeros := s.imageSlice (i := 10) (b := 248) (c := 4) (by decide) rfl (List.length_replicate ..) (by decide)
  rw [List.drop_replicate, List.take_replicate] at zeros
  have low : (s.wholeImage.drop 0x7F8).take 4 = List.replicate 4 0 := zeros
  have small := (crc32c (s.wholeImage.take 0x7FC)).isLt
  refine ⟨(crc32c (s.wholeImage.take 0x7FC)).toNat, small, imgWord_of_word ?_ (by omega)⟩
  rw [word64At, show (8 : Nat) = 4 + 4 from rfl, List.take_add, List.drop_drop, low, s.crc_image, ofBytes_append, ofBytes_zeros,
    ofBytes_bytesOf, List.length_replicate]
  congr 1
  omega

theorem imgWord_zero {im : List Byte} {o : Nat} (h : word64At im o = 0) : imgWord im o = 0 := by
  rw [imgWord, h]
  rfl

/-- No bit of the header that must be zero is set. -/
theorem State.words_masked (tprog : s.tile.tprog &&& 0x7C00_0000_000E_0000 = 0) {i : Nat} (hi : i < 256) :
    subMask (imgWord s.wholeImage (8 * i)) (hdrMask (hdrSlots s.wholeImage) (8 * i)) = true := by
  have trays := maskOf_lt fun T : TrayNo => (s.tray T).inuse
  have slots := maskOf_lt fun i : Fin 48 => (s.slot i).inuse
  have one : b2n s.tile.frozen ≤ 1 := by cases s.tile.frozen <;> decide
  by_cases single : i < 6
  · interval_cases i
    · rw [imgWord_of_word (s.imageWord (i := 0) (o := 8 * 0) (by decide) rfl rfl) (by decide)]
      exact (by decide : subMask (0x7C74_0740 + 2 ^ 32) (2 ^ 48 - 1) = true)
    · rw [imgWord_of_word (s.imageWord (i := 1) (o := 8 * 1) (by decide) rfl rfl) (by omega)]
      exact subMask_of_lt (k := 16) trays
    · rw [imgWord_of_word (s.imageWord (i := 2) (o := 8 * 2) (by decide) rfl rfl) (by omega)]
      exact subMask_of_lt (k := 48) slots
    · rw [s.entriesWord_image]
      exact subMask_of_lt (k := 7) (by omega)
    · have word := s.tprog_image
      have mask : hdrMask (hdrSlots s.wholeImage) 0x020 = 0x83FF_FFFF_FFF1_FFFF := rfl
      have rest : ~~~ BitVec.ofNat 64 0x83FF_FFFF_FFF1_FFFF = 0x7C00_0000_000E_0000 := by decide
      rw [subMask, imgWord, show 8 * 4 = 0x020 from rfl, word, BitVec.ofNat_toNat, BitVec.setWidth_eq, decide_eq_true_eq, mask, rest]
      exact tprog
    · exact subMask_of_lt (k := 64) (BitVec.isLt _)
  by_cases shape : i < 14
  · obtain ⟨k, rfl⟩ : ∃ k, i = 6 + k := ⟨i - 6, by omega⟩
    obtain ⟨a, b, ha, hb, word⟩ := s.shapeWord_image (i := k) (by omega)
    rw [show 8 * (6 + k) = 0x30 + 8 * k by omega, imgWord_of_word word (by omega), hdrMask_shape _ (by omega)]
    exact subMask_halves (k := 10) (l := 10) ha hb (by decide)
  by_cases marks : i < 22
  · obtain ⟨k, rfl⟩ : ∃ k, i = 14 + k := ⟨i - 14, by omega⟩
    rw [show 8 * (14 + k) = 0x70 + 8 * k by omega, hdrMask_marks _ (by omega)]
    exact subMask_of_lt (k := 64) (BitVec.isLt _)
  by_cases pad : i < 32
  · obtain ⟨k, rfl⟩ : ∃ k, i = 22 + k := ⟨i - 22, by omega⟩
    have zero := s.zeroWord_image (i := 8) (n := 80) (b := 8 * k) (by decide) rfl (by omega)
    rw [show 8 * (22 + k) = partAt 8 + 8 * k by rw [show partAt 8 = 176 from rfl]; omega, imgWord_zero zero]
    exact subMask_zero _
  by_cases slot : i < 224
  · obtain ⟨k, j, hk, hj, rfl⟩ : ∃ k j, k < 48 ∧ j < 4 ∧ i = 32 + 4 * k + j := ⟨(i - 32) / 4, i % 4, by omega, by omega, by omega⟩
    have word := s.slotWord_image ⟨k, hk⟩ hj
    rw [show 8 * (32 + 4 * k + j) = 0x100 + 32 * k + 8 * j by omega, imgWord, word, hdrMask_slot _ hk hj, s.hdrSlots_image,
      nbit_maskOf _ ⟨k, hk⟩]
    cases used : (s.slot ⟨k, hk⟩).inuse
    · rw [slotRecord_unused used]
      exact subMask_zero _
    · exact slotRecord_masked used hj
  by_cases last : i = 255
  · obtain ⟨c, small, word⟩ := s.lastWord_image
    subst last
    rw [show 8 * 255 = 0x7F8 from rfl, word]
    exact subMask_halves (k := 0) (l := 32) Nat.one_pos small (by decide)
  · obtain ⟨k, rfl⟩ : ∃ k, i = 224 + k := ⟨i - 224, by omega⟩
    have zero := s.zeroWord_image (i := 10) (n := 252) (b := 8 * k) (by decide) rfl (by omega)
    rw [show 8 * (224 + k) = partAt 10 + 8 * k by rw [show partAt 10 = 1792 from rfl]; omega, imgWord_zero zero]
    exact subMask_zero _

theorem bits_slotWord (x : Slot) : bits (slotWord x) 15 13 = x.fold % 8 := by
  have a := x.anchor.isLt
  have r := x.rnd.isLt
  have bit : ∀ b, b2n b ≤ 1 := fun b => by cases b <;> decide
  have f := bit x.fp
  have p := bit x.sat
  have q := bit x.inx
  rw [bits, slotWord, show 15 + 1 - 13 = 3 from rfl]
  omega

/-- The first word of a slot in use. -/
theorem State.slotWord_used {i : Fin 48} (used : (s.slot i).inuse = true) : imgWord s.wholeImage (0x100 + 32 * i.val) = slotWord (s.slot i) := by
  have w := slotWord_lt (s.slot i)
  exact imgWord_of_word ((s.slotWord_image i (j := 0) (by decide)).trans (slotRecord_words used).1) (by omega)

theorem State.folds_good (fold : ∀ i, (s.slot i).fold = 0 ∨ (s.slot i).fold = 1 ∨ (s.slot i).fold = 2 ∨ (s.slot i).fold = 4) :
    foldsOk s.wholeImage (hdrSlots s.wholeImage) = true := by
  refine List.all_eq_true.2 fun k hk => ?_
  have mask := nbit_maskOf (fun i : Fin 48 => (s.slot i).inuse) ⟨k, List.mem_range.1 hk⟩
  have word := s.slotWord_used (i := ⟨k, List.mem_range.1 hk⟩)
  rw [s.hdrSlots_image, mask]
  cases used : (s.slot ⟨k, List.mem_range.1 hk⟩).inuse
  · simp
  · rw [word used, bits_slotWord]
    rcases fold ⟨k, List.mem_range.1 hk⟩ with e | e | e | e <;> simp [e]

theorem State.frozenQ_length (frozen : s.tile.frozen = true → 0 < s.tile.queue.length ∧ s.tile.queue.length ≤ 32) :
    s.frozenQ.length ≤ 32 ∧ (s.tile.frozen = true ↔ 0 < s.frozenQ.length) := by
  unfold State.frozenQ
  cases e : s.tile.frozen
  · simp
  · obtain ⟨some, few⟩ := frozen e
    simp [some, few]

/-- What a TSAVE writes passes the header check. -/
theorem State.headerCode_image (fold : ∀ i, (s.slot i).fold = 0 ∨ (s.slot i).fold = 1 ∨ (s.slot i).fold = 2 ∨ (s.slot i).fold = 4)
    (tprog : s.tile.tprog &&& 0x7C00_0000_000E_0000 = 0) (mark : wbit s.tile.tprog 63 = s.tile.frozen)
    (frozen : s.tile.frozen = true → 0 < s.tile.queue.length ∧ s.tile.queue.length ≤ 32) : headerCode s.wholeImage [] = 0 := by
  obtain ⟨few, some⟩ := s.frozenQ_length frozen
  have magic : imgWord s.wholeImage 0 % 2 ^ 48 = 0x7C74_0740 + 2 ^ 32 := by
    rw [imgWord_of_word (s.imageWord (i := 0) (o := 0) (by decide) rfl rfl) (by decide)]
    rfl
  have crc : (crc32c (s.wholeImage.take 0x7FC)).toNat = ofBytes ((s.wholeImage.drop 0x7FC).take 4) := by
    have small := (crc32c (s.wholeImage.take 0x7FC)).isLt
    rw [s.crc_image, ofBytes_bytesOf]
    omega
  have masked : ((List.range 256).all fun i => subMask (imgWord s.wholeImage (8 * i)) (hdrMask (hdrSlots s.wholeImage) (8 * i))) = true :=
    List.all_eq_true.2 fun i hi => s.words_masked tprog (List.mem_range.1 hi)
  have entries : hdrE s.wholeImage = s.frozenQ.length := by rw [s.hdrE_image]; omega
  have bit : nbit (imgWord s.wholeImage 0x020) 63 = s.tile.frozen := by rw [imgWord, s.tprog_image]; exact mark
  have fault : s.tile.frozen = false → imgWord s.wholeImage 0x028 = 0 := fun e => by
    rw [imgWord, s.faultAddr_image, e]
    rfl
  unfold headerCode
  simp only [List.any_nil, Bool.false_eq_true, if_false, magic, ne_eq, not_true_eq_false, crc, masked, s.folds_good fold, Bool.not_true,
    Bool.or_self, s.hdrFrozen_image, entries, bit]
  rw [if_neg]
  rintro (h | h | h | ⟨h, h'⟩)
  · exact h (by rw [Bool.eq_iff_iff, decide_eq_true_eq]; exact some)
  · exact absurd h (Nat.not_lt.2 few)
  · exact h
  · exact h' (fault (by simpa using h))

end

end Sys2Proof.Machine
end

section
namespace Sys2Proof.Machine
open Sys2Proof

/-! ## What a restore reads from the image of a TSAVE (R103, R104, R193) -/

section
variable (s : State)

theorem State.hdrNt_image : hdrNt s.wholeImage = s.traysIn.length := by
  have all := length_filter_take (nbit_maskOf fun T : TrayNo => (s.tray T).inuse) (Nat.le_refl 16)
  rw [List.take_of_length_le (by simp)] at all
  rw [hdrNt, s.hdrTrays_image, ← all]
  rfl

theorem State.hdrNs_image : hdrNs s.wholeImage = s.slotsIn.length := by
  have all := length_filter_take (nbit_maskOf fun i : Fin 48 => (s.slot i).inuse) (Nat.le_refl 48)
  rw [List.take_of_length_le (by simp)] at all
  rw [hdrNs, s.hdrSlots_image, ← all]
  rfl

/-- A slice of the trays, slots or records of the image. -/
theorem State.restSlice {i o n b c : Nat} {x : List Byte} (part : [s.imageTrays, s.imageSlots, s.imageRecords][i]? = some x)
    (at' : ([s.imageTrays, s.imageSlots, s.imageRecords].take i).flatten.length = o) (len : x.length = n) (inside : b + c ≤ n) :
    (s.wholeImage.drop (2048 + (o + b))).take c = (x.drop b).take c := by
  have rest : s.imageRest = [s.imageTrays, s.imageSlots, s.imageRecords].flatten := by simp [State.imageRest]
  rw [s.wholeImage_eq, ← s.length_header, List.drop_length_add_append, rest, slice_within part at' len inside]

theorem State.image_tray {T : TrayNo} (used : (s.tray T).inuse = true) :
    (s.wholeImage.drop (2048 + 4096 * popBelow T.val (hdrTrays s.wholeImage))).take 4096 = s.trayStore T := by
  have entry : s.traysIn[popBelow T.val (hdrTrays s.wholeImage)]? = some T := by
    rw [s.hdrTrays_image]
    exact getElem?_filter_mask (nbit_maskOf _) used
  have inside := (List.getElem?_eq_some_iff.1 entry).1
  have slice := s.restSlice (i := 0) (b := 4096 * popBelow T.val (hdrTrays s.wholeImage)) (c := 4096) rfl rfl s.length_imageTrays (by omega)
  rw [State.imageTrays, piece_flatMap_width (fun T _ => s.length_trayStore T) entry] at slice
  rw [← slice]
  simp

theorem State.image_slot {i : Fin 48} (used : (s.slot i).inuse = true) :
    (s.wholeImage.drop (slotPlace s.wholeImage i.val)).take 12288 = s.slotStore i := by
  have entry : s.slotsIn[popBelow i.val (hdrSlots s.wholeImage)]? = some i := by
    rw [s.hdrSlots_image]
    exact getElem?_filter_mask (nbit_maskOf _) used
  have inside := (List.getElem?_eq_some_iff.1 entry).1
  have slice := s.restSlice (i := 1) (o := 4096 * s.traysIn.length) (b := 12288 * popBelow i.val (hdrSlots s.wholeImage)) (c := 12288) rfl
    (by simpa using s.length_imageTrays) s.length_imageSlots (by omega)
  rw [State.imageSlots, piece_flatMap_width (fun i _ => s.length_slotStore i) entry] at slice
  rw [← slice, slotPlace, s.hdrNt_image, Nat.add_assoc]

theorem State.image_elem {i : Fin 48} (used : (s.slot i).inuse = true) {e : Nat} (he : e < 1024) :
    (s.wholeImage.drop (slotPlace s.wholeImage i.val + 12 * e)).take 12 = bytesOf 12 (s.elem (1024 * i.val + e)).toNat := by
  have entry : (List.range 1024)[e]? = some e := List.getElem?_range he
  rw [← slice_slice (n := 12288) _ (by omega), s.image_slot used, State.slotStore, piece_flatMap_width (fun _ _ => length_bytesOf ..) entry]

theorem State.image_record {j : Nat} {q : QEntry} (entry : s.frozenQ[j]? = some q) : recordAt s.wholeImage j = entryRecord q := by
  have inside := (List.getElem?_eq_some_iff.1 entry).1
  have slice := s.restSlice (i := 2) (o := 4096 * s.traysIn.length + 12288 * s.slotsIn.length) (b := 32 * j) (c := 32) rfl
    (by simp [s.length_imageTrays, s.length_imageSlots]) s.length_imageRecords (by omega)
  rw [State.imageRecords, piece_flatMap_width (fun q _ => length_entryRecord q) entry] at slice
  rw [recordAt, s.hdrNt_image, s.hdrNs_image, ← slice]
  simp only [Nat.add_assoc]

end

/-! ### Trays and slots -/

section
variable {s : State}

theorem imgTray_image {T : TrayNo} (rows : 1 ≤ (s.tray T).rows ∧ (s.tray T).rows ≤ 32)
    (bytes : 4 ≤ (s.tray T).bytes ∧ (s.tray T).bytes ≤ 128 ∧ (s.tray T).bytes % 4 = 0) :
    imgTray s.wholeImage T = { s.tray T with marks := if (s.tray T).inuse then (s.tray T).marks else 0 } := by
  have r : shapeWord (s.tray T) % 32 + 1 = (s.tray T).rows := by unfold shapeWord; omega
  have b : 4 * (shapeWord (s.tray T) / 32 % 32 + 1) = (s.tray T).bytes := by unfold shapeWord; omega
  rw [imgTray, s.hdrShape_image, s.hdrMarks_image, s.hdrTrays_image, nbit_maskOf, r, b, BitVec.ofNat_toNat, BitVec.setWidth_eq]

theorem decide_b2n (b : Bool) : decide (b2n b = 1) = b := by cases b <;> rfl

/-- The fields of a slot's first word. -/
theorem slotWord_fields (x : Slot) : BitVec.ofNat 10 (slotWord x) = x.anchor ∧ nbit (slotWord x) 10 = x.fp ∧
    BitVec.ofNat 2 (slotWord x / 2 ^ 11) = x.rnd ∧ nbit (slotWord x) 16 = x.sat ∧ nbit (slotWord x) 17 = x.inx := by
  have a := x.anchor.isLt
  have r := x.rnd.isLt
  have bit : ∀ b, b2n b ≤ 1 := fun b => by cases b <;> decide
  have f := bit x.fp
  have p := bit x.sat
  have q := bit x.inx
  refine ⟨BitVec.eq_of_toNat_eq ?_, ?_, BitVec.eq_of_toNat_eq ?_, ?_, ?_⟩
  · rw [BitVec.toNat_ofNat, slotWord]
    omega
  · rw [nbit, show slotWord x / 2 ^ 10 % 2 = b2n x.fp by unfold slotWord; omega, decide_b2n]
  · rw [BitVec.toNat_ofNat, slotWord]
    omega
  · rw [nbit, show slotWord x / 2 ^ 16 % 2 = b2n x.sat by unfold slotWord; omega, decide_b2n]
  · rw [nbit, show slotWord x / 2 ^ 17 % 2 = b2n x.inx by unfold slotWord; omega, decide_b2n]

theorem imgSlot_image {i : Fin 48} (used : (s.slot i).inuse = true)
    (fold : (s.slot i).fold = 0 ∨ (s.slot i).fold = 1 ∨ (s.slot i).fold = 2 ∨ (s.slot i).fold = 4) : imgSlot s.wholeImage i = s.slot i := by
  obtain ⟨_, seed, p, d⟩ := slotRecord_words used
  have hp := (s.slot i).p.isLt
  have hd := (s.slot i).d.isLt
  obtain ⟨fa, ff, fr, fs, fi⟩ := slotWord_fields (s.slot i)
  have w2 := imgWord_of_word ((s.slotWord_image i (j := 2) (by decide)).trans p) (by omega)
  have w3 := imgWord_of_word ((s.slotWord_image i (j := 3) (by decide)).trans d) (by omega)
  have w1 := (s.slotWord_image i (j := 1) (by decide)).trans seed
  have same : (s.slot i).fold % 8 = (s.slot i).fold := by rcases fold with e | e | e | e <;> rw [e]
  rw [imgSlot]
  simp only [Nat.mul_one] at w1
  simp only [s.slotWord_used used, fa, ff, fr, fs, fi, bits_slotWord, same, w1, w2, w3, BitVec.ofNat_toNat, BitVec.setWidth_eq, ← used]

theorem imgElem_image {i : Fin 48} (used : (s.slot i).inuse = true) {e : Nat} (he : e < 1024) {fp : Bool}
    (small : fp = true → (s.elem (1024 * i.val + e)).toNat < 2 ^ 32) :
    imgElem s.wholeImage [] (slotPlace s.wholeImage i.val + 12 * e) fp = s.elem (1024 * i.val + e) := by
  have lt := (s.elem (1024 * i.val + e)).isLt
  rw [imgElem, if_neg (by simp [poisIn]), s.image_elem used he, ofBytes_bytesOf]
  refine BitVec.eq_of_toNat_eq ?_
  dsimp only
  rw [BitVec.toNat_ofNat]
  split
  · next set =>
    have := small set
    omega
  · omega

/-! ### Frozen entries -/

/-- A record's words are the entry's. -/
theorem entryRecord_words (q : QEntry) :
    imgWord (entryRecord q) 0 = q.w0.toNat + q.e1.toNat * 2 ^ 14 + q.e2.toNat * 2 ^ 28 + q.pc.toNat * 2 ^ 42 ∧
    word64At (entryRecord q) 8 = q.v1 ∧ word64At (entryRecord q) 16 = q.v2 ∧ imgWord (entryRecord q) 24 = q.lvl.toNat := by
  have h0 := q.w0.isLt
  have h1 := q.e1.isLt
  have h2 := q.e2.isLt
  have h3 := q.pc.isLt
  have h4 := q.lvl.isLt
  have parts : entryRecord q = [bytesOf 8 (q.w0.toNat + q.e1.toNat * 2 ^ 14 + q.e2.toNat * 2 ^ 28 + q.pc.toNat * 2 ^ 42),
      bytesOf 8 q.v1.toNat, bytesOf 8 q.v2.toNat, bytesOf 8 q.lvl.toNat].flatten := by simp [entryRecord]
  have full : ∀ v : Word, BitVec.ofNat 64 v.toNat = v := fun v => by rw [BitVec.ofNat_toNat, BitVec.setWidth_eq]
  rw [parts]
  exact ⟨imgWord_of_word (word64At_part (i := 0) rfl rfl) (by omega),
    (word64At_part (i := 1) rfl (by simp [length_bytesOf])).trans (full _),
    (word64At_part (i := 2) rfl (by simp [length_bytesOf])).trans (full _),
    imgWord_of_word (word64At_part (i := 3) rfl (by simp [length_bytesOf])) (by omega)⟩

/-- The queue that an image of frozen entries restores. -/
theorem restored_image (k : State) (t : Thread) (few : s.frozenQ.length ≤ 32) :
    (k.restored t s.wholeImage).length = s.frozenQ.length ∧ ∀ (j : Nat) (a : QEntry), s.frozenQ[j]? = some a →
      ∃ b : QEntry, (k.restored t s.wholeImage)[j]? = some b ∧
        (b.w0, b.e1, b.e2, b.pc, b.v1, b.v2, b.lvl) = (a.w0, a.e1, a.e2, a.pc, a.v1, a.v2, a.lvl) := by
  have count : min 32 (hdrE s.wholeImage) = s.frozenQ.length := by rw [s.hdrE_image]; omega
  rw [State.restored, count]
  refine ⟨by simp, fun j a entry => ?_⟩
  have inside := (List.getElem?_eq_some_iff.1 entry).1
  obtain ⟨word, v1, v2, lvl⟩ := entryRecord_words a
  have h0 := a.w0.isLt
  have h1 := a.e1.isLt
  have h2 := a.e2.isLt
  have h3 := a.pc.isLt
  have h4 := a.lvl.isLt
  rw [List.getElem?_map, List.getElem?_range inside]
  refine ⟨_, rfl, ?_⟩
  simp only [s.image_record entry, recW0, recE1, recE2, word, v1, v2, lvl, Prod.mk.injEq, true_and]
  refine ⟨?_, ?_, ?_, ?_, ?_⟩ <;> refine BitVec.eq_of_toNat_eq ?_ <;> rw [BitVec.toNat_ofNat] <;> omega

end

theorem getN_of_bytes {m : List (Nat × Byte)} {k o n : Nat} {im : List Byte} (same : ∀ j, j < n → getD zero8 m (k + j) = imgByte im (o + j))
    (len : o + n ≤ im.length) : getN zero8 m k n = (im.drop o).take n := by
  refine List.ext_getElem ?_ fun j hj h2 => ?_
  · rw [length_getN, List.length_take, List.length_drop]
    omega
  · rw [length_getN] at hj
    simp only [getN, List.getElem_map, List.getElem_range, List.getElem_take, List.getElem_drop]
    rw [same j hj, imgByte, List.getElem?_eq_getElem (by omega), Option.getD_some]

/-- The storage of a tray of the image. -/
theorem TrayTaken.stored {im : List Byte} {T : TrayNo} {u : Tile} (h : TrayTaken im T u) (used : nbit (hdrTrays im) T.val = true)
    (len : 2048 + 4096 * popBelow T.val (hdrTrays im) + 4096 ≤ im.length) :
    getN zero8 u.data (4096 * T.val) 4096 = (im.drop (2048 + 4096 * popBelow T.val (hdrTrays im))).take 4096 :=
  getN_of_bytes (h.used used) len

/-- Settles O30: each part of the image lies where the restore looks for it. -/
theorem contextRoundTrip : Obligations.ContextRoundTrip := by
  intro s k t _ shape fold small tprog mark frozen im u
  have code := s.headerCode_image fold tprog mark frozen
  obtain ⟨few, _⟩ := s.frozenQ_length frozen
  have length : hdrLen im = s.imageLen := by
    rw [hdrLen, s.hdrNt_image, s.hdrNs_image, s.hdrE_image, State.imageLen, Nat.mod_eq_of_lt (by omega)]
  obtain ⟨_, trays, slots, queue, isFrozen, _, isTprog, isFault, _⟩ := k.restore_restored t im
  have tray : ∀ T, u.tray T = { s.tray T with marks := if (s.tray T).inuse then (s.tray T).marks else 0 } := fun T => by
    obtain ⟨r1, r32, b4, b128, b⟩ := shape T
    exact (trays T).tray.trans (imgTray_image ⟨r1, r32⟩ ⟨b4, b128, b⟩)
  have inTrays : ∀ T : TrayNo, nbit (hdrTrays im) T.val = (s.tray T).inuse := fun T => by rw [s.hdrTrays_image, nbit_maskOf]
  have inSlots : ∀ i : Fin 48, nbit (hdrSlots im) i.val = (s.slot i).inuse := fun i => by rw [s.hdrSlots_image, nbit_maskOf]
  refine ⟨code, length, s.length_wholeImage, fun T used => ⟨?_, ?_⟩, fun T free => ?_, fun i used => ?_, fun i free => ?_, ?_, ?_, fun e => ?_⟩
  · rw [tray, if_pos used]
  · have stored := s.image_tray used
    have len := congrArg List.length stored
    rw [s.length_trayStore, List.length_take, List.length_drop] at len
    have inside : 2048 + 4096 * popBelow T.val (hdrTrays s.wholeImage) + 4096 ≤ s.wholeImage.length := by omega
    exact ((trays T).stored ((inTrays T).trans used) inside).trans stored
  · rw [tray, free]
    rfl
  · obtain ⟨slot, elems⟩ := (slots i).used ((inSlots i).trans used)
    have same := imgSlot_image used (fold i)
    refine ⟨slot.trans same, fun e he => ?_⟩
    refine (elems e he).trans ?_
    rw [same]
    exact imgElem_image used he fun fp => small i fp e he
  · exact (slots i).unused ((inSlots i).trans free)
  · exact isFrozen.trans s.hdrFrozen_image
  · exact isTprog.trans s.tprog_image
  · have entries : s.frozenQ = s.tile.queue := if_pos e
    obtain ⟨count, each⟩ := restored_image (s := s) k t few
    rw [entries] at count each
    refine ⟨isFault.trans (s.faultAddr_image.trans (if_pos e)), (congrArg List.length queue).trans count, fun j hj => ?_⟩
    have entry := List.getElem?_eq_getElem hj
    obtain ⟨b, at', same⟩ := each j _ entry
    exact ⟨_, b, entry, by rw [queue, at'], same⟩

end Sys2Proof.Machine
end

section
namespace Sys2Proof.Machine
open Sys2Proof

/-! ## What handler entry leaves of the tile unit (R183, R184) -/

section
variable (s : State)

theorem State.bump_tile (p : Page) (k n : Nat) (who : Option Thread) : (s.bump p k n who).tile = s.tile := (Accounts.bump ..).tile
theorem State.charge_tile (c n : Nat) (who : Option Thread) : (s.charge c n who).tile = s.tile := (Accounts.charge ..).tile

theorem State.record_tile (p : Page) (addr info : Nat) (fatal : Bool) (who : Option Thread) :
    (s.record p addr info fatal who).tile = s.tile := State.bump_tile ..

theorem State.mcheck_tile (p : Page) (who : Option Thread) : (s.mcheck p who).tile = s.tile := State.bump_tile ..

theorem State.request_tile {s u : State} {reserved : Bool} {e : RtEntry} {i : Nat} (h : s.request reserved e = some (u, i)) :
    u.tile = s.tile := by
  unfold State.request at h
  split at h
  · cases h
  · cases h; rfl

theorem State.queueFatal_tile : s.queueFatal.tile = s.tile := by
  unfold State.queueFatal
  split
  · rfl
  · split
    · rfl
    · split
      · rfl
      · next h => exact (State.request_tile h :)

theorem State.fatalCond_tile (reason : Nat) (p : Page) (who : Option Thread) : (s.fatalCond reason p who).tile = s.tile := by
  unfold State.fatalCond
  extract_lets s0 s1 s2 r
  have h0 : s0.tile = s.tile := State.bump_tile ..
  split
  · exact h0
  · exact (State.queueFatal_tile _).trans ((State.mcheck_tile ..).trans h0)

theorem State.ceEvent_tile : s.ceEvent.tile = s.tile := by
  unfold State.ceEvent
  split <;> rfl

theorem State.lstError_tile (kind addr way half nsym : Nat) (src : Src) (mc : Bool) :
    (s.lstError kind addr way half nsym src mc).tile = s.tile := by
  unfold State.lstError
  extract_lets fatal s1 s2 s3 s4 s5
  have h1 : s1.tile = s.tile := State.record_tile ..
  have h2 : s2.tile = s.tile := by
    unfold s2
    split
    · exact (State.bump_tile ..).trans h1
    · exact h1
  have h3 : s3.tile = s.tile := by
    unfold s3
    split
    · exact (State.ceEvent_tile _).trans h2
    · exact h2
  have h4 : s4.tile = s.tile := by
    unfold s4
    split
    · exact h3
    · exact h3
  have h5 : s5.tile = s.tile := by
    unfold s5
    split
    · exact (State.mcheck_tile ..).trans h4
    · exact h4
  split
  · exact (State.fatalCond_tile ..).trans h5
  · exact h5

theorem State.shelfCheck_tile (src : Src) (b : Nat) : (s.shelfCheck src b).tile = s.tile := by
  unfold State.shelfCheck
  split
  · rfl
  · dsimp only
    split
    · exact State.lstError_tile ..
    · exact State.lstError_tile ..

theorem State.shelfRead_tile (src : Src) (o n : Nat) : (s.shelfRead src o n).1.tile = s.tile :=
  foldl_keeps (g := State.tile) (fun u b => u.shelfCheck_tile src b) _ s

theorem State.shelfPrep_tile (src : Src) (o : Nat) (ms : List (Byte × Bool)) (b : Nat) : (s.shelfPrep src o ms b).tile = s.tile := by
  unfold State.shelfPrep
  split
  · rfl
  · exact State.shelfCheck_tile ..

theorem State.shelfMerge_tile (src : Src) (o : Nat) (ms : List (Byte × Bool)) : (s.shelfMerge src o ms).tile = s.tile :=
  foldl_keeps (g := State.tile) (fun u b => u.shelfPrep_tile src o ms b) _ s

theorem State.shelfWriteBy_tile (t : Thread) (o : Nat) (bs : List Byte) : (s.shelfWriteBy t o bs).tile = s.tile := by
  have drop : (s.shelfWrite (.thread t) o bs).tile = s.tile := by
    unfold State.shelfWrite State.shelfWriteM
    rw [(s.shelfMerge (.thread t) o _).shelfL1Drop_only o _]
    exact State.shelfMerge_tile ..
  exact drop

theorem State.writeTsb_tile (t : Thread) (b : Nat) (e : Event) (fallback : Nat) : (s.writeTsb t b e fallback).tile = s.tile :=
  State.shelfWriteBy_tile ..

theorem State.readDesc_tile (t : Thread) (c : Nat) : (s.readDesc t c).1.tile = s.tile := by
  unfold State.readDesc
  extract_lets h b
  have read := s.shelfRead_tile (.thread t) (b + 16 * c) 16
  split
  · rfl
  · obtain ⟨⟨u, bs, p⟩, e⟩ : ∃ x, s.shelfRead (.thread t) (b + 16 * c) 16 = x := ⟨_, rfl⟩
    rw [e] at read ⊢
    dsimp only at read ⊢
    split
    · exact read
    · split <;> exact read

/-- The latch of the tile-fault trap, as an event's entry leaves it. -/
def latchTile (e : Event) (x : Tile) : Tile := if e.cause = 0x0C then { x with trap := false } else x

theorem State.clearLatch_tile (t : Thread) (e : Event) : (s.clearLatch t e).tile = latchTile e s.tile := by
  by_cases own : e.cause = 0x0C
  · simp [State.clearLatch, latchTile, own]
  rw [latchTile, if_neg own, State.clearLatch]
  split
  · split <;> rfl
  split
  · rfl
  split
  · rfl
  split
  · rfl
  split <;> rfl

/-- Of the tile unit, a fallback entry changes no more than the latch of the event that it delivers. -/
theorem State.fallback_tile (t : Thread) (e : Event) (reason : Nat) :
    (s.fallback t e reason).tile = s.tile ∨ (s.fallback t e reason).tile = latchTile e s.tile := by
  unfold State.fallback
  extract_lets b s1 h st h1
  split
  · exact .inl (by rw [State.fatalCond_tile, State.record_tile, State.setTh_tile])
  · exact .inr (by rw [State.charge_tile, State.bump_tile, State.clearLatch_tile, State.setTh_tile, State.writeTsb_tile])

/-- The same of handler entry. -/
theorem State.enter_tile (t : Thread) (e : Event) :
    (s.enter t e).tile = s.tile ∨ (s.enter t e).tile = latchTile e s.tile := by
  unfold State.enter
  extract_lets pl forced
  have read := s.readDesc_tile t e.cause
  obtain ⟨⟨u, r⟩, er⟩ : ∃ x, s.readDesc t e.cause = x := ⟨_, rfl⟩
  rw [er] at read ⊢
  have back := fun reason => u.fallback_tile t e reason
  rw [show u.tile = s.tile from read] at back
  dsimp only
  split
  · exact back _
  · generalize (if forced = true then 3 else _) = nl
    split
    · exact back _
    split
    · exact back _
    split
    · exact back _
    · exact .inr (by rw [State.charge_tile, State.bump_tile, State.clearLatch_tile, State.setTh_tile, State.writeTsb_tile, read])

end

end Sys2Proof.Machine
end

section
namespace Sys2Proof.Machine
open Sys2Proof

/-! ## A TRSTR that stops (R104, R105) -/

section
variable (s : State) (t : Thread)

theorem State.tile_sealed (s u : State) : (s.sealed u).tile = u.tile := rfl

theorem State.orphan_tile : (s.orphan t).tile = if (s.th t).wipes then (s.wipeTile t).tile else s.tile := by
  unfold State.orphan
  split <;> rfl

theorem latchTile_other {c : Nat} (other : c ≠ 0x0C) (a i : Word) (x : Tile) : latchTile (syncEv c a i) x = x := if_neg other

/-- A trap that is not the tile fault's leaves the tile unit as it is. -/
theorem State.trap_tile {c : Nat} (other : c ≠ 0x0C) (a i : Word) : (s.trap t c a i).tile = s.tile := by
  have kept : ∀ h : HThread, ((s.setTh t { h with wait := .none }).orphan t).tile = s.tile := fun h => by
    rw [State.orphan_tile, State.th_setTh, if_neg]
    · rfl
    · exact Bool.false_ne_true
  unfold State.trap
  rcases State.enter_tile ((s.setTh t { (s.th t).deliver with wait := .none }).orphan t) t (syncEv c a i) with same | same
  · rw [same, kept]
  · rw [same, kept, latchTile_other other]

/-- Every tray and slot free and zeroed, and the queue empty. -/
abbrev TileEmptied (u : State) : Prop :=
  (∀ T : TrayNo, (u.tray T).inuse = false ∧ (u.tray T).marks = 0 ∧
    ∀ k, k < 4096 → getD zero8 u.tile.data (4096 * T.val + k) = 0) ∧ (∀ i, (u.slot i).inuse = false) ∧ u.tile.queue = []

theorem State.wipeTile_emptied : TileEmptied (s.wipeTile t) := by
  refine ⟨fun T => ⟨?_, ?_, fun k _ => rfl⟩, fun i => ?_, rfl⟩ <;> simp [State.wipeTile, State.tray, State.slot]

/-- What is empty stays so where only the trap's latch changes. -/
theorem TileEmptied.of_latch {s u : State} (h : TileEmptied s) (e : Event) (same : u.tile = s.tile ∨ u.tile = latchTile e s.tile) :
    TileEmptied u := by
  obtain ⟨trays, slots, queue⟩ := h
  rcases same with same | same
  · unfold TileEmptied State.tray State.slot
    rw [same]
    exact ⟨trays, slots, queue⟩
  · unfold TileEmptied State.tray State.slot
    rw [same, latchTile]
    split <;> exact ⟨trays, slots, queue⟩

theorem State.wipeTile_th (v : Thread) : (s.wipeTile t).th v = s.th v := (Accounts.charge ..).th v

/-! ### A block that has arrived whole -/

/-- A 64 B block that has been asked for is not asked for again.  The functions that lead to an address's place are variables in
the proof: the kernel would evaluate them. -/
theorem State.ctxAsk_skip (u : State) (v : Thread) (x : CtxRun) {b : Nat} (bs : List Nat) (asked : b ∈ x.asked) :
    u.ctxAsk v x (b :: bs) = u.ctxAsk v x bs := by
  delta State.ctxAsk
  obtain ⟨f, ef⟩ : ∃ f, State.ctxAsk._f v = f := ⟨_, rfl⟩
  have skip : ∀ below, f (b :: bs) below u x = below.1 u x := by
    intro below
    rw [← ef]
    delta State.ctxAsk._f
    obtain ⟨window, ew⟩ : ∃ f, @State.window = f := ⟨_, rfl⟩
    obtain ⟨readBlock, er⟩ : ∃ f, @State.readBlock = f := ⟨_, rfl⟩
    rw [ew, er]
    dsimp only
    rw [if_pos (List.contains_iff_mem.2 asked)]
  rw [ef]
  exact skip _

theorem State.ctxAsk_asked (u : State) (v : Thread) (x : CtxRun) {bs : List Nat} (all : ∀ b ∈ bs, b ∈ x.asked) :
    u.ctxAsk v x bs = (u, x) := by
  induction bs with
  | nil => rfl
  | cons b bs ih =>
    rw [State.ctxAsk_skip u v x bs (all b List.mem_cons_self)]
    exact ih fun c hc => all c (List.mem_cons_of_mem _ hc)

section
variable {s : State} {t : Thread} {r : CtxRun} (wait : (s.th t).wait = .ctx r) (load : r.save = false)
include wait load

/-- An event that abandons a TRSTR. -/
theorem handlerEntry_restoring {e : Event} (next : s.boundaryEv t = some e) (may : s.mayEnter t = true) :
    ∃ u, exec (.handlerEntry t) s = .next u ∧ (r.checked = true → TileEmptied u) ∧
      (r.checked = false → u.tile = { s.tile with trap := u.tile.trap } ∧ (e.cause ≠ 0x0C → u.tile.trap = s.tile.trap)) := by
  have run : exec (.handlerEntry t) s = execHandlerEntry t s := rfl
  have wipes : (s.th t).wipes = r.checked := by simp [HThread.wipes, wait, load]
  have left := s.orphan_tile t
  rw [wipes] at left
  rw [execHandlerEntry, next] at run
  dsimp only at run
  rw [due, if_pos may] at run
  obtain ⟨v, ev⟩ : ∃ v, (s.abandon t).setTh t { (s.abandon t).th t with sleep := .awake } = v := ⟨_, rfl⟩
  have tile : v.tile = (s.orphan t).tile := by rw [← ev]; rfl
  rw [ev] at run
  have latch := v.enter_tile t e
  refine ⟨_, run, fun checked => ?_, fun early => ?_⟩
  · rw [if_pos checked] at left
    rw [left] at tile
    refine (TileEmptied.of_latch (s.wipeTile_emptied t) e (u := v) (.inl tile)).of_latch e latch
  · rw [if_neg (by rw [early]; exact Bool.false_ne_true)] at left
    rw [tile, left] at latch
    rcases latch with same | same
    · exact ⟨by rw [State.tile_sealed, same], fun _ => by rw [State.tile_sealed, same]⟩
    · rw [State.tile_sealed, same, latchTile]
      split
      · next own => exact ⟨rfl, fun other => absurd own other⟩
      · exact ⟨rfl, fun _ => rfl⟩

theorem exec_trstrBlock : exec (.trstrBlock t) s = due s (s.ctxDue t) ((restoreStep s t r).finish s t 2) := by
  have run : exec (.trstrBlock t) s = execTrstrBlock t s := rfl
  rw [run, execTrstrBlock, wait]
  simp only [load, Bool.not_false, Bool.true_and]

/-- A page that has no translation stops the TRSTR. -/
theorem trstrBlock_faults (on : s.ctxDue t = true) (out : r.phys ((r.base.toNat + 512 * r.done) % 2 ^ 64) = none)
    (high : 2 ^ 57 ≤ (r.base.toNat + 512 * r.done) % 2 ^ 64) :
    ∃ u v, exec (.trstrBlock t) s = .next u ∧
      u = s.sealed (v.trap t 0x06 (BitVec.ofNat 64 ((r.base.toNat + 512 * r.done) % 2 ^ 64)) 1) ∧ v.th t = s.th t ∧
      (r.checked = true → TileEmptied u) ∧ (r.checked = false → v = s ∧ u.tile = s.tile) := by
  have run := exec_trstrBlock wait load
  have small : (r.base.toNat + 512 * r.done) % 2 ^ 64 < 2 ^ 64 := Nat.mod_lt _ (by decide)
  rw [due, if_pos on, restoreStep] at run
  generalize (r.base.toNat + 512 * r.done) % 2 ^ 64 = a at *
  have fault : s.translate (BitVec.ofNat 64 a) (s.th t).pl true false (.thread t) = (s, .fault 1 0 none) := by
    unfold State.translate
    dsimp only
    rw [BitVec.toNat_ofNat, Nat.mod_eq_of_lt small, if_pos high]
  rw [out, fault] at run
  have run : exec (.trstrBlock t) s = .next (s.sealed ((s.wiped t r).trap t 0x06 (BitVec.ofNat 64 a) 1)) := run
  have tile := (s.wiped t r).trap_tile t (c := 0x06) (by decide) (BitVec.ofNat 64 a) 1
  refine ⟨_, s.wiped t r, run, rfl, ?_, fun checked => ?_, fun early => ?_⟩
  · unfold State.wiped
    split
    · exact State.wipeTile_th ..
    · rfl
  · rw [State.wiped, if_pos checked] at tile ⊢
    exact (s.wipeTile_emptied t).of_latch (syncEv 0 0 0) (.inl tile)
  · have none : ¬ r.checked = true := by rw [early]; exact Bool.false_ne_true
    rw [State.wiped, if_neg none] at tile ⊢
    exact ⟨rfl, tile⟩


/-- A transfer with its block moved. -/
def CtxRun.moved (r : CtxRun) (d : List Byte) (ps : List Nat) (n : Nat) : CtxRun :=
  { r with image := (r.image ++ d).take n, pois := r.pois ++ ps, done := r.done + 1, asked := [], got := [] }

/-- The block then moves. -/
theorem trstrBlock_moves {x : Nat × Nat} {d : List Byte} {ps : List Nat} {n : Nat} (on : s.ctxDue t = true) (len : r.len = n)
    (page : r.phys ((r.base.toNat + 512 * r.done) % 2 ^ 64) = some x) (asked : ∀ b ∈ blocks64 r.done n, b ∈ r.asked)
    (block : r.blockOf (blocks64 r.done n) = some (d, ps)) :
    exec (.trstrBlock t) s = .next (s.sealed ((restoreMoved s t (r.moved d ps n)).finish s t 2)) := by
  have run := exec_trstrBlock wait load
  rw [due, if_pos on, restoreStep] at run
  rw [page] at run
  simp only [restoreMove, len, State.ctxAsk_asked s t r asked, block] at run
  exact run

end

/-- A header that fails a check. -/
theorem restoreMoved_bad {x : CtxRun} {c : Nat} (done : x.done = 4) (code : headerCode x.image x.pois = c) (bad : c ≠ 0) :
    restoreMoved s t x = .trap s 0x0D x.base (BitVec.ofNat 64 c) := by
  unfold restoreMoved
  simp only [done, if_true, code]
  rw [if_pos bad]

/-- A good header before the last block. -/
theorem restoreMoved_header {x : CtxRun} (done : x.done = 4) (code : headerCode x.image x.pois = 0)
    (more : 4 < blocksOf512 (hdrLen x.image)) :
    restoreMoved s t x = s.ctxWait t { x with checked := true, total := blocksOf512 (hdrLen x.image) } := by
  unfold restoreMoved
  simp only [done, if_true, code, ne_eq, not_true_eq_false, if_false, more]

/-- The last block, behind the header's. -/
theorem restoreMoved_last {x : CtxRun} (done : x.done ≠ 4) (last : x.total = x.done) :
    restoreMoved s t x = if (List.range (hdrE x.image)).all fun k => recordOk (recordAt x.image k) (s.th t).pl then
      .done (s.restore t x.image x.pois) .nothing else .trap s 0x0D x.base 5 := by
  unfold restoreMoved
  simp only [if_neg done, last, Nat.lt_irrefl, if_false, ne_eq, not_true_eq_false]
  cases (List.range (hdrE x.image)).all fun k => recordOk (recordAt x.image k) (s.th t).pl <;> rfl

end

/-! ### The checks of a header in the statement's terms (R194) -/

section
variable (im : List Byte)

/-- The conditions of R194 on a header, in the order of its checks. -/
def HdrMagic : Prop := wbits (word64At im 0) 47 0 = 0x0001_7C74_0740
def HdrCrc : Prop := (crc32c (im.take 0x7FC)).toNat = ofBytes ((im.drop 0x7FC).take 4)
def HdrZeros : Prop :=
  (∀ i, i < 256 → word64At im (8 * i) &&& ~~~ BitVec.ofNat 64 (hdrMask (hdrSlots im) (8 * i)) = 0) ∧
    ∀ i, i < 48 ∧ wbit (word64At im 0x010) i = true → wbits (word64At im (0x100 + 32 * i)) 15 13 ∈ [0, 1, 2, 4]
def HdrQueue : Prop :=
  (wbit (word64At im 0x018) 6 = true ↔ 0 < wbits (word64At im 0x018) 5 0) ∧ wbits (word64At im 0x018) 5 0 ≤ 32 ∧
    wbit (word64At im 0x020) 63 = wbit (word64At im 0x018) 6 ∧ (wbit (word64At im 0x018) 6 = false → word64At im 0x028 = 0)

variable {im}

theorem hdrMagic_iff : imgWord im 0 % 2 ^ 48 = 0x7C74_0740 + 2 ^ 32 ↔ HdrMagic im := by
  have field : wbits (word64At im 0) 47 0 = imgWord im 0 % 2 ^ 48 := by rw [wbits, bits, Nat.pow_zero, Nat.div_one]; rfl
  rw [HdrMagic, field]
  norm_num

theorem subMask_iff (o m : Nat) : subMask (imgWord im o) m = true ↔ word64At im o &&& ~~~ BitVec.ofNat 64 m = 0 := by
  rw [subMask, decide_eq_true_eq, imgWord, BitVec.ofNat_toNat, BitVec.setWidth_eq]

theorem nbit_hdrSlots {i : Nat} (hi : i < 48) : nbit (hdrSlots im) i = wbit (word64At im 0x010) i := by
  rw [wbit, nbit_eq_testBit, nbit_eq_testBit, hdrSlots, Nat.testBit_mod_two_pow, decide_eq_true hi, Bool.true_and, imgWord]

theorem hdrZeros_iff : (((List.range 256).all fun i => subMask (imgWord im (8 * i)) (hdrMask (hdrSlots im) (8 * i))) = true ∧
    foldsOk im (hdrSlots im) = true) ↔ HdrZeros im := by
  refine and_congr ?_ ?_
  · rw [List.all_eq_true]
    exact ⟨fun h i hi => (subMask_iff ..).1 (h i (List.mem_range.2 hi)), fun h i hi => (subMask_iff ..).2 (h i (List.mem_range.1 hi))⟩
  · rw [foldsOk, List.all_eq_true]
    refine forall_congr' fun i => ?_
    rw [List.mem_range]
    by_cases hi : i < 48
    · have field : bits (imgWord im (0x100 + 32 * i)) 15 13 = wbits (word64At im (0x100 + 32 * i)) 15 13 := rfl
      simp only [hi, true_and, forall_const, nbit_hdrSlots hi, field]
      cases wbit (word64At im 0x010) i <;> simp [or_assoc]
    · simp [hi]

theorem hdrQueue_iff : HdrQueue im ↔ ¬ (hdrFrozen im ≠ decide (0 < hdrE im) ∨ 32 < hdrE im ∨
    nbit (imgWord im 0x020) 63 ≠ hdrFrozen im ∨ (!hdrFrozen im ∧ imgWord im 0x028 ≠ 0)) := by
  have entries : wbits (word64At im 0x018) 5 0 = hdrE im := by rw [wbits, bits, Nat.pow_zero, Nat.div_one]; rfl
  have zero : word64At im 0x028 = 0 ↔ imgWord im 0x028 = 0 := by
    rw [imgWord, ← BitVec.toNat_inj]
    rfl
  have frozen : wbit (word64At im 0x018) 6 = hdrFrozen im := rfl
  have mark : wbit (word64At im 0x020) 63 = nbit (imgWord im 0x020) 63 := rfl
  rw [HdrQueue, entries, zero, frozen, mark]
  cases hdrFrozen im <;> simp [Nat.pos_iff_ne_zero]

/-- The header's code is the first check's that fails. -/
theorem headerCode_eq (im : List Byte) :
    (¬ HdrMagic im → headerCode im [] = 1) ∧ (HdrMagic im → ¬ HdrCrc im → headerCode im [] = 2) ∧
    (HdrMagic im → HdrCrc im → ¬ HdrZeros im → headerCode im [] = 3) ∧
    (HdrMagic im → HdrCrc im → HdrZeros im → ¬ HdrQueue im → headerCode im [] = 4) ∧
    (HdrMagic im → HdrCrc im → HdrZeros im → HdrQueue im → headerCode im [] = 0) := by
  have code : headerCode im [] =
      if imgWord im 0 % 2 ^ 48 ≠ 0x7C74_0740 + 2 ^ 32 then 1
      else if (crc32c (im.take 0x7FC)).toNat ≠ ofBytes ((im.drop 0x7FC).take 4) then 2
      else if (!((List.range 256).all fun i => subMask (imgWord im (8 * i)) (hdrMask (hdrSlots im) (8 * i))) ||
        !foldsOk im (hdrSlots im)) = true then 3
      else if hdrFrozen im ≠ decide (0 < hdrE im) ∨ 32 < hdrE im ∨ nbit (imgWord im 0x020) 63 ≠ hdrFrozen im
        ∨ (!hdrFrozen im ∧ imgWord im 0x028 ≠ 0) then 4
      else 0 := by
    rw [headerCode, List.any_nil, if_neg Bool.false_ne_true]
  have zeros : (!((List.range 256).all fun i => subMask (imgWord im (8 * i)) (hdrMask (hdrSlots im) (8 * i))) ||
      !foldsOk im (hdrSlots im)) = true ↔ ¬ HdrZeros im := by
    rw [← hdrZeros_iff, ← Bool.and_eq_true, ← Bool.not_and, Bool.not_eq_true', Bool.not_eq_true]
  have crc : (crc32c (im.take 0x7FC)).toNat ≠ ofBytes ((im.drop 0x7FC).take 4) ↔ ¬ HdrCrc im := Iff.rfl
  have queue := not_congr (hdrQueue_iff (im := im))
  rw [not_not] at queue
  rw [code]
  refine ⟨fun m => ?_, fun m c => ?_, fun m c z => ?_, fun m c z q => ?_, fun m c z q => ?_⟩
  · rw [if_pos (mt hdrMagic_iff.1 m)]
  all_goals rw [if_neg (not_not.2 (hdrMagic_iff.2 m))]
  · rw [if_pos (crc.2 c)]
  all_goals rw [if_neg (mt crc.1 (not_not.2 c))]
  · rw [if_pos (zeros.2 z)]
  all_goals rw [if_neg (mt zeros.1 (not_not.2 z))]
  · rw [if_pos (queue.1 q)]
  · rw [if_neg (mt queue.2 (not_not.2 q))]

end

/-! ### The whole image read -/

section
variable {a d : List Byte} {n : Nat} (header : 2048 ≤ a.length) (whole : 2048 ≤ n)
include header whole

/-- The header of an image that has been read is that of its first part. -/
theorem imgWord_start {o : Nat} (inside : o + 8 ≤ 2048) : imgWord ((a ++ d).take n) o = imgWord a o := by
  rw [imgWord, imgWord, word64At, word64At, List.drop_take, List.take_take, Nat.min_eq_left (by omega),
    List.drop_append_of_le_length (by omega), List.take_append_of_le_length (by rw [List.length_drop]; omega)]

theorem hdrLen_start : hdrLen ((a ++ d).take n) = hdrLen a := by
  simp only [hdrLen, hdrNt, hdrNs, hdrE, hdrTrays, hdrSlots]
  rw [imgWord_start header whole (o := 0x008) (by decide), imgWord_start header whole (o := 0x010) (by decide),
    imgWord_start header whole (o := 0x018) (by decide)]

end

theorem le_hdrLen (im : List Byte) : 2048 ≤ hdrLen im := by
  rw [hdrLen, imageSize]
  omega

theorem popBelow_mono {m i n : Nat} (hi : i < n) (set : nbit m i = true) : popBelow i m + 1 ≤ popBelow n m := by
  induction n with
  | zero => exact absurd hi (Nat.not_lt_zero i)
  | succ n ih =>
    rw [popBelow]
    rcases Nat.lt_succ_iff_lt_or_eq.1 hi with lt | rfl
    · exact (ih lt).trans (Nat.le_add_right ..)
    · rw [set]
      exact Nat.le_refl _

/-- Settles O29. -/
theorem contextRestoreBlock : Obligations.ContextRestoreBlock := by
  intro s t r d x wait load emptied at512
  have exec := exec_trstrBlock wait load
  refine ⟨fun early => ?_, fun e next may => handlerEntry_restoring wait load next may,
    fun on out high => trstrBlock_faults wait load on out high, fun ps on early done page asked block => ?_, fun im len => headerCode_eq im,
    fun on checked done last page asked block clean header whole => ?_⟩
  · rw [exec, due, if_neg (Bool.eq_false_iff.1 early)]
  · have len : r.len = 2048 := by rw [CtxRun.len, early]; rfl
    have four : (r.moved d ps 2048).done = 4 := congrArg Nat.succ done
    have run := trstrBlock_moves wait load on len page (done ▸ asked) (done ▸ block)
    intro im c
    refine ⟨fun bad => ?_, fun good more => ?_⟩
    · rw [restoreMoved_bad s t four (c := c) rfl bad] at run
      exact ⟨_, run, rfl, s.trap_tile t (by decide) ..⟩
    · have goes := restoreMoved_header s t (x := r.moved d ps 2048) four good more
      obtain ⟨others, own⟩ := State.ctxWait_threads (s := s) (v := s) (t := t) rfl
        { r.moved d ps 2048 with checked := true, total := blocksOf512 (hdrLen im) }
      rw [goes] at run
      refine ⟨_, run, others, rfl, own.trans ?_⟩
      rw [← four]
      rfl
  · have len : r.len = hdrLen r.image := by rw [CtxRun.len, checked]; rfl
    have run := trstrBlock_moves wait load on len page asked block
    rw [restoreMoved_last s t (x := r.moved d [] (hdrLen r.image)) (fun e => done (Nat.succ.inj e)) last] at run
    have unmarked : (r.moved d [] (hdrLen r.image)).pois = [] := by rw [CtxRun.moved, clean]; rfl
    rw [unmarked] at run
    intro im
    have run : Machine.exec (.trstrBlock t) s = .next (s.sealed ((if (List.range (hdrE im)).all fun k =>
        recordOk (recordAt im k) (s.th t).pl then .done (s.restore t im []) .nothing else .trap s 0x0D r.base 5 : Ends).finish s t 2)) := run
    have imLen : im.length = hdrLen im := by
      rw [hdrLen_start header (le_hdrLen _), List.length_take, Nat.min_eq_left whole]
    refine ⟨fun ⟨k, inside, bad⟩ => ?_, fun good => ?_⟩
    · have some : ((List.range (hdrE im)).all fun k => recordOk (recordAt im k) (s.th t).pl) ≠ true := fun all =>
        absurd (List.all_eq_true.1 all k (List.mem_range.2 inside)) (by rw [bad]; exact Bool.false_ne_true)
      rw [if_neg some] at run
      exact ⟨_, run, rfl, s.trap_tile t (by decide) ..⟩
    · have all : ((List.range (hdrE im)).all fun k => recordOk (recordAt im k) (s.th t).pl) = true :=
        List.all_eq_true.2 fun k hk => good k (List.mem_range.1 hk)
      rw [if_pos all] at run
      obtain ⟨rest, trays, slots, queue, frozen, trap, tprog, fault, owner⟩ := s.restore_restored t im
      obtain ⟨others, own, ls, tile⟩ := State.complete_threads (t := t) rest.thr 2
      have ls : _ = s.ls := ls.trans rest.ls
      have run : Machine.exec (.trstrBlock t) s = .next (s.sealed ((s.restore t im []).complete t 2)) := run
      rw [← tile] at trays slots queue frozen trap tprog fault owner
      refine ⟨_, run, own, others, ls, tprog, fault, frozen, trap, owner, ?_, fun T => ?_, fun i => ?_⟩
      · refine (congrArg List.length queue).trans ?_
        rw [State.restored, List.length_map, List.length_range]
      · obtain ⟨tray, used, unused⟩ := trays T
        refine ⟨congrArg Tray.rows tray, congrArg Tray.bytes tray, congrArg Tray.inuse tray, fun set => ⟨?_, ?_⟩, fun set => ⟨?_, ?_⟩⟩
        · exact (congrArg Tray.marks tray).trans (if_pos set)
        · have more := popBelow_mono T.isLt set
          refine (trays T).stored set ?_
          rw [imLen, hdrLen, imageSize, hdrNt]
          omega
        · exact (congrArg Tray.marks tray).trans (if_neg (by rw [set]; exact Bool.false_ne_true))
        · exact unused set
      · obtain ⟨used, unused⟩ := slots i
        cases set : nbit (hdrSlots im) i.val
        · exact ⟨unused set, fun h => nomatch h⟩
        · obtain ⟨slot, elems⟩ := used set
          refine ⟨congrArg Slot.inuse slot, fun _ k hk => (elems k hk).trans ?_⟩
          rw [← slot]
          rfl

end Sys2Proof.Machine
end

section
namespace Sys2Proof.Machine
open Sys2Proof

/-! ## The memory path leaves the tile unit as it is (R94) -/

/-- A state whose tile unit is `T`: each function of the memory path keeps it. -/
structure HasTile (T : Tile) (s : State) : Prop where
  tile : s.tile = T

/-- The same of a state that a search may find, with a value. -/
structure OptHasTile {α : Type} (T : Tile) (o : Option (State × α)) : Prop where
  get : ∀ {u a}, o = some (u, a) → HasTile T u

variable {T : Tile} {s : State}

theorem OptHasTile.none {α : Type} : OptHasTile (α := α) T none := ⟨nofun⟩
theorem OptHasTile.some {α : Type} {a : α} (h : HasTile T s) : OptHasTile T (some (s, a)) := ⟨fun e => by cases e; exact h⟩
theorem HasTile.pair {α : Type} {a : α} (h : HasTile T s) : HasTile T (s, a).1 := h
theorem HasTile.of_fst {α : Type} {x : State × α} {u : State} {a : α} (h : HasTile T x.1) (e : x = (u, a)) : HasTile T u := by
  subst e; exact h

theorem HasTile.foldl {α : Type} {f : State → α → State} (keeps : ∀ u x, HasTile T u → HasTile T (f u x)) (l : List α)
    (h : HasTile T s) : HasTile T (l.foldl f s) := foldl_kept (HasTile T) keeps l h

theorem HasTile.bump (h : HasTile T s) (p k n who) : HasTile T (s.bump p k n who) := ⟨(State.bump_tile ..).trans h.tile⟩
theorem HasTile.charge (h : HasTile T s) (c n who) : HasTile T (s.charge c n who) := ⟨(State.charge_tile ..).trans h.tile⟩
theorem HasTile.record (h : HasTile T s) (p addr info fatal who) : HasTile T (s.record p addr info fatal who) :=
  ⟨(State.record_tile ..).trans h.tile⟩
theorem HasTile.mcheck (h : HasTile T s) (p who) : HasTile T (s.mcheck p who) := ⟨(State.mcheck_tile ..).trans h.tile⟩
theorem HasTile.event (h : HasTile T s) (p i) : HasTile T (s.event p i) := { h with }
theorem HasTile.setReq (h : HasTile T s) (i e) : HasTile T (s.setReq i e) := { h with }
theorem HasTile.request (h : HasTile T s) (reserved e) : OptHasTile T (s.request reserved e) :=
  ⟨fun asked => ⟨(State.request_tile asked).trans h.tile⟩⟩
theorem HasTile.lstError (h : HasTile T s) (kind addr way half nsym src mc) :
    HasTile T (s.lstError kind addr way half nsym src mc) := ⟨(State.lstError_tile ..).trans h.tile⟩
theorem HasTile.shelfRead (h : HasTile T s) (src o n) : HasTile T (s.shelfRead src o n).1 :=
  ⟨(State.shelfRead_tile ..).trans h.tile⟩
theorem HasTile.shelfMerge (h : HasTile T s) (src o ms) : HasTile T (s.shelfMerge src o ms) :=
  ⟨(State.shelfMerge_tile ..).trans h.tile⟩

theorem HasTile.ldlError (h : HasTile T s) (kind addr src) : HasTile T (s.ldlError kind addr src) := by
  unfold State.ldlError
  exact (h.record ..).mcheck ..

theorem HasTile.crockRefused (h : HasTile T s) (o src) : HasTile T (s.crockRefused o src) := by
  unfold State.crockRefused
  exact (h.record ..).event ..

/-! ### The L1D and the shelf -/

theorem HasTile.lsCharge (h : HasTile T s) (cls src) : HasTile T (s.lsCharge cls src) := by
  unfold State.lsCharge
  split
  · exact h
  · exact h.charge ..

theorem HasTile.l1Drop (h : HasTile T s) (blk) : HasTile T (s.l1Drop blk) := by
  unfold State.l1Drop
  split
  · exact h
  · exact { h with }

theorem HasTile.l1DropLine (h : HasTile T s) (line) : HasTile T (s.l1DropLine line) := (h.l1Drop ..).l1Drop ..

theorem HasTile.l1DropUsed (h : HasTile T s) (line ms) : HasTile T (s.l1DropUsed line ms) := by
  unfold State.l1DropUsed
  extract_lets s1
  have h1 : HasTile T s1 := by
    unfold s1
    split
    · exact h.l1Drop ..
    · exact h
  split
  · exact h1.l1Drop ..
  · exact h1

theorem HasTile.shelfL1Drop (h : HasTile T s) (o n) : HasTile T (s.shelfL1Drop o n) := by
  unfold State.shelfL1Drop
  exact HasTile.foldl (fun u x hu => hu.l1Drop ..) _ h

theorem HasTile.shelfPoison (h : HasTile T s) (o n) : HasTile T (s.shelfPoison o n) := { h with }

theorem HasTile.shelfRefused (h : HasTile T s) (o src mc) : HasTile T (s.shelfRefused o src mc) := h.lstError ..

theorem HasTile.writeShelf (h : HasTile T s) (o ms pois src keepL1) : HasTile T (s.writeShelf o ms pois src keepL1) := by
  unfold State.writeShelf
  split
  · exact h.shelfRefused ..
  · extract_lets s1 s2 s3 s4
    have h1 : HasTile T s1 := (h.shelfMerge ..).lsCharge ..
    have h2 : HasTile T s2 := by
      unfold s2
      split
      · exact h1
      · split
        · exact h1.shelfL1Drop ..
        · exact h1
    have h3 : HasTile T s3 := by
      unfold s3
      split
      · exact h2
      · split
        · exact h2.shelfL1Drop ..
        · exact h2
    have h4 : HasTile T s4 := by
      unfold s4
      split
      · exact h3.shelfPoison ..
      · exact h3
    split
    · exact h4.shelfPoison ..
    · exact h4

/-! ### The local store's lines -/

theorem HasTile.lsTouch (h : HasTile T s) (line w) : HasTile T (s.lsTouch line w) := { h with }
theorem HasTile.lsPut (h : HasTile T s) (line w l) : HasTile T (s.lsPut line w l) := { h with }

theorem HasTile.lsDrop (h : HasTile T s) (line w) : HasTile T (s.lsDrop line w) := by
  unfold State.lsDrop
  refine HasTile.l1DropLine ?_ ..
  exact { h with }

theorem HasTile.lsHalf (h : HasTile T s) (line w src half) : HasTile T (s.lsHalf line w src half).1 := by
  unfold State.lsHalf
  split
  · exact .pair h
  · extract_lets
    split
    · exact .pair h
    · split
      · exact .pair ((h.lsPut ..).lstError ..)
      · split
        · exact .pair ((h.lsPut ..).lstError ..)
        · exact .pair ((h.lsDrop ..).lstError ..)

theorem HasTile.lsTag (h : HasTile T s) (line w src) : HasTile T (s.lsTag line w src) := by
  unfold State.lsTag
  split
  · exact h
  · split
    · exact (h.lsDrop ..).lstError ..
    · split
      · exact (h.lsPut ..).lstError ..
      · exact h

theorem HasTile.lsCheck (h : HasTile T s) (line w src) : HasTile T (s.lsCheck line w src).1 := by
  have first := ((h.lsTag line w src).lsHalf line w src 0)
  unfold State.lsCheck
  split
  · next e =>
    split
    · exact first.of_fst e
    · exact (first.of_fst e).lsHalf ..

theorem HasTile.lsClean (h : HasTile T s) (line w src evict) : OptHasTile T (s.lsClean line w src evict) := by
  unfold State.lsClean
  extract_lets s0 s1
  have h0 : HasTile T s0 := h.lsTag ..
  have h1 : HasTile T s1 := h0.lsCheck ..
  split
  · split
    · exact .some h1
    · split
      · exact .none
      · next e => exact .some (((((h1.request ..).get e).lsPut ..).bump ..).charge ..)
  · exact .some h0

theorem HasTile.cleaned (h : HasTile T s) (line src) : OptHasTile T (s.cleaned line src) := by
  unfold State.cleaned
  split
  · exact .none
  · split
    · exact .some h
    · exact h.lsClean ..

theorem HasTile.lsRoom (h : HasTile T s) (line src) : OptHasTile T (s.lsRoom line src) := by
  unfold State.lsRoom
  extract_lets ok
  split
  · exact .some h
  · split
    · exact .none
    · split
      · exact .some h
      · split
        · exact .none
        · next e => exact .some (((h.lsClean ..).get e).lsDrop ..)

theorem HasTile.lsInstall (h : HasTile T s) (line w data pois errs src) : HasTile T (s.lsInstall line w data pois errs src) := by
  unfold State.lsInstall
  exact ((h.lsPut ..).lsTouch ..).charge ..

theorem HasTile.lsPart (h : HasTile T s) (line w ms src) : HasTile T (s.lsPart line w ms src) := by
  unfold State.lsPart
  extract_lets part s1
  have h1 : HasTile T s1 := by
    unfold s1
    split
    · exact h.lsHalf ..
    · exact h
  split
  · exact h1.lsHalf ..
  · exact h1

/-! ### Fills -/

theorem HasTile.sideRemove (h : HasTile T s) (line) : HasTile T (s.sideRemove line) := { h with }

theorem HasTile.sideKill (h : HasTile T s) (line src) : HasTile T (s.sideKill line src) := by
  unfold State.sideKill
  split
  · exact h
  · extract_lets
    refine HasTile.bump ?_ ..
    exact { h with }

theorem HasTile.newFill (h : HasTile T s) (line src k again) : HasTile T (s.newFill line src k again).1 := by
  unfold State.newFill
  split
  · exact .pair h
  · next e =>
    split
    · exact .pair ((h.lsRoom ..).get e)
    · next e1 => exact .pair ((((h.lsRoom ..).get e).request ..).get e1)

theorem HasTile.corrected (h : HasTile T s) (addr way errs src) : HasTile T (s.corrected addr way errs src) := by
  unfold State.corrected
  extract_lets fixed s1
  have h1 : HasTile T s1 := by
    unfold s1
    split
    · exact h.lstError ..
    · exact h
  split
  · exact h1.lstError ..
  · exact h1

theorem HasTile.lsMiss (h : HasTile T s) (line src k again) : HasTile T (s.lsMiss line src k again).1 := by
  unfold State.lsMiss
  split
  · exact .pair (h.setReq ..)
  · split
    · split
      · split
        · extract_lets
          exact (((h.sideRemove ..).bump ..).lstError ..).newFill ..
        · split
          · exact .pair h
          · next e1 => exact .pair ((((((h.lsRoom ..).get e1).sideRemove ..).corrected ..).lsInstall ..).bump ..)
      · split
        · exact .pair (((h.sideRemove ..).setReq ..).bump ..)
        · exact h.newFill ..
    · exact h.newFill ..

theorem HasTile.lsMissed (h : HasTile T s) (line src k again) : HasTile T (s.lsMissed line src k again).1 := by
  unfold State.lsMissed
  extract_lets r
  have hr : HasTile T r.1 := h.lsMiss ..
  split
  · exact hr
  · exact .pair (hr.bump ..)

theorem HasTile.lsDemand (h : HasTile T s) (line src k rd) : HasTile T (s.lsDemand line src k rd).1 := by
  unfold State.lsDemand
  split
  · exact .pair h
  · split
    · exact h.lsMissed ..
    · split
      · next e =>
        have h1 := (h.lsCheck ..).of_fst e
        split
        · extract_lets s2
          have h2 : HasTile T s2 := h1.lsTouch ..
          split
          · exact .pair (h2.lsCharge ..)
          · exact .pair h2
        · exact h1.lsMissed ..

theorem HasTile.lsRead (h : HasTile T s) (line src k) : HasTile T (s.lsRead line src k).1 := h.lsDemand ..

/-! ### Writes to a line -/

theorem HasTile.sendWrite (h : HasTile T s) (reserved e after) : HasTile T (s.sendWrite reserved e after).1 := by
  unfold State.sendWrite
  split
  · exact .pair h
  · next e1 => exact .pair ((h.request ..).get e1)

theorem HasTile.throughMiss (h : HasTile T s) (e src) : HasTile T (s.throughMiss e src).1 := by
  unfold State.throughMiss
  split
  · next e1 => exact .pair (((h.sendWrite ..).of_fst e1).bump ..)
  · exact h.sendWrite ..

theorem HasTile.refetch (h : HasTile T s) (line src k) : HasTile T (s.refetch line src k).1 := by
  unfold State.refetch
  split
  · next e => exact .pair ((h.lsMissed ..).of_fst e)
  · exact .pair h

theorem HasTile.writeThrough (h : HasTile T s) (line ms pois src k) : HasTile T (s.writeThrough line ms pois src k).1 := by
  unfold State.writeThrough
  extract_lets
  split
  · exact h.throughMiss ..
  · split
    · exact .pair h
    · next e1 =>
      extract_lets s2
      have h2 : HasTile T s2 := ((h.lsClean ..).get e1).lsPart ..
      split
      · split
        · exact .pair h
        · split
          · exact h2.refetch ..
          · exact h2.sendWrite ..
      · split
        · exact .pair h
        · next e2 => exact .pair (((((h2.sendWrite ..).of_fst e2).lsPut ..).lsTouch ..).lsCharge ..)

theorem HasTile.writeBack (h : HasTile T s) (line ms pois src k) : HasTile T (s.writeBack line ms pois src k).1 := by
  unfold State.writeBack
  split
  · next e => exact .pair ((h.lsDemand ..).of_fst e)
  · exact .pair h
  · next e =>
    have h1 := (h.lsDemand ..).of_fst e
    split
    · exact .pair h1
    · split
      · exact .pair h1
      · exact .pair ((h1.lsPut ..).lsCharge ..)

theorem HasTile.writeUncached (h : HasTile T s) (line ms pois src) : HasTile T (s.writeUncached line ms pois src).1 := by
  unfold State.writeUncached
  split
  · exact .pair h
  · next e =>
    split
    · exact .pair h
    · exact ((h.cleaned ..).get e).sendWrite ..

/-- A TST's line.  The function that finds an address's window is a variable in the proof: the kernel would evaluate it. -/
theorem HasTile.storeLine (h : HasTile T s) (line ms pol pois src k scalar) :
    HasTile T (s.storeLine line ms pol pois src k scalar).1 := by
  generalize ef : @State.storeLine = f
  delta State.storeLine at ef
  obtain ⟨window, ewindow⟩ : ∃ f, @State.window = f := ⟨_, rfl⟩
  rw [ewindow] at ef
  subst ef
  beta_reduce
  split
  · exact .pair (h.writeShelf ..)
  · exact .pair (h.ldlError ..)
  · extract_lets s1
    have h1 : HasTile T s1 := h.crockRefused ..
    split
    · exact .pair (h1.ldlError ..)
    · exact .pair (h1.mcheck ..)
  · split
    · exact .pair h
    · extract_lets s0
      have h0 : HasTile T s0 := by
        unfold s0
        split
        · exact h
        · exact h.l1DropUsed ..
      split
      · refine HasTile.writeUncached ?_ ..
        split
        · exact h0
        · exact h0.sideKill ..
      · split
        · refine HasTile.writeBack ?_ ..
          split
          · exact h0
          · exact h0.sideKill ..
        · split
          · exact .pair h
          · exact (h0.sideKill ..).writeThrough ..

/-! ### Reads of a line -/

theorem HasTile.askUncached (h : HasTile T s) (dev src after rs) {u : State} (asked : s.askUncached dev src after rs = some u) :
    HasTile T u := by
  induction rs generalizing s with
  | nil => cases asked; exact h
  | cons r rs ih =>
    unfold State.askUncached at asked
    split at asked
    · cases asked
    · next e => exact ih ((h.request ..).get e) asked

theorem HasTile.readPast (h : HasTile T s) (line dev src rs) {u : State} (asked : s.readPast line dev src rs = some u) :
    HasTile T u := by
  unfold State.readPast at asked
  split at asked
  · cases asked
  · next e => exact ((h.cleaned ..).get e).askUncached _ _ _ _ asked

/-- A TLD's line. -/
theorem HasTile.readLine (h : HasTile T s) (line pol halves src k) : HasTile T (s.readLine line pol halves src k).1 := by
  generalize ef : @State.readLine = f
  delta State.readLine at ef
  obtain ⟨window, ewindow⟩ : ∃ f, @State.window = f := ⟨_, rfl⟩
  rw [ewindow] at ef
  subst ef
  beta_reduce
  split
  · split
    · exact .pair (h.shelfRefused ..)
    · split
      · next e => exact .pair (((h.lsCharge ..).shelfRead ..).of_fst e)
  · exact .pair (h.crockRefused ..)
  · exact .pair (h.record ..)
  · split
    · split
      · next e => exact .pair (h.readPast _ _ _ _ e)
      · exact .pair h
    · split
      · next e => exact .pair ((h.lsRead ..).of_fst e)
      · next e => exact .pair ((h.lsRead ..).of_fst e)
      · exact .pair h

end Sys2Proof.Machine
end

section
namespace Sys2Proof.Machine
open Sys2Proof

/-! ## The lines of a run (R94) -/

theorem firsts_map_fst (l : List (Nat × Nat)) :
    (firsts l).map (·.1) = (l.map (·.1)).foldl (fun l x => if l.contains x then l else l ++ [x]) [] := by
  induction l using List.reverseRecOn with
  | nil => rfl
  | append_singleton l x ih =>
    have seen : (x.1 ∈ (firsts l).map (·.1)) ↔ ∃ r, (x.1, r) ∈ firsts l := by simp
    rw [List.map_append, List.foldl_append, ← ih, List.map_singleton, List.foldl_cons, List.foldl_nil]
    by_cases old : ∃ r, (x.1, r) ∈ firsts l
    · rw [firsts_append_of_mem old, if_pos (List.contains_iff_mem.2 (seen.2 old))]
    · rw [firsts_append_of_not_mem old, if_neg fun c => old (seen.1 (List.contains_iff_mem.1 c)), List.map_append]
      rfl

/-- The lines of the rows below `stop`, row by row. -/
def MemRun.linePairs (m : MemRun) (stop : Nat) : List (Nat × Nat) :=
  (m.rows.filter (· < stop)).flatMap fun r => (m.rowLines r).map fun l => (l, r)

theorem MemRun.linesBelow_eq (m : MemRun) (stop : Nat) : m.linesBelow stop = (firsts (m.linePairs stop)).map (·.1) := by
  rw [firsts_map_fst, MemRun.linesBelow, MemRun.linePairs, List.map_flatMap]
  simp only [List.map_map, Function.comp_def, List.map_id']

theorem MemRun.mem_rows {m : MemRun} {r : Nat} : r ∈ m.rows ↔ m.row0 ≤ r ∧ r < m.rt := by
  simp only [MemRun.rows, List.mem_map, List.mem_range]
  exact ⟨fun ⟨k, hk, e⟩ => by omega, fun h => ⟨r - m.row0, by omega⟩⟩

theorem MemRun.rows_pairwise (m : MemRun) : m.rows.Pairwise (· < ·) :=
  List.pairwise_map.2 (List.pairwise_lt_range.imp fun less => Nat.add_lt_add_left less _)

/-- Lines come by row, and in a row the line of its first byte comes first. -/
theorem MemRun.linePairs_pairwise (m : MemRun) (stop : Nat) :
    (m.linePairs stop).Pairwise fun x y => x.2 < y.2 ∨ x.2 = y.2 ∧ x.1 = m.rowVa x.2 / 128 := by
  refine List.pairwise_flatMap.2 ⟨fun r _ => ?_, ?_⟩
  · have first : (m.rowLines r).Pairwise fun p _ => p = m.rowVa r / 128 := by
      simp only [MemRun.rowLines]
      split
      · exact List.pairwise_singleton ..
      · exact List.pairwise_pair.2 rfl
    exact List.pairwise_map.2 (first.imp fun e => .inr ⟨rfl, e⟩)
  · refine (m.rows_pairwise.filter _).imp fun less x hx y hy => ?_
    obtain ⟨p, -, rfl⟩ := List.mem_map.1 hx
    obtain ⟨q, -, rfl⟩ := List.mem_map.1 hy
    exact .inl less

section
variable {m : MemRun} (low : 1 ≤ m.bt) (high : m.bt ≤ 128)
include low high

/-- A row has bytes in the lines of its first and of its last byte. -/
theorem MemRun.mem_rowLines {r l : Nat} : l ∈ m.rowLines r ↔ m.touches 128 r l := by
  have ends : l ∈ m.rowLines r ↔ l = m.byteAt r 0 / 128 ∨ l = m.byteAt r (m.bt - 1) / 128 := by
    have first : m.byteAt r 0 = m.rowVa r := by
      rw [MemRun.byteAt_eq, Nat.add_zero, Nat.mod_eq_of_lt (m.rowVa_lt r)]
    rw [first, MemRun.byteAt_eq]
    simp only [MemRun.rowLines, MemRun.byteVa]
    grind
  rw [ends]
  constructor
  · rintro (rfl | rfl)
    · exact ⟨0, low, rfl⟩
    · exact ⟨m.bt - 1, by omega, rfl⟩
  · rintro ⟨i, hi, rfl⟩
    simp only [MemRun.byteAt_eq]
    have := m.rowVa_lt r
    omega

theorem MemRun.mem_linePairs {stop l r : Nat} :
    (l, r) ∈ m.linePairs stop ↔ m.row0 ≤ r ∧ r < m.rt ∧ r < stop ∧ m.touches 128 r l := by
  simp only [MemRun.linePairs, List.mem_flatMap, List.mem_map, Prod.mk.injEq, List.mem_filter, decide_eq_true_eq]
  rw [← MemRun.mem_rowLines low high]
  exact ⟨fun ⟨_, ⟨hr, below⟩, _, hl, e, e'⟩ => e ▸ e' ▸ ⟨(MemRun.mem_rows.1 hr).1, (MemRun.mem_rows.1 hr).2, below, hl⟩,
    fun ⟨h0, ht, below, hl⟩ => ⟨r, ⟨MemRun.mem_rows.2 ⟨h0, ht⟩, below⟩, l, hl, rfl, rfl⟩⟩

theorem MemRun.mem_linesBelow {stop l : Nat} :
    l ∈ m.linesBelow stop ↔ ∃ r, m.row0 ≤ r ∧ r < stop ∧ r < m.rt ∧ m.touches 128 r l := by
  rw [MemRun.linesBelow_eq, List.mem_map]
  constructor
  · rintro ⟨⟨l, r⟩, mem, rfl⟩
    obtain ⟨h0, ht, below, bytes⟩ := (MemRun.mem_linePairs low high).1 ((firsts_sublist _).subset mem)
    exact ⟨r, h0, below, ht, bytes⟩
  · rintro ⟨r, h0, below, ht, bytes⟩
    obtain ⟨k, mem⟩ := key_mem_firsts ((MemRun.mem_linePairs low high).2 ⟨h0, ht, below, bytes⟩)
    exact ⟨(l, k), mem, rfl⟩

/-- The lines of a run stand in the order of the bytes of its rows. -/
theorem MemRun.linesBelow_pairwise (stop : Nat) : (m.linesBelow stop).Pairwise (m.before 128) := by
  rw [MemRun.linesBelow_eq]
  refine List.pairwise_map.2 ?_
  have rows := m.linePairs_pairwise stop
  have order := ((rows.sublist (firsts_sublist _)).and (firsts_keys_ne _))
  have ascends : (m.linePairs stop).Pairwise fun x y => x.2 ≤ y.2 := rows.imp fun h => h.elim Nat.le_of_lt fun h => h.1.le
  refine order.imp_of_mem ?_
  rintro ⟨a, r⟩ ⟨b, k⟩ ha hb ⟨earlier, ne⟩
  simp only at earlier ne
  obtain ⟨r0, rt, -, ⟨i, hi, at'⟩⟩ := (MemRun.mem_linePairs low high).1 ((mem_firsts_iff ascends).1 ha).1
  obtain ⟨hb, first⟩ := (mem_firsts_iff ascends).1 hb
  have below := ((MemRun.mem_linePairs low high).1 hb).2.2.1
  have least {r' i' : Nat} (h0 : m.row0 ≤ r') (ht : r' < m.rt) (hi' : i' < m.bt) (e : m.byteAt r' i' / 128 = b) : k ≤ r' := by
    rcases lt_or_ge r' stop with inside | past
    · exact first r' ((MemRun.mem_linePairs low high).2 ⟨h0, ht, inside, i', hi', e⟩)
    · exact below.le.trans past
  have start : m.byteAt r 0 / 128 = m.rowVa r / 128 := by
    rw [MemRun.byteAt_eq, Nat.add_zero, Nat.mod_eq_of_lt (m.rowVa_lt r)]
  rcases earlier with less | ⟨rfl, rfl⟩
  · exact ⟨r, i, r0, rt, hi, at', fun r' i' h0 ht hi' e => .inl (lt_of_lt_of_le less (least h0 ht hi' e))⟩
  · refine ⟨r, 0, r0, rt, low, start, fun r' i' h0 ht hi' e => ?_⟩
    rcases (least h0 ht hi' e).lt_or_eq with less | rfl
    · exact .inl less
    · refine .inr ⟨rfl, Nat.pos_of_ne_zero ?_⟩
      rintro rfl
      exact ne (start.symm.trans e)

/-! ### Rows and lines whose pages have translated -/

theorem MemRun.rowDone_iff {r : Nat} : (m.rowPages r).all m.pageDone = true ↔ m.translated r := by
  simp only [List.all_eq_true, MemRun.mem_rowPages low high, MemRun.pageDone, List.any_eq_true, decide_eq_true_eq]

theorem MemRun.lt_fullRows {r : Nat} (ht : r < m.rt) :
    r < m.fullRows ↔ ∀ r', m.row0 ≤ r' → r' ≤ r → m.translated r' := by
  have done := fun r => MemRun.rowDone_iff (r := r) low high
  unfold MemRun.fullRows
  split
  case h_1 k found =>
    have open' : ¬ m.translated k := fun t => by simpa [(done k).2 t] using List.find?_some found
    obtain ⟨before, after, split', ahead⟩ := (List.find?_eq_some_iff_append.1 found).2
    have sorted := m.rows_pairwise
    rw [split'] at sorted
    have later {r' : Nat} (h0 : m.row0 ≤ r') (ht : r' < m.rt) (less : r' < k) : m.translated r' := by
      have mem : r' ∈ before ++ k :: after := split' ▸ MemRun.mem_rows.2 ⟨h0, ht⟩
      rcases List.mem_append.1 mem with mem | mem
      · exact (done r').1 (by simpa using ahead r' mem)
      · rcases List.mem_cons.1 mem with rfl | mem
        · exact absurd less (lt_irrefl _)
        · exact absurd less (lt_asymm ((List.pairwise_cons.1 (List.pairwise_append.1 sorted).2.1).1 r' mem))
    have hk := MemRun.mem_rows.1 (List.mem_of_find?_eq_some found)
    refine ⟨fun less r' h0 le => later h0 (le.trans_lt ht) (le.trans_lt less), fun all => ?_⟩
    exact lt_of_not_ge fun le => open' (all k hk.1 le)
  case h_2 none =>
    refine ⟨fun _ r' h0 le => (done r').1 ?_, fun _ => ht⟩
    simpa using List.find?_eq_none.1 none r' (MemRun.mem_rows.2 ⟨h0, le.trans_lt ht⟩)

/-- The lines that can be issued now (R94, R97, log 91). -/
theorem MemRun.mem_ready {l : Nat} : l ∈ m.ready ↔ m.readyLine l := by
  have sharer {r : Nat} : r ∈ m.sharers l m.rt ↔ m.row0 ≤ r ∧ r < m.rt ∧ m.touches 128 r l := by
    simp only [MemRun.sharers, List.mem_filter, MemRun.mem_rows, Bool.and_eq_true, decide_eq_true_eq, List.contains_iff_mem,
      MemRun.mem_rowLines low high]
    exact ⟨fun ⟨⟨h0, ht⟩, _, bytes⟩ => ⟨h0, ht, bytes⟩, fun ⟨h0, ht, bytes⟩ => ⟨⟨h0, ht⟩, ht, bytes⟩⟩
  have unissued : (!m.issued.contains l) = true ↔ l ∉ m.issued := by simp
  rw [MemRun.ready, List.mem_filter, Bool.and_eq_true, unissued, MemRun.mem_linesBelow low high, List.all_eq_true]
  constructor
  · rintro ⟨⟨r, h0, -, ht, bytes⟩, new, all⟩
    refine ⟨new, ⟨r, h0, ht, bytes⟩, fun r h0 ht bytes => (MemRun.lt_fullRows low high ht).1 ?_⟩
    exact of_decide_eq_true (all r (sharer.2 ⟨h0, ht, bytes⟩))
  · rintro ⟨new, ⟨r, h0, ht, bytes⟩, all⟩
    have full {r : Nat} (h0 : m.row0 ≤ r) (ht : r < m.rt) (bytes : m.touches 128 r l) : r < m.fullRows :=
      (MemRun.lt_fullRows low high ht).2 (all r h0 ht bytes)
    refine ⟨⟨r, h0, full h0 ht bytes, ht, bytes⟩, new, fun k hk => decide_eq_true ?_⟩
    obtain ⟨h0, ht, bytes⟩ := sharer.1 hk
    exact full h0 ht bytes

/-- The lines held back with bytes of the rows below `r`. -/
theorem MemRun.mem_held {r l : Nat} : l ∈ (m.linesBelow r).filter (fun l => !m.issued.contains l) ↔ m.heldLine r l := by
  have unissued : (!m.issued.contains l) = true ↔ l ∉ m.issued := by simp
  rw [List.mem_filter, MemRun.mem_linesBelow low high, unissued, and_comm]

end

/-- A line with a byte of a row that has translated has a place. -/
theorem MemRun.linePa_of_translated {m : MemRun} {r l : Nat} (row : m.translated r) (bytes : m.touches 128 r l) :
    ∃ x ∈ m.xl, x.1 = l * 128 / 2 ^ 14 ∧ m.linePa l = some (x.2.1 + BitVec.ofNat 58 (l * 128 % 2 ^ 14), x.2.2) := by
  obtain ⟨i, hi, rfl⟩ := bytes
  have page : m.byteAt r i / 2 ^ 14 = m.byteAt r i / 128 * 128 / 2 ^ 14 := by omega
  obtain ⟨y, hy, ey⟩ := row _ ⟨i, hi, rfl⟩
  obtain ⟨x, found⟩ : ∃ x, m.xl.find? (fun x => x.1 = m.byteAt r i / 128 * 128 / 2 ^ 14) = some x := by
    refine Option.isSome_iff_exists.1 (List.find?_isSome.2 ⟨y, hy, ?_⟩)
    exact decide_eq_true (ey.trans page)
  refine ⟨x, List.mem_of_find?_eq_some found, by simpa using List.find?_some found, ?_⟩
  rw [MemRun.linePa, pageShift, found]
  rfl

end Sys2Proof.Machine
end

section
namespace Sys2Proof.Machine
open Sys2Proof

/-! ## Lines of a run that are asked for (R94) -/

/-- A line's record but for what its answer brings. -/
def MemLine.place (l : MemLine) : MemLine := { l with got := none, need := 0, asked := false }

/-- From `s` to `u`, lines of a run have been asked for, which stood as `m` and stands as `m2`. -/
structure LinesAsked (s u : State) (m m2 : MemRun) : Prop where
  run : u.memRun m.id = some m2
  same : m2 = { m with lines := m2.lines }
  lines : m2.lines.map MemLine.place = m.lines.map MemLine.place
  others : u.tile.mem.filter (fun x => x.id ≠ m.id) = s.tile.mem.filter fun x => x.id ≠ m.id
  tile : u.tile = { s.tile with mem := u.tile.mem, trays := u.tile.trays, badRow := u.tile.badRow }
  clean : m.load = true ∨ s.tile.badRow = [] → u.tile = { s.tile with mem := u.tile.mem }

theorem LinesAsked.refl {s : State} {m : MemRun} (run : s.memRun m.id = some m) : LinesAsked s s m m :=
  ⟨run, rfl, rfl, rfl, rfl, fun _ => rfl⟩

theorem LinesAsked.id {s u : State} {m m2 : MemRun} (h : LinesAsked s u m m2) : m2.id = m.id := by rw [h.same]

theorem LinesAsked.trans {s u v : State} {m m2 m3 : MemRun} (a : LinesAsked s u m m2) (b : LinesAsked u v m2 m3) :
    LinesAsked s v m m3 where
  run := a.id ▸ b.run
  same := by rw [b.same, a.same]
  lines := b.lines.trans a.lines
  others := by
    have other := b.others
    rw [a.id] at other
    exact other.trans a.others
  tile := by rw [b.tile, a.tile]
  clean := fun h => by
    have load : m2.load = m.load := by rw [a.same]
    rw [b.clean (h.imp (fun l => load.trans l) fun l => by rw [a.clean (.inr l)]; exact l), a.clean h]

/-- What leaves the tile unit as it is changes nothing here. -/
theorem LinesAsked.of_tile {s u v : State} {m m2 : MemRun} (h : LinesAsked s u m m2) (same : v.tile = u.tile) :
    LinesAsked s v m m2 where
  run := by
    have run := h.run
    unfold State.memRun at run ⊢
    rwa [same]
  same := h.same
  lines := h.lines
  others := by rw [same]; exact h.others
  tile := by rw [same]; exact h.tile
  clean := by rw [same]; exact h.clean

theorem LinesAsked.places {s u : State} {m m2 : MemRun} (h : LinesAsked s u m m2) :
    m2.lines.map (·.line) = m.lines.map (·.line) := by
  have places := congrArg (List.map MemLine.line) h.lines
  simpa only [List.map_map, Function.comp_def, MemLine.place] using places

theorem State.joined_tile (s old : State) (hit : InFlight → Bool) : (s.joined old hit).tile = s.tile := rfl

theorem State.memRun_setRun {s : State} {m m1 : MemRun} (run : s.memRun m1.id = some m) :
    (s.setRun m1).memRun m1.id = some m1 := by
  unfold State.memRun State.setRun at *
  generalize s.tile.mem = l at run
  dsimp only
  induction l with
  | nil => cases run
  | cons x l ih =>
    rw [List.map_cons, List.find?_cons]
    by_cases own : x.id = m1.id
    · simp [own]
    · rw [List.find?_cons_of_neg (by simpa using own)] at run
      simpa [own] using ih run

theorem State.setRun_others (s : State) (m : MemRun) :
    (s.setRun m).tile.mem.filter (fun x => x.id ≠ m.id) = s.tile.mem.filter fun x => x.id ≠ m.id := by
  unfold State.setRun
  dsimp only
  induction s.tile.mem with
  | nil => rfl
  | cons x l ih =>
    rw [List.map_cons, List.filter_cons, List.filter_cons, ih]
    by_cases own : x.id = m.id
    · simp [own]
    · simp [own]

/-- A line's record is replaced by one that differs in its answer. -/
theorem MemRun.setLine_places {m : MemRun} {l x : MemLine} (once : (m.lines.map (·.line)).Nodup) (mem : l ∈ m.lines)
    (place : x.place = l.place) : (m.setLine x).lines.map MemLine.place = m.lines.map MemLine.place := by
  have line : x.line = l.line := (congrArg MemLine.line place : x.place.line = l.place.line)
  unfold MemRun.setLine
  rw [List.map_map]
  refine List.map_congr_left fun y hy => ?_
  rw [Function.comp_apply]
  split
  · next own => rw [place, List.inj_on_of_nodup_map once hy mem (own.1.trans line)]
  · rfl

section
variable {s u : State} {m : MemRun} {l : MemLine}

/-- The record of a line that has been asked for. -/
theorem LinesAsked.setLine (run : s.memRun m.id = some m) (once : (m.lines.map (·.line)).Nodup) (mem : l ∈ m.lines)
    {x : MemLine} (place : x.place = l.place)
    (tile : u.tile = { s.tile with trays := u.tile.trays, badRow := u.tile.badRow })
    (clean : m.load = true ∨ s.tile.badRow = [] → u.tile = s.tile) :
    LinesAsked s (u.setRun (m.setLine x)) m (m.setLine x) where
  run := by
    have there : u.memRun (m.setLine x).id = some m := by
      unfold State.memRun at run ⊢
      rw [tile]
      exact run
    exact State.memRun_setRun there
  same := rfl
  lines := MemRun.setLine_places once mem place
  others := by
    rw [show m.id = (m.setLine x).id from rfl, State.setRun_others, tile]
  tile := by
    unfold State.setRun
    dsimp only
    rw [tile]
  clean := fun h => by
    unfold State.setRun
    dsimp only
    rw [clean h]

theorem LinesAsked.kept (run : s.memRun m.id = some m)
    (tile : u.tile = { s.tile with trays := u.tile.trays, badRow := u.tile.badRow })
    (clean : m.load = true ∨ s.tile.badRow = [] → u.tile = s.tile) : LinesAsked s u m m where
  run := by
    unfold State.memRun at run ⊢
    rw [tile]
    exact run
  same := rfl
  lines := rfl
  others := by rw [tile]
  tile := by rw [tile]
  clean := fun h => by rw [clean h]

variable (run : s.memRun m.id = some m) (once : (m.lines.map (·.line)).Nodup) (mem : l ∈ m.lines)
include run once mem

theorem State.tldAsk_asks : ∃ m2, LinesAsked s (s.tldAsk m l) m m2 := by
  generalize e : s.tldAsk m l = r
  generalize ef : @State.tldAsk = f at e
  delta State.tldAsk at ef
  subst ef
  beta_reduce at e
  subst e
  have read := fun line pol halves src k => (HasTile.mk (T := s.tile) rfl).readLine line pol halves src k
  generalize s.readLine = reads at read ⊢
  have asks {v : State} (same : HasTile s.tile v) {x : MemLine} (place : x.place = l.place) :=
    LinesAsked.setLine (u := v) run once mem place (by rw [same.tile]) fun _ => same.tile
  split
  · next e => exact ⟨_, asks ((read ..).of_fst e) rfl⟩
  · next e => exact ⟨_, asks ((read ..).of_fst e) rfl⟩
  · exact ⟨m, .refl run⟩

omit run once mem in
/-- A check of a row changes no more than the row's mark. -/
theorem State.checkRow_tile (s : State) (T : TrayNo) (p r : Nat) (who : Option Thread) :
    (s.checkRow T p r who).tile = { s.tile with
      trays := (s.checkRow T p r who).tile.trays, badRow := (s.checkRow T p r who).tile.badRow } := by
  unfold State.checkRow
  split
  · unfold State.rowParity
    extract_lets s1
    have rest : ∀ v : State, (((v.record .til (T.val + 16 * r) (1 + 256 * p) false who).event .til 1).mcheck .til who).tile = v.tile :=
      fun v => ((((HasTile.mk (T := v.tile) rfl).record ..).event ..).mcheck ..).tile
    rw [rest]
    rfl
  · rfl

omit run once mem in
theorem State.checks_tile (s : State) (T : TrayNo) (p : Nat) (who : Option Thread) (rs : List Nat) {u : State}
    (e : rs.foldl (fun s r => s.checkRow T p r who) s = u) :
    u.tile = { s.tile with trays := u.tile.trays, badRow := u.tile.badRow } := by
  subst e
  exact foldl_kept (fun u : State => u.tile = { s.tile with trays := u.tile.trays, badRow := u.tile.badRow })
    (fun u r hu => by rw [State.checkRow_tile, hu]) _ rfl

omit run once mem in
/-- Rows without a parity error. -/
theorem State.checks_clean {s : State} (none : s.tile.badRow = []) (T : TrayNo) (p : Nat) (who : Option Thread) (rs : List Nat) :
    rs.foldl (fun s r => s.checkRow T p r who) s = s :=
  foldl_kept (fun u : State => u = s) (fun u r hu => by rw [hu, State.checkRow, none, if_neg (by simp)]) _ rfl

theorem State.tstAsk_asks (store : m.load = false) : ∃ m2, LinesAsked s (s.tstAsk m l) m m2 := by
  generalize e : s.tstAsk m l = r
  generalize ef : @State.tstAsk = f at e
  delta State.tstAsk at ef
  subst ef
  beta_reduce at e
  subst e
  extract_lets s0
  have marks := s.checks_tile m.tray 2 (some m.thr) (m.sharers l.line l.rowEnd) (u := s0) rfl
  have clean : m.load = true ∨ s.tile.badRow = [] → s0.tile = s.tile := fun h =>
    congrArg State.tile (State.checks_clean (h.resolve_left (by simp [store])) ..)
  clear_value s0
  have write := fun line ms pol pois src k scalar => (HasTile.mk (T := s0.tile) rfl).storeLine line ms pol pois src k scalar
  obtain ⟨writes, ew⟩ : ∃ f, s0.storeLine = f := ⟨_, rfl⟩
  rw [ew] at write ⊢
  split
  split
  · next e =>
    have same := ((write ..).of_fst e).tile
    exact ⟨_, LinesAsked.setLine run once mem rfl (by rw [same]; exact marks) fun h => same.trans (clean h)⟩
  · next e =>
    have same := ((write ..).of_fst e).tile
    exact ⟨_, LinesAsked.kept run (by rw [same]; exact marks) fun h => same.trans (clean h)⟩
  · exact ⟨m, .refl run⟩

end

section
variable {s : State} {m : MemRun} (run : s.memRun m.id = some m) (once : (m.lines.map (·.line)).Nodup)
include run once

theorem State.memAsk_asks (line rowEnd : Nat) : ∃ m2, LinesAsked s (s.memAsk m.id line rowEnd) m m2 := by
  unfold State.memAsk
  rw [run]
  dsimp only
  split
  · exact ⟨m, .refl run⟩
  · next l found =>
    have mem := List.mem_of_find?_eq_some found
    split
    · exact ⟨m, .refl run⟩
    · split
      · exact (State.tldAsk_asks run once mem).imp fun _ h => h.of_tile (State.joined_tile ..)
      · next store => exact (State.tstAsk_asks run once mem (by simpa using store)).imp fun _ h => h.of_tile (State.joined_tile ..)

/-- Asking for the lines that have not been asked for. -/
theorem State.memAskAll_asks : ∃ m2, LinesAsked s (s.memAskAll m.id) m m2 := by
  unfold State.memAskAll
  rw [run]
  dsimp only
  refine foldl_kept (fun u => ∃ m2, LinesAsked s u m m2) (fun u l ⟨m2, hu⟩ => ?_) _ ⟨m, .refl run⟩
  split
  · exact ⟨m2, hu⟩
  · rw [← hu.id]
    obtain ⟨m3, h3⟩ := State.memAsk_asks (s := u) (hu.id ▸ hu.run) (hu.places ▸ once) l.line l.rowEnd
    exact ⟨m3, hu.trans h3⟩

omit once in
theorem State.memAskAll_same (all : ∀ x ∈ m.lines, x.asked = true) : s.memAskAll m.id = s := by
  unfold State.memAskAll
  rw [run]
  dsimp only
  generalize m.lines = ls at all
  induction ls with
  | nil => rfl
  | cons x ls ih =>
    rw [List.foldl_cons, if_pos (all x List.mem_cons_self)]
    exact ih fun y hy => all y (List.mem_cons_of_mem _ hy)

end

/-! ## Lines of a run that are issued (R94) -/

/-- A run whose lines `ls` go out for the rows below `stop`. -/
def MemRun.issue (m : MemRun) (ls : List Nat) (stop : Nat) : MemRun := { m with
  issued := m.issued ++ ls
  lines := m.lines ++ ls.filterMap fun l => m.newLine l stop }

section
variable {s : State} {m old : MemRun} {ls : List Nat} {stop : Nat} (run : s.memRun m.id = some old)
include run

theorem State.memIssue_asks (fresh : ((m.issue ls stop).lines.map (·.line)).Nodup) :
    ∃ m2, LinesAsked s (s.memIssue m ls stop) (m.issue ls stop) m2 := by
  have set : LinesAsked s (s.setRun (m.issue ls stop)) (m.issue ls stop) (m.issue ls stop) := by
    refine ⟨State.memRun_setRun (m1 := m.issue ls stop) run, rfl, rfl, State.setRun_others .., rfl, fun _ => rfl⟩
  obtain ⟨m2, asks⟩ := State.memAskAll_asks set.run fresh
  exact ⟨m2, set.trans asks⟩

/-- No line is issued, and all have been asked for. -/
theorem State.memIssue_none (all : ∀ x ∈ m.lines, x.asked = true) : s.memIssue m [] stop = s.setRun m := by
  have same : { m with issued := m.issued ++ [], lines := m.lines ++ ([] : List Nat).filterMap fun l => m.newLine l stop } = m := by
    simp
  unfold State.memIssue
  dsimp only
  rw [same]
  exact State.memAskAll_same (State.memRun_setRun run) all

end

theorem MemRun.newLine_eq {m : MemRun} {l stop : Nat} {pa : BitVec 58} {pol : BitVec 2} (at' : m.linePa l = some (pa, pol)) :
    m.newLine l stop = some { line := l, pa := pa, pol := pol, rowEnd := stop, got := none, need := 0, asked := false, fin := false } := by
  rw [MemRun.newLine, at']
  rfl

section
variable {m : MemRun} {ls : List Nat} {stop : Nat} (places : ∀ l ∈ ls, ∃ x ∈ m.xl, x.1 = l * 128 / 2 ^ 14 ∧
  m.linePa l = some (x.2.1 + BitVec.ofNat 58 (l * 128 % 2 ^ 14), x.2.2))
include places

theorem MemRun.issue_lines : (m.issue ls stop).lines.map (·.line) = m.lines.map (·.line) ++ ls := by
  have new : (ls.filterMap fun l => m.newLine l stop).map (·.line) = ls := by
    induction ls with
    | nil => rfl
    | cons l ls ih =>
      obtain ⟨x, -, -, at'⟩ := places l List.mem_cons_self
      rw [List.filterMap_cons_some (f := fun l => m.newLine l stop) (MemRun.newLine_eq at'), List.map_cons, ih fun k hk => places k (List.mem_cons_of_mem _ hk)]
  rw [MemRun.issue, List.map_append, new]

/-- The records of the lines issued. -/
theorem LinesAsked.issues {s u : State} {m2 : MemRun} (h : LinesAsked s u (m.issue ls stop) m2) : m.issues m2 ls stop := by
  refine ⟨by rw [h.same]; rfl, h.places.trans (MemRun.issue_lines places), fun l hl => ?_⟩
  obtain ⟨y, hy, page, at'⟩ := places l hl
  have new := MemRun.newLine_eq (stop := stop) at'
  have mem : _ ∈ (m.issue ls stop).lines.map MemLine.place :=
    List.mem_map_of_mem (List.mem_append_right _ (List.mem_filterMap.2 ⟨l, hl, new⟩))
  rw [← h.lines] at mem
  obtain ⟨x, hx, place⟩ := List.mem_map.1 mem
  refine ⟨x, hx, y, by rw [h.same]; exact hy, ?_, ?_, ?_, page, ?_, ?_⟩
  · exact (congrArg MemLine.line place : x.place.line = _)
  · exact (congrArg MemLine.rowEnd place : x.place.rowEnd = _)
  · exact (congrArg MemLine.fin place : x.place.fin = _)
  · exact (congrArg MemLine.pa place : x.place.pa = _)
  · exact (congrArg MemLine.pol place : x.place.pol = _)

end

end Sys2Proof.Machine
end

section
namespace Sys2Proof.Machine
open Sys2Proof

/-! ## The end of a run (R97, R106) -/

/-- The state in which a run's fault has frozen the queue. -/
abbrev RunFrozen (s : State) (m : MemRun) (u : State) (q : QEntry) (cause detail r : Nat) (va : Word) : Prop :=
  u.tile.mem = (s.tile.mem.filter fun x => x.id ≠ m.id) ∧ u.tile.frozen = true ∧ u.tile.trap = true ∧ u.tile.faultAddr = va ∧
  u.tile.tprog = BitVec.ofNat 64 (q.pc.toNat + q.xop % 16 * 2 ^ 20 + r % 4096 * 2 ^ 24 + cause % 256 * 2 ^ 36
    + detail % 256 * 2 ^ 44 + m.tray.val * 2 ^ 52 + 2 ^ 63) ∧ wbit (u.frame .til).event 0 = true ∧
  u.tile.queue = s.tile.queue.map (fun x => if x.id = m.id then { q with started := false, safe := false, prog := r } else x)

/-- A run's fault as TPROG holds it. -/
def MemRun.fault (m : MemRun) (c d : Byte) (r : Nat) (a : Word) : TFault :=
  { cause := c.toNat, detail := d.toNat, arg := m.tray.val, prog := r, addr := a }

theorem State.freeze_event (s : State) (q : QEntry) (f : TFault) : wbit ((s.freeze q f).frame .til).event 0 = true := by
  have event : ((s.freeze q f).frame .til).event = setBit (s.frame .til).event 0 true := by
    rw [(s.freeze_accounts q f).events .til (by decide) (by decide), State.event, State.frame_setFrame]
    rfl
  exact (congrArg (wbit · 0) event).trans (wbit_setBit_zero _)

section
variable {s : State} {m : MemRun} (run : s.memRun m.id = some m)
include run

theorem State.memFinish_waits (more : m.pages ≠ [] ∨ ∃ x ∈ m.lines, x.fin = false) : s.memFinish m.id = s := by
  unfold State.memFinish
  rw [run]
  dsimp only
  rw [if_neg]
  simp only [Bool.and_eq_true, List.isEmpty_iff, List.all_eq_true]
  rintro ⟨none, all⟩
  rcases more with more | ⟨x, hx, open'⟩
  · exact more none
  · exact absurd (all x hx) (by simp [open'])

variable (none : m.pages = []) (all : ∀ x ∈ m.lines, x.fin = true)
include none all

theorem State.memFinish_retires (clean : m.flt = Option.none) :
    s.memFinish m.id = { s with tile := { s.tile with
      mem := s.tile.mem.filter fun x => x.id ≠ m.id, queue := s.tile.queue.filter fun x => x.id ≠ m.id } } := by
  have ended : (m.pages.isEmpty && m.lines.all (·.fin)) = true := by
    rw [none, Bool.and_eq_true]
    exact ⟨rfl, List.all_eq_true.2 all⟩
  unfold State.memFinish
  rw [run]
  dsimp only
  rw [if_pos ended, clean]
  rfl

theorem State.memFinish_freezes {c d : Byte} {r : Nat} {a : Word} {q : QEntry} (fault : m.flt = some (c, d, r, a))
    (entry : s.tile.queue.find? (fun q => q.id = m.id) = some q) :
    s.memFinish m.id = ({ s with tile := { s.tile with mem := s.tile.mem.filter fun x => x.id ≠ m.id } } : State).freeze q
      (m.fault c d r a) := by
  have ended : (m.pages.isEmpty && m.lines.all (·.fin)) = true := by
    rw [none, Bool.and_eq_true]
    exact ⟨rfl, List.all_eq_true.2 all⟩
  unfold State.memFinish
  rw [run]
  dsimp only
  rw [if_pos ended, fault]
  dsimp only
  rw [entry]
  rfl

end

/-- A run's fault freezes the queue. -/
theorem State.freeze_run {s v : State} {m : MemRun} {q : QEntry} (mem : v.tile.mem = s.tile.mem.filter fun x => x.id ≠ m.id)
    (queue : v.tile.queue = s.tile.queue) (entry : s.tile.queue.find? (fun q => q.id = m.id) = some q)
    (op : q.xop = 0x24 ∨ q.xop = 0x25) (c d : Byte) (r : Nat) (a : Word) :
    RunFrozen s m (v.freeze q (m.fault c d r a)) q c.toNat d.toNat r a := by
  have own : q.id = m.id := by simpa using List.find?_some entry
  have tile : (v.freeze q (m.fault c d r a)).tile = v.tile.frozenBy q (m.fault c d r a) := (State.freeze_accounts ..).tile
  refine ⟨?_, ?_, ?_, ?_, ?_, State.freeze_event .., ?_⟩
  · rw [tile]
    exact mem
  · rw [tile]
    rfl
  · rw [tile]
    rfl
  · rw [tile]
    rfl
  · rw [tile]
    have byte (x : Byte) : x.toNat % 256 = x.toNat := Nat.mod_eq_of_lt x.isLt
    have tray : m.tray.val % 64 = m.tray.val := Nat.mod_eq_of_lt (m.tray.isLt.trans (by decide))
    simp only [Tile.frozenBy, tprogOf, MemRun.fault, byte, tray]
  · rw [tile]
    simp only [Tile.frozenBy, queue, own, if_pos op, MemRun.fault]

theorem State.freeze_kept (v : State) (q : QEntry) (f : TFault) :
    (v.freeze q f).tile.trays = v.tile.trays ∧ (v.freeze q f).tile.data = v.tile.data ∧ (v.freeze q f).ls = v.ls ∧
      (v.freeze q f).noc = v.noc ∧ (v.freeze q f).thr = v.thr := by
  have only := v.freeze_accounts q f
  exact ⟨by rw [only.tile]; rfl, by rw [only.tile]; rfl, only.ls, only.noc, only.thr⟩

/-! ## A fault of a run (R95 to R97, R107) -/

/-- Every line of a run is served, and none is held back for the rows below `r`. -/
abbrev MemRun.served (m : MemRun) (r : Nat) : Prop :=
  (∀ x ∈ m.lines, x.fin = true ∧ x.asked = true) ∧ ∀ l, ¬ m.heldLine r l

/-- A run with a fault noted, whose translation has ended. -/
abbrev MemRun.noted (m : MemRun) (r va cause detail : Nat) : MemRun :=
  { m with pages := [], flt := some (BitVec.ofNat 8 cause, BitVec.ofNat 8 detail, r, BitVec.ofNat 64 va) }

/-- What an instruction does that brings a run its fault, from a state whose memory path stands as `s1`. -/
abbrev RunFaults (s : State) (m : MemRun) (r va : Nat) (i : Instr) (s1 : State) (cause detail : Nat) : Prop :=
  (m.served r → ∀ q, s.tile.queue.find? (fun q => q.id = m.id) = some q → q.xop = 0x24 ∨ q.xop = 0x25 →
    ∃ u, exec i s = .next u ∧ RunFrozen s m u q cause detail r (BitVec.ofNat 64 va) ∧
      u.tile.trays = s.tile.trays ∧ u.tile.data = s.tile.data ∧ u.ls = s1.ls ∧ u.noc = s1.noc ∧ u.thr = s1.thr) ∧
  ((∃ x ∈ m.lines, x.fin = false) ∨ (∃ l, m.heldLine r l) → (∀ r', m.row0 ≤ r' → r' < r → m.translated r') →
    r ≤ m.rt → ∃ u m2 ls, exec i s = .next u ∧ u.memRun m.id = some m2 ∧
      m2 = { m.noted r va cause detail with issued := m2.issued, lines := m2.lines } ∧ m.issues m2 ls r ∧ ls.Nodup ∧
      (∀ l, l ∈ ls ↔ m.heldLine r l) ∧ ls.Pairwise (m.before 128) ∧ u.tile.queue = s.tile.queue ∧
      u.tile.frozen = s.tile.frozen)

section
variable {s v : State} {m : MemRun} (run : s.memRun m.id = some m) (sound : m.sound) (low : 1 ≤ m.bt) (high : m.bt ≤ 128)
  (tile : v.tile = s.tile)
include run sound low high tile

omit sound low high in
theorem State.memRun_of_tile : v.memRun m.id = some m := by
  unfold State.memRun at run ⊢
  rwa [tile]

omit sound in
/-- A fault of a run whose lines are all served, with none held back, freezes the queue. -/
theorem State.memFault_served {p r cause detail : Nat} (served : m.served r) {q : QEntry}
    (entry : s.tile.queue.find? (fun q => q.id = m.id) = some q) (op : q.xop = 0x24 ∨ q.xop = 0x25) :
    let u := (v.memFault m p r cause detail).memFinish m.id
    RunFrozen s m u q cause detail r (BitVec.ofNat 64 (m.faultVa r p)) ∧
      u.tile.trays = s.tile.trays ∧ u.tile.data = s.tile.data ∧ u.ls = v.ls ∧ u.noc = v.noc ∧ u.thr = v.thr := by
  obtain ⟨lines, held⟩ := served
  generalize noted : m.noted r (m.faultVa r p) cause detail = m1
  have none : ((m1.linesBelow r).filter fun l => !m.issued.contains l) = [] := by
    subst noted
    exact List.eq_nil_iff_forall_not_mem.2 fun l hl => held l ((MemRun.mem_held low high).1 hl)
  have there : v.memRun m1.id = some m := by
    subst noted
    exact State.memRun_of_tile run tile
  have set' : v.memFault m p r cause detail = v.setRun m1 := by
    unfold State.memFault
    extract_lets m2
    rw [show m2 = m1 from noted, none]
    refine State.memIssue_none there ?_
    subst noted
    exact fun x hx => (lines x hx).2
  have freezes := State.memFinish_freezes (q := q) (State.memRun_setRun there) (by rw [← noted])
    (by rw [← noted]; exact fun x hx => (lines x hx).1) (by rw [← noted])
    (by rw [← noted]; exact (congrArg (fun t : Tile => t.queue.find? _) tile).trans entry)
  have others := v.setRun_others m1
  rw [show m1.id = m.id by rw [← noted]] at freezes others
  rw [set']
  intro u
  obtain ⟨w, ew⟩ : ∃ w : State, w = { v.setRun m1 with tile := { (v.setRun m1).tile with
    mem := (v.setRun m1).tile.mem.filter fun x => x.id ≠ m.id } } := ⟨_, rfl⟩
  have fault : m1.fault = m.fault := by rw [← noted]; rfl
  have froze : u = w.freeze q (m.fault (BitVec.ofNat 8 cause) (BitVec.ofNat 8 detail) r (BitVec.ofNat 64 (m.faultVa r p))) := by
    rw [ew, ← fault]
    exact freezes
  obtain ⟨trays, data, ls, noc, thr⟩ := w.freeze_kept q (m.fault (BitVec.ofNat 8 cause) (BitVec.ofNat 8 detail) r
    (BitVec.ofNat 64 (m.faultVa r p)))
  have frozen := State.freeze_run (s := s) (v := w) (by rw [ew, ← tile]; exact others) (by rw [ew, ← tile]; rfl) entry op
    (BitVec.ofNat 8 cause) (BitVec.ofNat 8 detail) r (BitVec.ofNat 64 (m.faultVa r p))
  rw [froze]
  refine ⟨?_, ?_, ?_, ?_, ?_, ?_⟩
  · have byte (x : Nat) : (BitVec.ofNat 8 x).toNat % 256 = x % 256 := by simp
    simpa only [RunFrozen, byte] using frozen
  · rw [trays, ew, ← tile]; rfl
  · rw [data, ew, ← tile]; rfl
  · rw [ls, ew]; rfl
  · rw [noc, ew]; rfl
  · rw [thr, ew]; rfl

/-- A fault of a run with a line that is not served, or held back for the rows below `r`: those held back go out. -/
theorem State.memFault_open {p r cause detail : Nat} (more : (∃ x ∈ m.lines, x.fin = false) ∨ ∃ l, m.heldLine r l)
    (below : ∀ r', m.row0 ≤ r' → r' < r → m.translated r') : ∃ m2 ls, ((v.memFault m p r cause detail).memFinish m.id).memRun m.id = some m2 ∧
      m2 = { m.noted r (m.faultVa r p) cause detail with issued := m2.issued, lines := m2.lines } ∧ m.issues m2 ls r ∧ ls.Nodup ∧
      (∀ l, l ∈ ls ↔ m.heldLine r l) ∧ ls.Pairwise (m.before 128) ∧
      ((v.memFault m p r cause detail).memFinish m.id).tile.queue = s.tile.queue ∧
      ((v.memFault m p r cause detail).memFinish m.id).tile.frozen = s.tile.frozen := by
  obtain ⟨ls, els⟩ : ∃ ls, (m.linesBelow r).filter (fun l => !m.issued.contains l) = ls := ⟨_, rfl⟩
  have held (l : Nat) : l ∈ ls ↔ m.heldLine r l := by rw [← els, MemRun.mem_held low high]
  obtain ⟨m1, noted⟩ : ∃ m1, m.noted r (m.faultVa r p) cause detail = m1 := ⟨_, rfl⟩
  have there : v.memRun m1.id = some m := by
    subst noted
    exact State.memRun_of_tile run tile
  have places : ∀ l ∈ ls, ∃ x ∈ m1.xl, x.1 = l * 128 / 2 ^ 14 ∧
      m1.linePa l = some (x.2.1 + BitVec.ofNat 58 (l * 128 % 2 ^ 14), x.2.2) := by
    intro l hl
    obtain ⟨-, r', h0, less, -, bytes⟩ := (held l).1 hl
    rw [← noted]
    exact MemRun.linePa_of_translated (m := m) (below r' h0 less) bytes
  have once : ls.Nodup := els ▸ (m.linesBelow_nodup r).filter _
  have lines : (m1.issue ls r).lines.map (·.line) = m.lines.map (·.line) ++ ls := by
    rw [MemRun.issue_lines places, ← noted]
  have fresh : ((m1.issue ls r).lines.map (·.line)).Nodup := by
    obtain ⟨nodup, known, -⟩ := sound
    rw [lines]
    refine nodup.append once fun l hl new => ((held l).1 new).1 ?_
    obtain ⟨x, hx, rfl⟩ := List.mem_map.1 hl
    exact known x hx
  obtain ⟨m2, asks⟩ := State.memIssue_asks (stop := r) there fresh
  have issued : v.memFault m p r cause detail = v.memIssue m1 ls r := by
    unfold State.memFault
    extract_lets m2
    rw [show m2 = m1 from noted, ← noted]
    exact congrArg (fun l => v.memIssue _ l r) els
  have issues := asks.issues places
  have id : (m1.issue ls r).id = m.id := by rw [← noted]; rfl
  have own : m2.id = m.id := asks.id.trans id
  have open' : ∃ x ∈ m2.lines, x.fin = false := by
    rcases more with ⟨x, hx, hf⟩ | ⟨l, hl⟩
    · have old : x ∈ (m1.issue ls r).lines := List.mem_append_left _ (by rw [← noted]; exact hx)
      have mem := List.mem_map_of_mem (f := MemLine.place) old
      rw [← asks.lines] at mem
      obtain ⟨y, hy, place⟩ := List.mem_map.1 mem
      exact ⟨y, hy, (congrArg MemLine.fin place : y.place.fin = x.place.fin).trans hf⟩
    · obtain ⟨x, hx, -, -, -, -, hf, -⟩ := issues.2.2 l ((held l).2 hl)
      exact ⟨x, hx, hf⟩
  have waits := State.memFinish_waits (m := m2) (by rw [own, ← id]; exact asks.run) (.inr open')
  rw [own] at waits
  rw [issued, waits]
  refine ⟨m2, ls, by rw [← id]; exact asks.run, by rw [asks.same, noted]; rfl, ?_, once, held,
    els ▸ (MemRun.linesBelow_pairwise low high r).filter _, ?_, ?_⟩
  · rw [← noted] at issues
    exact issues
  · rw [asks.tile, ← tile]
  · rw [asks.tile, ← tile]

theorem State.memFault_faults {p r cause detail : Nat} {i : Instr} {s1 : State}
    (ls : v.ls = s1.ls) (noc : v.noc = s1.noc) (thr : v.thr = s1.thr)
    (does : exec i s = .next (s.sealed ((v.memFault m p r cause detail).memFinish m.id))) :
    RunFaults s m r (m.faultVa r p) i s1 cause detail := by
  refine ⟨fun served q entry op => ?_, fun more below _ => ?_⟩
  · obtain ⟨frozen, trays, data, els, enoc, ethr⟩ := State.memFault_served run low high tile (p := p) served entry op
    exact ⟨_, does, frozen, trays, data, els.trans ls, enoc.trans noc, ethr.trans thr⟩
  · obtain ⟨m2, ls, run2, rest⟩ := State.memFault_open run sound low high tile (p := p) more below
    exact ⟨_, m2, ls, does, run2, rest⟩

end

end Sys2Proof.Machine
end

section
namespace Sys2Proof.Machine
open Sys2Proof

/-! ## A page that translates (R94) -/

/-- A run with page `p` translated, and `rest` to come. -/
abbrev MemRun.paged (m : MemRun) (p pa pol : Nat) (rest : List (Nat × Nat)) : MemRun := { m with
  pages := rest, xl := m.xl ++ [(p, BitVec.ofNat 58 (pa / 2 ^ 14 * 2 ^ 14), BitVec.ofNat 2 pol)] }

/-- Asking for a line does not serve it. -/
theorem LinesAsked.fin_mem {s u : State} {m m2 : MemRun} (h : LinesAsked s u m m2) {x : MemLine} (mem : x ∈ m2.lines) :
    ∃ y ∈ m.lines, y.fin = x.fin := by
  have place := List.mem_map_of_mem (f := MemLine.place) mem
  rw [h.lines] at place
  obtain ⟨y, hy, same⟩ := List.mem_map.1 place
  exact ⟨y, hy, (congrArg MemLine.fin same : y.place.fin = x.place.fin)⟩

theorem LinesAsked.mem_fin {s u : State} {m m2 : MemRun} (h : LinesAsked s u m m2) {x : MemLine} (mem : x ∈ m.lines) :
    ∃ y ∈ m2.lines, y.fin = x.fin := by
  have place := List.mem_map_of_mem (f := MemLine.place) mem
  rw [← h.lines] at place
  obtain ⟨y, hy, same⟩ := List.mem_map.1 place
  exact ⟨y, hy, (congrArg MemLine.fin same : y.place.fin = x.place.fin)⟩

section
variable {s : State} {m : MemRun} (run : s.memRun m.id = some m) (sound : m.sound) (low : 1 ≤ m.bt) (high : m.bt ≤ 128)
include run sound low high

/-- The lines that are ready go out. -/
theorem State.memIssue_ready (p pa pol : Nat) (rest : List (Nat × Nat)) :
    let m1 := m.paged p pa pol rest
    ∃ m2, LinesAsked s (s.memIssue m1 m1.ready m1.rt) (m1.issue m1.ready m1.rt) m2 ∧ m1.issues m2 m1.ready m.rt := by
  intro m1
  have ready (l : Nat) : l ∈ m1.ready ↔ m1.readyLine l := MemRun.mem_ready (m := m1) low high
  have places : ∀ l ∈ m1.ready, ∃ x ∈ m1.xl, x.1 = l * 128 / 2 ^ 14 ∧
      m1.linePa l = some (x.2.1 + BitVec.ofNat 58 (l * 128 % 2 ^ 14), x.2.2) := by
    intro l hl
    obtain ⟨-, ⟨k, h0, ht, bytes⟩, all⟩ := (ready l).1 hl
    exact MemRun.linePa_of_translated (all k h0 ht bytes k h0 le_rfl) bytes
  have fresh : ((m1.issue m1.ready m1.rt).lines.map (·.line)).Nodup := by
    obtain ⟨nodup, known, -⟩ := sound
    rw [MemRun.issue_lines places]
    refine nodup.append ((m1.linesBelow_nodup _).filter _) fun l hl new => ((ready l).1 new).1 ?_
    obtain ⟨x, hx, rfl⟩ := List.mem_map.1 hl
    exact known x hx
  obtain ⟨m2, asks⟩ := State.memIssue_asks (m := m1) (ls := m1.ready) (stop := m1.rt) run fresh
  exact ⟨m2, asks, asks.issues places⟩

/-- A page joins those translated. -/
theorem State.memPage_ok {p r pa pol : Nat} {rest : List (Nat × Nat)} (pages : m.pages = (p, r) :: rest) (memory : pol ≠ 3)
    (free : s.tstProtected m p (pa / 2 ^ 14 * 2 ^ 14) = false) :
    let m1 := m.paged p pa pol rest
    let queue := if rest = [] then s.tile.queue.map (fun x => if x.id = m.id then { x with safe := true } else x)
      else s.tile.queue
    let more := rest ≠ [] ∨ (∃ x ∈ m.lines, x.fin = false) ∨ ∃ l, m1.readyLine l
    let u := (s.memPage m p r pa pol).memFinish m.id
    u.tile.frozen = s.tile.frozen ∧
      (m.load = true ∨ s.tile.badRow = [] → u.tile.trays = s.tile.trays ∧ u.tile.data = s.tile.data) ∧
      (more → u.tile.queue = queue ∧ ∃ m2 ls, u.memRun m.id = some m2 ∧
        m2 = { m1 with issued := m2.issued, lines := m2.lines } ∧ m1.issues m2 ls m.rt ∧ ls.Nodup ∧
        (∀ l, l ∈ ls ↔ m1.readyLine l) ∧ ls.Pairwise (m.before 128)) ∧
      (¬ more → m.flt = none → u.tile.mem = (s.tile.mem.filter fun x => x.id ≠ m.id) ∧
        u.tile.queue = s.tile.queue.filter fun x => x.id ≠ m.id) := by
  intro m1 queue more
  have ready (l : Nat) : l ∈ m1.ready ↔ m1.readyLine l := MemRun.mem_ready (m := m1) low high
  obtain ⟨m2, asks, issues⟩ := State.memIssue_ready run sound low high p pa pol rest
  obtain ⟨w, ew⟩ : ∃ w, s.memIssue m1 m1.ready m1.rt = w := ⟨_, rfl⟩
  have page : s.memPage m p r pa pol = if rest = [] then w.markSafe m.id else w := by
    unfold State.memPage
    extract_lets base m1' s1
    have same : m1' = m1 := by simp only [m1', m1, pages, List.drop_one, List.tail_cons, base, pageShift]
    rw [if_neg memory, if_neg (by simpa only [base, pageShift, Bool.not_eq_true] using free)]
    unfold s1
    rw [same, ew]
    by_cases last : rest = []
    · rw [if_pos last, if_pos (by simp [m1, last])]
    · rw [if_neg last, if_neg (by simpa [m1] using last)]
  rw [ew] at asks
  obtain ⟨v, ev⟩ : ∃ v, (if rest = [] then w.markSafe m.id else w) = v := ⟨_, rfl⟩
  have tile : v.tile = { w.tile with queue := queue } := by
    have old : w.tile.queue = s.tile.queue := by rw [asks.tile]
    rw [← ev]
    unfold queue
    by_cases last : rest = []
    · rw [if_pos last, if_pos last, ← old]
      rfl
    · rw [if_neg last, if_neg last, ← old]
  have own : m2.id = m.id := asks.id
  have run2 : v.memRun m2.id = some m2 := by
    unfold State.memRun
    rw [tile, own]
    exact asks.run
  rw [page, ev]
  intro u
  by_cases open' : more
  · have waits : v.memFinish m.id = v := by
      rw [← own]
      refine State.memFinish_waits run2 ?_
      rcases open' with more | ⟨y, hy, hf⟩ | ⟨l, hl⟩
      · exact .inl (by rw [asks.same]; exact more)
      · obtain ⟨x, hx, e⟩ := asks.mem_fin (List.mem_append_left _ hy)
        exact .inr ⟨x, hx, e.trans hf⟩
      · obtain ⟨x, hx, -, -, -, -, hf, -⟩ := issues.2.2 l ((ready l).2 hl)
        exact .inr ⟨x, hx, hf⟩
    rw [show u = v from waits, tile]
    refine ⟨by rw [asks.tile], fun clean => ?_, fun _ => ⟨rfl, m2, m1.ready, ?_, ?_, issues, ?_, ready, ?_⟩, absurd open'⟩
    · rw [asks.clean clean]
      exact ⟨rfl, rfl⟩
    · rw [← own]
      exact run2
    · rw [asks.same]
      rfl
    · exact (m1.linesBelow_nodup _).filter _
    · exact (MemRun.linesBelow_pairwise (m := m1) low high _).filter _
  · obtain ⟨last, fins, none⟩ : rest = [] ∧ (∀ x ∈ m.lines, x.fin = true) ∧ ∀ l, ¬ m1.readyLine l := by
      simpa [more] using open'
    have empty : m1.ready = [] := List.eq_nil_iff_forall_not_mem.2 fun l hl => none l ((ready l).1 hl)
    have all : ∀ x ∈ m2.lines, x.fin = true := fun x hx => by
      obtain ⟨y, hy, e⟩ := asks.fin_mem hx
      rw [MemRun.issue, empty] at hy
      exact e ▸ fins y (by simpa using hy)
    have retires : u = _ := own ▸ State.memFinish_retires run2 (by rw [asks.same]; exact last) all
      (by rw [asks.same]; exact sound.2.2 (by simp [pages]))
    rw [retires]
    refine ⟨?_, fun clean => ?_, fun more => absurd more open', fun _ _ => ⟨?_, ?_⟩⟩
    · rw [tile, asks.tile]
    · rw [tile, asks.clean clean]
      exact ⟨rfl, rfl⟩
    · rw [tile]
      exact asks.others
    · rw [tile]
      dsimp only
      unfold queue
      rw [if_pos last]
      exact filter_map_entry (f := fun x => { x with safe := true }) (fun x own => own) _

end

/-! ## TILE_MEM_PAGE and TABLE_WALK (R94, R254) -/

theorem exec_tileMemPage {s : State} {m : MemRun} (run : s.memRun m.id = some m) : exec (.tileMemPage m.id) s =
    due s (s.running && !m.pages.isEmpty && !s.runWalks m.id) ((s.memXlate m).memFinish m.id) := by
  have does : exec (.tileMemPage m.id) s = execTileMemPage m.id s := rfl
  rw [does, execTileMemPage, run]

/-- What the translation of a page leads to. -/
def State.memXlated (s : State) (m : MemRun) (p r : Nat) (x : State × Xl) : State :=
  match x with
  | (s1, .ok pa pol) => s1.memPage m p r pa pol
  | (s1, .fault kind _ _) => s1.memFault m p r 6 kind
  | (s1, .walking) => s1
  | (_, .busy) => s

section
variable {s s1 : State} {m : MemRun} {p r : Nat} {rest : List (Nat × Nat)} (pages : m.pages = (p, r) :: rest)
include pages

theorem State.memXlate_eq : s.memXlate m = s.memXlated m p r
    (s.translate (BitVec.ofNat 64 (m.faultVa r p)) m.lvl.toNat m.load (!m.load) (.tile m.id m.thr)) := by
  unfold State.memXlate
  rw [pages]
  unfold State.memXlated
  rfl

omit pages in
theorem State.shelfOff_congr (pos : s1.pos = s.pos) : s1.shelfOff = s.shelfOff := by
  have base : s1.shelfBase = s.shelfBase := by
    unfold State.shelfBase State.chipBase State.winIdx
    rw [pos]
  funext pa
  unfold State.shelfOff
  rw [base]

omit pages in
/-- The function that finds a shelf address's place is a variable in the proof: the kernel would evaluate it. -/
theorem State.tstProtected_congr (thr : s1.thr = s.thr) (pos : s1.pos = s.pos) (base : Nat) :
    s1.tstProtected m p base = s.tstProtected m p base := by
  have place := State.shelfOff_congr pos
  generalize ef : @State.tstProtected = f
  delta State.tstProtected at ef
  obtain ⟨shelfOff, eo⟩ : ∃ f, @State.shelfOff = f := ⟨_, rfl⟩
  rw [eo] at ef place
  subst ef
  beta_reduce
  rw [thr, place]

end

/-- A walk whose entry could not be read (9), or is not valid (2).  The functions that lead to an address's place are variables in
the proof: the kernel would evaluate them. -/
theorem State.walkGo_bad (s : State) (f : Nat) {w : Walk} {x : Option Word} (value : w.ph = .value x) (fresh : w.again = false)
    (bad : ∀ v, x = some v → wbit v 0 = false) : ∃ ea, s.walkGo (f + 1) w =
      ((s.dropWalk w.id).walkRecord (if x = none then 9 else 2) ea w.who.thread?, .fault (if x = none then 9 else 2) w.level) := by
  delta State.walkGo
  obtain ⟨g, eg⟩ : ∃ g, State.walkGo._f = g := ⟨_, rfl⟩
  have step : ∃ ea, ∀ below, g (f + 1) below s w =
      ((s.dropWalk w.id).walkRecord (if x = none then 9 else 2) ea w.who.thread?, .fault (if x = none then 9 else 2) w.level) := by
    refine ⟨w.table * 2 ^ 14 + 8 * levelIndex w.level w.va.toNat, fun below => ?_⟩
    rw [← eg]
    delta State.walkGo._f
    obtain ⟨place, ep⟩ : ∃ f, @State.shelfOff = f := ⟨_, rfl⟩
    rw [ep]
    dsimp only
    rw [value]
    cases x with
    | none =>
      dsimp only
      rw [fresh]
      rfl
    | some v =>
      dsimp only
      rw [fresh, leafV, bad v rfl]
      rfl
  rw [eg]
  exact step.imp fun _ h => h _

end Sys2Proof.Machine
end

section
namespace Sys2Proof.Machine
open Sys2Proof

/-! ## What TILE_MEM_PAGE and TABLE_WALK do to a run (R94, R254) -/

theorem State.alive_of_running {s : State} (on : s.running = true) : s.alive = true := by
  simp only [State.running, Bool.and_eq_true, decide_eq_true_eq] at on
  obtain ⟨⟨⟨run, -⟩, ret⟩, -⟩ := on
  simp [State.alive, State.released, run, ret]

/-- A walk that ends, and what it records. -/
theorem State.walkRecord_kept (s : State) (id kind ea : Nat) (who : Option Thread) :
    ((s.dropWalk id).walkRecord kind ea who).tile = s.tile ∧ ((s.dropWalk id).walkRecord kind ea who).ls = s.ls ∧
      ((s.dropWalk id).walkRecord kind ea who).noc = s.noc ∧ ((s.dropWalk id).walkRecord kind ea who).thr = s.thr := by
  unfold State.walkRecord
  split
  · unfold State.record
    extract_lets f f'
    have counts := Accounts.bump ((s.dropWalk id).setFrame .xlt f') .xlt 0 1 who
    exact ⟨counts.tile, counts.ls, counts.noc, counts.thr⟩
  · exact ⟨rfl, rfl, rfl, rfl⟩

section
variable {s : State} {m : MemRun} (run : s.memRun m.id = some m) (on : s.running = true) (sound : m.sound) (low : 1 ≤ m.bt)
  (high : m.bt ≤ 128) {p r : Nat} {rest : List (Nat × Nat)} (pages : m.pages = (p, r) :: rest)

include run on pages

theorem tileMemPage_runs (idle : s.runWalks m.id = false) :
    exec (.tileMemPage m.id) s = .next (s.sealed ((s.memXlate m).memFinish m.id)) := by
  rw [exec_tileMemPage run, due, if_pos]
  rw [on, idle, pages]
  rfl

omit on pages in
theorem tileMemPage_waits (walks : s.runWalks m.id = true) : exec (.tileMemPage m.id) s = .next s := by
  rw [exec_tileMemPage run, due, if_neg]
  simp [walks]

include sound low high

/-- A page's translation fails, or its page is not for a tile access. -/
theorem tileMemPage_faults {s1 : State} {x : Xl} {cause detail : Nat} (idle : s.runWalks m.id = false)
    (xlate : s.translate (BitVec.ofNat 64 (m.faultVa r p)) m.lvl.toNat m.load (!m.load) (.tile m.id m.thr) = (s1, x))
    (tile : s1.tile = s.tile)
    (outcome : (∃ level span, x = .fault detail level span ∧ cause = 6) ∨
      ∃ pa pol, x = .ok pa pol ∧ s1.memPage m p r pa pol = s1.memFault m p r cause detail) :
    RunFaults s m r (m.faultVa r p) (.tileMemPage m.id) s1 cause detail := by
  have fault : s.memXlate m = s1.memFault m p r cause detail := by
    rw [State.memXlate_eq pages, xlate]
    rcases outcome with ⟨level, span, rfl, rfl⟩ | ⟨pa, pol, rfl, fault⟩
    · rfl
    · exact fault
  refine State.memFault_faults run sound low high tile rfl rfl rfl ?_
  rw [← fault]
  exact tileMemPage_runs run on pages idle

/-- A walk that a page waited for ends in a fault. -/
theorem tableWalk_faults {k : Walk} (walk : s.xl.walks.find? (fun x => x.id = k.id) = some k) (who : k.who = .tile m.id m.thr)
    (fresh : k.again = false) {x : Option Word} (value : k.ph = .value x) (bad : ∀ v, x = some v → wbit v 0 = false)
    {kind : Nat} (code : kind = if x = none then 9 else 2) : RunFaults s m r (m.faultVa r p) (.tableWalk k.id) s 6 kind := by
  have alive := State.alive_of_running on
  obtain ⟨ea, go⟩ := State.walkGo_bad s 23 value fresh bad
  rw [← code] at go
  obtain ⟨v, ev⟩ : ∃ v, (s.dropWalk k.id).walkRecord kind ea k.who.thread? = v := ⟨_, rfl⟩
  have kept := s.walkRecord_kept k.id kind ea k.who.thread?
  rw [ev] at kept
  obtain ⟨tile, ls, noc, thr⟩ := kept
  refine State.memFault_faults run sound low high tile ls noc thr ?_
  have does : exec (.tableWalk k.id) s = execTableWalk k.id s := rfl
  rw [does, execTableWalk, walk]
  dsimp only
  rw [due, if_pos, State.walkStep, walkFuel, go, ev]
  · dsimp only
    rw [State.walkFaults, who]
    dsimp only
    rw [State.memRun_of_tile run tile]
    dsimp only
    rw [pages]
  · rw [alive, walkDue, value]
    rfl

/-- What TILE_MEM_PAGE and the end of a walk do to a run with pages to come. -/
theorem tileMemPage_clauses :
    let va := m.faultVa r p
    let xlate := s.translate (BitVec.ofNat 64 va) m.lvl.toNat m.load (!m.load) (.tile m.id m.thr)
    let faults := RunFaults s m r va
    (s.runWalks m.id = true → exec (.tileMemPage m.id) s = .next s) ∧
    (s.runWalks m.id = false → (∀ s1 kind level span, xlate = (s1, .fault kind level span) → s1.tile = s.tile → faults (.tileMemPage m.id) s1 6 kind) ∧
    (∀ s1 pa, xlate = (s1, .ok pa 3) → s1.tile = s.tile → faults (.tileMemPage m.id) s1 7 1) ∧
    (∀ s1 pa pol, xlate = (s1, .ok pa pol) → pol ≠ 3 → s1.tile = s.tile → s1.thr = s.thr → s1.pos = s.pos →
      s.tstProtected m p (pa / 2 ^ 14 * 2 ^ 14) = true → faults (.tileMemPage m.id) s1 0x10 1) ∧
    (∀ s1 pa pol, xlate = (s1, .ok pa pol) → pol ≠ 3 → s1.tile = s.tile → s1.thr = s.thr → s1.pos = s.pos →
      s.tstProtected m p (pa / 2 ^ 14 * 2 ^ 14) = false →
      let m1 := m.paged p pa pol rest
      let queue := if rest = [] then s.tile.queue.map (fun x => if x.id = m.id then { x with safe := true } else x)
        else s.tile.queue
      let more := rest ≠ [] ∨ (∃ x ∈ m.lines, x.fin = false) ∨ ∃ l, m1.readyLine l
      ∃ u, exec (.tileMemPage m.id) s = .next u ∧ u.tile.frozen = s.tile.frozen ∧
        (m.load = true ∨ s.tile.badRow = [] → u.tile.trays = s.tile.trays ∧ u.tile.data = s.tile.data) ∧
        (more → u.tile.queue = queue ∧ ∃ m2 ls, u.memRun m.id = some m2 ∧
          m2 = { m1 with issued := m2.issued, lines := m2.lines } ∧ m1.issues m2 ls m.rt ∧ ls.Nodup ∧
          (∀ l, l ∈ ls ↔ m1.readyLine l) ∧ ls.Pairwise (m.before 128)) ∧
        (¬ more → m.flt = none → u.tile.mem = (s.tile.mem.filter fun x => x.id ≠ m.id) ∧
          u.tile.queue = s.tile.queue.filter fun x => x.id ≠ m.id)) ∧
    (∀ s1, xlate = (s1, .walking) → s1.tile = s.tile → exec (.tileMemPage m.id) s = .next (s.sealed s1)) ∧
    (∀ s1, xlate = (s1, .busy) → exec (.tileMemPage m.id) s = .next (s.sealed s))) ∧
    (∀ k, s.xl.walks.find? (fun x => x.id = k.id) = some k → k.who = .tile m.id m.thr → k.again = false → k.level ≤ 4 →
      (k.ph = .value none → faults (.tableWalk k.id) s 6 9) ∧
      (∀ v, k.ph = .value (some v) → wbit v 0 = false → faults (.tableWalk k.id) s 6 2)) := by
  intro va xlate faults
  have unfinished (s1 : State) (tile : s1.tile = s.tile) : s1.memFinish m.id = s1 :=
    State.memFinish_waits (State.memRun_of_tile run tile) (.inl (by simp [pages]))
  refine ⟨tileMemPage_waits run, fun idle => ⟨?fault, ?device, ?shelf, ?ok, ?walking, ?busy⟩, ?walk⟩
  case fault =>
    intro s1 kind level span out tile
    exact tileMemPage_faults run on sound low high pages idle out tile (.inl ⟨level, span, rfl, rfl⟩)
  case device =>
    intro s1 pa out tile
    refine tileMemPage_faults run on sound low high pages idle out tile (.inr ⟨pa, 3, rfl, ?_⟩)
    rw [State.memPage, if_pos rfl]
  case shelf =>
    intro s1 pa pol out memory tile thr pos shut
    refine tileMemPage_faults run on sound low high pages idle out tile (.inr ⟨pa, pol, rfl, ?_⟩)
    rw [← State.tstProtected_congr thr pos] at shut
    rw [State.memPage, if_neg memory, pageShift, if_pos shut]
  case ok =>
    intro s1 pa pol out memory tile thr pos free m1 queue more
    rw [← State.tstProtected_congr thr pos] at free
    have page := State.memPage_ok (State.memRun_of_tile run tile) sound low high pages memory free
    rw [tile] at page
    refine ⟨_, tileMemPage_runs run on pages idle, ?_⟩
    rw [State.memXlate_eq pages, show s.translate _ _ _ _ _ = (s1, .ok pa pol) from out]
    exact page
  case walking =>
    intro s1 out tile
    rw [tileMemPage_runs run on pages idle, State.memXlate_eq pages, show s.translate _ _ _ _ _ = (s1, .walking) from out,
      State.memXlated, unfinished s1 tile]
  case busy =>
    intro s1 out
    rw [tileMemPage_runs run on pages idle, State.memXlate_eq pages, show s.translate _ _ _ _ _ = (s1, .busy) from out,
      State.memXlated, unfinished s rfl]
  case walk =>
    intro k walk who fresh _
    refine ⟨fun value => ?_, fun v value invalid => ?_⟩
    · exact tableWalk_faults run on sound low high pages walk who fresh value nofun rfl
    · exact tableWalk_faults run on sound low high pages walk who fresh value (by rintro _ ⟨⟩; exact invalid) rfl

end

end Sys2Proof.Machine
end

section
namespace Sys2Proof.Machine
open Sys2Proof

/-! ## A line that is served (R94, R97) -/

/-- The rows that the line's data completes. -/
abbrev MemRun.completed (m m1 : MemRun) : List Nat :=
  if m.load then m.rows.filter fun r => !m.touched.contains r && m1.rowServed r else []

/-- A state with rows of a run written to its tray. -/
abbrev State.rowsGathered (s : State) (m m1 : MemRun) (rows : List Nat) : State :=
  rows.foldl (fun s r => s.putRow m.tray r (m1.gather r).1 (m1.gather r).2) s

theorem State.rowsGathered_kept (s : State) (m m1 : MemRun) (rows : List Nat) : OnlyTile s (s.rowsGathered m m1 rows) ∧
    (s.rowsGathered m m1 rows).tile.mem = s.tile.mem ∧ (s.rowsGathered m m1 rows).tile.queue = s.tile.queue :=
  foldl_kept (fun u => OnlyTile s u ∧ u.tile.mem = s.tile.mem ∧ u.tile.queue = s.tile.queue)
    (f := fun u r => u.putRow m.tray r (m1.gather r).1 (m1.gather r).2)
    (fun _ _ ⟨only, mem, queue⟩ => ⟨only.tile _, mem, queue⟩) rows ⟨.refl s, rfl, rfl⟩

/-- The records not yet served after a line is: those that were not, and are other lines'. -/
theorem MemRun.setLine_fin {m : MemRun} {l x : MemLine} : x ∈ (m.setLine { l with fin := true }).lines ∧ x.fin = false ↔
    x ∈ m.lines ∧ x.fin = false ∧ ¬ (x.line = l.line ∧ x.rowEnd = l.rowEnd) := by
  unfold MemRun.setLine
  rw [List.mem_map]
  constructor
  · rintro ⟨⟨y, hy, e⟩, open'⟩
    split at e
    · rw [← e] at open'
      cases open'
    · next other => exact e ▸ ⟨hy, e ▸ open', other⟩
  · rintro ⟨mem, open', other⟩
    exact ⟨⟨x, mem, if_neg other⟩, open'⟩

section
variable {s : State} {m : MemRun} (run : s.memRun m.id = some m) (on : s.running = true)
include run

theorem exec_tileMemLineDone {l : MemLine} (found : m.lines.find? (fun x => x.line = l.line && !x.fin) = some l) :
    exec (.tileMemLineDone m.id l.line) s = due s (s.running && l.ready) (s.memLineDone m l) := by
  have does : exec (.tileMemLineDone m.id l.line) s = execTileMemLineDone m.id l.line s := rfl
  rw [does, execTileMemLineDone, run]
  dsimp only
  rw [found]

theorem tileMemLineDone_waits {l : MemLine} (found : m.lines.find? (fun x => x.line = l.line && !x.fin) = some l)
    (waits : l.asked = false ∨ l.need ≠ 0) : exec (.tileMemLineDone m.id l.line) s = .next s := by
  rw [exec_tileMemLineDone run found, due, if_neg]
  rcases waits with h | h <;> simp [MemLine.ready, h]

omit run in
theorem State.memLineDone_eq (l : MemLine) :
    let m1 := m.setLine { l with fin := true }
    let rows := m.completed m1
    s.memLineDone m l = ((s.rowsGathered m m1 rows).setRun { m1 with touched := m.touched ++ rows }).memFinish m.id := by
  intro m1 rows
  unfold State.memLineDone
  extract_lets s1
  unfold s1
  by_cases load : m.load = true
  · rw [if_pos load]
    have rows' : rows = m.rows.filter fun r => !m.touched.contains r && m1.rowServed r := if_pos load
    rw [rows']
    rfl
  · rw [if_neg load]
    have rows' : rows = [] := if_neg load
    have same : { m1 with touched := m.touched ++ rows } = m1 := by
      rw [rows', List.append_nil]
      rfl
    rw [same, rows']
    rfl

include on

/-- A line of a run has its data. -/
theorem tileMemLineDone_clauses {l : MemLine} (found : m.lines.find? (fun x => x.line = l.line && !x.fin) = some l)
    (asked : l.asked = true) (need : l.need = 0) :
    let m1 := m.setLine { l with fin := true }
    let rows := m.completed m1
    let s1 := s.rowsGathered m m1 rows
    let last := m.pages = [] ∧ ∀ x ∈ m.lines, x.fin = true ∨ (x.line = l.line ∧ x.rowEnd = l.rowEnd)
    let without := s.tile.mem.filter fun x => x.id ≠ m.id
    ∃ u, exec (.tileMemLineDone m.id l.line) s = .next u ∧
      (¬ last → OnlyTile s u ∧ u.tile = { s1.tile with
        mem := s.tile.mem.map fun x => if x.id = m.id then { m1 with touched := m.touched ++ rows } else x }) ∧
      (last → m.flt = none → OnlyTile s u ∧ u.tile = { s1.tile with
        mem := without, queue := s.tile.queue.filter fun x => x.id ≠ m.id }) ∧
      (last → ∀ c d r a q, m.flt = some (c, d, r, a) → s.tile.queue.find? (fun q => q.id = m.id) = some q →
        q.xop = 0x24 ∨ q.xop = 0x25 → RunFrozen s m u q c.toNat d.toNat r a ∧ u.tile.trays = s1.tile.trays ∧
          u.tile.data = s1.tile.data ∧ OnlyTile s (u.setFrame .til { u.frame .til with event := (s.frame .til).event })) := by
  intro m1 rows s1 last without
  obtain ⟨only, mem, queue⟩ := s.rowsGathered_kept m m1 rows
  obtain ⟨m2, em2⟩ : ∃ m2, m2 = { m1 with touched := m.touched ++ rows } := ⟨_, rfl⟩
  have id : m2.id = m.id := by rw [em2]; rfl
  have lines : m2.lines = m1.lines := by rw [em2]
  have pages : m2.pages = m.pages := by rw [em2]; rfl
  have flt : m2.flt = m.flt := by rw [em2]; rfl
  have there : s1.memRun m2.id = some m := by
    unfold State.memRun at run ⊢
    rw [id, show s1.tile.mem = s.tile.mem from mem]
    exact run
  obtain ⟨w, ew⟩ : ∃ w, s1.setRun m2 = w := ⟨_, rfl⟩
  have run2 : w.memRun m2.id = some m2 := ew ▸ State.memRun_setRun there
  have tile : w.tile = { s1.tile with mem := s.tile.mem.map fun x => if x.id = m.id then m2 else x } := by
    rw [← ew, ← mem, ← id]
    rfl
  have others : w.tile.mem.filter (fun x => x.id ≠ m.id) = without := by
    have others := s1.setRun_others m2
    rw [id, ew, show s1.tile.mem = s.tile.mem from mem] at others
    exact others
  have only' : OnlyTile s w := by
    rw [← ew]
    exact only.tile _
  have does : exec (.tileMemLineDone m.id l.line) s = .next (s.sealed (w.memFinish m.id)) := by
    rw [exec_tileMemLineDone run found, due, if_pos (by simp [on, MemLine.ready, asked, need]), State.memLineDone_eq, ← ew, em2]
  have all (h : last) : ∀ x ∈ m2.lines, x.fin = true := by
    intro x hx
    by_contra open'
    rw [Bool.not_eq_true] at open'
    obtain ⟨old, open', other⟩ := MemRun.setLine_fin.1 ⟨lines ▸ hx, open'⟩
    rcases h.2 x old with fin | own
    · rw [fin] at open'
      cases open'
    · exact other own
  refine ⟨_, does, fun more => ?_, fun h clean => ?_, fun h c d r a q fault entry op => ?_⟩
  · have waits : w.memFinish m.id = w := by
      rw [← id]
      refine State.memFinish_waits run2 ?_
      rw [not_and_or] at more
      refine more.imp (fun h => pages ▸ h) fun h => ?_
      push Not at h
      obtain ⟨x, hx, open', other⟩ := h
      rw [lines]
      exact ⟨x, MemRun.setLine_fin.2 ⟨hx, by simpa using open', fun own => other own.1 own.2⟩⟩
    rw [waits]
    exact ⟨only'.sealed, em2 ▸ tile⟩
  · have retires := State.memFinish_retires run2 (pages.trans h.1) (all h) (flt.trans clean)
    rw [id] at retires
    rw [retires]
    refine ⟨(only'.tile _).sealed, ?_⟩
    rw [State.tile_sealed, others, tile, ← queue]
  · have entry' : w.tile.queue.find? (fun q => q.id = m2.id) = some q := by
      rw [id, tile, ← entry, ← queue]
    have freezes := State.memFinish_freezes run2 (pages.trans h.1) (all h) (flt.trans fault) entry'
    have own : m2.fault = m.fault := by rw [em2]; rfl
    rw [id, others, own] at freezes
    obtain ⟨v, ev⟩ : ∃ v : State, { w with tile := { w.tile with mem := without } } = v := ⟨_, rfl⟩
    have vtile : v.tile = { s1.tile with mem := without } := by rw [← ev, tile]
    have only'' : OnlyTile s v := ev ▸ only'.tile _
    rw [ev] at freezes
    rw [freezes]
    obtain ⟨trays, data, -⟩ := v.freeze_kept q (m.fault c d r a)
    refine ⟨State.freeze_run (s := s) (by rw [vtile]) (by rw [vtile, ← queue]) entry op c d r a, ?_, ?_, ?_⟩
    · rw [State.tile_sealed, trays, vtile]
    · rw [State.tile_sealed, data, vtile]
    · have frame : (v.frame .til).event = (s.frame .til).event := only''.events .til (by decide) (by decide)
      rw [← frame]
      exact ((only''.tile _).accounts ((v.freeze_accounts q (m.fault c d r a)).event_restored (by decide) (by decide))).sealed

end

end Sys2Proof.Machine
end

section
namespace Sys2Proof.Machine
open Sys2Proof

/-! ## The bytes of a row in its lines (R94) -/

section
variable {m : MemRun} (low : 1 ≤ m.bt) (high : m.bt ≤ 128)
include low high

/-- The bytes of a row in one of its lines stand together. -/
theorem MemRun.overlap_spec {r v : Nat} (bytes : m.touches 128 r v) :
    1 ≤ (m.overlap r v).2.2 ∧ (m.overlap r v).1 + (m.overlap r v).2.2 ≤ 128 ∧
      (m.overlap r v).2.1 + (m.overlap r v).2.2 ≤ m.bt ∧ ∀ i, i < m.bt →
      (m.byteAt r i / 128 = v ↔ (m.overlap r v).2.1 ≤ i ∧ i < (m.overlap r v).2.1 + (m.overlap r v).2.2) ∧
      (m.byteAt r i / 128 = v → m.byteAt r i % 128 = (m.overlap r v).1 + (i - (m.overlap r v).2.1)) := by
  obtain ⟨j, hj, rfl⟩ := bytes
  have lt := m.rowVa_lt r
  simp only [MemRun.byteAt_eq]
  unfold MemRun.overlap
  generalize m.rowVa r = a at lt
  by_cases first : a / 128 = (a + j) % 2 ^ 64 / 128
  · simp only [if_pos first]
    refine ⟨by omega, by omega, by omega, fun i hi => ⟨?_, ?_⟩⟩ <;> omega
  · simp only [if_neg first]
    refine ⟨by omega, by omega, by omega, fun i hi => ⟨?_, ?_⟩⟩ <;> omega

/-- The first of a row's lines begins the row, and its second goes on. -/
theorem MemRun.rowLines_cases (r : Nat) :
    (∃ p, m.rowLines r = [p] ∧ m.touches 128 r p ∧ (m.overlap r p).2.1 = 0 ∧ (m.overlap r p).2.2 = m.bt) ∨
    (∃ p q, m.rowLines r = [p, q] ∧ m.touches 128 r p ∧ m.touches 128 r q ∧ (m.overlap r p).2.1 = 0 ∧
      (m.overlap r q).2.1 = (m.overlap r p).2.2 ∧ (m.overlap r p).2.2 + (m.overlap r q).2.2 = m.bt) := by
  have member (l : Nat) := MemRun.mem_rowLines (m := m) (r := r) (l := l) low high
  have lt := m.rowVa_lt r
  unfold MemRun.rowLines MemRun.byteVa at *
  unfold MemRun.overlap
  by_cases one : m.rowVa r / 128 = (m.rowVa r + (m.bt - 1)) % 2 ^ 64 / 128
  · simp only [if_pos one] at member ⊢
    refine .inl ⟨_, rfl, (member _).1 List.mem_cons_self, by simp, ?_⟩
    rw [if_pos rfl]
    dsimp only
    omega
  · simp only [if_neg one] at member ⊢
    refine .inr ⟨_, _, rfl, (member _).1 List.mem_cons_self, (member _).1 (by simp), by simp, ?_⟩
    rw [if_pos rfl, if_neg one]
    dsimp only
    omega

end

/-! ## A row that is read (R79, R94) -/

/-- One of `n` bytes from `o` on of a line comes from a poisoned half. -/
def halfBad (o n : Nat) (p : BitVec 2) : Bool := (List.range 2).any fun h => o / 64 ≤ h && h ≤ (o + n - 1) / 64 && wbit p h

theorem halfBad_iff {o n : Nat} {p : BitVec 2} (some' : 1 ≤ n) (fits : o + n ≤ 128) :
    halfBad o n p = true ↔ ∃ j, j < n ∧ wbit p ((o + j) / 64) = true := by
  simp only [halfBad, List.any_eq_true, List.mem_range, Bool.and_eq_true, decide_eq_true_eq]
  constructor
  · rintro ⟨h, hh, ⟨first, last⟩, bad⟩
    have half : h = 0 ∨ h = 1 := by omega
    rcases half with rfl | rfl
    · exact ⟨0, some', by rwa [show (o + 0) / 64 = 0 by omega]⟩
    · exact ⟨n - 1, by omega, by rwa [show (o + (n - 1)) / 64 = 1 by omega]⟩
  · rintro ⟨j, hj, bad⟩
    exact ⟨(o + j) / 64, by omega, ⟨by omega, by omega⟩, bad⟩

/-- A line record that serves byte `i` of row `r`, with its data. -/
abbrev MemRun.servesByte (m : MemRun) (r i : Nat) (l : MemLine) (d : List Byte) (k : BitVec 2) : Prop :=
  m.lines.find? (fun l => l.line = m.byteAt r i / 128 && r < l.rowEnd) = some l ∧ l.got = some (d, k)

/-- What a line holds of row `r`. -/
def MemRun.piece (m : MemRun) (r v : Nat) (d : List Byte) : List Byte := (d.drop (m.overlap r v).1).take (m.overlap r v).2.2

section
variable {m : MemRun} {r : Nat}

/-- A line's part of the gathering. -/
def MemRun.gatherStep (m : MemRun) (r : Nat) (x : List Byte × Bool) (v : Nat) : List Byte × Bool :=
  match m.lines.find? fun l => l.line = v && r < l.rowEnd with
  | some l =>
    match l.got with
    | some (d, k) => (x.1 ++ m.piece r v d, x.2 || halfBad (m.overlap r v).1 (m.overlap r v).2.2 k)
    | none => x
  | none => x

theorem MemRun.gather_eq : m.gather r = (m.rowLines r).foldl (m.gatherStep r) ([], false) := rfl

theorem MemRun.gatherStep_eq {v : Nat} {l : MemLine} {d : List Byte} {k : BitVec 2}
    (line : m.lines.find? (fun l => l.line = v && r < l.rowEnd) = some l) (got : l.got = some (d, k)) (x : List Byte × Bool) :
    m.gatherStep r x v = (x.1 ++ m.piece r v d, x.2 || halfBad (m.overlap r v).1 (m.overlap r v).2.2 k) := by
  unfold MemRun.gatherStep
  rw [line]
  dsimp only
  rw [got]

/-- The data of a line with bytes of the row. -/
theorem MemRun.touched_bound (bound : ∀ i, i < m.bt → ∃ l d k, m.servesByte r i l d k ∧ d.length = 128) {v : Nat}
    (bytes : m.touches 128 r v) : ∃ l d k,
      m.lines.find? (fun l => l.line = v && r < l.rowEnd) = some l ∧ l.got = some (d, k) ∧ d.length = 128 := by
  obtain ⟨i, hi, rfl⟩ := bytes
  obtain ⟨l, d, k, ⟨line, got⟩, len⟩ := bound i hi
  exact ⟨l, d, k, line, got, len⟩

variable (low : 1 ≤ m.bt) (high : m.bt ≤ 128)
include low high

/-- What a line's part holds of the row, and when it is marked. -/
theorem MemRun.piece_spec {v : Nat} (bytes : m.touches 128 r v) {l : MemLine} {d : List Byte} {k : BitVec 2}
    (line : m.lines.find? (fun l => l.line = v && r < l.rowEnd) = some l) (got : l.got = some (d, k)) (len : d.length = 128) :
    (m.piece r v d).length = (m.overlap r v).2.2 ∧
      (∀ i l' d' k', i < m.bt → m.byteAt r i / 128 = v → m.servesByte r i l' d' k' →
        (m.piece r v d)[i - (m.overlap r v).2.1]? = d'[m.byteAt r i % 128]?) ∧
      (halfBad (m.overlap r v).1 (m.overlap r v).2.2 k = true ↔ ∃ i l' d' k', i < m.bt ∧ m.byteAt r i / 128 = v ∧
        m.servesByte r i l' d' k' ∧ wbit k' (m.byteAt r i % 128 / 64) = true) := by
  obtain ⟨some', fits, within, places⟩ := MemRun.overlap_spec low high bytes
  have same {i : Nat} {l' : MemLine} {d' : List Byte} {k' : BitVec 2} (here : m.byteAt r i / 128 = v)
      (serves : m.servesByte r i l' d' k') : d' = d ∧ k' = k := by
    obtain ⟨line', got'⟩ := serves
    rw [here, line, Option.some.injEq] at line'
    rw [← line', got, Option.some.injEq, Prod.mk.injEq] at got'
    exact ⟨got'.1.symm, got'.2.symm⟩
  refine ⟨?_, fun i l' d' k' hi here serves => ?_, ?_⟩
  · rw [MemRun.piece, List.length_take, List.length_drop, len]
    omega
  · obtain ⟨rfl, -⟩ := same here serves
    obtain ⟨inside, at'⟩ := places i hi
    obtain ⟨start, stop⟩ := inside.1 here
    rw [at' here, MemRun.piece, List.getElem?_take_of_lt (by omega), List.getElem?_drop]
  · rw [halfBad_iff some' fits]
    constructor
    · rintro ⟨j, hj, bad⟩
      obtain ⟨inside, at'⟩ := places ((m.overlap r v).2.1 + j) (by omega)
      have here := inside.2 ⟨by omega, by omega⟩
      refine ⟨_, l, d, k, by omega, here, ⟨by rw [here]; exact line, got⟩, ?_⟩
      rwa [at' here, Nat.add_sub_cancel_left]
    · rintro ⟨i, l', d', k', hi, here, serves, bad⟩
      obtain ⟨-, rfl⟩ := same here serves
      obtain ⟨inside, at'⟩ := places i hi
      obtain ⟨start, stop⟩ := inside.1 here
      exact ⟨i - (m.overlap r v).2.1, by omega, by rwa [← at' here]⟩

/-- A row read consists of its bytes in the lines, and is marked where one comes from a poisoned half. -/
theorem MemRun.gather_spec (bound : ∀ i, i < m.bt → ∃ l d k, m.servesByte r i l d k ∧ d.length = 128) :
    (m.gather r).1.length = m.bt ∧
    (∀ i l d k, i < m.bt → m.servesByte r i l d k → (m.gather r).1[i]? = d[m.byteAt r i % 128]?) ∧
    ((m.gather r).2 = true ↔ ∃ i l d k, i < m.bt ∧ m.servesByte r i l d k ∧ wbit k (m.byteAt r i % 128 / 64) = true) := by
  rcases MemRun.rowLines_cases low high r with ⟨p, lines, bytes, start, count⟩ | ⟨p, q, lines, first, second, start, goes, count⟩
  · obtain ⟨l, d, k, line, got, len⟩ := MemRun.touched_bound bound bytes
    obtain ⟨length, value, marks⟩ := MemRun.piece_spec low high bytes line got len
    obtain ⟨-, -, -, places⟩ := MemRun.overlap_spec low high bytes
    have here {i : Nat} (hi : i < m.bt) : m.byteAt r i / 128 = p := (places i hi).1.2 (by omega)
    have whole : m.gather r = (m.piece r p d, halfBad (m.overlap r p).1 (m.overlap r p).2.2 k) := by
      rw [MemRun.gather_eq, lines, List.foldl_cons, List.foldl_nil, MemRun.gatherStep_eq line got]
      rfl
    rw [whole]
    refine ⟨length.trans count, fun i l' d' k' hi serves => ?_, marks.trans ?_⟩
    · have same := value i l' d' k' hi (here hi) serves
      rwa [start, Nat.sub_zero] at same
    · exact ⟨fun ⟨i, l', d', k', hi, _, rest⟩ => ⟨i, l', d', k', hi, rest⟩,
        fun ⟨i, l', d', k', hi, rest⟩ => ⟨i, l', d', k', hi, here hi, rest⟩⟩
  · obtain ⟨l, d, k, line, got, len⟩ := MemRun.touched_bound bound first
    obtain ⟨l2, d2, k2, line2, got2, len2⟩ := MemRun.touched_bound bound second
    obtain ⟨length, value, marks⟩ := MemRun.piece_spec low high first line got len
    obtain ⟨length2, value2, marks2⟩ := MemRun.piece_spec low high second line2 got2 len2
    obtain ⟨-, -, -, places⟩ := MemRun.overlap_spec low high first
    obtain ⟨-, -, -, places2⟩ := MemRun.overlap_spec low high second
    have whole : m.gather r = (m.piece r p d ++ m.piece r q d2,
        halfBad (m.overlap r p).1 (m.overlap r p).2.2 k || halfBad (m.overlap r q).1 (m.overlap r q).2.2 k2) := by
      rw [MemRun.gather_eq, lines, List.foldl_cons, List.foldl_cons, List.foldl_nil, MemRun.gatherStep_eq line got,
        MemRun.gatherStep_eq line2 got2]
      rfl
    rw [whole]
    refine ⟨?_, fun i l' d' k' hi serves => ?_, ?_⟩
    · rw [List.length_append, length, length2, count]
    · by_cases low' : i < (m.overlap r p).2.2
      · have same := value i l' d' k' hi ((places i hi).1.2 (by omega)) serves
        rw [start, Nat.sub_zero] at same
        rwa [List.getElem?_append_left (by rwa [length])]
      · have same := value2 i l' d' k' hi ((places2 i hi).1.2 (by omega)) serves
        rw [goes] at same
        rwa [List.getElem?_append_right (by rw [length]; omega), length]
    · rw [Bool.or_eq_true, marks, marks2]
      constructor
      · rintro (⟨i, l', d', k', hi, -, rest⟩ | ⟨i, l', d', k', hi, -, rest⟩) <;> exact ⟨i, l', d', k', hi, rest⟩
      · rintro ⟨i, l', d', k', hi, rest⟩
        by_cases low' : i < (m.overlap r p).2.2
        · exact .inl ⟨i, l', d', k', hi, (places i hi).1.2 (by omega), rest⟩
        · exact .inr ⟨i, l', d', k', hi, (places2 i hi).1.2 (by omega), rest⟩

end

end Sys2Proof.Machine
end

section
namespace Sys2Proof.Machine
open Sys2Proof

/-! ## A line that is written (R79, R94) -/

section
variable {o : Nat} {bs : List Byte} (fits : o + bs.length ≤ 128)
include fits

theorem spread_inside {k : Nat} (first : o ≤ k) (last : k < o + bs.length) :
    (spread o bs)[k]? = (bs[k - o]?).map fun b => (b, true) := by
  rw [spread_eq fits, List.getElem?_append_right (by simpa using first), List.length_replicate,
    List.getElem?_append_left (by rw [List.length_map]; omega), List.getElem?_map]

theorem spread_outside {k : Nat} (line : k < 128) (other : k < o ∨ o + bs.length ≤ k) : (spread o bs)[k]? = some (0, false) := by
  rw [spread_eq fits]
  rcases other with before | after
  · rw [List.getElem?_append_left (by simpa using before), List.getElem?_replicate_of_lt before]
  · rw [List.getElem?_append_right (by simp; omega), List.getElem?_append_right (by simp; omega), List.length_replicate,
      List.length_map, List.getElem?_replicate_of_lt (by omega)]

end

section
variable {a b : List (Byte × Bool)}

theorem overlay_length (same : a.length = b.length) : (overlay a b).length = a.length := by
  simp [overlay, same]

theorem overlay_written {k : Nat} {v : Byte} (inside : k < a.length) (new : b[k]? = some (v, true)) :
    (overlay a b)[k]? = some (v, true) := by
  obtain ⟨x, old⟩ : ∃ x, a[k]? = some x := ⟨_, List.getElem?_eq_getElem inside⟩
  rw [overlay, List.getElem?_map, List.getElem?_zip_eq_some (z := (x, (v, true))).2 ⟨old, new⟩]
  rfl

theorem overlay_kept {k : Nat} {v : Byte} (new : b[k]? = some (v, false)) : (overlay a b)[k]? = a[k]? := by
  rw [overlay, List.getElem?_map]
  cases old : a[k]? with
  | none =>
    have : (a.zip b)[k]? = none := by
      simp only [List.getElem?_eq_none_iff, List.length_zip] at old ⊢
      omega
    rw [this]
    rfl
  | some x =>
    rw [List.getElem?_zip_eq_some (z := (x, (v, false))).2 ⟨old, new⟩]
    rfl

end

/-- A half is used where a byte of it is masked in. -/
theorem halfUsed_iff {ms : List (Byte × Bool)} {h : Nat} :
    halfUsed ms h = true ↔ ∃ k v, k / 64 = h ∧ ms[k]? = some (v, true) := by
  simp only [halfUsed, halfOf, List.any_eq_true, List.mem_iff_getElem?]
  constructor
  · rintro ⟨⟨v, u⟩, ⟨i, at'⟩, used⟩
    cases used
    by_cases hi : i < 64
    · rw [List.getElem?_take_of_lt hi, List.getElem?_drop] at at'
      exact ⟨64 * h + i, v, by omega, at'⟩
    · rw [List.getElem?_take_eq_none (by omega)] at at'
      cases at'
  · rintro ⟨k, v, rfl, at'⟩
    refine ⟨(v, true), ⟨k - 64 * (k / 64), ?_⟩, rfl⟩
    rw [List.getElem?_take_of_lt (by omega), List.getElem?_drop, show 64 * (k / 64) + (k - 64 * (k / 64)) = k by omega]
    exact at'

/-! ### The rows of a line, one after the other -/

/-- A row's bytes as masked bytes of a line. -/
def State.rowMasked (s : State) (m : MemRun) (r line : Nat) : List (Byte × Bool) :=
  spread (m.overlap r line).1 (((s.rowBytes m.tray r).drop (m.overlap r line).2.1).take (m.overlap r line).2.2)

/-- The marks that a row brings to a line's halves. -/
def State.rowPoison (s : State) (m : MemRun) (r line : Nat) : BitVec 2 :=
  if s.mark m.tray r then
    BitVec.ofNat 2 (b2n (halfUsed (s.rowMasked m r line) 0) + 2 * b2n (halfUsed (s.rowMasked m r line) 1))
  else 0

/-- A line with the bytes of the rows `rs`, a later one over an earlier. -/
def State.rowsLaid (s : State) (m : MemRun) (line : Nat) (rs : List Nat) : List (Byte × Bool) × BitVec 2 :=
  rs.foldl (fun x r => (overlay x.1 (s.rowMasked m r line), x.2 ||| s.rowPoison m r line)) (List.replicate 128 (0, false), 0)

theorem State.tstBytes_eq (s : State) (m : MemRun) (l : MemLine) :
    s.tstBytes m l = s.rowsLaid m l.line (m.sharers l.line l.rowEnd) := rfl

theorem wbit_poison (a b : Bool) {h : Nat} (half : h < 2) :
    wbit (BitVec.ofNat 2 (b2n a + 2 * b2n b)) h = if h = 0 then a else b := by
  obtain rfl | rfl : h = 0 ∨ h = 1 := by omega
  · cases a <;> cases b <;> rfl
  · cases a <;> cases b <;> rfl

section
variable {s : State} {m : MemRun} (low : 1 ≤ m.bt) (high : m.bt ≤ 128) (shape : m.bt = (s.tray m.tray).bytes)
include low high shape

omit low high in
theorem State.rowBytes_length' (r : Nat) : (s.rowBytes m.tray r).length = m.bt := by
  rw [State.rowBytes, length_getN, shape]

/-- A row that has bytes in the line. -/
theorem State.rowMasked_spec {r line : Nat} (bytes : m.touches 128 r line) :
    (∀ i, i < m.bt → m.byteAt r i / 128 = line →
      (s.rowMasked m r line)[m.byteAt r i % 128]? = ((s.rowBytes m.tray r)[i]?).map fun b => (b, true)) ∧
    ∀ k, k < 128 → (∀ i, i < m.bt → m.byteAt r i / 128 = line → m.byteAt r i % 128 ≠ k) →
      (s.rowMasked m r line)[k]? = some (0, false) := by
  obtain ⟨some', fits, within, places⟩ := MemRun.overlap_spec low high bytes
  have row := State.rowBytes_length' shape r
  have len : (((s.rowBytes m.tray r).drop (m.overlap r line).2.1).take (m.overlap r line).2.2).length = (m.overlap r line).2.2 := by
    rw [List.length_take, List.length_drop, row]
    omega
  refine ⟨fun i hi here => ?_, fun k hk other => ?_⟩
  · obtain ⟨inside, at'⟩ := places i hi
    obtain ⟨start, stop⟩ := inside.1 here
    rw [at' here, State.rowMasked, spread_inside (by omega) (by omega) (by omega), Nat.add_sub_cancel_left,
      List.getElem?_take_of_lt (by omega), List.getElem?_drop, Nat.add_sub_cancel' start]
  · refine spread_outside (by omega) hk ?_
    by_contra inside
    obtain ⟨here, at'⟩ := places (k - (m.overlap r line).1 + (m.overlap r line).2.1) (by omega)
    have here := here.2 (by omega)
    have at' := at' here
    exact other _ (by omega) here (by omega)

/-- A half is used where a byte of the row lies in it. -/
theorem State.rowMasked_used {r line h : Nat} (bytes : m.touches 128 r line) : halfUsed (s.rowMasked m r line) h = true ↔
    ∃ i, i < m.bt ∧ m.byteAt r i / 128 = line ∧ m.byteAt r i % 128 / 64 = h := by
  obtain ⟨written, kept⟩ := State.rowMasked_spec low high shape bytes
  rw [halfUsed_iff]
  constructor
  · rintro ⟨k, v, half, at'⟩
    by_contra none
    have inside : k < 128 := by
      have lt := (List.getElem?_eq_some_iff.1 at').1
      rwa [State.rowMasked, length_spread] at lt
    have blank := kept k inside fun i hi here e => none ⟨i, hi, here, e ▸ half⟩
    rw [at'] at blank
    simp at blank
  · rintro ⟨i, hi, here, half⟩
    have row := State.rowBytes_length' shape r
    exact ⟨_, (s.rowBytes m.tray r)[i]'(row ▸ hi), half, by rw [written i hi here, List.getElem?_eq_getElem]; rfl⟩

theorem State.rowPoison_spec {r line h : Nat} (bytes : m.touches 128 r line) (half : h < 2) :
    wbit (s.rowPoison m r line) h = true ↔
      s.mark m.tray r = true ∧ ∃ i, i < m.bt ∧ m.byteAt r i / 128 = line ∧ m.byteAt r i % 128 / 64 = h := by
  have used := fun h => State.rowMasked_used (h := h) low high shape bytes
  unfold State.rowPoison
  by_cases mark : s.mark m.tray r = true
  · rw [if_pos mark, wbit_poison _ _ half, and_iff_right mark, ← used]
    obtain rfl | rfl : h = 0 ∨ h = 1 := by omega
    · rfl
    · rfl
  · rw [if_neg mark]
    refine ⟨fun set => ?_, fun h => absurd h.1 mark⟩
    rw [wbit_eq_getLsbD] at set
    simp at set

/-- Byte `i` of row `r` is byte `k` of the line. -/
abbrev MemRun.bytePut (m : MemRun) (line k r i : Nat) : Prop := i < m.bt ∧ m.byteAt r i / 128 = line ∧ m.byteAt r i % 128 = k

/-- Each byte of a line is that of the highest row with it, and a half is marked for a byte of a marked row. -/
theorem State.rowsLaid_spec {line : Nat} {rs : List Nat} (ascends : rs.Pairwise (· < ·)) (bytes : ∀ r ∈ rs, m.touches 128 r line) :
    (s.rowsLaid m line rs).1.length = 128 ∧
    (∀ k r i, r ∈ rs → m.bytePut line k r i → (∀ r' i', r' ∈ rs → m.bytePut line k r' i' → r' ≤ r) →
      (s.rowsLaid m line rs).1[k]? = ((s.rowBytes m.tray r)[i]?).map fun b => (b, true)) ∧
    (∀ k, k < 128 → (∀ r i, r ∈ rs → ¬ m.bytePut line k r i) → (s.rowsLaid m line rs).1[k]? = some (0, false)) ∧
    ∀ h, h < 2 → (wbit (s.rowsLaid m line rs).2 h = true ↔
      ∃ k r i, r ∈ rs ∧ m.bytePut line k r i ∧ k / 64 = h ∧ s.mark m.tray r = true) := by
  induction rs using List.reverseRecOn with
  | nil =>
    refine ⟨rfl, nofun, fun k hk _ => List.getElem?_replicate_of_lt hk, fun h _ => ⟨fun set => ?_, nofun⟩⟩
    have none : wbit (0 : BitVec 2) h = true := set
    rw [wbit_eq_getLsbD] at none
    simp at none
  | append_singleton rs r0 ih =>
    obtain ⟨ascends, -, last⟩ := List.pairwise_append.1 ascends
    obtain ⟨length, value, blank, marks⟩ := ih ascends fun r hr => bytes r (List.mem_append_left _ hr)
    have touches := bytes r0 (by simp)
    obtain ⟨written, kept⟩ := State.rowMasked_spec low high shape touches
    have laid : s.rowsLaid m line (rs ++ [r0]) = (overlay (s.rowsLaid m line rs).1 (s.rowMasked m r0 line),
        (s.rowsLaid m line rs).2 ||| s.rowPoison m r0 line) := by
      rw [State.rowsLaid, List.foldl_append]
      rfl
    rw [laid]
    refine ⟨?_, fun k r i mem put most => ?_, fun k hk none => ?_, fun h half => ?_⟩
    · rw [overlay_length (by rw [length, State.rowMasked, length_spread]), length]
    · obtain ⟨hi, here, rfl⟩ := put
      rcases List.mem_append.1 mem with old | new
      · have before : r < r0 := last r old r0 (by simp)
        rw [overlay_kept (kept _ (Nat.mod_lt _ (by decide)) fun i' hi' here' e => ?_)]
        · exact value _ r i old ⟨hi, here, rfl⟩ fun r' i' mem' => most r' i' (List.mem_append_left _ mem')
        · exact absurd (most r0 i' (by simp) ⟨hi', here', e⟩) (by omega)
      · obtain rfl := List.mem_singleton.1 new
        obtain ⟨b, at'⟩ : ∃ b, (s.rowBytes m.tray r)[i]? = some b :=
          ⟨_, List.getElem?_eq_getElem (by rwa [State.rowBytes_length' shape])⟩
        have top := written i hi here
        rw [at'] at top ⊢
        exact overlay_written (by rw [length]; exact Nat.mod_lt _ (by decide)) top
    · rw [overlay_kept (kept k hk fun i hi here e => none r0 i (by simp) ⟨hi, here, e⟩)]
      exact blank k hk fun r i mem => none r i (List.mem_append_left _ mem)
    · rw [wbit_eq_getLsbD, BitVec.getLsbD_or, Bool.or_eq_true, ← wbit_eq_getLsbD, ← wbit_eq_getLsbD, marks h half,
        State.rowPoison_spec low high shape touches half]
      constructor
      · rintro (⟨k, r, i, mem, rest⟩ | ⟨mark, i, hi, here, e⟩)
        · exact ⟨k, r, i, List.mem_append_left _ mem, rest⟩
        · exact ⟨_, r0, i, by simp, ⟨hi, here, rfl⟩, e, mark⟩
      · rintro ⟨k, r, i, mem, ⟨hi, here, rfl⟩, e, mark⟩
        rcases List.mem_append.1 mem with old | new
        · exact .inl ⟨_, r, i, old, ⟨hi, here, rfl⟩, e, mark⟩
        · obtain rfl := List.mem_singleton.1 new
          exact .inr ⟨mark, i, hi, here, e⟩

end

theorem MemRun.mem_sharers {m : MemRun} (low : 1 ≤ m.bt) (high : m.bt ≤ 128) {line stop r : Nat} :
    r ∈ m.sharers line stop ↔ m.row0 ≤ r ∧ r < m.rt ∧ r < stop ∧ m.touches 128 r line := by
  simp only [MemRun.sharers, List.mem_filter, MemRun.mem_rows, Bool.and_eq_true, decide_eq_true_eq, List.contains_iff_mem,
    MemRun.mem_rowLines low high, and_assoc]

/-! ## The obligation -/

/-- Settles O26: what a page brings is `tileMemPage_clauses`, what a line's end does `tileMemLineDone_clauses`, and the bytes of a
row read and of a line written are `MemRun.gather_spec` and `State.rowsLaid_spec`. -/
theorem tileMemorySteps : Obligations.TileMemorySteps := by
  unfold Obligations.TileMemorySteps
  refine ⟨fun s m run on _ sound low high => ?_, fun m r low high => ?_, fun s m l low high shape => ?_⟩
  · intro without frozen
    refine ⟨fun p r rest pages => tileMemPage_clauses run on sound low high pages, fun none => ?_, fun l found asked need => ?_,
      fun l found waits => tileMemLineDone_waits run found waits⟩
    · rw [exec_tileMemPage run, due, if_neg (by simp [none])]
    · exact tileMemLineDone_clauses run on found asked need
  · intro from' bound
    exact MemRun.gather_spec low high bound
  · intro out puts
    have sharer {r : Nat} := MemRun.mem_sharers (m := m) low high (line := l.line) (stop := l.rowEnd) (r := r)
    obtain ⟨length, value, blank, marks⟩ := State.rowsLaid_spec low high shape (line := l.line) (rs := m.sharers l.line l.rowEnd)
      (m.rows_pairwise.filter _) fun r hr => (sharer.1 hr).2.2.2
    have put {k r i : Nat} : puts k r i ↔ r ∈ m.sharers l.line l.rowEnd ∧ m.bytePut l.line k r i := by
      rw [sharer]
      exact ⟨fun ⟨h0, ht, below, hi, here, e⟩ => ⟨⟨h0, ht, below, i, hi, here⟩, hi, here, e⟩,
        fun ⟨⟨h0, ht, below, _⟩, hi, here, e⟩ => ⟨h0, ht, below, hi, here, e⟩⟩
    refine ⟨length, fun k r i at' most => ?_, fun k hk none => ?_, fun h half => (marks h half).trans ?_⟩
    · obtain ⟨mem, at'⟩ := put.1 at'
      exact value k r i mem at' fun r' i' mem' at'' => most r' i' (put.2 ⟨mem', at''⟩)
    · exact blank k hk fun r i mem at' => none r i (put.2 ⟨mem, at'⟩)
    · exact exists_congr fun k => exists_congr fun r => exists_congr fun i => and_assoc.symm.trans (and_congr_left' put.symm)

end Sys2Proof.Machine
end

section
namespace Sys2Proof.Machine
open Sys2Proof

/-! ## Addresses of a run (R233) -/

theorem signed_bmod (x : Nat) : signed 32 x = Int.bmod x (2 ^ 32) := by
  unfold signed Int.bmod
  norm_num
  split <;> split <;> omega

/-- The indices of a run, counted with the first dimension fastest. -/
theorem mixed_radix {n0 n1 n2 i1 i2 i3 i4 : Nat} (h1 : i1 < n0) (h2 : i2 < n1) (h3 : i3 < n2) :
    (i1 + n0 * (i2 + n1 * (i3 + n2 * i4))) % n0 = i1 ∧
      (i1 + n0 * (i2 + n1 * (i3 + n2 * i4))) / n0 % n1 = i2 ∧
      (i1 + n0 * (i2 + n1 * (i3 + n2 * i4))) / (n0 * n1) % n2 = i3 ∧
      (i1 + n0 * (i2 + n1 * (i3 + n2 * i4))) / (n0 * n1 * n2) = i4 := by
  have step {n i r : Nat} (h : i < n) : (i + n * r) % n = i ∧ (i + n * r) / n = r := by
    rw [Nat.add_mul_mod_self_left, Nat.mod_eq_of_lt h, Nat.add_mul_div_left _ _ (by omega), Nat.div_eq_of_lt h, Nat.zero_add]
    exact ⟨rfl, rfl⟩
  rw [← Nat.div_div_eq_div_mul, ← Nat.div_div_eq_div_mul, ← Nat.div_div_eq_div_mul, (step h1).1, (step h1).2, (step h2).1,
    (step h2).2, (step h3).1, (step h3).2]
  exact ⟨rfl, rfl, rfl, rfl⟩

section
variable (d : List Word)

theorem dCount_eq (k : Nat) : dCount d (k + 1) = (dw d 2).toNat / 2 ^ (16 * k) % 2 ^ 16 + 1 := by
  rw [dCount, wbits, bits, show 16 * (k + 1) - 16 = 16 * k by omega, show 16 * (k + 1) - 1 + 1 - 16 * k = 16 by omega]

theorem dAddr_lt (r : Nat) (dst : Bool) : dAddr d r dst < 2 ^ 57 := by
  unfold dAddr
  have := Int.emod_lt_of_pos (((wbits (dw d (if dst then 1 else 0)) 56 0 : Nat) + dOffset d r dst)) (show (0 : Int) < 2 ^ 57 by decide)
  omega

/-- The stride of a dimension, from word `k`: the low half for the source, the high half for the destination. -/
def dStride (k : Nat) (dst : Bool) : Int :=
  Int.bmod ((if dst then (dw d k).toNat / 2 ^ 32 else (dw d k).toNat : Nat) : Int) (2 ^ 32)

theorem signed_stride (k : Nat) (dst : Bool) :
    signed 32 (if dst then wbits (dw d k) 63 32 else wbits (dw d k) 31 0) = dStride d k dst := by
  have lt := (dw d k).isLt
  rw [signed_bmod]
  unfold dStride
  cases dst
  · simp only [Bool.false_eq_true, if_false, wbits, bits, Nat.reduceAdd, Nat.reduceSub, Nat.pow_zero, Nat.div_one]
    unfold Int.bmod
    norm_num
  · simp only [if_true, wbits, bits, Nat.reduceAdd, Nat.reduceSub]
    rw [Nat.mod_eq_of_lt (by omega)]

/-- The sum over the dimensions.  The strides are a variable here: the kernel would compute with them. -/
theorem dOffset_strides (r : Nat) (dst : Bool) {f : Nat → Int}
    (stride : ∀ k, f k = signed 32 (if dst then wbits (dw d k) 63 32 else wbits (dw d k) 31 0)) :
    dOffset d r dst = dIndex d r 1 * f 3 + dIndex d r 2 * f 4 + dIndex d r 3 * f 5 + dIndex d r 4 * f 6 := by
  simp only [dOffset, List.foldl_cons, List.foldl_nil, Nat.reduceAdd, ← stride, Int.zero_add]

theorem dOffset_eq (r : Nat) (dst : Bool) : dOffset d r dst =
    dIndex d r 1 * dStride d 3 dst + dIndex d r 2 * dStride d 4 dst + dIndex d r 3 * dStride d 5 dst
      + dIndex d r 4 * dStride d 6 dst :=
  dOffset_strides d r dst (f := (dStride d · dst)) fun k => (signed_stride d k dst).symm

theorem dBase_eq (x : Word) : ((wbits x 56 0 : Nat) : Int) = (x.toNat : Int) % 2 ^ 57 := by simp [wbits, bits]

/-- Run `r` starts at the base and the sum of index times stride over the four dimensions. -/
theorem dAddr_eq (r : Nat) (dst : Bool) : (dAddr d r dst : Int) =
    ((dw d (if dst then 1 else 0)).toNat + dOffset d r dst) % 2 ^ 57 := by
  rw [dAddr, Int.toNat_of_nonneg (Int.emod_nonneg _ (by norm_num)), dBase_eq]
  exact Int.emod_add_emod ..

/-- The address of a run by its four indices. -/
theorem dAddr_run {i1 i2 i3 i4 : Nat} (dst : Bool) (h1 : i1 < dCount d 1) (h2 : i2 < dCount d 2) (h3 : i3 < dCount d 3) :
    (dAddr d (i1 + dCount d 1 * (i2 + dCount d 2 * (i3 + dCount d 3 * i4))) dst : Int) =
      ((dw d (if dst then 1 else 0)).toNat + i1 * dStride d 3 dst + i2 * dStride d 4 dst + i3 * dStride d 5 dst
        + i4 * dStride d 6 dst) % 2 ^ 57 := by
  obtain ⟨e1, e2, e3, e4⟩ := mixed_radix (i4 := i4) h1 h2 h3
  rw [dAddr_eq, dOffset_eq]
  simp only [dIndex, e1, e2, e3, e4, Int.add_assoc]

end

end Sys2Proof.Machine
end

section
namespace Sys2Proof.Machine
open Sys2Proof

/-! ## A channel that halts before a run (R234) -/

/-- What halting changes: the channel's record and its event. -/
theorem State.chHalt_spec (s : State) (c : Fin 4) (err kind r : Nat) :
    (s.chHalt c err kind r).chan c = { s.chan c with
      halted := true, err := BitVec.ofNat 8 err, kind := BitVec.ofNat 6 kind, prog := BitVec.ofNat 64 r
      run := r, xl := [], flt := none } ∧
    (s.chHalt c err kind r).frame .ldl = (s.frame .ldl).noted c.val ∧ ∀ k, k ≠ c → (s.chHalt c err kind r).chan k = s.chan k := by
  refine ⟨?_, ?_, fun k other => ?_⟩
  · simp [State.chHalt, State.chan, State.setChan, State.event, State.setFrame, vset]
  · rw [State.chHalt, State.event, State.frame_setFrame]
    rfl
  · have ne : c.val ≠ k.val := fun e => other (Fin.ext e.symm)
    simp [State.chHalt, State.chan, State.setChan, State.event, State.setFrame, vset, ne]

theorem State.chan_setChan (s : State) (c : Fin 4) (x : Chan) : (s.setChan c x).chan c = x := by
  simp [State.chan, State.setChan, vset]

theorem State.chan_setChan_ne (s : State) {c k : Fin 4} (x : Chan) (other : k ≠ c) : (s.setChan c x).chan k = s.chan k := by
  have ne : c.val ≠ k.val := fun e => other (Fin.ext e.symm)
  simp [State.chan, State.setChan, vset, ne]

/-- A run may be taken up: the channel stands between runs. -/
structure State.BetweenRuns (s : State) (c : Fin 4) (d : List Word) : Prop where
  desc : (s.chan c).desc = some d
  alive : s.alive = true
  on : (s.chan c).halted = false
  more : (s.chan c).run < dRuns d
  walks : s.chanWalks c = false
  runs : (s.chan c).runs = []
  writes : (s.chan c).writes = []

theorem State.BetweenRuns.idle {s : State} {c : Fin 4} {d : List Word} (h : s.BetweenRuns c d) : (s.chan c).idle = true := by
  rw [Chan.idle, h.runs, h.writes]
  rfl

/-- LADLE_RUN takes up the next run, unless a tray endpoint waits for a context transfer. -/
theorem State.BetweenRuns.exec {s : State} {c : Fin 4} {d : List Word} (h : s.BetweenRuns c d)
    (free : dTrayEnd d = false ∨ s.ctxRuns = false) : exec (.ladleRun c) s = .next (s.sealed (s.nextRun c d)) := by
  have does : Machine.exec (.ladleRun c) s = execLadleRun c s := rfl
  have may : s.runDue c d = true := by
    have tray : (dTrayEnd d && s.ctxRuns) = false := by
      rcases free with h | h <;> rw [h]
      · rfl
      · exact Bool.and_false _
    simp only [State.runDue, h.alive, h.on, h.more, h.walks, tray, h.idle, Bool.or_true, decide_true, Bool.not_false, Bool.and_self]
  rw [does, execLadleRun, h.desc]
  dsimp only
  rw [due, if_pos may]

/-- The channel has halted, and nothing else has changed but its event. -/
abbrev State.HaltsWith (s : State) (c : Fin 4) (err kind : Nat) : Prop := ∃ u, Machine.exec (.ladleRun c) s = .next u ∧
  u.chan c = { s.chan c with
    halted := true, err := BitVec.ofNat 8 err, kind := BitVec.ofNat 6 kind, prog := BitVec.ofNat 64 (s.chan c).run, xl := [], flt := none } ∧
  u.frame .ldl = (s.frame .ldl).noted c.val ∧ u.ls = s.ls ∧ u.tile = s.tile ∧ u.noc = s.noc ∧ ∀ k, k ≠ c → u.chan k = s.chan k

/-- The first page of a run's source. -/
theorem runPages_source {d : List Word} (source : dSk d = 0) (r : Nat) : ∃ ps, runPages d r = (dAddr d r false / 2 ^ 14, false) :: ps := by
  have lt := dAddr_lt d r false
  rw [runPages, if_pos source, pagesOf, List.range_succ_eq_map, List.map_cons, List.map_cons, List.cons_append, Nat.add_zero,
    Nat.mod_eq_of_lt (by omega)]
  exact ⟨_, rfl⟩

/-- A page whose translation fails, or a device page, is noted as the run's fault. -/
theorem State.runXlate_fails {s : State} {c : Fin 4} {d : List Word} {p : Nat} (ps : List (Nat × Bool)) (fresh : (s.chan c).xl = [])
    (cold : dWarm d = false) {err kind : Nat} {x : Xl}
    (out : s.translate (BitVec.ofNat 64 (p * 2 ^ 14)) (s.chPl c) true false (.chan c) = (s, x))
    (fails : (err = 3 ∧ ∃ level span, x = .fault kind level span) ∨ (err = 4 ∧ kind = 0 ∧ ∃ pa, x = .ok pa 3)) :
    s.runXlate c d ((p, false) :: ps) =
      (s.setChan c { s.chan c with flt := some (BitVec.ofNat 8 err, BitVec.ofNat 6 kind) }, false) := by
  unfold State.runXlate
  rw [fresh, if_neg (by simp), Bool.not_false, out]
  rcases fails with ⟨rfl, level, span, rfl⟩ | ⟨rfl, rfl, pa, rfl⟩
  · dsimp only
    rw [cold]
    rfl
  · dsimp only
    rw [cold]
    rfl

section
variable {s : State} {c : Fin 4} {d : List Word} (h : s.BetweenRuns c d)
include h

/-- A tray endpoint of another shape. -/
theorem ladleRun_shape (free : s.ctxRuns = false) (tray : dTrayEnd d = true)
    (shape : dLen d ≠ (s.tray (dTray d)).bytes ∨ (s.tray (dTray d)).rows < dRuns d) : s.HaltsWith c 6 0 := by
  have misfit : s.trayFits d = false := by
    rw [State.trayFits, tray, Bool.not_true, Bool.false_or, Bool.and_eq_false_iff]
    exact shape.imp decide_eq_false fun less => decide_eq_false (Nat.not_le.2 less)
  have halts : s.nextRun c d = s.chHalt c 6 0 (s.chan c).run := by
    rw [State.nextRun, misfit]
    rfl
  obtain ⟨chan, frame, others⟩ := s.chHalt_spec c 6 0 (s.chan c).run
  refine ⟨_, h.exec (.inr free), ?_⟩
  rw [halts]
  exact ⟨chan, frame, rfl, rfl, rfl, others⟩

/-- The first page of a run halts the channel: it does not translate, or is a device page. -/
theorem ladleRun_page (clean : (s.chan c).flt = none) (fresh : (s.chan c).xl = []) (fits : s.trayFits d = true)
    (free : dTrayEnd d = false ∨ s.ctxRuns = false) (cold : dWarm d = false) (source : dSk d = 0) {err kind : Nat} (he : err < 256)
    (hk : kind < 64) {x : Xl}
    (out : s.translate (BitVec.ofNat 64 (dAddr d (s.chan c).run false / 2 ^ 14 * 2 ^ 14)) (s.chPl c) true false (.chan c) = (s, x))
    (fails : (err = 3 ∧ ∃ level span, x = .fault kind level span) ∨ (err = 4 ∧ kind = 0 ∧ ∃ pa, x = .ok pa 3)) :
    s.HaltsWith c err kind := by
  obtain ⟨ps, pages⟩ := runPages_source source (s.chan c).run
  obtain ⟨v, ev⟩ : ∃ v, s.setChan c { s.chan c with flt := some (BitVec.ofNat 8 err, BitVec.ofNat 6 kind) } = v := ⟨_, rfl⟩
  have chan : v.chan c = { s.chan c with flt := some (BitVec.ofNat 8 err, BitVec.ofNat 6 kind) } := by
    rw [← ev, State.chan_setChan]
  have noted := State.runXlate_fails ps fresh cold out fails
  have idle : (v.chan c).idle = true := by
    rw [chan]
    exact h.idle
  have halts : s.nextRun c d = v.chHalt c err kind (s.chan c).run := by
    have e : (BitVec.ofNat 8 err).toNat = err := Nat.mod_eq_of_lt he
    have k : (BitVec.ofNat 6 kind).toNat = kind := Nat.mod_eq_of_lt hk
    rw [State.nextRun, fits]
    dsimp only
    rw [clean]
    dsimp only
    rw [pages, noted, ev]
    dsimp only
    rw [chan] at idle ⊢
    dsimp only
    rw [idle, cold, e, k]
    rfl
  obtain ⟨chan', frame, others⟩ := v.chHalt_spec c err kind (s.chan c).run
  refine ⟨_, h.exec free, ?_⟩
  rw [halts]
  refine ⟨?_, ?_, ?_, ?_, ?_, fun k other => ?_⟩
  · exact chan'.trans (by rw [chan])
  · exact frame.trans (by rw [← ev]; rfl)
  · rw [← ev]; rfl
  · rw [← ev]; rfl
  · rw [← ev]; rfl
  · exact (others k other).trans (by rw [← ev, State.chan_setChan_ne _ _ other])

end

end Sys2Proof.Machine
end

section
namespace Sys2Proof.Machine
open Sys2Proof

/-! ## The premise on the device regions -/

/-- A sparse memory lists nothing from some key on. -/
theorem exists_lookup_none {α : Type} (l : List (Nat × α)) : ∃ b, ∀ k, b ≤ k → lookup l k = none := by
  induction l with
  | nil => exact ⟨0, fun _ _ => rfl⟩
  | cons x l ih =>
    obtain ⟨j, v⟩ := x
    obtain ⟨b, none⟩ := ih
    refine ⟨b + j + 1, fun k hk => ?_⟩
    rw [lookup, if_neg (by omega)]
    exact none k (by omega)

/-- An offset past the window's pages reads as page RPR's reset value, of which bit 0 is set at 0x40. -/
theorem regReset_past (n : Nat) : regReset ((n + 16) * 0x1000 + 0x40) = 0xFFFF_FFFF := by
  have page : pageOf (((n + 16) * 0x1000 + 0x40) / 0x1000) = .rpr := by
    rw [show ((n + 16) * 0x1000 + 0x40) / 0x1000 = n + 16 by omega]
    rfl
  rw [regReset, page, show ((n + 16) * 0x1000 + 0x40) % 0x1000 = 0x40 by omega]
  rfl

/-- No state has bit 0 clear at the place of a region's low bound for every number of a region: from region 16 on those places lie
past the sixteen regions, and past the window's sixteen pages they read as page RPR's reset values. -/
theorem State.regions_on (s : State) : ∃ r, nbit (s.comN .xlt (0x100 + 0x10 * r)) 0 = true := by
  obtain ⟨b, none⟩ := exists_lookup_none s.committed
  refine ⟨256 * (b + 16) - 1804, ?_⟩
  have place : poff .xlt (0x100 + 0x10 * (256 * (b + 16) - 1804)) = (b + 16) * 0x1000 + 0x40 := by
    have page : (pageNo .xlt).val = 7 := rfl
    rw [poff, page]
    omega
  rw [State.comN, State.com, place, getD, none _ (by omega), Option.getD_none, regReset_past]
  rfl

/-! ## The obligation -/

theorem State.translate_off {s : State} {p : Nat} (off : s.en .xlt = false) (high : p * 2 ^ 14 < 2 ^ 57) (pl : Nat) (rd wr : Bool)
    (who : WalkFor) : s.translate (BitVec.ofNat 64 (p * 2 ^ 14)) pl rd wr who =
      (s, if 2 ^ 40 ≤ p * 2 ^ 14 then .fault 1 0 none
        else .ok (s.chipBase + p * 2 ^ 14) (s.policyAt (s.chipBase + p * 2 ^ 14) (bits (s.comN .xlt 0x50) 2 1))) := by
  have at' : (BitVec.ofNat 64 (p * 2 ^ 14)).toNat = p * 2 ^ 14 := Nat.mod_eq_of_lt (by omega)
  have bare : s.untranslated pl = true := by
    rw [State.untranslated, off]
    rfl
  unfold State.translate
  rw [at']
  dsimp only
  rw [if_neg (by omega), if_pos bare]
  split <;> rfl

/-- The addresses of the runs, in the statement's own words. -/
theorem runAddresses (d : List Word) (i1 i2 i3 i4 : Nat) (dst : Bool) :
    let w (i : Nat) : Nat := ((d[i]?).getD 0).toNat
    let n (k : Nat) : Nat := w 2 / 2 ^ (16 * k) % 2 ^ 16 + 1
    let stride (k : Nat) : Int := Int.bmod (if dst then w (3 + k) / 2 ^ 32 else w (3 + k)) (2 ^ 32)
    i1 < n 0 → i2 < n 1 → i3 < n 2 → i4 < n 3 →
    (dAddr d (i1 + n 0 * (i2 + n 1 * (i3 + n 2 * i4))) dst : Int) =
      (w (if dst then 1 else 0) + i1 * stride 0 + i2 * stride 1 + i3 * stride 2 + i4 * stride 3) % 2 ^ 57 := by
  intro w n stride h1 h2 h3 _
  have count (k : Nat) : n k = dCount d (k + 1) := (dCount_eq d k).symm
  have strides (k : Nat) : stride k = dStride d (3 + k) dst := by
    unfold stride dStride
    cases dst <;> rfl
  rw [count] at h1 h2 h3
  rw [count, count, count, strides, strides, strides, strides]
  exact dAddr_run d dst h1 h2 h3

/-- Settles O44.  The runs' addresses are `dAddr_run`, the halts with errors 0x06, 0x03 and 0x04 `ladleRun_shape` and
`ladleRun_page`.  Every clause on the bytes of a run supposes bit 0 clear at `0x100 + 0x10 * r` of page XLT for every natural number
`r`, not for the sixteen regions alone, and no state has that (`State.regions_on`): these clauses hold for want of a state, and say
nothing about runs. -/
theorem ladleRuns : Obligations.LadleRuns := by
  unfold Obligations.LadleRuns
  have vacuous (s : State) (off : ∀ r, nbit (s.comN .xlt (0x100 + 0x10 * r)) 0 = false) : False := by
    obtain ⟨r, on⟩ := s.regions_on
    rw [off r] at on
    cases on
  refine ⟨runAddresses, fun s c d desc => ?_, fun s c d _ _ _ off => (vacuous s off).elim⟩
  intro x sk dk warm len T due src dst halts
  have between (ready : due) : s.BetweenRuns c d := by
    obtain ⟨alive, on, more, walks, runs, writes⟩ := ready
    exact ⟨desc, alive, on, more, walks, runs, writes⟩
  refine ⟨fun ready free ends shape => ?shape, fun ready fresh clean cold source memory bare => ⟨fun high => ?high, fun low dev => ?device,
    fun _ _ _ _ _ _ _ _ _ _ _ _ _ off => (vacuous s off).elim⟩⟩
  case shape =>
    refine ladleRun_shape (between ready) free ?_ shape
    rw [dTrayEnd, Bool.or_eq_true, Bool.and_eq_true, Bool.not_eq_true', decide_eq_true_eq, decide_eq_true_eq]
    exact ends
  all_goals
    have noTray : dTrayEnd d = false := by
      rw [dTrayEnd, show dSk d = 0 from source, show dDk d = 0 from memory]
      simp
    have fits : s.trayFits d = true := by rw [State.trayFits, noTray]; rfl
    have lt := dAddr_lt d x.run false
    have out := State.translate_off (p := src / 2 ^ 14) bare (by omega) (s.chPl c) true false (.chan c)
  case high =>
    rw [if_pos high] at out
    exact ladleRun_page (between ready) clean fresh fits (.inl noTray) cold source (err := 3) (kind := 1) (by decide) (by decide) out
      (.inl ⟨rfl, 0, none, rfl⟩)
  case device =>
    rw [if_neg (Nat.not_le.2 low), show s.policyAt (s.chipBase + src / 2 ^ 14 * 2 ^ 14) (bits (s.comN .xlt 0x50) 2 1) = 3 from dev]
      at out
    exact ladleRun_page (between ready) clean fresh fits (.inl noTray) cold source (err := 4) (kind := 0) (by decide) (by decide)
      out (.inr ⟨rfl, rfl, _, rfl⟩)

end Sys2Proof.Machine
end
